-- ==== Sys2Proof/Word.lean ====
section
/-!
DEFINITION. The word types and the small enumerations in which the commands' operands are written.
Multi-byte fields are little-endian (R7).
-/
namespace Sys2Proof

/-- One byte of a packet, a register or a memory. -/
abbrev Byte := BitVec 8

/-- One 32-bit word: a PD data object, a fuse word, a counter. -/
abbrev Word := BitVec 32

/-- A port number, P0 to P31 (R19). -/
abbrev PortId := Fin 32

/-- A peripheral bus, PBUS0 to PBUS3 (R19). -/
abbrev BusId := Fin 4

/-- A general timer, TMR0 to TMR47 (R19). -/
abbrev TmrId := Fin 48

/-- A Ridgeline node number (R354). -/
abbrev Node := BitVec 8

/-- A 7-bit address on the host two-wire bus (R371). -/
abbrev HostAddr := BitVec 7

/-- The two power dies (Table 1.1): A carries P0 to P15, B carries P16 to P31. -/
inductive Die where
  | a | b
  deriving DecidableEq, Repr

/-- The class a comparator gives one CC pin (R101, R102). -/
inductive CcTerm where
  | opn | ra | rd | rpDef | rp15 | rp30
  deriving DecidableEq, Repr

/-- An Rp level as advertised or seen (Table 4.14): `none` is 0b11. -/
inductive RpLvl where
  | dflt | a15 | a30 | none
  deriving DecidableEq, Repr

/-- The SOP type of a PD message (R140). -/
inductive Sop where
  | sop | sop1 | sop2
  deriving DecidableEq, Repr

/-- What the protocol layer takes from a received header: SOP type, MessageID and Specification Revision
field (R141, R147). -/
structure RxHdr where
  sop : Sop
  id  : BitVec 3
  rev : BitVec 2
  deriving DecidableEq, Repr

/-- A received message with no row of its own (Table 5.2). -/
inductive StrayKind where
  /-- a message no row of Table 5.2 names: unrecognised (R151) -/
  | unrecognised
  | gotoMin | dataReset | dataResetComplete | getCountryCodes | getCountryInfo | enterUsb | getBatteryCap | getBatteryStatus
  | firmwareUpdateRequest | firmwareUpdateResponse | countryInfo | countryCodes | vendorDefinedExtended
  /-- an unstructured Vendor_Defined message -/
  | unstructuredVdm
  | ping
  /-- a structured VDM request on SOP that no other row names, by its header (Table 6.9) -/
  | otherVdm (w : Word)
  /-- Cable Reset, which is never received (R140) -/
  | notReceived
  /-- an extended message with Chunked = 0, or over 260 bytes (R143) -/
  | badExtended
  /-- EPR_KeepAlive_Ack (R168), and Security_Response, which answers a request the device never makes (R210) -/
  | eprKeepAliveAck | securityResponse
  deriving DecidableEq, Repr

/-- The extended answers a port stores (Table 5.2). -/
inductive ExtKind where
  | status | ppsStatus | sourceInfo | sourceCapExt | sinkCapExt | manufacturerInfo
  deriving DecidableEq, Repr

/-- The header fields of a command packet that the host chooses (Table 12.1), for a packet whose VERSION is 1,
FLAGS 0, LENGTH the payload's length and CRC right; any other packet comes as the bytes of a mailbox write. -/
structure CmdHdr where
  cls    : BitVec 2
  tag    : BitVec 6
  target : Byte
  seq    : Byte
  deriving DecidableEq, Repr

/-- The host-address registers a host may write (Table 11.2). -/
inductive HaddrReg where
  | cfg | base | mask
  deriving DecidableEq, Repr

/-- A host transaction, with the bytes or the byte count that were completed (R376, R382, R385, R387). -/
inductive HostXfer where
  | winWrite (a : HostAddr) (bytes : List Byte)
  | winRead (a : HostAddr) (n : Nat)
  | mbWrite (a : HostAddr) (bytes : List Byte)
  | mbRead (a : HostAddr) (n : Nat)
  | gaWrite (codes : List Byte)
  deriving DecidableEq, Repr

/-- The supplies of Table 3.1 that have an excursion. -/
inductive Supply where
  | vmain | vdrvA | vdrvB | vio | vconnin | vhb | vbat | vpp | vdcore | vdaon
  deriving DecidableEq, Repr

/-- The watched clocks (R69). -/
inductive ClockId where
  | lfoCrystal | hfo | refclk | pll
  deriving DecidableEq, Repr

/-- The wake sources of SLEEP (R74). -/
inductive WakeSrc where
  | cc (p : PortId) | hostMatch | alarm | resetN
  deriving DecidableEq, Repr

/-- The causes of an Ember abandonment, in the order of the EMBER record's codes (Table 17.9). -/
inductive EmberCause where
  | stepLimit | donorDetached | hfoLost | rejectOrHardReset
  deriving DecidableEq, Repr

/-- The result of one cell's audit test (Table 7.6). -/
inductive AuditRes where
  | pass | openFet | shorted
  deriving DecidableEq, Repr

/-- The filtered state of a window comparator (Table 14.11). -/
inductive GwcSt where
  | below | inside | above | off
  deriving DecidableEq, Repr

/-- Where an SRAM double-bit error was found (R515). -/
inductive EccSite where
  | interp | scrub | tally
  deriving DecidableEq, Repr

/-- One fuse word as a background pass reads it (R560): the word address, or 0x400 + k for spare Sk, and its NORMAL
and STRICT reads. -/
structure FuseDrift where
  word   : Nat
  normal : Word
  strict : Word
  deriving DecidableEq, Repr

/-- What the baseline found on one port (R241): the groups that failed phase B or C, and a group with a shorted FET. -/
structure BaseFault where
  port    : PortId
  groups  : List (Fin 128)
  shorted : Option (Fin 128)
  deriving DecidableEq, Repr

/-- How far the boot sequence of Table 3.6 has gone when a COLD_BOOT step ends: to step 7, to step 8, or to step 12. -/
inductive BootStage where
  | ports | interp | full
  deriving DecidableEq, Repr

/-- The three readings of the sampled straps (R48): bits 0 to 2 ADDR0 to ADDR2, bit 3 EMBEREN. -/
structure Straps where
  r1 : BitVec 4
  r2 : BitVec 4
  r3 : BitVec 4
  deriving DecidableEq, Repr

/-- What a boot takes from outside the device: the strap readings (R48), the baseline's findings (R241) and the stage
reached. -/
structure BootEnv where
  straps  : Straps
  faults  : List BaseFault
  stage   : BootStage
  deriving DecidableEq, Repr

/-- What one port's protections see in one sample (R224): the switch current in mA, positive from PRAILn to VBUSn, VBUSn in
mV on both monitors, and the port temperature in °C. -/
structure ProtSample where
  ma   : Int
  mv   : Nat
  temp : Int
  deriving DecidableEq, Repr

/-- What a port's path reads: the switch current in mA, positive from PRAILn to VBUSn, and VBUSn in mV on both monitors. -/
structure PathReading where
  ma : Int
  mv : Nat
  deriving DecidableEq, Repr

/-- A supply out of range: above or below it, the level in mV it reads, and the host transaction in progress, if any, with what was
completed in it (R393). -/
structure SupplyLevel where
  above : Bool
  mv    : Nat
  xfer  : Option HostXfer
  deriving DecidableEq, Repr

/-- How a SELFTEST ends: the tests that failed, and the ports on which a port's test did. -/
structure SelfTestEnd where
  fail  : Word
  ports : Word
  deriving DecidableEq, Repr

/-- An edge on a TIN pin and the timer whose counter clock follows it (R491). -/
structure TinEdge where
  tmr  : TmrId
  pin  : BitVec 3
  rise : Bool
  deriving DecidableEq, Repr

/-- External VPP out of range: above or below it, the bit being pulsed, and whether that bit verifies (R64). -/
structure VppCut where
  above : Bool
  bit   : Fin 32
  ok    : Bool
  deriving DecidableEq, Repr

/-- A port's ramp stage: at each 1 µs decision the far side's voltage in mV and the switch current in mA (R219). -/
structure RampRun where
  port  : PortId
  reads : List (Nat × Int)
  deriving DecidableEq, Repr

/-- A port's converter at target, with the switch current in mA (R266, R267). -/
structure AtTarget where
  port : PortId
  ma   : Int
  deriving DecidableEq, Repr

/-- Byte `i` of a value, least significant first (R7). -/
def byteOf (v i : Nat) : Byte := BitVec.ofNat 8 (v >>> (8 * i))

/-- The `n` little-endian bytes of a value (R7). -/
def leBytes (n v : Nat) : List Byte := (List.range n).map (byteOf v)

/-- The value of little-endian bytes (R7). -/
def leVal : List Byte → Nat
  | [] => 0
  | b :: bs => b.toNat + 256 * leVal bs

end Sys2Proof
end

