-- ==== Sys2Proof/Syntax.lean ====
section
/-!
DEFINITION. The commands and events of the HNC-3248, one constructor for each row of spec/opcode_table.json, in the table's
order. A host command carries the header fields the host chooses and its payload; an event carries what it brings from
outside the device.
-/
namespace Sys2Proof

inductive Instr where
  /-- HELLO (R418) -/
  | hello (h : CmdHdr) (pl : List Byte)
  /-- ABORT (R427) -/
  | abort (h : CmdHdr) (pl : List Byte)
  /-- ECHO (R437) -/
  | echo (h : CmdHdr) (pl : List Byte)
  /-- DEVICE_STATUS (R438) -/
  | deviceStatus (h : CmdHdr) (pl : List Byte)
  /-- PORT_CFG (R439) -/
  | portCfg (h : CmdHdr) (pl : List Byte)
  /-- PORT_ENABLE (R440) -/
  | portEnable (h : CmdHdr) (pl : List Byte)
  /-- PORT_DISABLE (R440) -/
  | portDisable (h : CmdHdr) (pl : List Byte)
  /-- PORT_STATUS (R441) -/
  | portStatus (h : CmdHdr) (pl : List Byte)
  /-- PORT_RESET (R442) -/
  | portReset (h : CmdHdr) (pl : List Byte)
  /-- PORT_RESET_COMPLETE (R442) -/
  | portResetComplete (p : PortId)
  /-- PDO_SET (R443) -/
  | pdoSet (h : CmdHdr) (pl : List Byte)
  /-- SINK_PREF_SET (R444) -/
  | sinkPrefSet (h : CmdHdr) (pl : List Byte)
  /-- VDM_SEND (R446) -/
  | vdmSend (h : CmdHdr) (pl : List Byte)
  /-- VDM_SEND_COMPLETE (R446) -/
  | vdmSendComplete (p : PortId)
  /-- SWAP_REQ (R447) -/
  | swapReq (h : CmdHdr) (pl : List Byte)
  /-- SWAP_REQ_COMPLETE (R197) -/
  | swapReqComplete (p : PortId)
  /-- LEDGER_CFG (R448) -/
  | ledgerCfg (h : CmdHdr) (pl : List Byte)
  /-- LEDGER_CLASS (R449) -/
  | ledgerClass (h : CmdHdr) (pl : List Byte)
  /-- LEDGER_QUERY (R450) -/
  | ledgerQuery (h : CmdHdr) (pl : List Byte)
  /-- LEDGER_RELEASE (R451) -/
  | ledgerRelease (h : CmdHdr) (pl : List Byte)
  /-- BRIDGE_SET (R452) -/
  | bridgeSet (h : CmdHdr) (pl : List Byte)
  /-- EMBER_CFG (R453) -/
  | emberCfg (h : CmdHdr) (pl : List Byte)
  /-- ISLAND_SET (R454) -/
  | islandSet (h : CmdHdr) (pl : List Byte)
  /-- RING_CFG (R455) -/
  | ringCfg (h : CmdHdr) (pl : List Byte)
  /-- RING_STATUS (R456) -/
  | ringStatus (h : CmdHdr) (pl : List Byte)
  /-- RING_BYPASS (R457) -/
  | ringBypass (h : CmdHdr) (pl : List Byte)
  /-- TMR_CFG (R458) -/
  | tmrCfg (h : CmdHdr) (pl : List Byte)
  /-- TMR_CMP (R459) -/
  | tmrCmp (h : CmdHdr) (pl : List Byte)
  /-- TMR_LINK (R460) -/
  | tmrLink (h : CmdHdr) (pl : List Byte)
  /-- CMP_CFG (R461) -/
  | cmpCfg (h : CmdHdr) (pl : List Byte)
  /-- PBUS_CFG (R462) -/
  | pbusCfg (h : CmdHdr) (pl : List Byte)
  /-- PBUS_XFER (R463) -/
  | pbusXfer (h : CmdHdr) (pl : List Byte)
  /-- PBUS_XFER_COMPLETE (R397) -/
  | pbusXferComplete (b : BusId) (r : Byte) (wack : Nat) (rd : List Byte)
  /-- PBUS_CLEAR (R464) -/
  | pbusClear (h : CmdHdr) (pl : List Byte)
  /-- BUS_CLEAR_COMPLETE (R400) -/
  | busClearComplete (b : BusId) (ok : Bool)
  /-- FUSE_READ (R465) -/
  | fuseRead (h : CmdHdr) (pl : List Byte)
  /-- FUSE_PROG (R466) -/
  | fuseProg (h : CmdHdr) (pl : List Byte)
  /-- FUSE_PROG_COMPLETE (R562) -/
  | fuseProgComplete (fail : Word)
  /-- FUSE_LOCK (R467) -/
  | fuseLock (h : CmdHdr) (pl : List Byte)
  /-- FUSE_LOCK_COMPLETE (R567) -/
  | fuseLockComplete (fail : Word)
  /-- FUSE_SPARE (R468) -/
  | fuseSpare (h : CmdHdr) (pl : List Byte)
  /-- FUSE_SPARE_COMPLETE (R565) -/
  | fuseSpareComplete (fail : Word)
  /-- SBOX_READ (R469) -/
  | sboxRead (h : CmdHdr) (pl : List Byte)
  /-- SBOX_MARK (R470) -/
  | sboxMark (h : CmdHdr) (pl : List Byte)
  /-- VAULT_CFG (R471) -/
  | vaultCfg (h : CmdHdr) (pl : List Byte)
  /-- ALARM_CFG (R472) -/
  | alarmCfg (h : CmdHdr) (pl : List Byte)
  /-- LANTERN_UNLOCK (R473) -/
  | lanternUnlock (h : CmdHdr) (pl : List Byte)
  /-- PERF_CFG (R474) -/
  | perfCfg (h : CmdHdr) (pl : List Byte)
  /-- PERF_FREEZE (R475) -/
  | perfFreeze (h : CmdHdr) (pl : List Byte)
  /-- TRACE_CFG (R476) -/
  | traceCfg (h : CmdHdr) (pl : List Byte)
  /-- TRACE_READ (R477) -/
  | traceRead (h : CmdHdr) (pl : List Byte)
  /-- FW_STAGE (R478) -/
  | fwStage (h : CmdHdr) (pl : List Byte)
  /-- FW_COMMIT (R479) -/
  | fwCommit (h : CmdHdr) (pl : List Byte)
  /-- FW_COMMIT_COMPLETE (R479) -/
  | fwCommitComplete
  /-- FW_STATUS (R480) -/
  | fwStatus (h : CmdHdr) (pl : List Byte)
  /-- SELFTEST (R481) -/
  | selftest (h : CmdHdr) (pl : List Byte)
  /-- SELFTEST_COMPLETE (R481) -/
  | selftestComplete (x : SelfTestEnd)
  /-- SAFECFG (R482) -/
  | safecfg (h : CmdHdr) (pl : List Byte)
  /-- REPLY_PART (R423) -/
  | replyPart (tag : BitVec 6)
  /-- MAILBOX_WRITE (R382) -/
  | mailboxWrite (a : HostAddr) (bytes : List Byte)
  /-- MAILBOX_READ (R386) -/
  | mailboxRead (a : HostAddr) (n : Nat)
  /-- REGISTER_WINDOW_WRITE (R376) -/
  | registerWindowWrite (a : HostAddr) (bytes : List Byte)
  /-- PAGE_WRITE (R378) -/
  | pageWrite (a : HostAddr) (page : Byte)
  /-- HADDR_WRITE (R372) -/
  | haddrWrite (a : HostAddr) (r : HaddrReg) (v : Byte)
  /-- GA_FREEZE (R387) -/
  | gaFreeze
  /-- GA_RELEASE (R387) -/
  | gaRelease
  /-- HDRERRCNT_READ (R411) -/
  | hdrerrcntRead (a : HostAddr)
  /-- RGCRC_READ (R370) -/
  | rgcrcRead (a : HostAddr)
  /-- ECCSBECNT_READ (R532) -/
  | eccsbecntRead (a : HostAddr)
  /-- ECCDBECNT_READ (R532) -/
  | eccdbecntRead (a : HostAddr)
  /-- TRLOST_READ (R594) -/
  | trlostRead (a : HostAddr)
  /-- BYTE_ABANDON (R391) -/
  | byteAbandon (x : HostXfer)
  /-- SCLH_LOW_TIMEOUT (R392) -/
  | sclhLowTimeout (x : HostXfer)
  /-- COLD_BOOT (R79) -/
  | coldBoot (e : BootEnv)
  /-- RESET_N_LOW (R51) -/
  | resetNLow
  /-- DOZE_ENTRY (R72) -/
  | dozeEntry
  /-- SLEEP_ENTRY (R73) -/
  | sleepEntry
  /-- SLEEP_WAKE (R74) -/
  | sleepWake (w : WakeSrc)
  /-- VIO_MODE_SELECT (R65) -/
  | vioModeSelect (mv : Nat)
  /-- VMAIN_EXCURSION (R64) -/
  | vmainExcursion (hi : Bool)
  /-- VDRV_EXCURSION (R64) -/
  | vdrvExcursion (d : Die) (hi : Bool)
  /-- VDRV_RETURN (R64) -/
  | vdrvReturn (d : Die)
  /-- VIO_EXCURSION (R393) -/
  | vioExcursion (v : SupplyLevel)
  /-- VCONNIN_EXCURSION (R64) -/
  | vconninExcursion (hi : Bool)
  /-- VHB_EXCURSION (R275) -/
  | vhbExcursion (hi : Bool) (mv : Nat)
  /-- VHB_RETURN (R275) -/
  | vhbReturn (mv : Nat)
  /-- RIDEFAIL (R275) -/
  | ridefail
  /-- REVERSE_RESTART (R276) -/
  | reverseRestart
  /-- VBAT_EXCURSION (R64) -/
  | vbatExcursion (hi : Bool)
  /-- VPP_EXCURSION (R64) -/
  | vppExcursion (v : VppCut)
  /-- VDINT_EXCURSION (R64) -/
  | vdintExcursion (core : Bool) (hi : Bool)
  /-- LFO_CRYSTAL_LOSS (R69) -/
  | lfoCrystalLoss
  /-- HFO_LOSS (R69) -/
  | hfoLoss
  /-- REFCLK_LOSS (R69) -/
  | refclkLoss
  /-- PLL_LOCK_LOSS (R69) -/
  | pllLockLoss
  /-- CLOCK_RETURN (R71) -/
  | clockReturn (c : ClockId)
  /-- EMBER_START (R86) -/
  | emberStart
  /-- EMBER_ISOLATION_DWELL (R92) -/
  | emberIsolationDwell
  /-- EMBER_ABANDON (R94) -/
  | emberAbandon (c : EmberCause)
  /-- EMBER_RETRY (R95) -/
  | emberRetry
  /-- EMBER_VMAIN_VALID (R96) -/
  | emberVmainValid
  /-- TERMINATION_SEEN (R111) -/
  | terminationSeen (p : PortId) (cc1 : CcTerm) (cc2 : CcTerm)
  /-- DRP_TOGGLE (R111) -/
  | drpToggle (p : PortId)
  /-- SOURCE_ATTACH_DEBOUNCE (R114) -/
  | sourceAttachDebounce (p : PortId)
  /-- SINK_ATTACH_DEBOUNCE (R120) -/
  | sinkAttachDebounce (p : PortId)
  /-- TRY_DEBOUNCE_COMPLETE (R113) -/
  | tryDebounceComplete (p : PortId)
  /-- DRP_TRY_EXPIRY (R113) -/
  | drpTryExpiry (p : PortId) (wait : Bool)
  /-- TRY_TIMEOUT (R113) -/
  | tryTimeout (p : PortId)
  /-- ERROR_RECOVERY_END (R109) -/
  | errorRecoveryEnd (p : PortId)
  /-- RP_VALUE_CHANGE (R121) -/
  | rpValueChange (p : PortId) (l : RpLvl)
  /-- DETACH (R130) -/
  | detach (p : PortId) (byVbus : Bool) (us : Nat)
  /-- VCONN_OVERCURRENT (R129) -/
  | vconnOvercurrent (p : PortId)
  /-- FAST_ROLE_SWAP_SIGNAL (R191) -/
  | fastRoleSwapSignal (p : PortId)
  /-- GOODCRC (R142) -/
  | goodcrc (p : PortId) (k : Sop) (id : BitVec 3)
  /-- RECEIVE_TIMEOUT (R142) -/
  | receiveTimeout (p : PortId)
  /-- SOURCE_CAPABILITIES (R158) -/
  | sourceCapabilities (p : PortId) (h : RxHdr) (epr : Bool) (v : List Word)
  /-- REQUEST (R163) -/
  | request (p : PortId) (h : RxHdr) (epr : Bool) (rdo : Word)
  /-- ACCEPT (R150) -/
  | accept (p : PortId) (h : RxHdr)
  /-- REJECT (R150) -/
  | reject (p : PortId) (h : RxHdr)
  /-- WAIT (R150) -/
  | wait (p : PortId) (h : RxHdr)
  /-- PS_RDY (R150) -/
  | psRdy (p : PortId) (h : RxHdr)
  /-- GET_SOURCE_CAP (R157) -/
  | getSourceCap (p : PortId) (h : RxHdr)
  /-- GET_SINK_CAP (R159) -/
  | getSinkCap (p : PortId) (h : RxHdr)
  /-- SINK_CAPABILITIES (R160) -/
  | sinkCapabilities (p : PortId) (h : RxHdr) (epr : Bool) (v : List Word)
  /-- SOFT_RESET (R173) -/
  | softReset (p : PortId) (h : RxHdr)
  /-- HARD_RESET (R175) -/
  | hardReset (p : PortId)
  /-- PS_HARD_RESET_EXPIRY (R175) -/
  | psHardResetExpiry (p : PortId)
  /-- SRC_RECOVER_EXPIRY (R175) -/
  | srcRecoverExpiry (p : PortId)
  /-- VSAFE5V_RETURN (R175) -/
  | vsafe5vReturn (p : PortId)
  /-- HARD_RESET_DETACH_TIMEOUT (R175) -/
  | hardResetDetachTimeout (p : PortId)
  /-- NOT_SUPPORTED (R150) -/
  | notSupported (p : PortId) (h : RxHdr)
  /-- UNSUPPORTED_MESSAGE (R151) -/
  | unsupportedMessage (p : PortId) (h : RxHdr) (k : StrayKind)
  /-- GET_REVISION (R149) -/
  | getRevision (p : PortId) (h : RxHdr)
  /-- REVISION (R149) -/
  | revision (p : PortId) (h : RxHdr) (rmdo : Word)
  /-- GET_STATUS (R152) -/
  | getStatus (p : PortId) (h : RxHdr)
  /-- GET_PPS_STATUS (R152) -/
  | getPpsStatus (p : PortId) (h : RxHdr)
  /-- GET_SOURCE_INFO (R152) -/
  | getSourceInfo (p : PortId) (h : RxHdr)
  /-- GET_SOURCE_CAP_EXTENDED (R152) -/
  | getSourceCapExtended (p : PortId) (h : RxHdr)
  /-- GET_SINK_CAP_EXTENDED (R152) -/
  | getSinkCapExtended (p : PortId) (h : RxHdr)
  /-- GET_MANUFACTURER_INFO (R152) -/
  | getManufacturerInfo (p : PortId) (h : RxHdr)
  /-- EXTENDED_ANSWER (R150) -/
  | extendedAnswer (p : PortId) (h : RxHdr) (k : ExtKind) (d : List Byte)
  /-- BATTERY_STATUS (R150) -/
  | batteryStatus (p : PortId) (h : RxHdr) (cap : Bool) (d : List Byte)
  /-- ALERT (R150) -/
  | alert (p : PortId) (h : RxHdr) (ado : Word)
  /-- BIST (R150) -/
  | bist (p : PortId) (h : RxHdr) (bdo : Word)
  /-- BIST_CONT_MODE_EXPIRY (R178) -/
  | bistContModeExpiry (p : PortId)
  /-- EPR_MODE (R166) -/
  | eprMode (p : PortId) (h : RxHdr) (act : Byte) (data : Byte)
  /-- EPR_GET_SOURCE_CAP (R150) -/
  | eprGetSourceCap (p : PortId) (h : RxHdr) (sink : Bool)
  /-- EPR_KEEPALIVE (R168) -/
  | eprKeepalive (p : PortId) (h : RxHdr)
  /-- SINK_EPR_KEEPALIVE (R168) -/
  | sinkEprKeepalive (p : PortId)
  /-- SOURCE_EPR_KEEPALIVE_TIMEOUT (R168) -/
  | sourceEprKeepaliveTimeout (p : PortId)
  /-- ENTER_EPR_TIMEOUT (R167) -/
  | enterEprTimeout (p : PortId)
  /-- SENDER_RESPONSE_TIMEOUT (R174) -/
  | senderResponseTimeout (p : PortId)
  /-- PS_TRANSITION_TIMEOUT (R174) -/
  | psTransitionTimeout (p : PortId)
  /-- SINK_WAIT_CAP_TIMEOUT (R174) -/
  | sinkWaitCapTimeout (p : PortId)
  /-- NO_RESPONSE_TIMEOUT (R176) -/
  | noResponseTimeout (p : PortId)
  /-- CAPS_COUNT_EXHAUSTED (R177) -/
  | capsCountExhausted (p : PortId)
  /-- TYPEC_SEND_SOURCE_CAP_EXPIRY (R178) -/
  | typecSendSourceCapExpiry (p : PortId)
  /-- SINK_REQUEST_EXPIRY (R178) -/
  | sinkRequestExpiry (p : PortId)
  /-- PPS_TIMEOUT (R172) -/
  | ppsTimeout (p : PortId)
  /-- PPS_REQUEST_EXPIRY (R172) -/
  | ppsRequestExpiry (p : PortId)
  /-- PPS_UNDERVOLTAGE_TIMEOUT (R170) -/
  | ppsUndervoltageTimeout (p : PortId)
  /-- SRC_TRANSITION_EXPIRY (R268) -/
  | srcTransitionExpiry (p : PortId)
  /-- SINK_TX_EXPIRY (R144) -/
  | sinkTxExpiry (p : PortId)
  /-- AMS_START (R154) -/
  | amsStart (p : PortId)
  /-- DISCOVER_IDENTITY_TIMER (R153) -/
  | discoverIdentityTimer (p : PortId)
  /-- CABLE_IDENTITY_ANSWER (R148) -/
  | cableIdentityAnswer (p : PortId) (h : RxHdr) (v : List Word)
  /-- PR_SWAP (R188) -/
  | prSwap (p : PortId) (h : RxHdr)
  /-- SWAP_PS_RDY_TIMEOUT (R187) -/
  | swapPsRdyTimeout (p : PortId)
  /-- DR_SWAP (R193) -/
  | drSwap (p : PortId) (h : RxHdr)
  /-- VCONN_SWAP (R194) -/
  | vconnSwap (p : PortId) (h : RxHdr)
  /-- VCONN_SOURCE_TIMEOUT (R194) -/
  | vconnSourceTimeout (p : PortId)
  /-- FR_SWAP (R192) -/
  | frSwap (p : PortId) (h : RxHdr)
  /-- DISCOVER_IDENTITY (R200) -/
  | discoverIdentity (p : PortId) (h : RxHdr) (v : List Word)
  /-- DISCOVER_SVIDS (R199) -/
  | discoverSvids (p : PortId) (h : RxHdr) (v : List Word)
  /-- DISCOVER_MODES (R203) -/
  | discoverModes (p : PortId) (h : RxHdr) (v : List Word)
  /-- ENTER_MODE (R201) -/
  | enterMode (p : PortId) (h : RxHdr) (v : List Word)
  /-- EXIT_MODE (R208) -/
  | exitMode (p : PortId) (h : RxHdr) (v : List Word)
  /-- STRUCTURED_VDM_ANSWER (R201) -/
  | structuredVdmAnswer (p : PortId) (h : RxHdr) (v : List Word)
  /-- VDM_SENDER_RESPONSE_TIMEOUT (R206) -/
  | vdmSenderResponseTimeout (p : PortId)
  /-- LM_VERSION (R202) -/
  | lmVersion (p : PortId) (h : RxHdr) (v : List Word)
  /-- LM_VERSION_TIMER (R202) -/
  | lmVersionTimer (p : PortId)
  /-- LM_OUTCOME (R204) -/
  | lmOutcome (p : PortId) (h : RxHdr) (v : List Word)
  /-- LM_OUTCOME_NOTICE (R206) -/
  | lmOutcomeNotice (p : PortId)
  /-- LM_QUERY (R204) -/
  | lmQuery (p : PortId) (h : RxHdr) (v : List Word)
  /-- LM_NEED (R207) -/
  | lmNeed (p : PortId) (h : RxHdr) (v : List Word)
  /-- LM_ENERGY (R204) -/
  | lmEnergy (p : PortId) (h : RxHdr) (v : List Word)
  /-- LM_IDENT (R204) -/
  | lmIdent (p : PortId) (h : RxHdr) (v : List Word)
  /-- SECURITY_REQUEST (R210) -/
  | securityRequest (p : PortId) (h : RxHdr) (d : List Byte)
  /-- SOFTSTART_COMPLETE (R219) -/
  | softstartComplete (r : RampRun)
  /-- SOFTSTART_FAIL (R221) -/
  | softstartFail (p : PortId) (ma : Int)
  /-- OVERCURRENT (R224) -/
  | overcurrent (p : PortId) (x : ProtSample)
  /-- SHORT_CIRCUIT (R224) -/
  | shortCircuit (p : PortId) (x : ProtSample)
  /-- OVERVOLTAGE (R224) -/
  | overvoltage (p : PortId) (x : ProtSample)
  /-- REVERSE_CURRENT (R224) -/
  | reverseCurrent (p : PortId) (x : ProtSample)
  /-- THERMAL_SHUTDOWN (R224) -/
  | thermalShutdown (p : PortId) (temp : Int) (x : PathReading)
  /-- PROTECTIVE_RECLOSE (R227) -/
  | protectiveReclose (p : PortId)
  /-- TRIPCNT_RESET (R228) -/
  | tripcntReset (p : PortId)
  /-- HOLDOFF_END (R228) -/
  | holdoffEnd (p : PortId)
  /-- THERMAL_LEVEL_CHANGE (R248) -/
  | thermalLevelChange (p : PortId) (t : Int)
  /-- MONITOR_DISAGREEMENT (R229) -/
  | monitorDisagreement (p : PortId)
  /-- DISCHARGE_COMPLETE (R231) -/
  | dischargeComplete (p : PortId) (mv : Nat)
  /-- DISCHARGE_TIMEOUT (R232) -/
  | dischargeTimeout (p : PortId)
  /-- HELD_ENABLE (R233) -/
  | heldEnable (p : PortId)
  /-- CELL_AUDIT (R242) -/
  | cellAudit (p : PortId) (r : AuditRes)
  /-- TRIP_WIRE_FAULT (R517) -/
  | tripWireFault (p : PortId)
  /-- HEARTBEAT_LOSS (R15) -/
  | heartbeatLoss (d : Die)
  /-- LINK_HEALTHY (R15) -/
  | linkHealthy (d : Die)
  /-- AT_TARGET (R267) -/
  | atTarget (a : AtTarget)
  /-- PKLIM (R263) -/
  | pklim (p : PortId)
  /-- SYNC_LOCK (R273) -/
  | syncLock (p : PortId)
  /-- SYNCLOST (R274) -/
  | synclost (p : PortId)
  /-- FORMING_DWELL (R279) -/
  | formingDwell (p : PortId)
  /-- FORMFAIL (R279) -/
  | formfail (p : PortId)
  /-- JOIN_RELEASE (R282) -/
  | joinRelease
  /-- DECISION_CYCLE (R302) -/
  | decisionCycle (laneMis : Bool)
  /-- FREEZE_RECOVERY_TEST (R518) -/
  | freezeRecoveryTest (pass : Bool) (agree : Bool)
  /-- RING_SLOT (R347) -/
  | ringSlot
  /-- MASTER_CYCLE_START (R347) -/
  | masterCycleStart
  /-- CYCLE (R347) -/
  | cycle (f : List Byte)
  /-- NODE (R362) -/
  | node (f : List Byte)
  /-- JOIN (R355) -/
  | join (f : List Byte)
  /-- LEAVE (R358) -/
  | leave (f : List Byte)
  /-- PANEL_INFO (R350) -/
  | panelInfo (f : List Byte)
  /-- OFFER_TAKEBACK (R324) -/
  | offerTakeback (n : Node)
  /-- LOAN_WITHDRAW (R327) -/
  | loanWithdraw (n : Node)
  /-- CYCLE_OVERRUN (R352) -/
  | cycleOverrun
  /-- ECHO_REQUEST (R340) -/
  | echoRequest (n : Node) (sq : Byte)
  /-- ECHO_REPLY (R360) -/
  | echoReply (n : Node) (rtt : Nat)
  /-- LINK_STATUS (R340) -/
  | linkStatus (n : Node) (sq : Byte)
  /-- SYNC_ACQUIRED (R338) -/
  | syncAcquired (east : Bool)
  /-- SYNC_LOSS (R338) -/
  | syncLoss (east : Bool)
  /-- RING_JOIN (R354) -/
  | ringJoin
  /-- NODELOST (R365) -/
  | nodelost (n : Node)
  /-- RINGDOWN (R366): whether no CYCLE has been received in the three cycles -/
  | ringdown (noCycle : Bool)
  /-- LOWER_MASTER_CYCLE (R367) -/
  | lowerMasterCycle (n : Node)
  /-- RELOAD_TICK (R487) -/
  | reloadTick (k : TmrId)
  /-- COMPARE_MATCH (R492) -/
  | compareMatch (k : TmrId) (isB : Bool)
  /-- CAPTURE (R491) -/
  | capture (e : TinEdge) (count : Word)
  /-- LINK_TRIGGER (R493) -/
  | linkTrigger (k : TmrId)
  /-- GWC_STATE_CHANGE (R505) -/
  | gwcStateChange (g : Fin 16) (w : List Nat)
  /-- PBUS_STUCK (R398) -/
  | pbusStuck (b : BusId)
  /-- FUSE_REREAD_PASS (R560) -/
  | fuseRereadPass (drift : List FuseDrift)
  /-- KILL_PROGRAMMING_COMPLETE (R542) -/
  | killProgrammingComplete
  /-- RECORD_WRITE (R571) -/
  | recordWrite (fails : Nat)
  /-- ALARM_DETECTION (R541) -/
  | alarmDetection (srcs : BitVec 7)
  /-- NONCE_EXPIRY (R473) -/
  | nonceExpiry
  /-- LOCKSTEP_MISMATCH (R516) -/
  | lockstepMismatch
  /-- WATCHDOG_EXPIRY (R516) -/
  | watchdogExpiry
  /-- INTERPRETER_RETURN (R526) -/
  | interpreterReturn
  /-- PAIR_MISMATCH (R514) -/
  | pairMismatch (p : PortId)
  /-- DOUBLE_BIT_ERROR (R515) -/
  | doubleBitError (w : EccSite) (addr : Word)
  /-- PERIODIC_SELF_TEST (R521) -/
  | periodicSelfTest (t : Fin 7) (p : PortId) (fail : Bool)
  /-- SELF_TEST_REPEAT (R522) -/
  | selfTestRepeat (t : Fin 7) (fail : Bool)
  /-- FREEZE_TRIGGER (R587) -/
  | freezeTrigger
  /-- SNAPSHOT_COMPLETE (R590) -/
  | snapshotComplete (err : Bool)
  /-- LANTERN_LOCKED_LINE (R601) -/
  | lanternLockedLine (line : List Byte)
  /-- LANTERN_VER (R602) -/
  | lanternVer
  /-- LANTERN_BAUD (R599) -/
  | lanternBaud (rate : Nat)
  /-- LANTERN_PORT (R602) -/
  | lanternPort (n : Nat)
  /-- LANTERN_LEDGER (R602) -/
  | lanternLedger
  /-- LANTERN_RING (R602) -/
  | lanternRing
  /-- LANTERN_PERF (R602) -/
  | lanternPerf (b : Nat)
  /-- LANTERN_SBOX (R602) -/
  | lanternSbox (sq : Nat) (count : Nat)
  /-- LANTERN_FUSE (R602) -/
  | lanternFuse (region : Nat)
  /-- LANTERN_TRACE (R602) -/
  | lanternTrace (first : Nat) (count : Nat)
  /-- LANTERN_WATCH (R602) -/
  | lanternWatch (on : Bool)
  /-- KEYGEN (R535) -/
  | keygen (fail : Bool)
  /-- CHAIN (R602) -/
  | chain (off : Nat) (bytes : List Byte)
  /-- CHAIN_END (R602) -/
  | chainEnd (len : Nat)
  /-- LANTERN_LOCK (R602) -/
  | lanternLock
  /-- SUPPLY_BACK_IN_RANGE (R64) -/
  | supplyBackInRange (su : Supply)
  /-- START_INPUTS_FALL (R95) -/
  | startInputsFall
  /-- VBUS_LEVEL_CHANGE (R506) -/
  | vbusLevelChange (p : PortId) (mv : Nat)
  /-- ILIMHIT (R264) -/
  | ilimhit (p : PortId) (on : Bool)
  /-- PRAIL_RECOVERY_COMPLETE (R272) -/
  | prailRecoveryComplete (p : PortId)
  /-- SWAP_SOURCE_START_EXPIRY (R189) -/
  | swapSourceStartExpiry (p : PortId)
  /-- PAIR_OUT_OF_RESET (R524) -/
  | pairOutOfReset (p : PortId)
  /-- SINGLE_BIT_ERROR (R515) -/
  | singleBitError (addr : Word)
  /-- PERF_COUNTER_WRAP (R581) -/
  | perfCounterWrap (b : Fin 38) (c : Fin 4)
  /-- MASTER_OF_RING_OF_ONE (R354) -/
  | masterOfRingOfOne
  /-- LANTERN_BAD_LINE (R600) -/
  | lanternBadLine (line : List Byte)
  /-- SECURITY_RESPONSE (R210) -/
  | securityResponse (p : PortId)
  /-- CHUNK_REQUEST (R143) -/
  | chunkRequest (p : PortId) (h : RxHdr) (req : Bool) (num : Nat) (d : List Byte)
  /-- CHUNK_TIMEOUT (R178) -/
  | chunkTimeout (p : PortId)
  /-- ATTENTION (R199) -/
  | attention (p : PortId) (h : RxHdr) (v : List Word)
  /-- DBOFF_CHANGE (R50) -/
  | dboffChange (high : Bool)
  deriving DecidableEq, Repr

end Sys2Proof
end

