-- ==== Sys2Proof/Decode.lean ====
section
/-!
DEFINITION. The command that a word spells by the opcode table's bits. No row of spec/opcode_table.json gives bits (every
row's list of fields is empty), so no word spells a command.
-/
namespace Sys2Proof

/-- The command a table word spells: none, for every word. -/
def decodeTableWord (_nbits _w : Nat) : Option Instr := none

end Sys2Proof
end

