-- ==== Sys2Proof/Config.lean ====
section
/-!
DEFINITION. What the manual leaves to the part or to the outside and gives no value for: free values. Each is opaque,
so that no proof can see a value of it. Constants the manual fixes stand where they are used.
-/
namespace Sys2Proof.Config

/-- The `n`-th free value drawn: a measurement, a random number or a result the manual does not state.
DESIGN CHOICE, safe: log entry 5. -/
opaque free (n : Nat) : Nat

/-- Whether a firmware image carries a valid signature (R80, R479).
DESIGN CHOICE, safe: log entry 85. -/
opaque fwSigOk (image : List Byte) : Bool

/-- The version a firmware image states (R478 to R480).
DESIGN CHOICE, safe: log entry 85. -/
opaque fwVersion (image : List Byte) : Word

/-- Whether a staged image is complete, which FW_STATUS tells and only the image can say (R480).
DESIGN CHOICE, safe: log entry 85. -/
opaque fwComplete (image : List Byte) : Bool

/-- The ROM firmware's version (R480).
DESIGN CHOICE, safe: log entry 85. -/
opaque romVersion : Word

/-- The part's own wrapping key, of 32 bytes, which no path outside the unwrapping engine reads (chapter 16).
DESIGN CHOICE, safe: log entry 85. -/
opaque dieKey : List Byte

/-- What the random generator gives from a state of 64 bytes, as many bytes as are asked for, and its state afterwards (Table 16.1).
DESIGN CHOICE, safe: log entry 135. -/
opaque rngOut (state : List Byte) : List Byte
/-- DESIGN CHOICE, safe: log entry 135. -/
opaque rngNext (state : List Byte) : List Byte

/-- The number by which a SAFETY record names a clock, and a power die (Table 17.9 gives the byte and not its values).
DESIGN CHOICE, safe: log entry 15. -/
opaque clockCode (c : ClockId) : Byte
/-- DESIGN CHOICE, safe: log entry 15. -/
opaque dieCode (d : Die) : Byte

end Sys2Proof.Config
end

