-- ==== Sys2Proof/Machine/State.lean ====
section
/-!
DEFINITION. What the HNC-3248 holds, as plain data, and its value after reset. Sub-structures follow the manual's
blocks (Table 1.3). Registers that only show other state are not stored twice: Machine/Window.lean computes them.
DESIGN CHOICE, safe: log entry 5. DESIGN CHOICE, unsafe: log entry 6. DEDUCED, unsafe: log entry 14.
DEDUCED, unsafe: log entry 33. DESIGN CHOICE, safe: log entry 72.
-/
namespace Sys2Proof.Machine

/-- Why a step stops with a fault: nothing does. Every command and event of the block has an effect, or none, by the
manual, so no meaning raises a fault (safe: there is no fault a run could hide behind).
DEDUCED, unsafe: log entry 3. -/
inductive Fault where
  deriving DecidableEq, Repr

/-- Why a step is refused. -/
inductive Refusal where
  /-- Raised by Machine/Dispatch.lean for a row that has no meaning yet (safe: the machine stops). -/
  | notModelled (mnemonic : String)
  deriving DecidableEq, Repr

/-- One addressed store of bytes, in canonical form: addresses rising, no entry equal to `0x00`, which an unlisted
address reads as. -/
abbrev Mem := List Host.Cell

/-! ## The port: Type-C -/

/-- The Type-C states of Table 4.6, in the order of their codes. -/
inductive TcState where
  | disabled | errorRecovery | unattachedSnk | attachWaitSnk | attachedSnk
  | unattachedSrc | attachWaitSrc | attachedSrc | trySrc | tryWaitSnk
  | trySnk | tryWaitSrc | audioAccessory | debugAccSrc | debugAccSnk | unsupportedAcc
  deriving DecidableEq, Repr

/-- The configuration of PORT_CFG in the 10-byte layout of Table 13.4, byte 0 lowest. -/
abbrev PortCfg := BitVec 80

/-- One policy-table or preference-table entry (Table 5.5, R158). Voltages and currents are in 10 mV and 10 mA;
`limit` is in coins for the AVS entry of a source table. -/
structure Entry where
  kind  : Byte
  vlo   : Nat
  vhi   : Nat
  limit : Nat
  deriving DecidableEq, Repr

/-- What one port holds of Type-C (Tables 4.14, 4.15). -/
structure TcPort where
  state    : TcState
  cc1      : CcTerm
  cc2      : CcTerm
  /-- ORIENT: false CC1, true CC2 (R126) -/
  orient   : Bool
  /-- the attach has an orientation pin: false in an unoriented debug accessory (R114, R121) -/
  oriented : Bool
  rpAdv    : RpLvl
  rpSeen   : RpLvl
  vconnOn  : Bool
  /-- Ra recognised at the attach (R127) -/
  raSeen   : Bool
  /-- VCONN overcurrent since the attach (R129) -/
  vconnTrip : Bool
  dbAttach : Bool
  /-- VBUSn in mV, as both monitors see it -/
  vbusMv   : Nat
  /-- PRAILn in mV -/
  prailMv  : Nat
  /-- PORTEVT (Table 4.15) -/
  evt      : BitVec 8
  /-- the port's READY bit (R6, R79) -/
  ready    : Bool
  /-- PORTHELD (Table 19.8): held under R82 or withdrawn under R246 -/
  held     : Bool
  /-- a port-engine pair reset is in progress (R524) -/
  inReset  : Bool
  /-- a detach has qualified and VBUS is not yet at vSafe0V (R132) -/
  leaving  : Bool
  /-- an enable is held (R233) -/
  enHeld   : Bool
  /-- the attach was made before the Ledger's READY (R83, R84) -/
  safeDef  : Bool
  /-- the data role is DFP (R183) -/
  dfp      : Bool
  /-- the Type-C attach was made as source (R175) -/
  attachSrc : Bool
  /-- tDRPTry has elapsed in Try.SNK (Table 4.7) -/
  tryDone  : Bool
  /-- the port is the attach's VCONN source: as source from the attach, changed by VCONN_Swap (R127, R194) -/
  vconnMine : Bool
  /-- VCONN was taken by VCONN_Swap, and has not been removed since (R127) -/
  vconnSwap : Bool
  /-- an ErrorRecovery that a fault began in Disabled, which the port returns to (R110) -/
  erBack   : Bool
  /-- in AttachWait.SNK the terminations have held for tCCDebounce (R120) -/
  ccHeld : Bool
  deriving DecidableEq, Repr

/-! ## The port: Power Delivery -/

/-- The PD messages of Table 5.2, as the device sends them. -/
inductive Mt where
  | accept | reject | wait | psRdy | getSourceCap | getSinkCap | drSwap | prSwap | vconnSwap | frSwap
  | softReset | notSupported | getSourceCapExt | getStatus | getRevision | sourceCaps | request | sinkCaps
  | alert | eprRequest | eprMode | sourceInfo | revision | vdm | sourceCapsExt | status | ppsStatus
  | sinkCapsExt | manufacturerInfo | getBatteryCap | getBatteryStatus | securityResponse
  | eprKeepAlive | eprKeepAliveAck | eprSourceCaps | eprSinkCaps | chunkRequest | hardReset
  | carrierMode | testData
  deriving DecidableEq, Repr

/-- One message the port engine sends: SOP type, kind, data objects, extended data, Specification Revision. -/
structure Msg where
  sop  : Sop
  ty   : Mt
  objs : List Word
  ext  : List Byte
  rev  : BitVec 2
  id   : BitVec 3
  deriving DecidableEq, Repr

/-- The AMSs a port starts (Table 5.4), and `none`. -/
inductive Ams where
  | none | negotiation
  /-- a power negotiation whose only cause is a change of the grant (R145) -/
  | regrant
  | discoverCable | getSinkCap | getRevision | request | getSourceCap | getSourceCapExt
  | getBatteryCap | getBatteryStatus | getStatus | alertOcp | alertOtp | alertInput | eprEntry | eprKeepAlive
  | softReset | swap | vdm | notice | lmVersion | exitMode
  /-- the partner's AMS is being served -/
  | partner
  deriving DecidableEq, Repr

/-- PDSTATUS.CONTRACT (Table 5.11). -/
inductive Contract where
  | none | stopped | explicit | transition
  deriving DecidableEq, Repr

/-- A contract's terms: CTYPE code (Table 5.11), object position, voltage in 10 mV, current in 10 mA,
Capability Mismatch. -/
structure Terms where
  ctype : BitVec 2
  pos   : Nat
  v     : Nat
  i     : Nat
  mis   : Bool
  deriving DecidableEq, Repr

/-- One object as offered: its position, KIND and bounded values (R161). -/
structure Offer where
  pos : Nat
  e   : Entry
  /-- the bounded current in 10 mA, or the bounded PDP in coins for AVS -/
  lim : Nat
  deriving DecidableEq, Repr

/-- Where a port stands in the Hard Reset sequence (R175). -/
inductive HrPhase where
  | none
  /-- source, waiting tPSHardReset -/
  | srcWait
  /-- source, VBUS removed, waiting tSrcRecover -/
  | srcOff
  /-- source, vSafe5V being restored -/
  | srcRestore
  /-- sink, waiting for vSafe5V; whether VBUS has been below 4.00 V since -/
  | sink (fallen : Bool)
  deriving DecidableEq, Repr

/-- What one port holds of PD (Tables 5.11 to 5.13). -/
structure PdPort where
  contract : Contract
  /-- PDSTATUS.REV -/
  rev      : BitVec 2
  /-- Specification Revision the device sends: 0b10, or 0b01 toward a 2.0 partner (R147) -/
  txRev    : BitVec 2
  /-- the partner has sent a PD message since attach (R176) -/
  heard    : Bool
  /-- the partner's first message of the session has been taken (R147) -/
  revSet   : Bool
  epr      : Bool
  terms    : Terms
  /-- the terms accepted and not yet in force -/
  nxt      : Option Terms
  /-- as source, the object as it was offered that the contract rests on, and that of the terms accepted (R164, R170) -/
  obj      : Option Offer
  nxtObj   : Option Offer
  cableOk  : Bool
  cable5A  : Bool
  cableEpr : Bool
  cableV   : BitVec 2
  cableRev : BitVec 2
  /-- Discover Identity attempts on SOP' (R153) -/
  discTries : Nat
  hrCount  : Nat
  capsCount : Nat
  /-- PDEVT (Table 5.12) -/
  evt      : BitVec 8
  battStat : Word
  battCap  : List Byte
  txId     : BitVec 3
  txId1    : BitVec 3
  txId2    : BitVec 3
  rxId     : Option (BitVec 3)
  rxId1    : Option (BitVec 3)
  rxId2    : Option (BitVec 3)
  /-- the message awaiting its GoodCRC, and the retransmissions left (R142) -/
  tx       : Option Msg
  tries    : Nat
  /-- messages that follow it -/
  txQ      : List Msg
  ams      : Ams
  /-- triggers waiting (R154) -/
  trig     : List Ams
  /-- SinkTxNG is held (R144) -/
  ng       : Bool
  /-- the AMS's first message waits for tSinkTx (R144) -/
  sinkTxWait : Bool
  offered  : List Offer
  /-- the greatest power in the capabilities last sent in the present attach, in coins (Source_Info) -/
  reported : Nat
  srcCaps  : List Word
  sinkCaps : List Word
  /-- operational PDP of the partner's EPR_Mode (Enter), in coins -/
  eprPdp   : Nat
  rdo      : Word
  /-- a Request whose answer awaits the Ledger (R163): the RDO and whether it is an EPR_Request -/
  asked    : Option (Word × Bool)
  hr       : HrPhase
  /-- OCP, OVP, OTP since the last Status sent (Table 5.3) -/
  stFlags  : BitVec 3
  /-- an overcurrent or short-circuit opening awaits its Alert (Table 5.4) -/
  alertDue : Bool
  bist     : BitVec 2
  statusRx : List Byte
  srcInfo  : List Byte
  srcExt   : List Byte
  revision : Word
  askedRev : Bool
  askedSinkCap : Bool
  askedExt : Bool
  batteries : Nat
  eprTried : Bool
  /-- the chunked message being exchanged: the bytes gathered, the next chunk number, sending -/
  chunk    : Option (List Byte × Nat × Bool)
  /-- an authentication request is being answered, with the request's bytes (R210) -/
  auth     : Option (List Byte)
  /-- in a transition the slew has begun: a source's reference ramps, a sink's VBUS has passed the old contract voltage by 0.25 V
  (R131, R288) -/
  sinkSlew : Bool
  /-- the contract voltage before the transition, in 10 mV (R131, R288) -/
  oldV     : Nat
  /-- capabilities were sent and acknowledged, and no Request has arrived (R174) -/
  capsSent : Bool
  /-- the Accept being sent answers a Soft_Reset (R173) -/
  srAccept : Bool
  /-- the GoodCRC last sent: its SOP type and MessageID (R141, R142) -/
  ack      : Option (Sop × BitVec 3)
  /-- a Wait has answered the last Request (Table 5.10) -/
  waitRx   : Bool
  /-- the message that `chunk` sends (R143) -/
  chunkTy  : Mt
  /-- as sink, capabilities are awaited after a Soft_Reset (R174) -/
  waitCaps : Bool
  /-- the port became sink by signalling a Fast Role Swap (R279) -/
  frSink   : Bool
  /-- a swap has made the port source, and its first capabilities wait for tSwapSourceStart (Tables 6.3, 6.4) -/
  startDue : Bool
  deriving DecidableEq, Repr

/-! ## The port: swaps and VDMs -/

/-- The four swaps (Table 13.9). -/
inductive SwapKind where
  | pr | dr | vconn | fr
  deriving DecidableEq, Repr

/-- Where a swap in progress stands. -/
inductive SwapStage where
  | none
  /-- own swap, waiting for the probe's answer -/
  | probe
  /-- own swap pending, its message not yet sent (R196) -/
  | pending
  /-- own swap sent, no answer yet -/
  | sent
  /-- received swap, waiting for the probe's answer -/
  | rxProbe
  /-- accepted: the old source waits tSrcTransition or discharges (steps 4, 5 of Table 6.2) -/
  | standby
  /-- waiting for the partner's PS_RDY -/
  | psRdy
  /-- closing the switch (step 8 of Table 6.2, step 7 of Table 6.3) -/
  | closing
  deriving DecidableEq, Repr

/-- What one port holds of swaps. -/
structure SwapPort where
  kind    : SwapKind
  stage   : SwapStage
  /-- toward source (PR, FR), toward DFP (DR), toward VCONN source (VCONN) -/
  toSrc   : Bool
  /-- the swap is the host's SWAP_REQ -/
  own     : Bool
  won     : Bool
  /-- the finished SWAP_REQ's status code and RESULT, until its completion is produced -/
  result  : Option (Byte × Byte)
  frArmed : Bool
  /-- the standby grant has been asked for (R190) -/
  frAsked : Bool
  deriving DecidableEq, Repr

/-- The steps of a VDM_SEND in progress (Table 13.7, R201). -/
structure VdmRun where
  op   : Byte
  sop  : Sop
  vdos : List Word
  /-- the step of R201, 1 to 5, or 0 for RAW and LMEXIT -/
  step : Nat
  sent : Bool
  pos  : Nat
  deriving DecidableEq, Repr

/-- What one port holds of Ledger mode and its VDMs (Table 6.15). -/
structure LmPort where
  mode    : Bool
  /-- LM_VERSION has succeeded -/
  verOk   : Bool
  /-- LM_VERSION failed: every command is answered NAK until Exit Mode (R202) -/
  failed  : Bool
  major   : BitVec 4
  minor   : BitVec 4
  seq     : Byte
  /-- SEQ of the last LM_OUTCOME sent -/
  lastSeq : Byte
  noAck   : Bool
  noAckRun : Nat
  muted   : Bool
  grantor : Bool
  need    : Word
  /-- the Need stands for the sink's stated need: until detach (R207) -/
  needHeld : Bool
  peer    : Word
  /-- the Outcome VDO and WAITPOS of the last notice -/
  last    : Option (Word × Byte)
  /-- a notice awaits its answer -/
  waiting : Bool
  run     : Option VdmRun
  /-- the finished VDM_SEND's reply, until its completion is produced -/
  result  : Option (List Byte)
  /-- partner's structured VDM version, once seen -/
  vdmVer  : Option (BitVec 2)
  /-- the ends of the port's VDM_SENDs (Table 13.8): each takes in those accepted before a place in the order of acceptance, with a RESULT -/
  cuts    : List (Nat × Byte)
  deriving DecidableEq, Repr

/-! ## The port: power path, converter, Ledger account -/

/-- The switch states of Table 7.2, in the order of their codes. -/
inductive SwState where
  | opn | softstart | closed | discharge | holdoff | withdrawn
  deriving DecidableEq, Repr

/-- What one port holds of its power path (Tables 7.11 to 7.13). -/
structure SwPort where
  st       : SwState
  /-- DIR: sink direction -/
  sinkDir  : Bool
  tripCnt  : Nat
  /-- SWEVT (Table 7.12) -/
  evt      : BitVec 16
  /-- cells out of service (R242) -/
  outCells : List Nat
  /-- groups of 256 cells out of service (R241) -/
  outGroups : List Nat
  shorted  : Bool
  auditPos : Nat
  /-- PORTTEMP in °C -/
  temp     : Int
  therm    : BitVec 2
  /-- a third protective opening: HOLDOFF follows ErrorRecovery (R228) -/
  holdNext : Bool
  /-- waiting to reclose after a protective opening with no contract (R227) -/
  reclose  : Bool
  /-- the switch must not close before a reclose or Hard Reset has run -/
  monDis   : Bool
  tripWire : Bool
  /-- the discharge sink is on -/
  sinkOn   : Bool
  /-- thermal shutdown has occurred and the port has not cooled below 100 °C since (R248) -/
  hot      : Bool
  /-- enable steps of the soft-start taken, 0 to 136 (R219) -/
  steps    : Nat
  /-- the soft-start profile in use (R220) -/
  ssProf   : Nat
  /-- the soft-start's reference ramp, in mV (R219) -/
  ramp     : Nat
  /-- the voltage in 10 mV that the overvoltage threshold of a transition is computed from, 0 once it has moved (R225) -/
  ovBase   : Nat
  /-- reverse-current detection is blanked (R226) -/
  blank    : Bool
  /-- the thermal level SWCEIL is computed with: THERM, but that of its beginning during a soft-start (R249) -/
  thermCeil : BitVec 2
  /-- the switch opened under R17, and its discharge waits for VDRV (R232) -/
  owed     : Bool
  deriving DecidableEq, Repr

/-- What one port holds of its converter (Tables 8.11 to 8.13). -/
structure CvPort where
  /-- CDIR: 0 idle, 1 forward, 2 feeding, 3 forming -/
  dir      : BitVec 2
  region   : BitVec 2
  atTarget : Bool
  synced   : Bool
  slewing  : Bool
  ilimAct  : Bool
  prebias  : Bool
  recover  : Bool
  ember    : Bool
  /-- VREF code (Table 8.5) -/
  vref     : Nat
  refBus   : Bool
  /-- ILIM code (Table 8.5) -/
  ilim     : Nat
  /-- CONVEVT (Table 8.13) -/
  evt      : BitVec 16
  /-- the direction in which a converter stopped by VHB restarts (R275) -/
  stopped  : BitVec 2
  /-- input limited to 2.5 W (R269) -/
  standby  : Bool
  /-- the forward loop only delivers, after a Fast Role Swap signal (R271) -/
  diode    : Bool
  /-- the references are written and the slew waits for tSrcTransition (R268) -/
  slewDue  : Bool
  /-- the drop correction in mV by which the rail stands above VBUS through a closed switch (R266) -/
  drop     : Int
  energyOut : BitVec 48
  energyIn : BitVec 48
  deriving DecidableEq, Repr

/-- The kinds of demand, which fix minuse (Table 9.5). -/
inductive DemKind where
  | attach | upgrade | restore | need
  deriving DecidableEq, Repr

/-- The Ledger's accounts (Table 9.1). -/
inductive Acct where
  | panel | island | bridge (src : PortId) | intake | uncharged
  deriving DecidableEq, Repr

/-- A reservation held for a swap (R317). -/
structure Resv where
  /-- coins reserved -/
  coins : Nat
  /-- the grant the commit gives -/
  give : Nat
  toSink : Bool
  /-- the whole standby amount for a Fast Role Swap probe, else 0 -/
  standby : Nat
  /-- the demand, outcome and reason the commit leaves standing -/
  want : Nat
  outcome : BitVec 3
  reason : Byte
  deriving DecidableEq, Repr

/-- What the Ledger holds of one port (Table 9.11). -/
structure LgPort where
  /-- 0 no demand, 1 GRANTED, 2 TRIMMED, 3 QUEUED, 4 REFUSED -/
  outcome : BitVec 3
  sink    : Bool
  outchg  : Bool
  cls     : BitVec 2
  reason  : Byte
  grant   : Nat
  demand  : Nat
  /-- a demand stands -/
  standing : Bool
  kind    : DemKind
  /-- the demand is a bridge source end's or an ordinary one; UPGRADE flag -/
  upgrade : Bool
  maxGrant : Nat
  /-- the cycle in which the waiting-list entry was made (R308) -/
  waiting : Option Nat
  /-- the cycle of the last increase (R303) -/
  raised  : Nat
  resv    : Option Resv
  /-- the ceiling the port had at the last cycle (R306) -/
  lastCeil : Nat × Nat × Bool
  /-- LEDGER_CLASS awaiting the next cycle -/
  pendCls : Option (BitVec 2 × Nat)
  /-- the probe's answer: outcome code, reason, coins (R185) -/
  probe   : Option (BitVec 3 × Byte × Nat)
  deriving DecidableEq, Repr

/-- PORT_RESET in progress on a port (R442): its tag, KIND, and RESULT once finished. -/
structure PrRun where
  tag : BitVec 6
  kind : Byte
  result : Option Byte
  deriving DecidableEq, Repr

/-- One port. -/
structure Port where
  tc    : TcPort
  pd    : PdPort
  swap  : SwapPort
  lm    : LmPort
  sw    : SwPort
  cv    : CvPort
  lg    : LgPort
  /-- configuration in force and pending (Table 1.7) -/
  cfg   : PortCfg
  cfgPend : Option PortCfg
  src   : List Entry
  srcPend : Option (List Entry)
  snk   : List Entry
  snkPend : Option (List Entry)
  prun  : List PrRun
  deriving DecidableEq, Repr

/-! ## Supplies, clocks, system -/

/-- A supply within range, or beyond one of its thresholds (R64). -/
inductive SupSt where
  | ok | below | above
  deriving DecidableEq, Repr

/-- The monitored supplies (Table 3.1). -/
structure Supplies where
  vmain : SupSt
  vdrvA : SupSt
  vdrvB : SupSt
  vio : SupSt
  vconnin : SupSt
  vhb : SupSt
  vbat : SupSt
  vpp : SupSt
  vdcore : SupSt
  vdaon : SupSt
  /-- VHB in mV -/
  vhbMv : Nat
  /-- VDRV of die A, B has been out, and the 1 ms of Table 3.1 after its return is not over -/
  waitA : Bool
  waitB : Bool
  deriving DecidableEq, Repr

/-- The clocks lost (R69). -/
structure Clocks where
  lfoXtal : Bool
  hfo : Bool
  refclk : Bool
  pll : Bool
  deriving DecidableEq, Repr

/-- The power states (R72). -/
inductive Pwr where
  | off | ember | sleep | doze | run
  deriving DecidableEq, Repr

/-- System state: power, boot, straps, readiness, STS. -/
structure Sys where
  pwr : Pwr
  /-- the last step of Table 3.6 that has ended; 0 before boot -/
  boot : Nat
  /-- cause of the last boot (Table 17.9, BOOT byte 8) -/
  cause : Byte
  sleepEn : Bool
  dozeEn : Bool
  emberBoot : Bool
  vioSel : Bool
  addr : BitVec 3
  emberen : Bool
  /-- what the strap pins give at their next three readings (R48) -/
  straps : Straps
  /-- the straps are due to be sampled: AON has powered up, or RESET_N has been low, since they last were (R48) -/
  strapDue : Bool
  dboff : Bool
  resetLow : Bool
  hbisoLow : Bool
  mainenLow : Bool
  drvenLow : Bool
  /-- interpreter READY -/
  interp : Bool
  /-- the interpreter's READY has set since power-up or RESET_N (R81) -/
  interpSeen : Bool
  perfReady : Bool
  vaultReady : Bool
  sboxReady : Bool
  /-- SYSEVT (Table 19.5) -/
  evt : BitVec 8
  irestart : BitVec 16
  sts : BitVec 64
  stsStat : BitVec 8
  /-- microseconds that have passed with AON powered: the model's own clock, from which the LFO and the converters take their phase -/
  tick : Nat
  /-- the part of a microsecond that STS has gathered from LFO periods, in 1/512 (Table 14.8) -/
  stsAcc : Nat
  /-- the agreed minor version (R417) -/
  minor : Nat
  /-- the latched power-die link state: true while the die's link is lost (R15) -/
  linkA : Bool
  linkB : Bool
  /-- the VIO mode is selected and held (R65) -/
  vioHeld : Bool
  deriving DecidableEq, Repr

/-- The Ember start (R86 to R98). -/
structure Ember where
  /-- the step of Table 3.9 reached; 0 when none runs -/
  step : Nat
  donor : Option PortId
  excluded : List PortId
  abandoned : Nat
  /-- stopped until the start inputs fall (R95, R98) -/
  stopped : Bool
  /-- the start regulator runs, and with it the Ember gate-drive supply (R18, R91, step 15 of Table 3.9) -/
  reg : Bool
  forbid : Bool
  pwrMax : BitVec 2
  mask : Word
  /-- abandonment latched in AON: cause, donor, step, count -/
  latched : Option (Byte × Byte × Byte × Byte)
  deriving DecidableEq, Repr

/-! ## Host interface -/

/-- One command packet (Table 12.1) past check 1. -/
structure Packet where
  version : BitVec 4
  flags : BitVec 4
  opcode : Byte
  cls : BitVec 2
  tag : BitVec 6
  target : Byte
  len : Nat
  seq : Byte
  payload : List Byte
  /-- to be recorded in the trace, and its place among the packets that have passed check 1 (R595) -/
  traced : Bool
  idx : Nat
  /-- the minor version in force at its acceptance (Table 12.7), and its place in the order of acceptance (R421) -/
  minor : Nat
  ord : Nat
  /-- its port's engine has been reset while it waited in a lane (Table 12.7) -/
  dead : Bool
  /-- the STS when it was handed over (Table 13.19) -/
  sts : BitVec 64
  /-- the interpreter was reset while it waited in the mailbox (R525) -/
  stale : Bool
  deriving DecidableEq, Repr

/-- One reply waiting (R408). `owns` marks a final reply that frees the tag when it leaves (R420). -/
structure Reply where
  compl : Bool
  more : Bool
  opcode : Byte
  cls : BitVec 2
  tag : BitVec 6
  status : Byte
  seq : Byte
  payload : List Byte
  owns : Bool
  deriving DecidableEq, Repr

/-- The host target: pointer, page, address registers and the bytes last sent to the host. -/
structure HostBus where
  ptr : Byte
  page : Byte
  wrap : BitVec 2
  haddrCfg : Byte
  haddrBase : Byte
  haddrMask : Byte
  lastAddr : Byte
  sumView : Bool
  hdrErr : BitVec 8
  /-- whether the last transaction's address was acknowledged, and the bytes it read -/
  acked : Bool
  out : List Byte
  /-- how many data bytes of it were acknowledged, where it was a write -/
  acks : Nat
  deriving DecidableEq, Repr

/-- The mailbox, the lanes and the reply queue (R424). -/
structure Mailbox where
  inbox : List Packet
  /-- commands accepted and not yet started -/
  lanes : List Packet
  replies : List Reply
  tags : List (BitVec 6)
  /-- long operations answered ACCEPTED and not yet completed -/
  flights : List Packet
  /-- multi-part replies with parts still to be produced, and their final status -/
  parts : List (Packet × Byte × List (List Byte))
  /-- replies that wait for room in the reply queue (R425) -/
  held : List Reply
  /-- what is to be answered ABORTED_UPDATE on the return, each with its COMPL and payload (R525) -/
  aborted : List (Packet × Bool × List Byte)
  /-- completions that wait for the interpreter's return and for the answers to what lay in the mailbox at its reset (R526) -/
  late : List Reply
  /-- commands accepted so far -/
  acc : Nat
  deriving DecidableEq, Repr

/-! ## Ledger -/

/-- LEDGER_CFG in force (Table 9.2). -/
structure LgCfg where
  budget : Nat
  intakeCap : Nat
  floatE : Nat
  floatW : Nat
  capE : Nat
  capW : Nat
  capC : Nat
  lendMax : Nat
  borrowMax : Nat
  refSample : Nat
  preempt : Bool
  shedLvl : BitVec 2
  shedRing : Bool
  deriving DecidableEq, Repr

/-- What a port engine or the host posts to the Ledger (R160, R186, R302). -/
inductive Post where
  | demand (p : PortId) (coins : Nat) (kind : DemKind) (sink : Bool) (upgrade : Bool)
  | probe (p : PortId) (coins : Nat) (toSink : Bool) (standby : Nat)
  | release (p : PortId)
  | commit (p : PortId)
  | resvRelease (p : PortId)
  | hostRelease (p : PortId)
  deriving DecidableEq, Repr

/-- A bridge from a sink end to a source end (R283). -/
structure Bridge where
  src : PortId
  snk : PortId
  deriving DecidableEq, Repr

/-- What one node knows of another that is present: the shed level it last sent (R328, R364). -/
structure Peer where
  node : Node
  shed : BitVec 2
  deriving DecidableEq, Repr

/-- The inputs of a mismatched decision cycle, from which it is run again (R320). -/
structure Rerun where
  /-- how many postings take part -/
  posts : Nat
  /-- the bridges before the cycle, and the ports as it saw them -/
  bridges : List Bridge
  ports : Vector Port 32
  borrowed : Nat
  lent : Nat
  shrinkRsn : Byte
  /-- the nodes of the ring, each with the shed level it last sent -/
  peers : List Peer
  deriving DecidableEq, Repr

/-- The Ledger's panel-wide state (Table 9.12, Table 8.14). -/
structure Ledger where
  ready : Bool
  cfg : LgCfg
  pend : Option LgCfg
  posts : List Post
  cycle : Nat
  /-- the last cycle mismatched: what its repeat runs from (R320) -/
  rerun : Option Rerun
  frozen : Bool
  freezes : List (BitVec 64)
  /-- held frozen until RESET_N (R518) -/
  stuck : Bool
  /-- coins of ports released while frozen, not reused until the thaw (R320) -/
  frozenRel : Nat
  evt : BitVec 8
  cap : Nat
  granted : Nat
  intake : Nat
  borrowed : Nat
  /-- LGRBORROW, LGRLENT and LGRSTAT as the last decision cycle published them (R619) -/
  pubBorrow : Nat
  pubLent : Nat
  pubStat : BitVec 16
  /-- coins of BORROWED that the next decision cycle takes into the capacity (R324) -/
  uncounted : Nat
  lent : Nat
  shed : BitVec 2
  shedRx : Bool
  refused : Nat
  bridges : List Bridge
  brPend : List (Bridge × Bool)
  /-- the source ends whose sink end held a contract at the last cycle (R285) -/
  brLive : List PortId
  /-- LEDGER_RELEASE target 0xFF pending, and borrowing stopped (R325) -/
  returnAll : Bool
  noBorrow : Bool
  armed : Bool
  islChg : Bool
  vform : Nat
  /-- ISLAND_SET JOIN given, HBISO_N released 1 ms later (R282) -/
  joining : Bool
  /-- HBISO_N as the Ledger took it in at its last cycle (R319) -/
  islanded : Bool
  /-- why the panel account last shrank: reason 0x06 for loans, else 0x01 (R315) -/
  shrinkRsn : Byte
  deriving DecidableEq, Repr

/-! ## Ridgeline -/

/-- One loan or offer: the other node and coins; `age` counts ring cycles (R324). -/
structure Loan where
  node : Node
  coins : Nat
  age : Nat
  deriving DecidableEq, Repr

/-- A character of a ring link (R337): a control character by its byte, or a data byte. -/
inductive RingSym where
  | k (c : Byte)
  | d (b : Byte)
  deriving DecidableEq, Repr

/-- Ridgeline (Table 10.8). -/
structure Ring where
  enable : Bool
  node : Node
  rcyc : BitVec 2
  hostInfo : List Byte
  /-- RING_CFG awaiting the next join -/
  pend : Option (Bool × Node × BitVec 2)
  ready : Bool
  /-- LINKSTATE: 0 bypassed, 1 listening, 2 joined, 3 master -/
  link : BitVec 2
  wsync : Bool
  esync : Bool
  cycDiff : Bool
  ringDown : Bool
  master : Node
  peers : List Peer
  /-- CYCLE frames received intact in a row, at most 3 (RINGUP) -/
  upRun : Nat
  /-- whether a CYCLE has been received intact since the last EOT -/
  cycSeen : Bool
  /-- while listening: cycles in a row with CYCLE intact and no NODE frame under the node's own number (Table 10.5) -/
  clean : Nat
  ttrain : Nat
  /-- master: the train time last measured, to be published in the next CYCLE -/
  ttMeas : Nat
  rver : Byte
  refCause : BitVec 4
  rcycNow : BitVec 2
  crc : BitVec 16
  evt : BitVec 16
  /-- RING_BYPASS MODE 0x01, or refused (R355, R457) -/
  bypassed : Bool
  refused : Bool
  cyc : Byte
  dpos : Nat
  dcount : Nat
  /-- control frames of the train that have passed, its CYCLE among them, which is the node's ring position (R349) -/
  passed : Nat
  /-- JOIN to be sent in the next slot; own JOIN awaiting the next CYCLE -/
  joinDue : Bool
  joinSent : Bool
  leaveDue : Bool
  /-- the bypass closes in the next ring gap (R351, R355, R358) -/
  gapClose : Bool
  /-- the handover named in the last CYCLE -/
  handover : Node
  /-- JOIN frames of the present cycle, in ring order, each with its VER -/
  joiners : List (Node × Byte)
  /-- master: refusals to publish, one in each CYCLE, with their causes -/
  refQ : List (Node × Byte)
  /-- master: the ring's cable delay in ns, as its last CYCLE's DELAY gave it -/
  cableNs : Nat
  /-- master: its own CYCLE has returned intact in the present train, or it has just taken over -/
  ownCyc : Bool
  /-- offers found in the node's returned frame, to acknowledge (R324) -/
  toAck : List Loan
  /-- offers made and not yet acknowledged (lender side) -/
  offers : List Loan
  /-- loans, newest first; a balance of 0 is kept, so that it can be stated again (R363) -/
  lentTo : List Loan
  borrowedFrom : List Loan
  /-- recalls received, oldest first, each to take effect at its second cycle: lender, balance, age (R326) -/
  recalls : List Loan
  /-- borrowers' lower balances, which the next decision cycle adopts (R363) -/
  lentDue : List Loan
  /-- pairs whose balances differed, and in how many statements (R363) -/
  differ : List (Node × Nat)
  /-- how many balances have been restated in turn (R363) -/
  turn : Nat
  /-- nodes gone whose loans are to be withdrawn (R327) -/
  lostNodes : List Node
  /-- PANEL_INFO received: node, age, bytes 4 to 31 -/
  infos : List (Node × Nat × List Byte)
  sinceInfo : Nat
  /-- PANEL_INFO as last sent -/
  infoLast : List Byte
  /-- west segment delay measurements in ns, newest first, at most 16 (R360) -/
  west : List Nat
  /-- the characters sent on RGE_TX in the last ring step, K28.5 where there was nothing else to send; none with the transmitters off -/
  out : List RingSym
  /-- the same on RGW_TX, the status channel (R340) -/
  wout : List RingSym
  /-- the sequence number of the next ordered set of the node's own, and the µs since its last link status -/
  wseq : Byte
  wTick : Nat
  /-- master: a CYCLE started and its EOT not yet back -/
  trainOut : Bool
  /-- the trim of STS's rate toward the master's, in ppm, and the part of 1 µs that it has gathered, in millionths (R361) -/
  trim : Int
  stsFrac : Int
  deriving DecidableEq, Repr

/-! ## Timers, comparators, peripheral buses -/

/-- One general timer (Tables 13.14, 14.4). -/
structure Tmr where
  mode : BitVec 3
  clkSrc : Byte
  toutEn : Bool
  toutPol : Bool
  toutPin : BitVec 3
  capEdge : BitVec 2
  presc : BitVec 16
  prescFrac : Byte
  capPin : BitVec 3
  reload : Word
  /-- settings that take effect at the next reload tick (R489) -/
  pend : Option (Word × Byte × Byte)
  run : Bool
  count : Word
  cmpa : Word
  cmpb : Word
  acc : Nat
  /-- counter clocks that have come and are not yet counted, an event standing before them; below 0 where an event came ahead of them -/
  owed : Int
  /-- values that TMR_CMP writes to CMPA and CMPB at the next counter clock (R492) -/
  wrA : Option Word
  wrB : Option Word
  toutLvl : Bool
  flag : BitVec 8
  smode : BitVec 2
  trig : Byte
  gate : Bool
  deriving DecidableEq, Repr

/-- One general window comparator (Table 13.15). -/
structure Gwc where
  mode : BitVec 3
  hyst : BitVec 2
  filtM : BitVec 5
  filtClk : BitVec 2
  thLo : BitVec 10
  thHi : BitVec 10
  evtMask : BitVec 3
  st : GwcSt
  /-- the comparator's output, and the filter's samples of it, newest last (R502, R503) -/
  raw : GwcSt
  hist : List GwcSt
  deriving DecidableEq, Repr

/-- One peripheral bus (Table 11.9). -/
structure Pbus where
  enabled : Bool
  rate : BitVec 2
  ready : Bool
  stuck : Bool
  /-- the transfer running is the head of `queue` when `xfer` -/
  xfer : Bool
  /-- a bus clear is running -/
  clearing : Bool
  /-- the clear running is the one a PBUS_CLEAR asked for (R401) -/
  forHost : Bool
  /-- a clear must precede the next transfer (R399) -/
  needClear : Bool
  /-- transfers accepted, oldest first -/
  queue : List Packet
  /-- PBUS_CLEAR commands accepted -/
  clears : List Packet
  /-- ENABLE and RATE of a PBUS_CFG that waits for the end of the running transfer (R395) -/
  pend : Option (Bool × BitVec 2)
  deriving DecidableEq, Repr

/-! ## Fuses, Strongbox -/

/-- The fuse command that has the controller, and whether it runs from the internal pump. -/
structure FuseRun where
  pkt : Packet
  pump : Bool
  /-- bits whose pulse a VPP excursion stopped and that have not verified (R64) -/
  stopped : Word
  /-- bits not pulsed because VPP has been out of range since its excursion (Table 17.5) -/
  unpowered : Word
  deriving DecidableEq, Repr

/-- The fuse array and the fuse controller (Tables 17.1 to 17.4, 17.11). Words 0 to 1,023 are the array, 0x400 + k the
spares; word w stands at byte addresses 4w to 4w + 3. -/
structure Fuse where
  normal : Mem
  strict : Mem
  /-- the latched image (R559), after sparing and marginal treatment, at the array's own addresses -/
  latched : Mem
  /-- words flagged FUSE_MARGINAL at boot, ascending -/
  marginal : List Nat
  /-- words mapped at boot and their spares -/
  mapped : List (Nat × Nat)
  /-- map entries ignored at boot -/
  mapBad : Nat
  sealedF : Bool
  sealedI : Bool
  sealedC : Bool
  run : Option FuseRun
  queue : List Packet
  /-- bits programmed and verified since boot, and bits in a FAILMASK since boot, by physical word (R560) -/
  added : Mem
  failed : Mem
  /-- the physical words whose present difference has been reported, with the reads reported (R560) -/
  reported : List FuseDrift
  /-- spares that failed and cannot be used again (R565) -/
  badSpares : List Nat
  /-- KILL programming has ended since the boot read (R545) -/
  killDone : Bool
  /-- a re-read pass that KILL abandoned is to be rerun (Table 16.6) -/
  rerun : Bool
  /-- FUSEEVT (Table 17.11) -/
  evt : BitVec 8
  deriving DecidableEq, Repr

/-- One record as posted (Table 17.8): type, body and the STS of its posting. -/
structure Rec where
  ty : Byte
  body : List Byte
  sts : BitVec 48
  deriving DecidableEq, Repr

/-- One header copy (R572). -/
structure Hdr where
  gen : Nat
  nextSeq : Word
  pinned : Nat
  jnext : Nat
  deriving DecidableEq, Repr

/-- The Strongbox (Table 17.12). `none` for a header copy is an invalid one. -/
structure Sbox where
  mram : Mem
  hdrA : Option Hdr
  hdrB : Option Hdr
  gen : Nat
  nextSeq : Word
  pinned : Nat
  jnext : Nat
  newest : Word
  fullScan : Bool
  hdrRepair : Bool
  /-- the record queue, oldest first (R29) -/
  queue : List Rec
  lost : Nat
  evt : BitVec 8
  deriving DecidableEq, Repr

/-! ## Vault, alarm -/

/-- One customer key slot (R471): STATE 0 empty, 1 loaded, 2 loaded and locked; 3 is empty and locked, which reads as STATE 0. -/
structure KeySlot where
  state : BitVec 2
  ty : Byte
  key : List Byte
  kcv : List Byte
  deriving DecidableEq, Repr

/-- The Vault (Table 16.1) and what the identity checks found. -/
structure Vault where
  priv : Option (List Byte)
  pub : List Byte
  slots : Vector KeySlot 8
  attState : BitVec 3
  zeroized : Bool
  nonce : Option (List Byte)
  /-- the random generator's state of 64 bytes, empty until AON's power-up has seeded it (Table 16.1) -/
  rng : List Byte
  deriving DecidableEq, Repr

/-- One alarm source's settings (R472): action 0 LOG, 1 ALARM, 2 KILL. -/
structure AlmCfg where
  action : BitVec 2
  lock : Bool
  limit : Byte
  deriving DecidableEq, Repr

/-- The security alarm (Table 16.7), all in AON. -/
structure Alarm where
  cfg : Vector AlmCfg 7
  /-- the sources that have fired and not been absent for 1 ms since, and for how many microseconds each has been (R540) -/
  present : BitVec 7
  away : List Nat
  evt : BitVec 16
  killPend : Bool
  authFail : BitVec 8
  /-- detections latched in OFF: source, action, STS; and those beyond eight (R544) -/
  latched : List (Byte × Byte × BitVec 64)
  beyond : Nat
  deriving DecidableEq, Repr

/-! ## Observability, firmware, safety -/

/-- One performance counter (R474). -/
structure Ctr where
  event : Byte
  enable : Bool
  chain : Bool
  val : Word
  deriving DecidableEq, Repr

/-- The performance block (Table 18.5). -/
structure Perf where
  ctrs : Vector Ctr 152
  perm : Vector Byte 38
  frozen : Bool
  snapValid : Bool
  snapErr : Bool
  /-- gathering in progress -/
  gather : Bool
  /-- freezes that came during gathering, oldest first: the counters and STS of each edge, for a further snapshot (R589, Table 18.8) -/
  again : List (List Word × BitVec 64)
  /-- the counters and STS taken at the freeze edge, until gathering completes -/
  taken : List Word
  takenSts : BitVec 64
  snap : List Word
  snapSts : BitVec 64
  snapSeq : BitVec 16
  ovf : BitVec 152
  view : Bool
  /-- armed trigger: EVSRC, and true for a release -/
  trig : Option (Byte × Bool)
  /-- PERF_CFG payloads that wait for the end of gathering (Table 18.8) -/
  pend : List (List Byte)
  deriving DecidableEq, Repr

/-- One trace record (Table 13.19), latency in 5 ns units. -/
structure TraceRec where
  opcode : Byte
  clsTag : Byte
  target : Byte
  status : Byte
  table : BitVec 16
  latency : Word
  sts : Word
  deriving DecidableEq, Repr

/-- The command trace (R595 to R598). -/
structure Trace where
  n : BitVec 16
  /-- packets that have passed check 1, and how many had when the TRACE_CFG in force was counted (R595) -/
  seen : Nat
  base : Nat
  ring : List TraceRec
  side : List TraceRec
  lost : BitVec 16
  /-- how many TRACE_READs are running -/
  reading : Nat
  /-- a TRACE_CFG that waits for their end: N, CLEAR and its own place in the count of packets (Table 18.8) -/
  pend : Option (BitVec 16 × Bool × Nat)
  deriving DecidableEq, Repr

/-- The mode of a comparator of a port (Tables 14.9, 14.10). -/
inductive CompMode where
  | off | watch | steady | brisk | fast
  deriving DecidableEq, Repr

/-- A command of Lantern (Table 18.7), a line that is none among them. -/
inductive LanternCmd where
  | ver
  | baud (rate : Nat)
  | port (n : Nat)
  | ledger
  | ring
  | perf (b : Nat)
  | sbox (sq count : Nat)
  | fuse (region : Nat)
  | trace (first count : Nat)
  | watch (on : Bool)
  | keygen (fail : Bool)
  | chain (off : Nat) (bytes : List Byte)
  | chainEnd (len : Nat)
  | lock
  | bad (line : List Byte)
  deriving DecidableEq, Repr

/-- Lantern (R599 to R603). -/
structure Lantern where
  unlocked : Bool
  baud : Nat
  watch : Bool
  /-- the lines sent by the last Lantern step, each without its CR LF -/
  out : List String
  /-- what the 4 KiB output buffer still holds, in millionths of a bit (R600) -/
  fill : Nat
  /-- WATCH lines dropped since the last D LOST line (R600) -/
  dropped : Nat
  /-- staged certificate-chain bytes -/
  stage : Mem
  /-- the staged offsets' upper end -/
  staged : Nat
  /-- the stored chain -/
  chain : List Byte
  /-- DIGEST as WATCH last saw it -/
  seen : BitVec 128
  /-- a KEYGEN that waits for the OTP controller: whether a bit then fails its verify, and the commands ahead of it -/
  keygen : Option (Bool × Nat)
  /-- rates that BAUD has selected, each with what is still to be sent until its OK line is out (R599) -/
  bauds : List (Nat × Nat)
  /-- commands that wait until their output fits, oldest first (R600) -/
  wait : List LanternCmd
  deriving DecidableEq, Repr

/-- How far a FW_COMMIT has come: verifying; its verification failed; its image or revert is in force and the interpreter resets; ready
to complete OK; ready to complete ABORTED_UPDATE (R479, R528). -/
inductive FwStep where
  | verify | denied | marked | done | aborted
  deriving DecidableEq, Repr

/-- One FW_COMMIT in progress: its tag and its place in the order of acceptance. -/
structure FwRun where
  tag : BitVec 6
  ord : Nat
  step : FwStep
  deriving DecidableEq, Repr

/-- The firmware (R478 to R480). -/
structure Fw where
  /-- the active patch's version, 0 for none -/
  active : Word
  /-- the committed image, kept in MRAM -/
  image : List Byte
  staged : List Byte
  lastRes : Byte
  /-- the FW_COMMIT commands in progress, in the order of acceptance -/
  runs : List FwRun
  deriving DecidableEq, Repr

/-- Safety (Table 15.8). -/
structure Safety where
  /-- SAFECFG enables in [6:0], LOCK in [7] -/
  cfg : BitVec 8
  evt : Word
  portEvt : Word
  stFail : BitVec 7
  romOnly : Bool
  eccSbe : BitVec 16
  eccDbe : BitVec 8
  /-- STS of the interpreter resets of the last 10 s (R516) -/
  resets : List (BitVec 64)
  /-- SAFEOK held 0 until RESET_N (R522) -/
  stuck : Bool
  /-- the excursion that took CORE down, latched in AON for its SUPPLY record: SAFEEVT bit, and whether it was over (R64) -/
  supLatch : Option (Nat × Bool)
  /-- a periodic or host self-test failure to repeat after 1 s -/
  repeatDue : BitVec 7
  /-- the addresses of the words that the scrub has marked, a double-bit error standing in them (R515) -/
  marked : List Word
  deriving DecidableEq, Repr

/-- One saved entry (R435): opcode, target or selector, payload. -/
structure Saved where
  op : Byte
  sel : Nat
  payload : List Byte
  deriving DecidableEq, Repr

/-- The MRAM configuration store: saved entries, and those to be erased at the next boot (R438). -/
structure Store where
  entries : List Saved
  erase : List (Byte × Nat)
  deriving DecidableEq, Repr

/-- The whole device. -/
structure State where
  sys : Sys
  sup : Supplies
  clk : Clocks
  ember : Ember
  bus : HostBus
  mb : Mailbox
  ports : Vector Port 32
  ledger : Ledger
  ring : Ring
  tmrs : Vector Tmr 48
  gwcs : Vector Gwc 16
  gwcEvt : BitVec 16
  pbus : Vector Pbus 4
  fuse : Fuse
  sbox : Sbox
  vault : Vault
  alarm : Alarm
  perf : Perf
  trace : Trace
  lantern : Lantern
  fw : Fw
  safety : Safety
  store : Store
  /-- how many free values have been drawn (the model's own field) -/
  free : Nat
  pending : List Instr
  deriving DecidableEq, Repr

/-! ## Reset -/

/-- An E-port is one of P0 to P7 (Table 0.6). -/
def isE (p : PortId) : Bool := p.val < 8

/-- The defaults of PORT_CFG for a port class, a role and LMEN (Tables 4.1, 6.1, 7.3, 8.3): VCONNEN and VCSWAP 1 on an
E-port, AUDEN 1, FSW 50. -/
def defaultCfg (e : Bool) (role : Nat) (lm : Bool) : PortCfg :=
  BitVec.ofNat 80 (role + 2 ^ 8 * (16 * e.toNat + 32 * lm.toNat + 64) + 2 ^ 24 * e.toNat + 2 ^ 32 * 50)

/-- The one-entry tables a port holds until the host loads others: fixed 5.00 V at 0.90 A (R650). -/
def defaultTable : List Entry := [⟨1, 500, 500, 90⟩]

def TcPort.reset : TcPort :=
  { state := .disabled, cc1 := .opn, cc2 := .opn, orient := false, oriented := false, rpAdv := .none, rpSeen := .none,
    vconnOn := false,
    raSeen := false, vconnTrip := false, dbAttach := false, vbusMv := 0, prailMv := 0, evt := 0, ready := false,
    held := false, inReset := false, leaving := false, enHeld := false, safeDef := false, dfp := false,
    attachSrc := false, tryDone := false, vconnMine := false, vconnSwap := false, erBack := false, ccHeld := false }

/-- No contract (Table 5.11). -/
def Terms.reset : Terms := ⟨3, 0, 0, 0, false⟩

def PdPort.reset : PdPort :=
  { contract := .none, rev := 0, txRev := 2, heard := false, revSet := false, epr := false, terms := Terms.reset,
    nxt := none, obj := none, nxtObj := none, cableOk := false, cable5A := false, cableEpr := false, cableV := 0, cableRev := 2,
    discTries := 0, hrCount := 0, capsCount := 0, evt := 0, battStat := 0, battCap := [], txId := 0, txId1 := 0,
    txId2 := 0, rxId := none, rxId1 := none, rxId2 := none, tx := none, tries := 0, txQ := [], ams := .none, trig := [],
    ng := false, sinkTxWait := false, offered := [], reported := 0, srcCaps := [], sinkCaps := [], eprPdp := 0, rdo := 0,
    asked := none, hr := .none, stFlags := 0, alertDue := false, bist := 0, statusRx := [], srcInfo := [],
    srcExt := [], revision := 0, askedRev := false, askedSinkCap := false,
    askedExt := false, batteries := 0, eprTried := false, chunk := none, auth := none, sinkSlew := false, oldV := 0,
    capsSent := false, srAccept := false, ack := none, waitRx := false, waitCaps := false, frSink := false,
    chunkTy := .securityResponse, startDue := false }

def SwapPort.reset : SwapPort :=
  { kind := .pr, stage := .none, toSrc := false, own := false, won := false, result := none, frArmed := false, frAsked := false }

def LmPort.reset : LmPort :=
  { mode := false, verOk := false, failed := false, major := 0, minor := 0, seq := 0, lastSeq := 0, noAck := false,
    noAckRun := 0, muted := false, grantor := false, need := 0, needHeld := false, peer := 0, last := none, waiting := false, run := none,
    result := none, vdmVer := none, cuts := [] }

def SwPort.reset : SwPort :=
  { st := .opn, sinkDir := false, tripCnt := 0, evt := 0, outCells := [], outGroups := [],
    shorted := false, auditPos := 0, temp := 25, therm := 0, holdNext := false, reclose := false, monDis := false,
    tripWire := false, sinkOn := false, hot := false, steps := 0, ssProf := 0, ramp := 0, ovBase := 0, blank := false,
    thermCeil := 0, owed := false }

def CvPort.reset : CvPort :=
  { dir := 0, region := 3, atTarget := false, synced := false, slewing := false, ilimAct := false, prebias := false,
    recover := false, ember := false, vref := 0, refBus := false, ilim := 0, evt := 0, stopped := 0, standby := false,
    diode := false, slewDue := false, drop := 0, energyOut := 0, energyIn := 0 }

def LgPort.reset : LgPort :=
  { outcome := 0, sink := false, outchg := false, cls := 1, reason := 0, grant := 0, demand := 0, standing := false,
    kind := .attach, upgrade := false, maxGrant := 65535, waiting := none, raised := 0, resv := none, lastCeil := (0, 65535, false),
    pendCls := none, probe := none }

/-- A port before boot: not READY, with the defaults of its class. -/
def Port.reset (e : Bool) : Port :=
  { tc := TcPort.reset, pd := PdPort.reset, swap := SwapPort.reset, lm := LmPort.reset, sw := SwPort.reset,
    cv := CvPort.reset, lg := LgPort.reset, cfg := defaultCfg e 0 true, cfgPend := none, src := defaultTable,
    srcPend := none, snk := defaultTable, snkPend := none, prun := [] }

def Supplies.reset : Supplies :=
  { vmain := .ok, vdrvA := .ok, vdrvB := .ok, vio := .ok, vconnin := .ok, vhb := .ok, vbat := .ok, vpp := .below,
    vdcore := .ok, vdaon := .ok, vhbMv := 48000, waitA := false, waitB := false }

def Clocks.reset : Clocks := ⟨false, false, false, false⟩

def Sys.reset : Sys :=
  { pwr := .run, boot := 0, cause := 1, sleepEn := false, dozeEn := true, emberBoot := false, vioSel := true, addr := 0,
    emberen := true, straps := ⟨8, 8, 8⟩, strapDue := true, dboff := false, resetLow := false, hbisoLow := false, mainenLow := false,
    drvenLow := false,
    interp := false, interpSeen := false, perfReady := false, vaultReady := false, sboxReady := false, evt := 0,
    irestart := 0, sts := 0, stsStat := 0, tick := 0, stsAcc := 0, minor := 0, linkA := false, linkB := false, vioHeld := false }

def Ember.reset : Ember :=
  { step := 0, donor := none, excluded := [], abandoned := 0, stopped := false, reg := false, forbid := false, pwrMax := 3,
    mask := 0xFFFFFFFF, latched := none }

def HostBus.reset : HostBus :=
  { ptr := 0, page := 0, wrap := 0, haddrCfg := 0, haddrBase := 0x50, haddrMask := 0x08, lastAddr := 0,
    sumView := false, hdrErr := 0, acked := false, out := [], acks := 0 }

def Mailbox.reset : Mailbox :=
  { inbox := [], lanes := [], replies := [], tags := [], flights := [], parts := [], held := [], aborted := [], late := [], acc := 0 }

/-- The defaults of Table 9.2 for a number of enabled ports. -/
def LgCfg.default (nen : Nat) : LgCfg :=
  { budget := 45 * nen, intakeCap := 65535, floatE := 0, floatW := 0, capE := 65535, capW := 65535, capC := 65535,
    lendMax := 0, borrowMax := 0, refSample := 1, preempt := true, shedLvl := 0, shedRing := false }

def Ledger.reset (nen : Nat) : Ledger :=
  { ready := false, cfg := LgCfg.default nen, pend := none, posts := [], cycle := 0, rerun := none, frozen := false,
    freezes := [], stuck := false, frozenRel := 0, evt := 0, cap := 0, granted := 0, intake := 0, borrowed := 0, pubBorrow := 0, pubLent := 0, pubStat := 0,
    uncounted := 0, lent := 0, shed := 0, shedRx := false, refused := 0, bridges := [], brPend := [], returnAll := false,
    noBorrow := false, brLive := [], armed := false, islChg := false, vform := 48, joining := false,
    islanded := false, shrinkRsn := 1 }

def Ring.reset : Ring :=
  { enable := true, node := 0, rcyc := 1, hostInfo := List.replicate 10 0, pend := none, ready := false, link := 0,
    wsync := false, esync := false, cycDiff := false, ringDown := false, master := 0, peers := [], upRun := 0, cycSeen := false, clean := 0,
    ttrain := 0, ttMeas := 0, rver := 0, refCause := 0, rcycNow := 1, crc := 0, evt := 0, bypassed := false,
    refused := false, cyc := 0, dpos := 0, dcount := 0, passed := 0, joinDue := false, joinSent := false,
    leaveDue := false, gapClose := false, handover := 0, joiners := [], refQ := [], cableNs := 0, ownCyc := false, toAck := [], offers := [],
    lentTo := [], borrowedFrom := [], recalls := [], lentDue := [], differ := [], turn := 0, lostNodes := [], infos := [], sinceInfo := 0,
    infoLast := [], west := [], out := [], wout := [], wseq := 0, wTick := 0, trainOut := false, trim := 0, stsFrac := 0 }

def Tmr.reset : Tmr :=
  { mode := 0, clkSrc := 0, toutEn := false, toutPol := false, toutPin := 0, capEdge := 0, presc := 1, prescFrac := 0,
    capPin := 0, reload := 0, pend := none, run := false, count := 0, cmpa := 0, cmpb := 0, acc := 0, owed := 0, wrA := none,
    wrB := none, toutLvl := false, flag := 0, smode := 0, trig := 0, gate := false }

def Gwc.reset : Gwc :=
  { mode := 0, hyst := 0, filtM := 0, filtClk := 0, thLo := 0, thHi := 0, evtMask := 0, st := .off, raw := .off,
    hist := [] }

def Pbus.reset : Pbus :=
  { enabled := false, rate := 0, ready := false, stuck := false, xfer := false, clearing := false, forHost := false, needClear := false,
    queue := [], clears := [], pend := none }

/-- The fuse array of an HNC-3248 as shipped (R1, Table 17.3): PORTEN all ones, the five function enables and
VARIANTID 0x32, the CRC word 0x07E over the region and the write-lock of word 0x07F; DIEID, TRIM and PROTBND zero.
DEDUCED, unsafe: log entry 7. -/
def factoryArray : Mem :=
  [(0, 0xFF), (1, 0xFF), (2, 0xFF), (3, 0xFF), (4, 0x1F), (5, 0x32),
   (0x1F8, 0x48), (0x1F9, 0x41), (0x1FA, 0xB7), (0x1FB, 0xBE), (0x1FC, 0x0F)]

/-- DEDUCED, unsafe: log entry 7. -/
def Fuse.reset : Fuse :=
  { normal := factoryArray, strict := factoryArray, latched := factoryArray, marginal := [], mapped := [], mapBad := 0,
    sealedF := false, sealedI := false, sealedC := false, run := none, queue := [], added := [], failed := [],
    reported := [], badSpares := [], killDone := false, rerun := false, evt := 0 }

def Sbox.reset : Sbox :=
  { mram := [], hdrA := none, hdrB := none, gen := 0, nextSeq := 1, pinned := 0, jnext := 256, newest := 0,
    fullScan := false, hdrRepair := false, queue := [], lost := 0, evt := 0 }

def KeySlot.reset : KeySlot := ⟨0, 0, [], []⟩

def Vault.reset : Vault :=
  { priv := none, pub := [], slots := Vector.replicate 8 KeySlot.reset, attState := 1, zeroized := false, nonce := none,
    rng := [] }

/-- Action ALARM for source 4 (mesh), LOG for the others; LIMIT 16 for authentication failures (R472). -/
def Alarm.defaults : Vector AlmCfg 7 :=
  #v[⟨0, false, 0⟩, ⟨0, false, 0⟩, ⟨0, false, 0⟩, ⟨0, false, 0⟩, ⟨1, false, 0⟩, ⟨0, false, 0⟩, ⟨0, false, 16⟩]

def Alarm.reset : Alarm :=
  { cfg := Alarm.defaults, present := 0, away := [], evt := 0, killPend := false, authFail := 0, latched := [], beyond := 0 }

def Ctr.reset : Ctr := ⟨0, false, false, 0⟩

def Perf.reset : Perf :=
  { ctrs := Vector.replicate 152 Ctr.reset, perm := Vector.replicate 38 1, frozen := false, snapValid := false,
    snapErr := false, gather := false, again := [], taken := [], takenSts := 0, snap := [], snapSts := 0,
    snapSeq := 0, ovf := 0, view := false, trig := none, pend := [] }

def Trace.reset : Trace := { n := 0, seen := 0, base := 0, ring := [], side := [], lost := 0, reading := 0, pend := none }

def Lantern.reset : Lantern :=
  { unlocked := false, baud := 115200, watch := false, out := [], fill := 0, dropped := 0, stage := [], staged := 0, chain := [],
    seen := 0,
    keygen := none, bauds := [], wait := [] }

def Fw.reset : Fw := { active := 0, image := [], staged := [], lastRes := 0, runs := [] }

def Safety.reset : Safety :=
  { cfg := 0x7F, evt := 0, portEvt := 0, stFail := 0, romOnly := false, eccSbe := 0, eccDbe := 0, resets := [],
    stuck := false, supLatch := none, repeatDue := 0, marked := [] }

/-- The machine right after reset, before COLD_BOOT has run.
DESIGN CHOICE, unsafe: log entry 6. -/
def State.reset : State :=
  { sys := Sys.reset, sup := Supplies.reset, clk := Clocks.reset, ember := Ember.reset, bus := HostBus.reset,
    mb := Mailbox.reset, ports := Vector.ofFn fun p => Port.reset (isE p), ledger := Ledger.reset 32,
    ring := Ring.reset, tmrs := Vector.replicate 48 Tmr.reset, gwcs := Vector.replicate 16 Gwc.reset, gwcEvt := 0,
    pbus := Vector.replicate 4 Pbus.reset, fuse := Fuse.reset, sbox := Sbox.reset, vault := Vault.reset,
    alarm := Alarm.reset, perf := Perf.reset, trace := Trace.reset, lantern := Lantern.reset, fw := Fw.reset,
    safety := Safety.reset, store := ⟨[], []⟩, free := 0, pending := [] }

end Sys2Proof.Machine
end

