-- ==== Sys2Proof/Machine/Ops.lean ====
section
/-!
DEFINITION. The operations every family shares: the byte stores, a port and its parts, event bits, the record queue,
free values, the cyclic codes, the latched fuse fields and the performance counters.
-/
namespace Sys2Proof.Machine

/-- The outcome of a command or event. -/
abbrev Out := Host.Outcome State Fault Refusal

/-! ## Byte stores -/

/-- The byte at an address: 0x00 where none is listed.
DEDUCED, unsafe: log entry 8. -/
def Mem.read : Mem → Nat → Byte
  | [], _ => 0
  | (a, b) :: m, k => if k < a then 0 else if k = a then b else Mem.read m k

/-- Writes one byte, keeping the canonical form: 0x00 is not listed.
DEDUCED, unsafe: log entry 8. -/
def Mem.write : Mem → Nat → Byte → Mem
  | [], k, v => if v = 0 then [] else [(k, v)]
  | (a, b) :: m, k, v =>
    if k < a then (if v = 0 then (a, b) :: m else (k, v) :: (a, b) :: m)
    else if k = a then (if v = 0 then m else (k, v) :: m)
    else (a, b) :: Mem.write m k v

/-- Addresses rise strictly from `lo`, and no entry is 0x00. -/
def Mem.wfFrom : Nat → Mem → Bool
  | _, [] => true
  | lo, (a, b) :: m => decide (lo ≤ a) && b != 0 && Mem.wfFrom (a + 1) m

/-- The canonical form. -/
def Mem.wf (m : Mem) : Bool := Mem.wfFrom 0 m

/-- Writes bytes from an address up. -/
def Mem.writeBytes (m : Mem) (k : Nat) : List Byte → Mem
  | [] => m
  | b :: bs => Mem.writeBytes (m.write k b) (k + 1) bs

/-- The `n` bytes from an address up. -/
def Mem.readBytes (m : Mem) (k n : Nat) : List Byte := (List.range n).map fun i => m.read (k + i)

/-- The little-endian 32-bit word number `w` of a store (R552, R7). -/
def Mem.word (m : Mem) (w : Nat) : Word := BitVec.ofNat 32 (leVal (m.readBytes (4 * w) 4))

/-- Writes word number `w`. -/
def Mem.setWord (m : Mem) (w : Nat) (v : Word) : Mem := m.writeBytes (4 * w) (leBytes 4 v.toNat)

/-! ## Bits and codes -/

/-- Sets bit `i`. -/
def setBit {n : Nat} (v : BitVec n) (i : Nat) : BitVec n := v ||| BitVec.twoPow n i

/-- Clears bit `i`. -/
def clrBit {n : Nat} (v : BitVec n) (i : Nat) : BitVec n := v &&& ~~~ (BitVec.twoPow n i)

/-- Adds with saturation at all ones (R411, R532). -/
def satAdd {n : Nat} (v : BitVec n) (k : Nat) : BitVec n :=
  if v.toNat + k < 2 ^ n then BitVec.ofNat n (v.toNat + k) else BitVec.allOnes n

/-- One bit of CRC-16-CCITT, polynomial 0x1021 (R342). -/
def crc16Bit (c : BitVec 16) : BitVec 16 := if c.msb then (c <<< 1) ^^^ 0x1021 else c <<< 1

/-- One byte of CRC-16-CCITT. -/
def crc16Byte (c : BitVec 16) (b : Byte) : BitVec 16 :=
  (List.range 8).foldl (fun c _ => crc16Bit c) (c ^^^ (b.zeroExtend 16 <<< 8))

/-- CRC-16-CCITT with initial value 0xFFFF (R342, R566). -/
def crc16 (bs : List Byte) : BitVec 16 := bs.foldl crc16Byte 0xFFFF

/-- One byte of the header CRC-8, polynomial 0x07 (R410). -/
def crc8Byte (c : Byte) (b : Byte) : Byte :=
  (List.range 8).foldl (fun c _ => if c.msb then (c <<< 1) ^^^ 0x07 else c <<< 1) (c ^^^ b)

/-- The header CRC-8, initial value 0x00 (R410). -/
def crc8 (bs : List Byte) : Byte := bs.foldl crc8Byte 0

/-- The n-th byte, 0x00 beyond the end. -/
def nth (bs : List Byte) (i : Nat) : Byte := bs.getD i 0

/-- The little-endian value of `n` bytes from position `i`. -/
def field (bs : List Byte) (i n : Nat) : Nat := leVal ((bs.drop i).take n)

/-- Bits `hi` down to `lo` of a number. -/
def bitsOf (v hi lo : Nat) : Nat := (v >>> lo) % 2 ^ (hi + 1 - lo)

/-- Division rounded up (R294). -/
def ceilDiv (a b : Nat) : Nat := (a + b - 1) / b

/-! ## Ports -/

/-- Every port, in ascending order. -/
def allPorts : List PortId := List.finRange 32

/-- The state of one port. -/
def State.port (s : State) (p : PortId) : Port := s.ports.get p

/-- Replaces the state of one port. -/
def State.setPort (s : State) (p : PortId) (x : Port) : State := { s with ports := s.ports.set p.val x }

/-- Changes one port. -/
def State.modPort (s : State) (p : PortId) (f : Port → Port) : State := s.setPort p (f (s.port p))

def State.modTc (s : State) (p : PortId) (f : TcPort → TcPort) : State := s.modPort p fun x => { x with tc := f x.tc }
def State.modPd (s : State) (p : PortId) (f : PdPort → PdPort) : State := s.modPort p fun x => { x with pd := f x.pd }
def State.modSwap (s : State) (p : PortId) (f : SwapPort → SwapPort) : State :=
  s.modPort p fun x => { x with swap := f x.swap }
def State.modLm (s : State) (p : PortId) (f : LmPort → LmPort) : State := s.modPort p fun x => { x with lm := f x.lm }
def State.modSw (s : State) (p : PortId) (f : SwPort → SwPort) : State := s.modPort p fun x => { x with sw := f x.sw }
def State.modCv (s : State) (p : PortId) (f : CvPort → CvPort) : State := s.modPort p fun x => { x with cv := f x.cv }
def State.modLg (s : State) (p : PortId) (f : LgPort → LgPort) : State := s.modPort p fun x => { x with lg := f x.lg }

/-- Runs a change over every port in ascending order. -/
def State.eachPort (s : State) (f : State → PortId → State) : State := allPorts.foldl f s

/-- Applies a change when a condition holds, and nothing otherwise. -/
def State.when (s : State) (c : Bool) (f : State → State) : State := if c then f s else s

/-- The power die of a port (Table 1.1). -/
def dieOf (p : PortId) : Die := if p.val < 16 then .a else .b

/-- VDRV of a die. -/
def State.vdrv (s : State) : Die → SupSt
  | .a => s.sup.vdrvA
  | .b => s.sup.vdrvB

/-- A port's drivers are supplied: VDRV of its die within range, or, for the donor, the Ember gate-drive
supply until its drive has moved to VDRV (R91, step 15 of Table 3.9). -/
def State.gateOk (s : State) (p : PortId) : Bool :=
  s.vdrv (dieOf p) == .ok || (s.ember.reg && s.sys.pwr == .ember && s.ember.donor == some p)

/-- The link of a power die is lost (R15). -/
def State.linkLost (s : State) : Die → Bool
  | .a => s.sys.linkA
  | .b => s.sys.linkB

/-- A port's switch may close and its gates may switch: supplied drivers (R17), and a healthy link (R15). -/
def State.armed (s : State) (p : PortId) : Bool := s.gateOk p && !s.linkLost (dieOf p)

/-! ## Event registers (R10: a set is never lost) -/

def State.portEvt (s : State) (p : PortId) (i : Nat) : State := s.modTc p fun t => { t with evt := setBit t.evt i }
def State.pdEvt (s : State) (p : PortId) (i : Nat) : State := s.modPd p fun t => { t with evt := setBit t.evt i }
def State.swEvt (s : State) (p : PortId) (i : Nat) : State := s.modSw p fun t => { t with evt := setBit t.evt i }
def State.cvEvt (s : State) (p : PortId) (i : Nat) : State := s.modCv p fun t => { t with evt := setBit t.evt i }
def State.lgEvt (s : State) (i : Nat) : State := { s with ledger.evt := setBit s.ledger.evt i }
def State.rgEvt (s : State) (i : Nat) : State := { s with ring.evt := setBit s.ring.evt i }
def State.safeEvt (s : State) (i : Nat) : State := { s with safety.evt := setBit s.safety.evt i }
def State.fuseEvt (s : State) (i : Nat) : State := { s with fuse.evt := setBit s.fuse.evt i }
def State.sbEvt (s : State) (i : Nat) : State := { s with sbox.evt := setBit s.sbox.evt i }
def State.almEvt (s : State) (i : Nat) : State := { s with alarm.evt := setBit s.alarm.evt i }

/-! ## Records (R29, R30) -/

/-- An interpreter interrupt or a queued record returns the device from DOZE to RUN (Table 3.4). -/
def State.leaveDoze (s : State) : State := if s.sys.pwr == .doze then { s with sys.pwr := .run } else s

/-- Posts a record: the queue holds 32, and a record posted to a full queue is dropped and counted. -/
def State.postRec (s : State) (ty : Byte) (body : List Byte) : State :=
  if s.sbox.queue.length < 32 then
    State.leaveDoze { s with sbox.queue := s.sbox.queue ++ [⟨ty, body, s.sys.sts.truncate 48⟩] }
  else
    { s with sbox.lost := s.sbox.lost + 1, sbox.evt := setBit s.sbox.evt 1 }

/-- A SAFETY record (Table 15.2): cause, subject and address or mask. -/
def State.postSafety (s : State) (cause subject : Nat) (m : Nat) : State :=
  s.postRec 0x03 (byteOf cause 0 :: byteOf subject 0 :: leBytes 4 m)

/-- A SUPPLY record and the supply's SAFEEVT bit (Table 3.1). -/
def State.postSupply (s : State) (bit : Nat) (hi : Bool) : State :=
  (s.safeEvt bit).postRec 0x02 [byteOf bit 0, if hi then 1 else 0]

/-! ## Free values -/

/-- The present free value.
DESIGN CHOICE, safe: log entry 5. -/
def State.freeNat (s : State) : Nat := Config.free s.free

/-- Moves to the next free value.
DESIGN CHOICE, safe: log entry 5. -/
def State.drawn (s : State) : State := { s with free := s.free + 1 }

/-- `n` bytes of the present free value.
DESIGN CHOICE, safe: log entry 5. -/
def State.freeBytes (s : State) (n : Nat) : List Byte := leBytes n s.freeNat

/-- The random generator's next `n` bytes (Table 16.1).
DESIGN CHOICE, safe: log entry 135. -/
def State.random (s : State) (n : Nat) : List Byte := (List.range n).map (nth (Config.rngOut s.vault.rng))

/-- The generator has moved on.
DESIGN CHOICE, safe: log entry 135. -/
def State.stirred (s : State) : State := { s with vault.rng := (List.range 64).map (nth (Config.rngNext s.vault.rng)) }

/-- The generator is seeded from its entropy source, once at an AON power-up (Table 16.1).
DEDUCED, unsafe: log entry 13. -/
def State.seedRng (s : State) : State :=
  if s.vault.rng.isEmpty then { s with vault.rng := s.freeBytes 64 }.drawn else s

/-! ## Latched fuse fields (R556, R559, R568) -/

/-- A word of the latched image. -/
def State.fuseWord (s : State) (w : Nat) : Word := s.fuse.latched.word w

/-- An Enable bit of FACTORY word 1: 0 while FACTORY is SEALED_INCOMPLETE (Table 17.6). -/
def State.enableBit (s : State) (i : Nat) : Bool := !s.fuse.sealedF && (s.fuseWord 1).getLsbD i

def State.epren (s : State) : Bool := s.enableBit 0
def State.ridgeen (s : State) : Bool := s.enableBit 1
def State.ledgermodeen (s : State) : Bool := s.enableBit 2
def State.authen (s : State) : Bool := s.enableBit 3
def State.lanternen (s : State) : Bool := s.enableBit 4

/-- PORTEN of a port (R1). -/
def State.porten (s : State) (p : PortId) : Bool := !s.fuse.sealedF && (s.fuseWord 0).getLsbD p.val

/-- The number of ports PORTEN enables (R297). -/
def State.nen (s : State) : Nat := (allPorts.filter s.porten).length

/-- A CUSTOMER Data field: its unprogrammed value, 0, while CUSTOMER is SEALED_INCOMPLETE (Table 17.6). -/
def State.custField (s : State) (w hi lo : Nat) : Nat :=
  if s.fuse.sealedC then 0 else bitsOf (s.fuseWord w).toNat hi lo

/-- SAFEROLE of a port's class (Table 3.7). -/
def State.saferole (s : State) (p : PortId) : Nat := if isE p then s.custField 0x0C0 1 0 else s.custField 0x0C0 3 2

/-- The SAFECFG fuse lock (R482), used as latched. -/
def State.safeCfgLock (s : State) : Bool := (s.fuseWord 0x0C0).getLsbD 11

/-- PID: 0 while IDENTITY is SEALED_INCOMPLETE (Table 17.6). -/
def State.pid (s : State) : Nat := if s.fuse.sealedI then 0 else bitsOf (s.fuseWord 0x080).toNat 15 0

/-! ## Readiness (R34) -/

/-- The READY bit of a port: the port is enabled, its boot has ended, and it is neither held nor in reset. -/
def State.portReady (s : State) (p : PortId) : Bool := s.porten p && (s.port p).tc.ready

/-- The Ledger has not set READY yet. One held frozen until RESET_N has, and its grants keep their values (R83, R518). -/
def State.early (s : State) : Bool := !s.ledger.ready && !s.ledger.stuck

/-- The Ridgeline READY bit. -/
def State.ringReady (s : State) : Bool := s.ridgeen && s.ring.ready

/-- One SAFECFG enable bit (Table 15.3). -/
def State.safeOn (s : State) (i : Nat) : Bool := s.safety.cfg.getLsbD i

/-- SYSCLK in MHz: from HFO in fallback, and none where a lost clock stops it with the clock monitors off (R69, Tables 3.3, 15.3).
DEDUCED, unsafe: log entry 16. -/
def State.sysMhz (s : State) : Nat :=
  if s.safeOn 3 then (if s.clk.pll then 48 else 200) else if s.clk.pll || s.clk.refclk then 0 else 200

/-- The clock of the port engines: HFO, or the PLL's backup while the clock monitors are on (Tables 3.3, 15.3).
DEDUCED, unsafe: log entry 16. -/
def State.engineClk (s : State) : Bool := s.safeOn 3 || !s.clk.hfo

/-- CORE is running, so that a supply is watched and a record can be posted. -/
def State.coreOn (s : State) : Bool := s.sys.pwr != .off && !s.sys.resetLow

/-- CORE is on, so that its memory is read. -/
def State.memOn (s : State) : Bool := s.coreOn && s.sys.pwr != .sleep && 3 ≤ s.sys.boot

/-! ## Performance counters (R582, R585) -/

/-- Adds to one counter; a wrap sets its PERFOVF bit, or carries into its chained high counter. -/
def Perf.add (f : Perf) (i n : Nat) : Perf :=
  if h : i < 152 then
    let c := f.ctrs[i]
    let v := c.val.toNat + n
    let f1 := { f with ctrs := f.ctrs.set i { c with val := BitVec.ofNat 32 v } }
    if v < 2 ^ 32 then f1
    else if c.chain && i % 2 == 0 then
      if h2 : i + 1 < 152 then
        let d := f1.ctrs[i + 1]
        let f2 := { f1 with ctrs := f1.ctrs.set (i + 1) { d with val := d.val + 1 } }
        if d.val = 0xFFFFFFFF then { f2 with ovf := setBit f2.ovf (i + 1) } else f2
      else f1
    else { f1 with ovf := setBit f1.ovf i }
  else f

/-- Whether counter `i` counts its own EVENT: not the high counter of a chained pair (R585). -/
def Perf.ownEvent (f : Perf) (i : Nat) : Bool :=
  i % 2 == 0 || !(f.ctrs[i - 1]?.map (·.chain)).getD false

/-- `n` occurrences of an event of a block, counted by each of its counters that names it (R582).
DESIGN CHOICE, unsafe: log entry 87. -/
def State.count (s : State) (blk ev n : Nat) : State :=
  if s.perf.frozen then s
  else
    { s with perf := (List.range 4).foldl (fun f c =>
        match f.ctrs[4 * blk + c]? with
        | some k => if k.enable && k.event == byteOf ev 0 && f.ownEvent (4 * blk + c) then f.add (4 * blk + c) n else f
        | none => f) s.perf }

end Sys2Proof.Machine
end

