-- ==== Sys2Proof/Machine/Operands.lean ====
section
/-!
DEFINITION. The operand forms: the fields of PORT_CFG, policy and preference entries, data objects built and read, and
what bounds them (Tables 4.1, 6.1, 7.3, 7.8, 8.3, 5.5, 5.6; R156 to R162). Voltages are in 10 mV, currents in 10 mA,
powers in coins; the bit places of data objects are those of USB PD Revision 3.2.
-/
namespace Sys2Proof.Machine

/-! ## PORT_CFG (Table 13.4) -/

/-- Bits `hi` to `lo` of byte `b` of a configuration. -/
def cfgBits (c : PortCfg) (b hi lo : Nat) : Nat := bitsOf c.toNat (8 * b + hi) (8 * b + lo)

def cfgRole (c : PortCfg) : Nat := cfgBits c 0 1 0
def cfgTry (c : PortCfg) : Nat := cfgBits c 0 3 2
def cfgRpLvl (c : PortCfg) : Nat := cfgBits c 0 5 4
def cfgTdrp (c : PortCfg) : Nat := cfgBits c 0 7 6
def cfgDcSrc (c : PortCfg) : Nat := cfgBits c 1 1 0
def cfgAudAcc (c : PortCfg) : Bool := c.getLsbD 10
def cfgDbgAcc (c : PortCfg) : Bool := c.getLsbD 11
def cfgVconnEn (c : PortCfg) : Bool := c.getLsbD 12
def cfgLmEn (c : PortCfg) : Bool := c.getLsbD 13
def cfgAudEn (c : PortCfg) : Bool := c.getLsbD 14
def cfgPrSwap (c : PortCfg) : Nat := cfgBits c 2 1 0
def cfgDrSwap (c : PortCfg) : Nat := cfgBits c 2 3 2
def cfgFrSwap (c : PortCfg) : Nat := cfgBits c 2 5 4
def cfgFrCur (c : PortCfg) : Nat := cfgBits c 2 7 6
def cfgVcSwap (c : PortCfg) : Bool := c.getLsbD 24
def cfgSsProf (c : PortCfg) : Nat := cfgBits c 3 2 1
def cfgOcMargin (c : PortCfg) : Nat := cfgBits c 3 4 3
def cfgSlewSel (c : PortCfg) : Nat := cfgBits c 3 6 5
def cfgFsw (c : PortCfg) : Nat := cfgBits c 4 6 0
def cfgSyncSrc (c : PortCfg) : Nat := cfgBits c 5 3 0
def cfgPhase (c : PortCfg) : Nat := cfgBits c 5 7 4
def cfgLind (c : PortCfg) : Nat := cfgBits c 6 9 0
def cfgRshunt (c : PortCfg) : Nat := cfgBits c 8 6 0

/-- The bits of PORT_CFG that are not reserved.
DEDUCED, unsafe: log entry 68. -/
def cfgMask : PortCfg := BitVec.ofNat 80
  (0xFF + 2 ^ 8 * 0x7F + 2 ^ 16 * 0xFF + 2 ^ 24 * 0x7F + 2 ^ 32 * 0x7F + 2 ^ 40 * 0xFF + 2 ^ 48 * 0x3FF + 2 ^ 64 * 0x7F)

/-- Every field lies in its table, for a port class and LEDGERMODEEN (Tables 4.1, 6.1, 7.3, 8.3). -/
def cfgValid (e lm : Bool) (c : PortCfg) : Bool :=
  let drp := cfgRole c == 2
  cfgRole c != 3 && cfgTry c != 3 && (cfgTry c == 0 || drp) && cfgRpLvl c != 3 && cfgTdrp c != 3 && cfgDcSrc c != 3 &&
  (e || !(cfgAudAcc c || cfgDbgAcc c || cfgVconnEn c || cfgVcSwap c)) && (cfgPrSwap c == 0 || drp) &&
  (cfgFrSwap c == 0 || drp) && (lm || !cfgLmEn c) && cfgSsProf c != 3 && cfgOcMargin c != 3 && cfgSlewSel c != 3 &&
  (20 ≤ cfgFsw c && cfgFsw c ≤ 100) && (cfgSyncSrc c == 0 || 8 ≤ cfgSyncSrc c) &&
  (cfgLind c == 0 || 10 ≤ cfgLind c) && (cfgRshunt c == 0 || (20 ≤ cfgRshunt c && cfgRshunt c ≤ 100))

/-! ## Policy and preference entries (Table 5.5) -/

/-- One 8-byte entry; its byte 1 is reserved. -/
def entryOf (b : List Byte) : Entry := ⟨nth b 0, field b 2 2, field b 4 2, field b 6 2⟩

/-- An entry's 8 bytes. -/
def entryBytes (e : Entry) : List Byte := e.kind :: 0 :: (leBytes 2 e.vlo ++ leBytes 2 e.vhi ++ leBytes 2 e.limit)

/-- The entries of a payload part. -/
def entriesOf : Nat → List Byte → List Entry
  | 0, _ => []
  | n + 1, b => entryOf b :: entriesOf n (b.drop 8)

/-- The class ceiling (R161): 5.00 A on an E-port, 3.00 A on an S-port. -/
def classCeil (e : Bool) : Nat := if e then 500 else 300

def sprFixed (v : Nat) : Bool := v == 500 || v == 900 || v == 1500 || v == 2000
def eprFixed (v : Nat) : Bool := v == 2800 || v == 3600 || v == 4800

/-- A fixed voltage the class takes (Table 5.6). -/
def fixedOk (e epren : Bool) (v : Nat) : Bool := sprFixed v || (e && epren && eprFixed v)

/-- An entry of the EPR part of a table. -/
def Entry.isEpr (x : Entry) : Bool := x.kind == 3 || (x.kind == 1 && x.vhi > 2000)

/-- An entry meets Table 5.6 for its class. -/
def srcEntryOk (e epren : Bool) (x : Entry) : Bool :=
  if x.kind == 1 then x.vlo == x.vhi && fixedOk e epren x.vlo && x.limit ≤ classCeil e
  else if x.kind == 2 then 330 ≤ x.vlo && x.vhi ≤ 2100 && x.vlo < x.vhi && x.vlo % 10 == 0 && x.vhi % 10 == 0 &&
    x.limit ≤ classCeil e && x.limit % 5 == 0
  else x.kind == 3 && e && epren && 1500 ≤ x.vlo && x.vhi ≤ 4800 && x.vlo < x.vhi && x.vlo % 10 == 0 &&
    x.vhi % 10 == 0 && x.limit ≤ 2400 && x.limit % 10 == 0

/-- The place of an entry in the order of R156: SPR fixed, SPR PPS, EPR fixed, AVS. -/
def Entry.rank (x : Entry) : Nat :=
  if x.kind == 3 then 3 else if x.isEpr then 2 else if x.kind == 2 then 1 else 0

/-- One entry may stand directly before another (R156). -/
def entryBefore (a b : Entry) : Bool :=
  a.rank < b.rank || (a.rank == b.rank && a.rank != 3 &&
    (if a.kind == 2 then a.vhi < b.vhi || (a.vhi == b.vhi && (a.vlo < b.vlo || (a.vlo == b.vlo && a.limit < b.limit)))
     else a.vlo < b.vlo))

/-- Consecutive entries are in order. -/
def entriesSorted : List Entry → Bool
  | a :: b :: r => entryBefore a b && entriesSorted (b :: r)
  | _ => true

/-- A source policy table meets R156. -/
def srcTableOk (e epren : Bool) (t : List Entry) : Bool :=
  (match t with
   | x :: _ => x.kind == 1 && x.vlo == 500 && 90 ≤ x.limit
   | [] => false) &&
  t.all (srcEntryOk e epren) && entriesSorted t &&
  (t.filter fun x => !x.isEpr).length ≤ 7 && (t.filter Entry.isEpr).length ≤ (if e then 4 else 0)

/-- A sink preference entry meets R158. -/
def snkEntryOk (e epren : Bool) (x : Entry) : Bool :=
  if x.kind == 1 then x.vlo ≤ x.vhi && fixedOk e epren x.vlo && fixedOk e epren x.vhi && x.limit ≤ classCeil e
  else if x.kind == 3 then e && epren && 1500 ≤ x.vlo && x.vhi ≤ 4800 && x.vlo < x.vhi && x.vlo % 10 == 0 &&
    x.vhi % 10 == 0 && x.limit ≤ 500 && x.limit % 5 == 0
  else srcEntryOk e epren x

/-! ## Powers (R160, R294) -/

/-- A power in coins, rounded up as a demand is. -/
def demandOf (v i : Nat) : Nat := ceilDiv (v * i) 1000

/-- The table power of a source entry. -/
def srcPower (x : Entry) : Nat := if x.kind == 3 then x.limit else demandOf x.vhi x.limit

/-- The entry power of a sink preference entry. -/
def snkPower (x : Entry) : Nat := demandOf x.vhi x.limit

/-- The greatest of some numbers, 0 of none. -/
def maxOf (l : List Nat) : Nat := l.foldl max 0

/-- The attach demand of a role (R160). -/
def Port.attachDemand (x : Port) (sink : Bool) : Nat :=
  if sink then maxOf (x.snk.map snkPower) else maxOf (x.src.map srcPower)

/-- The highest voltage of a role's table (R245). -/
def Port.topV (x : Port) (sink : Bool) : Nat := maxOf ((if sink then x.snk else x.src).map (·.vhi))

/-! ## Health and ceilings (R244, R245) -/

/-- CELLOUT: cells out of service, one by one and by groups.
DEDUCED, unsafe: log entry 32. -/
def SwPort.cellsOut (w : SwPort) : Nat :=
  min 32768 ((w.outCells.filter fun c => !(w.outGroups.contains (c / 256))).length +
    256 * w.outGroups.length)

/-- The cell is out of service. -/
def SwPort.cellIsOut (w : SwPort) (c : Nat) : Bool := w.outCells.contains c || w.outGroups.contains (c / 256)

/-- The next in-service cell, wrapping from 32,767 to 0 (R239). -/
def SwPort.nextCell (w : SwPort) : Nat → Nat → Nat
  | 0, c => c % 32768
  | fuel + 1, c => if w.cellIsOut (c % 32768) then w.nextCell fuel (c + 1) else c % 32768

/-- HEALTH (Table 7.8). -/
def SwPort.health (w : SwPort) : Nat :=
  if w.shorted then 2 else if 3277 ≤ w.cellsOut then 3 else if 656 ≤ w.cellsOut then 1 else 0

/-- The thermal factor of Table 7.9, in quarters. -/
def thermQuarters (t : BitVec 2) : Nat := if t = 0 then 4 else if t = 1 then 3 else if t = 2 then 2 else 0

/-- SWCEIL in 10 mA, rounded down to 50 mA (R244).
DESIGN CHOICE, unsafe: log entry 115. -/
def SwPort.ceil (e : Bool) (w : SwPort) : Nat :=
  let n := if w.health == 0 then 32768 else 32768 - w.cellsOut
  classCeil e * n * thermQuarters w.thermCeil / (32768 * 4) / 5 * 5

/-! ## Data objects -/

/-- A fixed PDO without flags (R157).
PRESUMED, unsafe: log entry 34. -/
def fixedPdo (v i : Nat) : Word := BitVec.ofNat 32 (v / 5 * 2 ^ 10 + i)

/-- A PPS APDO (R157).
PRESUMED, unsafe: log entry 34. -/
def ppsPdo (vlo vhi i : Nat) : Word := BitVec.ofNat 32 (3 * 2 ^ 30 + vhi / 10 * 2 ^ 17 + vlo / 10 * 2 ^ 8 + i / 5)

/-- An EPR AVS APDO, PDP in coins (R157).
PRESUMED, unsafe: log entry 34. -/
def avsPdo (vlo vhi pdp : Nat) : Word :=
  BitVec.ofNat 32 (13 * 2 ^ 28 + vhi / 10 * 2 ^ 17 + vlo / 10 * 2 ^ 8 + pdp / 10)

/-- The kind of a received data object as an entry's KIND, 0 for one the device does not take. -/
def pdoKind (w : Word) : Nat :=
  let k := bitsOf w.toNat 31 30
  if k == 0 then (if w = 0 then 0 else 1)
  else if k == 3 then (if bitsOf w.toNat 29 28 == 0 then 2 else if bitsOf w.toNat 29 28 == 1 then 3 else 0) else 0

/-- A received data object as an entry: voltages, and its current, or for AVS its PDP in coins. -/
def pdoEntry (w : Word) : Entry :=
  let n := w.toNat
  match pdoKind w with
  | 1 => ⟨1, bitsOf n 19 10 * 5, bitsOf n 19 10 * 5, bitsOf n 9 0⟩
  | 2 => ⟨2, bitsOf n 15 8 * 10, bitsOf n 24 17 * 10, bitsOf n 6 0 * 5⟩
  | 3 => ⟨3, bitsOf n 15 8 * 10, bitsOf n 25 17 * 10, bitsOf n 7 0 * 10⟩
  | _ => ⟨0, 0, 0, 0⟩

/-- The power of one sink data object, in coins, rounded up: of a Battery object its operational power in 250 mW units, of a
Variable one its maximum voltage at its current.
DEDUCED, unsafe: log entry 45. -/
def pdoPower (w : Word) : Nat :=
  let n := w.toNat
  match bitsOf n 31 30 with
  | 1 => ceilDiv (bitsOf n 9 0 * 25) 10
  | 2 => demandOf (bitsOf n 29 20 * 5) (bitsOf n 9 0)
  | _ => let x := pdoEntry w; if x.kind == 3 then x.limit else demandOf x.vhi x.limit

/-! ## What bounds an offer (R161, R162) -/

/-- The cable current in 10 mA: 5.00 A once a cable reporting 5 A has been discovered, else 3.00 A; 3.00 A while VCONNIN
is out of range (Table 3.1). -/
def State.cableCur (s : State) (p : PortId) : Nat :=
  let d := (s.port p).pd
  if d.cableOk && d.cable5A && s.sup.vconnin == .ok then 500 else 300

/-- The cable's maximum voltage for an entry kind: that of the discovered cable while the port sources VCONN (R161). -/
def State.cableMaxV (s : State) (p : PortId) (kind : Byte) : Nat :=
  let d := (s.port p).pd
  if d.cableOk && (s.port p).tc.vconnOn then 2000 + 1000 * d.cableV.toNat else if kind == 2 then 2100 else 2000

/-- The bounded current of an entry, or its bounded PDP for AVS, at a grant (R161). -/
def State.boundOf (s : State) (p : PortId) (x : Entry) (g : Nat) : Nat :=
  if x.kind == 3 then min x.limit g / 10 * 10
  else
    let i := min (min x.limit ((s.port p).sw.ceil (isE p))) (min (s.cableCur p) (g * 1000 / x.vhi))
    if x.kind == 2 then i / 5 * 5 else i

/-- Whether an entry other than entry 1 is omitted (R162). -/
def State.omitted (s : State) (p : PortId) (x : Entry) (g : Nat) : Bool :=
  let b := s.boundOf p x g
  (if x.kind == 3 then b * 1000 / x.vhi < 50 else b < 50) || s.cableMaxV p x.kind < x.vhi ||
    (x.isEpr && !(s.port p).pd.epr)

/-- The entries offered at a grant, with their bounded values, in table order; before the Ledger is ready a single fixed
5 V object at 0.9 A (Table 3.7). -/
def State.offers (s : State) (p : PortId) (g : Nat) : List (Entry × Nat) :=
  if s.early && (s.port p).tc.safeDef then [(⟨1, 500, 500, 90⟩, 90)]
  else match (s.port p).src with
  | [] => []
  | x :: r => (x, s.boundOf p x g) :: (r.filter fun y => !s.omitted p y g).map fun y => (y, s.boundOf p y g)

/-- Unconstrained Power: VHB within range and HBISO_N released (R157). -/
def State.unconstrained (s : State) : Bool := s.sup.vhb == .ok && !s.sys.hbisoLow

/-- The flags of the source's fixed 5 V PDO (R157, R183). -/
def State.srcFlags (s : State) (p : PortId) (unc : Bool) : Word :=
  let x := s.port p
  BitVec.ofNat 32 ((cfgRole x.cfg == 2).toNat * 2 ^ 29 + unc.toNat * 2 ^ 27 + (cfgDrSwap x.cfg != 0).toNat * 2 ^ 25 +
    (isE p && x.src.any Entry.isEpr).toNat * 2 ^ 23)

/-- The data object of an offered entry. -/
def offerPdo (x : Entry) (lim : Nat) : Word :=
  if x.kind == 1 then fixedPdo x.vlo lim else if x.kind == 2 then ppsPdo x.vlo x.vhi lim else avsPdo x.vlo x.vhi lim

/-- Numbers offers from a position up. -/
def numberFrom : Nat → List (Entry × Nat) → List Offer
  | _, [] => []
  | k, (x, l) :: r => ⟨k, x, l⟩ :: numberFrom (k + 1) r

/-- The capabilities at a grant: objects with positions; in EPR mode the EPR ones from position 8 (R166). -/
def State.buildOffers (s : State) (p : PortId) (g : Nat) : List Offer :=
  let l := s.offers p g
  if (s.port p).pd.epr then numberFrom 1 (l.filter fun x => !x.1.isEpr) ++ numberFrom 8 (l.filter fun x => x.1.isEpr)
  else numberFrom 1 l

/-- The data objects of some offers, the 5 V flags in the first, padded to position 7 in EPR mode. -/
def State.capWords (s : State) (p : PortId) (epr unc : Bool) (o : List Offer) : List Word :=
  let w := fun (x : Offer) => if x.pos == 1 then offerPdo x.e x.lim ||| s.srcFlags p unc else offerPdo x.e x.lim
  let spr := (o.filter fun x => x.pos < 8).map w
  if epr then spr ++ List.replicate (7 - spr.length) 0 ++ (o.filter fun x => 8 ≤ x.pos).map w else spr

/-- The power of one offer, rounded down as a capacity is. -/
def offerPower (o : Offer) : Nat := if o.e.kind == 3 then o.lim else o.e.vhi * o.lim / 1000

/-! ## Sink_Capabilities (R159) -/

/-- The data object a preference entry gives. An AVS entry holds an IOP and no PDP: its object carries VHI × IOP in whole watts,
rounded down.
DESIGN CHOICE, unsafe: log entry 97. -/
def snkPdo (x : Entry) : Word :=
  if x.kind == 1 then fixedPdo x.vhi x.limit
  else if x.kind == 2 then ppsPdo x.vlo x.vhi x.limit else avsPdo x.vlo x.vhi (snkPower x / 10 * 10)

/-- Order of the objects: fixed by voltage, then PPS by maximum voltage, then AVS. -/
def snkKey (x : Entry) : Nat := x.kind.toNat * 2 ^ 40 + x.vhi * 2 ^ 20 + x.vlo

/-- Inserts an entry in order; one giving the same object is merged at the higher current. -/
def snkInsert (x : Entry) : List Entry → List Entry
  | [] => [x]
  | y :: r =>
    if snkKey x < snkKey y then x :: y :: r
    else if snkKey x == snkKey y then { y with limit := max x.limit y.limit } :: r
    else y :: snkInsert x r

/-- A preference entry as the object it gives: a fixed entry stands at VHI. -/
def snkNorm (x : Entry) : Entry := if x.kind == 1 then { x with vlo := x.vhi } else x

/-- The flags of the sink's fixed 5 V PDO (R159). -/
def State.snkFlags (s : State) (p : PortId) : Word :=
  let x := s.port p
  BitVec.ofNat 32 ((cfgRole x.cfg == 2).toNat * 2 ^ 29 + (x.snk.any fun y => 4500 < y.vhi * y.limit / 10).toNat * 2 ^ 28 +
    s.unconstrained.toNat * 2 ^ 27 + (cfgDrSwap x.cfg != 0).toNat * 2 ^ 25 + cfgFrCur x.cfg * 2 ^ 23)

/-- Sink_Capabilities, or with `epr` EPR_Sink_Capabilities. -/
def State.sinkCapWords (s : State) (p : PortId) (epr : Bool) : List Word :=
  let x := s.port p
  let spr := ((x.snk.filter fun y => !y.isEpr).map snkNorm).foldl (fun l y => snkInsert y l) [⟨1, 500, 500, 90⟩]
  let w := match spr.map snkPdo with
    | [] => []
    | a :: r => (a ||| s.snkFlags p) :: r
  if epr then
    w ++ List.replicate (7 - w.length) 0 ++
      (((x.snk.filter Entry.isEpr).map snkNorm).foldl (fun l y => snkInsert y l) []).map snkPdo
  else w

/-! ## Requests -/

def rdoPos (w : Word) : Nat := bitsOf w.toNat 31 28
def rdoMis (w : Word) : Bool := w.getLsbD 26
def rdoEpr (w : Word) : Bool := w.getLsbD 22

/-- A request read against the object it names: voltage and operating current. -/
def rdoTerms (kind : Byte) (v : Nat) (w : Word) : Nat × Nat :=
  if kind == 1 then (v, bitsOf w.toNat 19 10)
  else if kind == 2 then (bitsOf w.toNat 20 9 * 2, bitsOf w.toNat 6 0 * 5)
  else (bitsOf w.toNat 20 9 * 5 / 2, bitsOf w.toNat 6 0 * 5)

/-- A request lies within the object as offered (R163, R170, R171). -/
def rdoWithin (o : Offer) (w : Word) : Bool :=
  let (v, i) := rdoTerms o.e.kind o.e.vlo w
  if o.e.kind == 1 then i ≤ o.lim
  else if o.e.kind == 2 then o.e.vlo ≤ v && v ≤ o.e.vhi && i ≤ o.lim
  else bitsOf w.toNat 20 9 % 4 == 0 && o.e.vlo ≤ v && v ≤ o.e.vhi && i ≤ min 500 (o.lim * 1000 / v)

/-- An RDO the device sends: position, Capability Mismatch, No USB Suspend, EPR Mode Capable and the two fields (R158).
PRESUMED, unsafe: log entry 34. -/
def rdoWord (pos : Nat) (mis e : Bool) (body : Nat) : Word :=
  BitVec.ofNat 32 (pos * 2 ^ 28 + mis.toNat * 2 ^ 26 + 2 ^ 24 + e.toNat * 2 ^ 22 + body)

/-- What the sink asks of one candidate of an entry at a grant: voltage, current, power and the object's own limit. -/
structure Cand where
  pos : Nat
  v : Nat
  i : Nat
  own : Nat
  deriving DecidableEq, Repr

/-- The candidate an offered object makes for an entry, if the kinds agree and the ranges meet (R158). -/
def candOf (x : Entry) (cls g : Nat) (pos : Nat) (w : Word) : Option Cand :=
  let o := pdoEntry w
  if o.kind == x.kind && o.vlo ≤ x.vhi && x.vlo ≤ o.vhi then
    let v := if x.kind == 1 then o.vlo else if x.kind == 2 then min x.vhi o.vhi / 2 * 2 else min x.vhi o.vhi / 10 * 10
    let own := if x.kind == 3 then o.limit * 1000 / v else o.limit
    let i := min (min x.limit cls) (min own (g * 1000 / v))
    some ⟨pos, v, if x.kind == 1 then i else i / 5 * 5, own⟩
  else none

/-- Numbers received objects from position 1. -/
def positions : Nat → List Word → List (Nat × Word)
  | _, [] => []
  | k, w :: r => (k, w) :: positions (k + 1) r

/-- The better candidate: greater power, and between equal powers the higher voltage. -/
def betterCand (a b : Cand) : Cand :=
  if b.v * b.i < a.v * a.i then a else if a.v * a.i < b.v * b.i then b else if a.v < b.v then b else a

/-- The best candidate of an entry. -/
def bestCand (x : Entry) (cls g : Nat) (caps : List Word) : Option Cand :=
  (positions 1 caps).foldl (fun acc pw =>
    match candOf x cls g pw.1 pw.2, acc with
    | none, a => a
    | some c, none => some c
    | some c, some a => some (betterCand a c)) none

/-- The first entry with a candidate wins (R158). -/
def chooseCand (cls g : Nat) (caps : List Word) : List Entry → Option (Entry × Cand)
  | [] => none
  | x :: r => match bestCand x cls g caps with
    | some c => some (x, c)
    | none => chooseCand cls g caps r

/-- The Request of R158: the RDO and its terms. `hold5` asks for vSafe5V within the grant, Capability Mismatch clear, as
after QUEUED or REFUSED (Table 9.7). No request asks for more than the grant (R22). In the vSafe5V request of a port with no
candidate there is no IOP, and Maximum Operating Current is the current asked for.
DESIGN CHOICE, unsafe: log entry 96. -/
def chooseRequest (e : Bool) (cls g : Nat) (hold5 : Bool) (tab : List Entry) (caps : List Word) : Word × Terms :=
  let five := fun (mis : Bool) (i : Nat) => (rdoWord 1 mis e (i * 2 ^ 10 + i), (⟨0, 1, 500, i, mis⟩ : Terms))
  let own5 := match caps with
    | w :: _ => (pdoEntry w).limit
    | [] => 0
  if hold5 then five false (min (min 90 own5) (g * 1000 / 500))
  else match chooseCand cls g caps tab with
    | none => five true (min (min 90 own5) (g * 1000 / 500))
    | some (x, c) =>
      let mis := decide (c.own < x.limit)
      if x.kind == 1 then
        (rdoWord c.pos mis e (c.i * 2 ^ 10 + min x.limit cls), ⟨0, c.pos, c.v, c.i, mis⟩)
      else if x.kind == 2 then (rdoWord c.pos mis e (c.v / 2 * 2 ^ 9 + c.i / 5), ⟨1, c.pos, c.v, c.i, mis⟩)
      else (rdoWord c.pos mis e (c.v * 2 / 5 * 2 ^ 9 + c.i / 5), ⟨2, c.pos, c.v, c.i, mis⟩)

end Sys2Proof.Machine
end

