-- ==== Sys2Proof/Machine/Flags.lean ====
section
/-!
DEFINITION. The status words: every flag computation of the port summary (Tables 4.14, 5.11, 6.15, 7.11, 7.13, 8.11,
8.12, 8.14, 9.11, 9.12).
-/
namespace Sys2Proof.Machine

/-- A bit as a number at a place. -/
def flag (b : Bool) (i : Nat) : Nat := if b then 2 ^ i else 0

/-- The TCSTATE code of Table 4.6. -/
def TcState.code : TcState → Nat
  | .disabled => 0 | .errorRecovery => 1 | .unattachedSnk => 2 | .attachWaitSnk => 3 | .attachedSnk => 4
  | .unattachedSrc => 5 | .attachWaitSrc => 6 | .attachedSrc => 7 | .trySrc => 8 | .tryWaitSnk => 9
  | .trySnk => 10 | .tryWaitSrc => 11 | .audioAccessory => 12 | .debugAccSrc => 13 | .debugAccSnk => 14
  | .unsupportedAcc => 15

/-- The CC class codes of Table 4.14. -/
def ccCode : CcTerm → Nat
  | .opn => 0 | .ra => 1 | .rd => 2 | .rpDef => 3 | .rp15 => 4 | .rp30 => 5

/-- The Rp level codes of Table 4.14. -/
def rpCode : RpLvl → Nat
  | .dflt => 0 | .a15 => 1 | .a30 => 2 | .none => 3

/-- ROLEACT (Table 4.14).
DEDUCED, unsafe: log entry 24. -/
def TcState.roleAct : TcState → Nat
  | .attachedSrc => 1
  | .attachedSnk => 2
  | .audioAccessory => 3 | .debugAccSrc => 3 | .debugAccSnk => 3 | .unsupportedAcc => 3
  | _ => 0

/-- The port is in an attached, accessory or Unsupported.Accessory state. -/
def TcState.attached (t : TcState) : Bool := t.roleAct != 0

/-- Both monitors read VBUS ≥ 4.00 V. -/
def TcPort.vbusPres (t : TcPort) : Bool := 4000 ≤ t.vbusMv

/-- TCSTATUS (Table 4.14). -/
def TcPort.status (t : TcPort) : Word :=
  BitVec.ofNat 32 (t.state.code + ccCode t.cc1 * 2 ^ 5 + ccCode t.cc2 * 2 ^ 8 + flag t.orient 11 + rpCode t.rpAdv * 2 ^ 12 +
    rpCode t.rpSeen * 2 ^ 14 + flag t.vconnOn 16 + flag t.dbAttach 17 + flag t.vbusPres 18 + t.state.roleAct * 2 ^ 19)

/-- The code of PDSTATUS.CONTRACT. -/
def Contract.code : Contract → Nat
  | .none => 0 | .stopped => 1 | .explicit => 2 | .transition => 3

/-- The port runs PD as source. -/
def Port.pdSrc (x : Port) : Bool := x.tc.state == .attachedSrc

/-- The port is a PPS source in current limit (R170). -/
def Port.ppsLimit (x : Port) : Bool := x.pdSrc && x.pd.terms.ctype == 1 && x.cv.ilimAct

/-- PDSTATUS (Table 5.11). -/
def Port.pdStatus (x : Port) : Word :=
  let d := x.pd
  BitVec.ofNat 32 (d.contract.code + d.rev.toNat * 2 ^ 2 + flag d.epr 4 + d.terms.ctype.toNat * 2 ^ 5 +
    d.terms.pos % 16 * 2 ^ 7 + flag d.terms.mis 11 + flag x.ppsLimit 12 + flag d.cableOk 13 + flag d.cable5A 14 +
    flag d.cableEpr 15 + d.cableV.toNat * 2 ^ 16 + min d.hrCount 7 * 2 ^ 18 + flag x.lm.mode 21)

/-- LMSTAT: 0 while Ledger mode is not entered (R209). -/
def LmPort.status (l : LmPort) : Word :=
  if l.mode then BitVec.ofNat 32 (l.minor.toNat + l.major.toNat * 2 ^ 4 + l.lastSeq.toNat * 2 ^ 8 + flag l.noAck 16 +
    flag l.grantor 17) else 0

/-- SWSTATE codes of Table 7.2. -/
def SwState.code : SwState → Nat
  | .opn => 0 | .softstart => 1 | .closed => 2 | .discharge => 3 | .holdoff => 4 | .withdrawn => 5

/-- A power die is powered in the present state: the donor's in EMBER, those with an attached port in DOZE, both in RUN
(Table 1.2). -/
def State.dieOn (s : State) (d : Die) : Bool :=
  match s.sys.pwr with
  | .off => false
  | .sleep => false
  | .ember => s.ember.donor.any fun p => dieOf p == d
  | .doze => allPorts.any fun p => dieOf p == d && (s.port p).tc.state.attached
  | .run => true

/-- The port's group PORTG0 to PORTG3 is powered in the present state (Table 1.2). -/
def State.groupOn (s : State) (p : PortId) : Bool :=
  match s.sys.pwr with
  | .off => false
  | .sleep => false
  | .ember => s.ember.donor.any fun q => q.val / 8 == p.val / 8
  | .doze => allPorts.any fun q => q.val / 8 == p.val / 8 && (s.port q).tc.state.attached
  | .run => true

/-- The audit engine runs: AUDEN, and the power die powered, whatever its VDRV (R239). -/
def State.auditOn (s : State) (p : PortId) : Bool := cfgAudEn (s.port p).cfg && s.dieOn (dieOf p)

/-- The audit's phases B and C are run on a port, not phase A alone (R238). -/
def State.auditAll (s : State) (p : PortId) : Bool :=
  let x := s.port p
  x.sw.st == .closed || (x.tc.vbusMv ≤ x.tc.prailMv + 300 && x.tc.prailMv ≤ x.tc.vbusMv + 300)

/-- SWSTATE: a HOLDOFF reads OPEN while VDRV is out (Table 7.10).
DESIGN CHOICE, unsafe: log entry 128. -/
def State.swCode (s : State) (p : PortId) : Nat :=
  if (s.port p).sw.st == .holdoff && !s.gateOk p then 0 else (s.port p).sw.st.code

/-- SWSTATUS (Table 7.11). -/
def State.swStatus (s : State) (p : PortId) : Word :=
  let x := s.port p
  BitVec.ofNat 32 (s.swCode p + flag x.sw.sinkDir 3 + flag x.tc.enHeld 4 + flag (s.auditOn p) 5 +
    x.sw.health * 2 ^ 6 + x.sw.therm.toNat * 2 ^ 8 + min x.sw.tripCnt 7 * 2 ^ 10)

/-- The effective inductance and shunt of a port: PORT_CFG's, or the class's fuse value (R258). -/
def State.lind (s : State) (p : PortId) : Nat :=
  let v := cfgLind (s.port p).cfg
  if v != 0 then v else if isE p then s.custField 0x0C2 9 0 else s.custField 0x0C2 19 10
def State.rshunt (s : State) (p : PortId) : Nat :=
  let v := cfgRshunt (s.port p).cfg
  if v != 0 then v else if isE p then s.custField 0x0C3 6 0 else s.custField 0x0C3 13 7

/-- PARAMOK: effective LIND and RSHUNT are non-zero. -/
def State.paramOk (s : State) (p : PortId) : Bool := s.lind p != 0 && s.rshunt p != 0

/-- The port is a bridge end (R283). -/
def State.bridged (s : State) (p : PortId) : Bool := s.ledger.bridges.any fun b => b.src == p || b.snk == p

/-- CONVSTAT (Table 8.11). -/
def State.convStat (s : State) (p : PortId) : BitVec 16 :=
  let c := (s.port p).cv
  BitVec.ofNat 16 (c.dir.toNat + c.region.toNat * 2 ^ 2 + flag c.atTarget 4 + flag c.synced 5 + flag c.slewing 6 +
    flag c.ilimAct 7 + flag c.prebias 8 + flag c.recover 9 + flag (s.paramOk p) 10 + flag (s.bridged p) 11 +
    flag c.ember 12)

/-- CONVREF (Table 8.12).
DEDUCED, unsafe: log entry 27. -/
def CvPort.refWord (c : CvPort) : Word :=
  BitVec.ofNat 32 (c.vref % 4096 + flag c.refBus 15 + c.ilim % 256 * 2 ^ 16)

/-- A port comes before another in the waiting list: class, then cycle of entry, then port (R308). -/
def State.waitsBefore (s : State) (a b : PortId) : Bool :=
  let x := (s.port a).lg
  let y := (s.port b).lg
  match x.waiting, y.waiting with
  | some i, some j =>
    x.cls.toNat < y.cls.toNat || (x.cls == y.cls && (i < j || (i == j && a.val < b.val)))
  | _, _ => false

/-- WAITPOS (R309). -/
def State.waitPos (s : State) (p : PortId) : Nat :=
  if (s.port p).lg.waiting.isSome then 1 + (allPorts.filter fun q => s.waitsBefore q p).length else 0

/-- The number of waiting-list entries. -/
def State.waitLen (s : State) : Nat := (allPorts.filter fun q => (s.port q).lg.waiting.isSome).length

/-- LGRPORT (Table 9.11). -/
def LgPort.word (l : LgPort) : Word :=
  BitVec.ofNat 32 (l.outcome.toNat + flag l.sink 3 + flag l.outchg 4 + flag l.resv.isSome 5 + l.cls.toNat * 2 ^ 6 +
    l.reason.toNat * 2 ^ 8 + l.grant % 65536 * 2 ^ 16)

/-- LGRDEMAND (Table 9.11). -/
def State.lgrDemand (s : State) (p : PortId) : Word :=
  let l := (s.port p).lg
  BitVec.ofNat 32 (l.demand % 65536 + s.waitPos p * 2 ^ 16 + flag l.upgrade 24)

/-- LGRSTAT as the last decision cycle published it (Table 9.12, R619). -/
def State.lgrStat (s : State) : BitVec 16 := s.ledger.pubStat

/-- What a decision cycle publishes as LGRSTAT. -/
def State.statNow (s : State) : BitVec 16 :=
  BitVec.ofNat 16 (flag s.ledger.frozen 0 + s.ledger.shed.toNat * 2 + flag s.ledger.shedRx 3 + s.waitLen * 2 ^ 8)

/-- ISLSTAT (Table 8.14). -/
def State.islStat (s : State) : BitVec 16 :=
  BitVec.ofNat 16 (flag s.sys.hbisoLow 0 + flag s.ledger.armed 1 + flag (allPorts.any fun p => (s.port p).cv.dir = 3) 2 +
    flag s.ledger.islChg 3 +
    s.ledger.vform % 256 * 2 ^ 8)

/-- The code of an outcome's direction (Table 9.10). -/
def dirCode (sink : Bool) : Nat := if sink then 1 else 0

end Sys2Proof.Machine
end

