-- ==== Sys2Proof/Machine/PortOps.lean ====
section
/-!
DEFINITION. What the port engine, its switch and its converter share: postings to the Ledger, the converter's start and
stop, opening and closing the switch, leaving an attach, Hard Reset, ErrorRecovery, withdrawal and protective openings
(chapters 4, 5, 7 and 8).
-/
namespace Sys2Proof.Machine

/-! ## Postings to the Ledger (R160, R186) -/

/-- Posts to the Ledger: the posting takes part in the next decision cycle (R301). -/
def State.post (s : State) (q : Post) : State := { s with ledger.posts := s.ledger.posts ++ [q] }

/-- Posts a demand, and counts it (Table 18.2). -/
def State.postDemand (s : State) (p : PortId) (coins : Nat) (k : DemKind) (sink upg : Bool) : State :=
  (s.post (.demand p coins k sink upg)).count p.val 0x11 1

/-- The grant a port acts on: 45 coins under the safe default before the Ledger is ready (Table 3.7); the Ember donor acts on
the Ember account's (R89). -/
def State.grantOf (s : State) (p : PortId) : Nat :=
  let x := s.port p
  if s.early && x.tc.safeDef && s.ember.donor != some p then 45 else x.lg.grant

/-! ## Roles and levels -/

/-- The port runs PD as sink: an unoriented debug accessory runs none (R121). -/
def Port.pdSnk (x : Port) : Bool := x.tc.state == .attachedSnk || (x.tc.state == .debugAccSnk && x.tc.oriented)

/-- The port is in a sink attach. -/
def Port.snkAtt (x : Port) : Bool := x.tc.state == .attachedSnk || x.tc.state == .debugAccSnk

/-- The port is in a source attach that may carry VBUS. -/
def Port.srcAtt (x : Port) : Bool := x.tc.state == .attachedSrc || x.tc.state == .debugAccSrc

/-- An explicit contract exists, in transition or not. -/
def PdPort.hasContract (d : PdPort) : Bool := d.contract == .explicit || d.contract == .transition

/-- An explicit contract is in force, the old one in a renegotiation's transition. -/
def PdPort.inForce (d : PdPort) : Bool := d.contract == .explicit || (d.contract == .transition && d.terms.ctype != 3)

/-- The partner is served as Revision 3.x. -/
def PdPort.rev3 (d : PdPort) : Bool := d.txRev == 2

/-- The current of an Rp level in 10 mA (R224). -/
def rpCur : RpLvl → Nat
  | .dflt => 90 | .a15 => 150 | .a30 => 300 | .none => 0

/-- The Rp level on a CC pin's class (Table 4.4). -/
def ccRp : CcTerm → RpLvl
  | .rpDef => .dflt | .rp15 => .a15 | .rp30 => .a30 | _ => .none

def isRp (c : CcTerm) : Bool := ccRp c != .none

/-- The level R118 advertises with no contract: the highest within RPLVL that the grant covers. -/
def State.typecRp (s : State) (p : PortId) : RpLvl :=
  let g := s.grantOf p
  let l := cfgRpLvl (s.port p).cfg
  if s.early then .dflt
  else if 150 ≤ g && 2 ≤ l then .a30 else if 75 ≤ g && 1 ≤ l then .a15 else .dflt

/-- The Rp level a source presents: by the grant with no contract, SinkTxOk or SinkTxNG under a 3.x contract, and kept
under a 2.0 contract (R118, R144, R146). -/
def State.setRp (s : State) (p : PortId) : State :=
  let x := s.port p
  if x.srcAtt then
    if x.pd.hasContract then
      if x.pd.rev3 then s.modTc p fun t => { t with rpAdv := if x.pd.ng then .a15 else .a30 } else s
    else s.modTc p fun t => { t with rpAdv := s.typecRp p }
  else s

/-! ## Converter (chapter 8) -/

/-- The first region of a converter started from idle (R256). -/
def regionStart (vo vi : Nat) : BitVec 2 :=
  if vo * 1000 < 825 * vi then 0 else if 1175 * vi < vo * 1000 then 2 else 1

/-- The region after the ratio has moved (Table 8.2). -/
def regionStep (cur : BitVec 2) (vo vi : Nat) : BitVec 2 :=
  if cur = 0 then (if 120 * vi < vo * 100 then 2 else if 85 * vi < vo * 100 then 1 else 0)
  else if cur = 1 then (if vo * 100 < 80 * vi then 0 else if 120 * vi < vo * 100 then 2 else 1)
  else if cur = 2 then (if vo * 100 < 80 * vi then 0 else if vo * 100 < 115 * vi then 1 else 2)
  else cur

/-- Brings a running converter's region up to date with the measured voltages. -/
def State.convRegion (s : State) (p : PortId) : State :=
  let x := s.port p
  if x.cv.dir = 0 then s
  else if x.cv.dir = 1 then s.modCv p fun c => { c with region := regionStep c.region x.tc.prailMv s.sup.vhbMv }
  else s.modCv p fun c => { c with region := regionStep c.region s.sup.vhbMv x.tc.prailMv }

/-- The ILIM code: 50 mA steps from 10 mA, at most 130 (Table 8.5). -/
def ilimCode (i : Nat) : Nat := min 130 (i / 5)

/-- The current limit in force: the contract's, else that of the Rp level (R224). -/
def State.curLimit (s : State) (p : PortId) : Nat :=
  let x := s.port p
  if x.pd.hasContract then x.pd.terms.i else if x.snkAtt then rpCur x.tc.rpSeen else rpCur x.tc.rpAdv

/-- Writes ILIM from the limit in force; a sink's is bounded by its grant (R264, R165). -/
def State.setIlim (s : State) (p : PortId) : State :=
  let x := s.port p
  let i := s.curLimit p
  let v := if x.pd.hasContract then x.pd.terms.v else 500
  let i := if x.snkAtt then min i (s.grantOf p * 1000 / v) else i
  s.modCv p fun c => { c with ilim := ilimCode i }

/-- VHB lies within ±5 % of VFORM, where a forming converter reports at target (R267). -/
def State.atVform (s : State) : Bool :=
  s.ledger.vform * 950 ≤ s.sup.vhbMv && s.sup.vhbMv ≤ s.ledger.vform * 1050

/-- The reference of a forming converter moves to VFORM: a ramp upward from a lower VHB, and at target where VHB stands in its
window (R267, R268). -/
def State.formRef (s : State) (p : PortId) : State :=
  s.modCv p fun c => { c with
    vref := s.ledger.vform * 50, refBus := true, atTarget := s.atVform,
    slewing := decide (s.sup.vhbMv < s.ledger.vform * 1000) }

/-- Starts a converter from idle in a direction (1 forward, 2 feeding, 3 forming) at a reference. Without parameters it
does not start and PARAMERR is set (R259); with its drivers unsupplied or its die's link lost it does not switch (R15, R17);
while VHB is out of range it waits as one R275 stopped, unless it forms. Its first region follows from the reference, or for one
that feeds, which has none for the local bus, from the measured VHB; Table 8.2 acts at once on what is measured (R256). A slew that
waits for tSrcTransition waits on.
DESIGN CHOICE, unsafe: log entry 117. -/
def State.convStart (s : State) (p : PortId) (dir : BitVec 2) (code : Nat) : State :=
  let x := s.port p
  if !s.paramOk p then s.cvEvt p 8
  else if !s.armed p then s
  else if s.sup.vhb != .ok && dir != 3 then
    s.modCv p fun c => { c with dir := 0, stopped := dir, vref := code, refBus := false }
  else
    let r := if dir = 1 then regionStart (code * 20) s.sup.vhbMv
      else if dir = 3 then regionStart (code * 20) x.tc.prailMv else regionStart s.sup.vhbMv x.tc.prailMv
    let s := s.modCv p fun c => { c with
      dir := dir, region := r, vref := code, refBus := dir == 3, atTarget := dir == 2, slewing := dir == 1 && !c.slewDue,
      stopped := 0, recover := false, diode := false }
    (if dir = 3 then s.formRef p else s).convRegion p

/-- FSW, SYNCSRC and PHASE (bytes 4 and 5) of a configuration that waits come into force on an idle converter (Table 1.7). -/
def State.takeFreq (s : State) (p : PortId) : State :=
  s.modPort p fun x => match x.cfgPend with
    | some c => if x.cv.dir = 0 then
        { x with cfg := (x.cfg &&& ~~~ (0xFFFF#80 <<< 32)) ||| (c &&& (0xFFFF#80 <<< 32)) } else x
    | none => x

/-- Brings a converter to idle (Table 8.7). -/
def State.convIdle (s : State) (p : PortId) : State :=
  State.takeFreq (p := p) <| s.modCv p fun c => { c with
    dir := 0, region := 3, atTarget := false, synced := false, slewing := false, ilimAct := false, prebias := false,
    ember := false, stopped := 0, standby := false, diode := false, slewDue := false, drop := 0 }

/-- Prebias of PRAILn to 5.00 V before a closing in the source direction (Table 8.7); a rail that stands higher is recovered
down to it (R272).
DEDUCED, unsafe: log entry 25. DESIGN CHOICE, unsafe: log entry 129. -/
def State.prebias (s : State) (p : PortId) : State :=
  let s1 := s.convStart p 1 250
  if (s1.port p).cv.dir = 1 then s1.modCv p fun c => { c with
    prebias := true, recover := decide (5000 < (s.port p).tc.prailMv), ilim := ilimCode (s.curLimit p) } else s1

/-! ## Switch (chapter 7) -/

/-- Removes VCONN (R127). -/
def State.vconnOff (s : State) (p : PortId) : State := s.modTc p fun t => { t with vconnOn := false, vconnSwap := false }

/-- Opens the switch over the trip wire: the converter goes to idle and recovers PRAILn, and SWSTATE reads DISCHARGE
(R222, R230, R272). A switch that carries nothing stays as it is.
DEDUCED, unsafe: log entry 27. -/
def State.openSwitch (s : State) (p : PortId) : State :=
  let x := s.port p
  let s := if x.sw.st == .softstart || x.sw.st == .closed then
      s.modSw p fun w => { w with
        st := if s.gateOk p then .discharge else .opn, sinkOn := s.gateOk p, owed := !s.gateOk p, steps := 0,
        thermCeil := w.therm, blank := false }
    else s
  let s := (s.convIdle p).vconnOff p
  s.modCv p fun c => { c with recover := decide (700 < x.tc.prailMv) }

/-- The closing conditions of the source direction (R215), with the die's link healthy (R15).
DEDUCED, unsafe: log entry 25. -/
def State.srcCloseOk (s : State) (p : PortId) : Bool :=
  let x := s.port p
  ((x.srcAtt && x.swap.stage != .standby && x.swap.stage != .psRdy) || (x.snkAtt && x.swap.stage == .closing && x.swap.toSrc)) &&
  (x.pd.hr == .none || x.pd.hr == .srcRestore) && !x.tc.leaving && !x.sw.reclose && !x.sw.monDis && !x.sw.tripWire &&
  45 ≤ (if x.snkAtt then (match x.lg.resv with | some r => r.give | none => 0) else s.grantOf p) &&
  x.tc.vbusMv ≤ 700 && x.cv.dir == 1 && x.cv.atTarget && x.cv.vref == 250 && s.armed p && x.sw.st == .opn && !x.sw.hot

/-- The closing conditions of the sink direction (R216); at step 8 of Table 6.2 VBUS stands at 4.75 V or more (step 7). -/
def State.snkCloseOk (s : State) (p : PortId) : Bool :=
  let x := s.port p
  ((x.snkAtt && x.swap.stage != .standby && x.swap.stage != .psRdy && x.swap.stage != .closing) ||
    (x.srcAtt && x.swap.stage == .closing && !x.swap.toSrc)) &&
  x.pd.hr == .none && !x.tc.leaving && !x.sw.reclose && !x.sw.monDis && !x.sw.tripWire &&
  (if x.swap.kind == .pr && x.swap.stage == .closing then 4750 else 4000) ≤ x.tc.vbusMv &&
  x.tc.prailMv + 200 ≤ x.tc.vbusMv && x.cv.dir != 2 && x.cv.dir != 3 && s.armed p && x.sw.st == .opn && !x.sw.hot

/-- VCONN may be sourced (R127, R194); its domain is off in EMBER (Table 1.2). Ra is recognised as in Table 4.9 by a source's attach
alone.
DEDUCED, unsafe: log entry 102. -/
def State.vconnOk (s : State) (p : PortId) : Bool :=
  let x := s.port p
  isE p && cfgVconnEn x.cfg && x.tc.raSeen && s.sup.vconnin == .ok && !x.tc.vconnTrip &&
    s.sys.pwr != .ember

/-- The soft-start profile of a closing: Standard for Gentle in a power role swap (R220). -/
def State.profileOf (s : State) (p : PortId) : Nat :=
  let x := s.port p
  if x.swap.kind == .pr && x.swap.stage == .closing && cfgSsProf x.cfg == 1 then 0 else cfgSsProf x.cfg

/-- Soft-start begins: its profile, no cell enabled, and the ramp at the far side's voltage (R219). -/
def State.softStart (s : State) (p : PortId) (sink : Bool) : State :=
  s.modSw p fun w => { w with
    st := .softstart, sinkDir := sink, ssProf := s.profileOf p, steps := 0,
    ramp := if sink then (s.port p).tc.prailMv else (s.port p).tc.vbusMv }

/-- Closes the switch when its conditions hold: soft-start begins, and VCONN with it in the source direction. -/
def State.tryClose (s : State) (p : PortId) : State :=
  if s.srcCloseOk p then
    let s := s.softStart p false
    s.modTc p fun t => { t with
      vconnOn := t.vconnOn || (s.vconnOk p && t.vconnMine && (t.state == .attachedSrc || (s.port p).swap.stage == .closing)) }
  else if s.snkCloseOk p then s.softStart p true
  else s

/-- Starts prebias for a source that has none running, once the grant is 45 coins, and tries to close (R116, R117, R215).
DEDUCED, unsafe: log entry 25. -/
def State.applyVbus (s : State) (p : PortId) : State :=
  let x := s.port p
  let s := if x.srcAtt && x.cv.dir == 0 && x.cv.stopped == 0 && x.sw.st == .opn && x.swap.stage == .none &&
      (x.pd.hr == .none || x.pd.hr == .srcRestore) && !x.tc.leaving && !x.sw.reclose && 45 ≤ s.grantOf p then
      s.prebias p else s
  s.tryClose p

/-! ## Triggers and messages (R142, R154) -/

/-- A waiting AMS has a new one's kind: a negotiation for a change of the grant is one with any other (R154). -/
def Ams.covers (b a : Ams) : Bool := b == a || (b == .negotiation && a == .regrant)

/-- Puts an AMS among the waiting ones, in which a negotiation takes the place of one for a change of the grant alone. -/
def addTrig (l : List Ams) (a : Ams) : List Ams :=
  if a == .negotiation && l.contains .regrant then l.map fun b => if b == .regrant then a else b else l ++ [a]

/-- An AMS trigger: waiting triggers of one kind merge (R154). -/
def State.trigger (s : State) (p : PortId) (a : Ams) : State :=
  s.modPd p fun d => if (d.trig.any fun b => b.covers a) || (d.sinkTxWait && d.ams.covers a) then d
    else { d with trig := addTrig d.trig a }

/-- A trigger that is the next to start (R196). -/
def State.trigFirst (s : State) (p : PortId) (a : Ams) : State :=
  s.modPd p fun d => { d with trig := a :: d.trig.filter fun b => b != a }

/-- The next MessageID of a SOP type. -/
def PdPort.idOf (d : PdPort) : Sop → BitVec 3
  | .sop => d.txId | .sop1 => d.txId1 | .sop2 => d.txId2

/-- Advances the transmit MessageID of a SOP type.
PRESUMED, unsafe: log entry 36. -/
def PdPort.bumpId (d : PdPort) : Sop → PdPort
  | .sop => { d with txId := d.txId + 1 }
  | .sop1 => { d with txId1 := d.txId1 + 1 }
  | .sop2 => { d with txId2 := d.txId2 + 1 }

/-- Puts a message on the line, which counts as sent (Table 18.2), or behind the one awaiting its GoodCRC. -/
def State.sendMsg (s : State) (p : PortId) (m : Msg) : State :=
  if (s.port p).pd.tx.isNone then
    (s.modPd p fun d => { d with tx := some { m with id := d.idOf m.sop }, tries := 0 }).count p.val 0x03 1
  else s.modPd p fun d => { d with txQ := d.txQ ++ [m] }

/-- A message on SOP with the revision in use. -/
def State.send (s : State) (p : PortId) (ty : Mt) (objs : List Word) (ext : List Byte) : State :=
  s.sendMsg p ⟨.sop, ty, objs, ext, (s.port p).pd.txRev, 0⟩

/-- A control message. -/
def State.sendCtl (s : State) (p : PortId) (ty : Mt) : State := s.send p ty [] []

/-- Ends the AMS in progress: a source with nothing more to send returns to SinkTxOk (R144, R195). -/
def State.amsEnd (s : State) (p : PortId) : State :=
  (s.modPd p fun d => { d with ams := .none, ng := d.ng && !d.trig.isEmpty, sinkTxWait := false }).setRp p

/-! ## Results of operations the host waits for -/

/-- A power role swap's stage: one that holds a reservation (R186). -/
def SwapPort.power (w : SwapPort) : Bool := (w.kind == .pr || w.kind == .fr) && w.stage != .none

/-- A power role swap is engaged, from its acceptance, or for a Fast Role Swap from its signal, to its end. -/
def SwapPort.engaged (w : SwapPort) : Bool :=
  (w.kind == .pr || w.kind == .fr) &&
    (w.stage == .standby || w.stage == .psRdy || w.stage == .closing || (w.kind == .fr && w.stage == .sent))

/-- A power role swap is in progress, from the Accept to the last PS_RDY (R187): that of a new source is its own, that of a new
sink the partner's. -/
def SwapPort.running (w : SwapPort) : Bool :=
  (w.kind == .pr && (w.stage == .standby || w.stage == .psRdy || (w.stage == .closing && w.toSrc))) ||
    (w.kind == .fr && w.stage == .psRdy)

/-- Ends a swap: on `release` the reservation of a power role swap goes back; a SWAP_REQ has its status and RESULT, SWAP_WON
in place of OK for one that won a meeting (R186, R196, R197). A Fast Role Swap's arming outlasts the swaps of the other roles
(R190). -/
def State.swapDone (s : State) (p : PortId) (status result : Byte) (release : Bool) : State :=
  let w := (s.port p).swap
  let s := if release && w.power then s.post (.resvRelease p) else s
  let st := if w.won && status = 0 && result != 0x05 && result != 0x06 then 0x53 else status
  s.modSwap p fun w => { w with
    stage := .none, own := false, won := false, frArmed := w.frArmed && !w.power, frAsked := w.frAsked && !w.power,
    result := if w.own && w.stage != .none then some (st, result) else w.result }

/-- A Fast Role Swap is disarmed: the standby grant goes back, and the preset of the forward loop ends (R190). -/
def State.frDisarm (s : State) (p : PortId) : State :=
  let w := (s.port p).swap
  if w.frAsked || w.frArmed then
    ((s.post (.resvRelease p)).modSwap p fun w => { w with frAsked := false, frArmed := false }).modCv p fun c => { c with
      prebias := c.prebias && c.dir == 1 }
  else s

/-- An accepted SWAP_REQ of the port waits behind the partner's swap: its own has not begun. -/
def State.swapWaits (s : State) (p : PortId) : Bool :=
  let w := (s.port p).swap
  !w.own && w.result.isNone && s.mb.flights.any fun k => k.opcode == 0x23 && k.target.toNat == p.val

/-- Ends a swap in progress or pending with OK and a RESULT of Table 6.7, one that waits behind the partner's with it, and
disarms a Fast Role Swap.
DEDUCED, unsafe: log entry 23. -/
def State.swapAbort (s : State) (p : PortId) (result : Byte) : State :=
  let s := s.when (s.swapWaits p) fun s => s.modSwap p fun w => { w with result := some (0, result) }
  let s := if (s.port p).swap.stage == .none then s else s.swapDone p 0x00 result true
  s.frDisarm p

/-- The reply of a VDM_SEND (Table 13.8). -/
def vdmReply (result step : Nat) (vdos : List Word) : List Byte :=
  byteOf result 0 :: byteOf step 0 :: byteOf vdos.length 0 :: 0 :: vdos.flatMap fun w => leBytes 4 w.toNat

/-- Ends a VDM_SEND in progress. -/
def State.vdmDone (s : State) (p : PortId) (result : Nat) (failed : Bool) (vdos : List Word) : State :=
  s.modLm p fun l => match l.run with
    | none => l
    | some r => { l with run := none, result := some (vdmReply result (if failed then r.step else 0) vdos) }

/-- The RESULT of an end that has taken in a VDM_SEND which waited for its turn. -/
def LmPort.cutOf (l : LmPort) (k : Packet) : Option Byte := (l.cuts.find? fun c => k.ord < c.1).map (·.2)

/-- Every VDM_SEND of a port ends, those that wait for their turn included (Table 13.8). -/
def State.vdmAllEnd (s : State) (p : PortId) (result : Nat) : State :=
  let l := (s.port p).lm
  let waits := s.mb.flights.any fun (k : Packet) => k.opcode == 0x22 && k.target == byteOf p.val 0 && (l.cutOf k).isNone
  (s.vdmDone p result true []).modLm p fun l => { l with
    cuts := if waits then l.cuts ++ [(s.mb.acc, byteOf result 0)] else l.cuts }

/-- Ledger mode ends (R208). -/
def State.lmEnd (s : State) (p : PortId) : State :=
  s.modLm p fun l => { l with
    mode := false, verOk := false, failed := false, major := 0, minor := 0, seq := 0, lastSeq := 0, noAck := false,
    noAckRun := 0, muted := false, grantor := false, last := none, waiting := false }

/-- A PORT_RESET in progress finishes with a RESULT (R442).
DEDUCED, unsafe: log entry 23. -/
def State.prunDone (s : State) (p : PortId) (kinds : List Byte) (result : Byte) : State :=
  let f := fun (r : PrRun) => if kinds.contains r.kind && r.result.isNone then { r with result := some result } else r
  s.modPort p fun x => { x with prun := x.prun.map f }

/-- EPR mode ends (R169). -/
def State.eprExit (s : State) (p : PortId) : State :=
  if (s.port p).pd.epr then (s.pdEvt p 5).modPd p fun d => { d with epr := false } else s

/-! ## Attaching and leaving -/

/-- The configuration awaiting its boundary comes into force (Table 1.7).
DESIGN CHOICE, unsafe: log entry 50. -/
def State.applyCfg (s : State) (p : PortId) : State :=
  s.modPort p fun x => { x with
    cfg := x.cfgPend.getD x.cfg, cfgPend := none, src := x.srcPend.getD x.src, srcPend := none,
    snk := x.snkPend.getD x.snk, snkPend := none }

/-- Tables that await the next AMS that builds or evaluates capabilities come into force (Table 1.7). -/
def State.takeTables (s : State) (p : PortId) : State :=
  s.modPort p fun x => { x with src := x.srcPend.getD x.src, srcPend := none, snk := x.snkPend.getD x.snk, snkPend := none }

/-- PD as it stands with nothing attached; events and the battery word stay.
DESIGN CHOICE, unsafe: log entry 113. -/
def PdPort.cleared (d : PdPort) : PdPort := { PdPort.reset with evt := d.evt, battStat := d.battStat }

/-- Enters an Unattached state, with the configuration that awaited it (R31, R99); an enable that is held stays so (R233). -/
def State.enterUnattached (s : State) (p : PortId) (st : TcState) : State :=
  let s := (s.applyCfg p).prunDone p [2] 0
  s.modTc p fun t => { t with
    state := st, cc1 := .opn, cc2 := .opn, orient := false, oriented := false,
    rpAdv := if st == .unattachedSrc then .dflt else .none, rpSeen := .none, vconnOn := false, raSeen := false,
    vconnTrip := false, dbAttach := false, leaving := false, safeDef := false, tryDone := false, erBack := false, ccHeld := false }

/-- The Unattached state of a port's role: Unattached.SRC for a source, Unattached.SNK otherwise (R109, R115). -/
def Port.restState (x : Port) : TcState :=
  if cfgRole (x.cfgPend.getD x.cfg) == 0 then .unattachedSrc else .unattachedSnk

def State.toUnattached (s : State) (p : PortId) : State := s.enterUnattached p (s.port p).restState

/-- The mode of a port's two VBUS monitors: FAST while its group is powered, else off (Tables 1.2, 14.10). -/
def State.monitorMode (s : State) (p : PortId) : CompMode := if s.groupOn p && !s.sys.resetLow then .fast else .off

/-- The mode of its CC comparators: WATCH, on AON's LFO, in SLEEP (Table 14.10). -/
def State.ccMode (s : State) (p : PortId) : CompMode :=
  if s.sys.pwr == .sleep then .watch else if s.groupOn p && !s.sys.resetLow then .brisk else .off

/-- The fixed settings of a VBUS monitor: its filter M, the step of its window in mV, and its two fixed levels in mV (Table 14.10). -/
def monitorM : Nat := 5
def windowLsb (p : PortId) : Nat := if isE p then 60 else 30
def monitorLevels : Nat × Nat := (700, 4000)

/-- Both VBUS monitors of a port are powered (R506). -/
def State.monitorsOn (s : State) (p : PortId) : Bool := s.monitorMode p != .off

/-- What leaving an attach ends, by detach, disable or ErrorRecovery: swap, VDM, Ledger mode, PD and the demand; EPR mode
ends; VBUS and VCONN are removed (R132, R160, R208).
DEDUCED, unsafe: log entry 23. DEDUCED, unsafe: log entry 27. -/
def State.leaveAttach (s : State) (p : PortId) : State :=
  let s := ((((s.swapAbort p 0x05).vdmAllEnd p 5).lmEnd p).eprExit p).prunDone p [0, 1] 5
  let s := (s.modPd p PdPort.cleared).modLm p fun l => { l with vdmVer := none, needHeld := false }
  let s := (s.openSwitch p).modSw p fun w => { w with reclose := false, ovBase := 0 }
  let s := if s.ember.donor == some p && s.sys.pwr != .ember then { s with ember.donor := none } else s
  (s.modCv p fun c => { c with vref := 0, refBus := false, ilim := 0 }).post (.release p)

/-- Once VBUS is at vSafe0V a port whose detach has qualified enters Unattached (R132). -/
def State.finishLeaving (s : State) (p : PortId) : State :=
  let x := s.port p
  if x.tc.leaving && x.tc.vbusMv ≤ 700 && x.sw.st != .discharge then s.toUnattached p else s

/-- Enters ErrorRecovery (R109). A port that was Disabled returns there, since only an enable leaves Disabled (R110).
DEDUCED, unsafe: log entry 22. -/
def State.errorRecovery (s : State) (p : PortId) : State :=
  let s := (s.leaveAttach p).portEvt p 6
  s.modTc p fun t => { t with
    state := .errorRecovery, erBack := t.state == .disabled || (t.state == .errorRecovery && t.erBack),
    cc1 := .opn, cc2 := .opn, oriented := false, rpAdv := .none, rpSeen := .none,
    vconnOn := false, leaving := false, dbAttach := false, ccHeld := false }

/-- ErrorRecovery for a fault of the port itself, whatever state it is in: one that is held or not READY only opens its switch, and enters
none, or is in ErrorRecovery already.
DEDUCED, unsafe: log entry 22. -/
def State.faultRecovery (s : State) (p : PortId) : State := if s.portReady p then s.errorRecovery p else s.openSwitch p

/-- The record of a withdrawal (Table 17.9, PATH_CELL).
DEDUCED, unsafe: log entry 21. DEDUCED, unsafe: log entry 32. -/
def State.postPathCell (s : State) (p : PortId) (cell : Nat) (base : Bool) : State :=
  let w := (s.port p).sw
  s.postRec 0x05 (byteOf p.val 0 :: (leBytes 2 w.cellsOut ++ [byteOf w.health 0] ++ leBytes 2 cell ++
    [if base then 1 else 0]))

/-- Withdraws a port (R246): ErrorRecovery for an attached port; the port is held, its READY bit 0, and SWSTATE reads
WITHDRAWN once a discharge has ended.
DEDUCED, unsafe: log entry 21. DEDUCED, unsafe: log entry 92. -/
def State.withdraw (s : State) (p : PortId) (cell : Nat) (base : Bool) : State :=
  if (s.port p).tc.held then s
  else
    let s := (s.postPathCell p cell base).swEvt p 10
    let s := if (s.port p).tc.state.attached then s.errorRecovery p else s.leaveAttach p
    let s := s.modTc p fun t => { t with
      state := .disabled, ready := false, held := true, erBack := false, enHeld := false, leaving := false, rpAdv := .none,
      cc1 := .opn, cc2 := .opn, dbAttach := false, ccHeld := false }
    s.modSw p fun w => { w with st := if w.st == .discharge then .discharge else .withdrawn }

/-- Attaches (R114, R120): the state and orientation, ATTACH, the roles of the attach, cleared energy counts. -/
def State.attach (s : State) (p : PortId) (st : TcState) (orient oriented src : Bool) : State :=
  let s := (s.portEvt p 0).count p.val 0x08 1
  let s := (s.modPd p PdPort.cleared).modCv p fun c => { c with energyOut := 0, energyIn := 0 }
  s.modTc p fun t => { t with
    state := st, orient := orient, oriented := oriented, dfp := src, attachSrc := src, safeDef := s.early,
    rpAdv := if src then .dflt else .none, vconnMine := src, vconnSwap := false, ccHeld := false,
    rpSeen := if src then .none else ccRp (if orient then t.cc2 else t.cc1) }

/-- Posts the attach demand of a role; before the Ledger is ready none is posted (R84, R116). -/
def State.attachDemand (s : State) (p : PortId) (sink : Bool) : State :=
  if s.early then s else s.postDemand p ((s.port p).attachDemand sink) .attach sink false

/-- Enters Attached.SRC or UnorientedDebugAccessory.SRC: the demand, and prebias (R116, R259). -/
def State.attachSource (s : State) (p : PortId) (st : TcState) (orient oriented ra : Bool) : State :=
  let s := s.attach p st orient oriented true
  let s := (s.modTc p fun t => { t with raSeen := ra }).attachDemand p false
  s.applyVbus p

/-- Enters Attached.SNK or DebugAccessory.SNK: the demand, and the closing (R121). A converter without parameters sets
PARAMERR (R259). -/
def State.attachSink (s : State) (p : PortId) (st : TcState) (orient oriented : Bool) : State :=
  let s := (s.attach p st orient oriented false).attachDemand p true
  let s := if s.paramOk p then s else s.cvEvt p 8
  (s.setIlim p).tryClose p

/-! ## The Ember start's progress (Table 3.9) -/

/-- The donor has reached a step. -/
def State.emberNote (s : State) (p : PortId) (k : Nat) : State :=
  if s.sys.pwr == .ember && s.ember.donor == some p && s.ember.step < k then { s with ember.step := k } else s

/-- A change of the Unconstrained Power flag, seen against its value before: each source that has sent capabilities sends them
again, and in a Revision 3.x contract an Alert with Source Input Change first (Table 5.4).
DEDUCED, unsafe: log entry 42. -/
def State.flagChange (s : State) (was : Bool) : State :=
  if s.unconstrained == was then s
  else s.eachPort fun s p =>
    let x := s.port p
    s.when (x.sw.st == .closed && x.pdSrc && !x.pd.offered.isEmpty) fun s =>
      (s.when (x.pd.hasContract && x.pd.rev3) fun s => s.trigger p .alertInput).trigger p .negotiation

/-- Step 10: HBISO_N is pulled low. -/
def State.emberIsolate (s : State) (p : PortId) : State :=
  if s.sys.pwr == .ember && s.ember.donor == some p && s.ember.step < 10 then
    ({ s with
      ember.step := 10, sys.hbisoLow := true,
      ledger.islChg := s.ledger.islChg || !s.sys.hbisoLow } : State).flagChange s.unconstrained
  else s

/-! ## Feeding and forming (R264, R279) -/

/-- The port is a forming source: the Ember donor, a bridge sink end, or one that signalled a Fast Role Swap (R279). -/
def State.formingSrc (s : State) (p : PortId) : Bool :=
  let x := s.port p
  x.snkAtt && (x.cv.ember || s.ember.donor == some p || (s.ledger.bridges.any fun b => b.snk == p) ||
    x.pd.frSink)

/-- The VREF code of a feeding sink: its contract's voltage, or vSafe5V with none (R265). -/
def Port.refCode (x : Port) : Nat := (if x.pd.hasContract then x.pd.terms.v else 500) / 2

/-- A forming source that may form: it holds a sink contract, or is the Ember donor, which may hold none (R90, R279). -/
def State.mayForm (s : State) (p : PortId) : Bool :=
  s.formingSrc p && ((s.port p).pd.hasContract || (s.port p).cv.ember || s.ember.donor == some p)

/-- A feeding converter changes to forming, and one that R275 stopped while it fed is restarted by the rules of islanding (R275,
R279). -/
def State.formOne (s : State) (p : PortId) : State :=
  if s.mayForm p && (s.port p).cv.dir = 2 then
    ((s.modCv p fun c => { c with dir := 3 }).formRef p).setIlim p
  else if s.mayForm p && (s.port p).cv.stopped = 2 then s.modCv p fun c => { c with stopped := 0 }
  else s

/-- A forming converter changes to feeding (R282). -/
def State.feedOne (s : State) (p : PortId) : State :=
  if (s.port p).cv.dir = 3 then
    (s.modCv p fun c => { c with
      dir := 2, vref := (s.port p).refCode, refBus := false, atTarget := true, slewing := false }).setIlim p
  else s

/-- While HBISO_N is low the forming sources form, and a port that is one no longer feeds (R279, R284). -/
def State.reForm (s : State) : State :=
  if s.sys.hbisoLow && !s.ledger.joining then
    s.eachPort fun s p => if s.mayForm p then s.formOne p else s.feedOne p
  else s

/-- A sink whose switch is closed starts its converter in reverse, feeding, bounded by its grant (R264, R270); while
islanded a forming source waits for its dwell instead (R279). Before the Ledger is ready reverse conversion is not started
(Table 3.7). -/
def State.startReverse (s : State) (p : PortId) : State :=
  let x := s.port p
  if x.snkAtt && x.sw.st == .closed && x.sw.sinkDir && x.cv.dir == 0 && x.cv.stopped == 0 && !s.early then
    if s.sys.hbisoLow && s.formingSrc p then s
    else (s.convStart p 2 (x.refCode)).setIlim p
  else s

/-! ## Hard Reset (R174 to R176) -/

/-- What sending or receiving Hard Reset does in both roles: counters and contract go, roles return to those of the
attach, EPR and Ledger mode end, a swap and a VDM in progress end, the cable's revision is not known, and a Soft_Reset by
PORT_RESET is escalated. CAPMISMATCH goes with the contract's terms.
DESIGN CHOICE, unsafe: log entry 98. DESIGN CHOICE, unsafe: log entry 123. -/
def State.hrCommon (s : State) (p : PortId) : State :=
  let s := (s.pdEvt p 1).count p.val 0x07 1
  let s := ((((s.swapAbort p 0x06).vdmAllEnd p 6).lmEnd p).eprExit p).prunDone p [0] 1
  let s := s.modPd p fun d => { d with
    contract := .none, rev := 0, txRev := 2, revSet := false, terms := Terms.reset, nxt := none, obj := none, nxtObj := none,
    hrCount := min 2 (d.hrCount + 1), capsCount := 0, txId := 0, txId1 := 0, txId2 := 0, rxId := none, rxId1 := none,
    rxId2 := none, tx := none, tries := 0, txQ := [], ams := .none, trig := [], ng := false, sinkTxWait := false,
    offered := [], srcCaps := [], asked := none, bist := 0, chunk := none, auth := none, sinkSlew := false, capsSent := false,
    srAccept := false, cableRev := 2, waitRx := false, waitCaps := false, frSink := false, startDue := false }
  let s := s.modSw p fun w => { w with ovBase := 0 }
  s.modTc p fun t => { t with dfp := t.attachSrc, vconnMine := t.attachSrc, vconnSwap := false }

/-- After an opening whose next step restores vSafe5V, recovery stops at 5.00 V and PRAILn is held there (R272).
DEDUCED, unsafe: log entry 28. -/
def State.holdRail (s : State) (p : PortId) : State :=
  let x := s.port p
  if x.srcAtt && x.cv.dir == 0 && x.cv.stopped == 0 && x.sw.st != .closed && x.sw.st != .softstart && 45 ≤ s.grantOf p then
    s.prebias p
  else s

/-- The grant the port keeps is that of the role it now has (R175).
DEDUCED, unsafe: log entry 46. -/
def State.keepGrant (s : State) (p : PortId) (sink : Bool) : State := s.modLg p fun l => { l with sink := sink }

/-- The sequence of R175 after a Hard Reset sent or received. A port that a swap had made the other role returns to the
role of its attach and keeps its grant.
DEDUCED, unsafe: log entry 46. -/
def State.hrSequence (s : State) (p : PortId) : State :=
  let x := s.port p
  let s := s.hrCommon p
  if x.tc.attachSrc then
    let s := if x.snkAtt then
        ((s.openSwitch p).modTc p fun t => { t with state := .attachedSrc, rpSeen := .none }).keepGrant p false
      else s
    ((s.modPd p fun d => { d with hr := .srcWait }).setRp p).holdRail p
  else
    let s := if x.srcAtt then
        ((s.openSwitch p).modTc p fun t => { t with state := .attachedSnk, rpAdv := .none }).keepGrant p true
      else s.openSwitch p
    s.modPd p fun d => { d with hr := .sink (decide (x.tc.vbusMv < 4000)) }

/-- Sends Hard Reset (R174). -/
def State.hardReset (s : State) (p : PortId) : State := s.hrSequence p

/-! ## Protective openings (R224 to R228) -/

/-- The record of an opening (Table 17.9, PATH_TRIP); the current is in mA.
DEDUCED, unsafe: log entry 30. -/
def State.postTrip (s : State) (p : PortId) (bits : Nat) (ma : Int) : State :=
  let x := s.port p
  s.postRec 0x04 (byteOf p.val 0 :: (leBytes 2 bits ++ [byteOf (BitVec.ofInt 8 x.sw.temp).toNat 0] ++
    leBytes 2 x.pd.terms.v ++ leBytes 2 (BitVec.ofInt 16 (ma / 10)).toNat ++ [byteOf x.sw.tripCnt 0]))

/-- After a protective opening: ErrorRecovery at the third, Hard Reset with a contract, a later reclose without one
(R227, R228). -/
def State.afterTrip (s : State) (p : PortId) : State :=
  let x := s.port p
  if 3 ≤ x.sw.tripCnt then (s.modSw p fun w => { w with holdNext := true }).errorRecovery p
  else if x.pd.hasContract then s.hardReset p
  else s.modSw p fun w => { w with reclose := true }

/-- A protective opening: the switch opens over the trip wire, the opening is counted, each SWEVT bit given is set with
one PATH_TRIP record, and the Status flags of Table 5.3 are kept.
DEDUCED, unsafe: log entry 30. -/
def State.protectiveOpen (s : State) (p : PortId) (bits : List Nat) (stFlag : BitVec 3) (ma : Int) : State :=
  let x := s.port p
  if x.sw.st == .softstart || x.sw.st == .closed then
    let s := (s.openSwitch p).count p.val 0x0A 1
    let s := s.modSw p fun w => { w with tripCnt := w.tripCnt + 1 }
    let s := bits.foldl (fun s b => s.swEvt p b) s
    let s := if bits.isEmpty then s else s.postTrip p (bits.foldl (fun n b => n + 2 ^ b) 0) ma
    (s.modPd p fun d => { d with stFlags := d.stFlags ||| stFlag }).afterTrip p
  else s

end Sys2Proof.Machine
end

