-- ==== Sys2Proof/Machine/PdOps.lean ====
section
/-!
DEFINITION. What the policy engine's messages share: capabilities, requests and their answers, contracts, starting an
AMS, resets by message, and the gate every received message passes (chapter 5).
-/
namespace Sys2Proof.Machine

/-! ## Contracts -/

/-- A contract's power in coins, rounded up. -/
def Terms.coins (t : Terms) : Nat := demandOf t.v t.i

/-- The reference code of a voltage: 20 mV steps (Table 8.5). -/
def vrefCode (v : Nat) : Nat := v / 2

/-- Starts the AMSs due once after the first explicit contract with a Revision 3.x partner (Table 5.4, R149), and the
Alert due after a Hard Reset caused by an overcurrent or short-circuit opening.
DEDUCED, unsafe: log entry 41. -/
def State.afterContract (s : State) (p : PortId) : State :=
  let x := s.port p
  if x.pd.rev3 then
    let s := s.when (x.pdSrc && x.pd.alertDue) fun s => (s.modPd p fun d => { d with alertDue := false }).trigger p .alertOcp
    let s := s.when (x.pdSrc && !x.pd.askedSinkCap) fun s =>
      (s.modPd p fun d => { d with askedSinkCap := true }).trigger p .getSinkCap
    let s := s.when (x.pdSnk && !x.pd.askedExt) fun s =>
      (s.modPd p fun d => { d with askedExt := true }).trigger p .getSourceCapExt
    s.when (!x.pd.askedRev) fun s => (s.modPd p fun d => { d with askedRev := true }).trigger p .getRevision
  else s

/-- A transition ends and its contract is in force: CONTRACT, the Hard Reset counter back to 0 (R176), the limit, and a
feeding sink's reference (R265); the Ember donor goes on to step 10 of Table 3.9. -/
def State.makeContract (s : State) (p : PortId) : State :=
  let s := s.modPd p fun d => { d with
    contract := .explicit, terms := d.nxt.getD d.terms, obj := if d.nxt.isSome then d.nxtObj else d.obj, nxt := none, nxtObj := none,
    hrCount := 0, sinkSlew := false, capsCount := 0,
    waitRx := false }
  let s := (s.pdEvt p 0).modCv p fun c => { c with
    standby := false, vref := if c.dir = 2 || c.stopped = 2 then (s.port p).refCode else c.vref }
  (((s.setIlim p).afterContract p).amsEnd p).emberIsolate p

/-! ## Offering as source (R157, R161) -/

/-- The greatest power among some offers. -/
def offersPower (o : List Offer) : Nat := maxOf (o.map offerPower)

/-- An extended message: more than 26 bytes go in chunks, the first at once (R143). -/
def State.sendExt (s : State) (p : PortId) (ty : Mt) (d : List Byte) : State :=
  if d.length ≤ 26 then s.send p ty [] d
  else (s.modPd p fun x => { x with chunk := some (d, 1, true), chunkTy := ty }).send p ty [] (d.take 26)

/-- The bytes of data objects carried by an extended message. -/
def wordBytes (v : List Word) : List Byte := v.flatMap fun w => leBytes 4 w.toNat

/-- Sends capabilities: EPR ones as an extended message; Source_Info reports the greatest power in the last sent (Table 5.3). -/
def State.sendObjs (s : State) (p : PortId) (epr unc : Bool) (o : List Offer) : State :=
  let v := s.capWords p epr unc o
  let s := s.modPd p fun d => { d with reported := offersPower o }
  if epr then s.sendExt p .eprSourceCaps (wordBytes v) else s.send p .sourceCaps v []

/-- Sends the capabilities built from the present grant, and none below 45 coins (R116, R162). A negotiation that waits is this
one (R145, R154). -/
def State.sendCaps (s : State) (p : PortId) : State :=
  let s := s.takeTables p
  let g := s.grantOf p
  if g < 45 then s.amsEnd p
  else
    let o := s.buildOffers p g
    let s := s.modPd p fun d => { d with
      ams := .negotiation, offered := o, capsCount := d.capsCount + 1, capsSent := false,
      trig := d.trig.filter fun a => a != .negotiation && a != .regrant }
    s.sendObjs p (s.port p).pd.epr s.unconstrained o

/-- The built capabilities differ from those last sent (Table 5.4, R145).
DEDUCED, unsafe: log entry 42. -/
def State.capsAltered (s : State) (p : PortId) : Bool := s.buildOffers p (s.grantOf p) != (s.port p).pd.offered

/-- VBUS has reached vSafe5V as source: cable discovery on an E-port sourcing VCONN, then power negotiation (Table 5.4);
a debug accessory starts no PD (R119). -/
def State.startPd (s : State) (p : PortId) : State :=
  let x := s.port p
  if x.pdSrc && x.pd.contract != .stopped then
    if x.tc.vconnOn && !x.pd.cableOk && x.pd.discTries < 20 then s.trigger p .discoverCable else s.trigger p .negotiation
  else s

/-! ## Answering a request (R163, Table 5.7) -/

/-- The offer a request names. -/
def PdPort.offerAt (d : PdPort) (pos : Nat) : Option Offer := d.offered.find? fun o => o.pos == pos

/-- The terms of a request against the offer it names. -/
def offerTerms (o : Offer) (w : Word) : Terms :=
  let (v, i) := rdoTerms o.e.kind o.e.vlo w
  ⟨if o.e.kind == 1 then 0 else if o.e.kind == 2 then 1 else 2, o.pos, v, i, rdoMis w⟩

/-- Accepts a request: the references are written, Accept is sent and the transition begins (R163, Table 1.4). Until PS_RDY
the contract in PDSTATUS, CONTRACTV and CONTRACTI is the old one, but for CAPMISMATCH, which is the accepted request's; the
overvoltage threshold is that of the higher voltage (R225).
DESIGN CHOICE, unsafe: log entry 98. -/
def State.acceptRequest (s : State) (p : PortId) (w : Word) : State :=
  match (s.port p).pd.offerAt (rdoPos w) with
  | none => s
  | some o =>
    let t := offerTerms o w
    let s := s.modPd p fun d => { d with
      contract := .transition, oldV := if d.hasContract then d.terms.v else 500, nxt := some t, nxtObj := some o, rdo := w,
      asked := none, sinkSlew := false,
      terms := { d.terms with mis := t.mis }, ams := if d.ams == .none then .partner else d.ams }
    let s := s.modCv p fun c => { c with
      vref := vrefCode t.v, ilim := ilimCode (if t.ctype = 1 then t.i else t.i / 5 * 5), slewDue := true }
    let s := s.modSw p fun w => { w with ovBase := max (s.port p).pd.oldV t.v }
    s.sendCtl p .accept

/-- Answers a request with a control message. -/
def State.answerRequest (s : State) (p : PortId) (m : Mt) : State :=
  (s.modPd p fun d => { d with asked := none, ams := if d.ams == .none then .partner else d.ams }).sendCtl p m

/-- The sink's stated need in coins: the LM_NEED it made in the attach, its EPR operational PDP, or the greatest power in its
Sink_Capabilities (R160, R207); none while unknown.
DEDUCED, unsafe: log entry 45. -/
def Port.statedNeed (x : Port) : Option Nat :=
  if x.lm.needHeld then some (bitsOf x.lm.need.toNat 31 16)
  else if x.pd.epr && x.pd.eprPdp != 0 then some x.pd.eprPdp
  else if x.pd.sinkCaps.isEmpty then none else some (maxOf (x.pd.sinkCaps.map pdoPower))

/-- The size of an upgrade demand for an entry: its table power, capped by SWCEIL (R245), by cable and by the stated need (R160).
DEDUCED, unsafe: log entry 45. -/
def State.upgradeSize (s : State) (p : PortId) (e : Entry) : Nat :=
  let x := s.port p
  let t := min (srcPower e) (min (e.vhi * x.sw.ceil (isE p) / 1000) (e.vhi * s.cableCur p / 1000))
  match x.statedNeed with
  | some n => min t n
  | none => t

/-- A request's first step: answered at once, or a demand is posted and its answer waits for the decision. -/
def State.handleRequest (s : State) (p : PortId) (w : Word) : State :=
  let x := s.port p
  match x.pd.offerAt (rdoPos w) with
  | none => s.answerRequest p .reject
  | some o =>
    if !rdoWithin o w then s.answerRequest p .reject
    else
      let t := offerTerms o w
      let within := t.v * t.i ≤ s.grantOf p * 1000
      if within && (!t.mis || s.early) then s.acceptRequest p w
      else if s.early then s.answerRequest p .reject
      else if t.mis && x.lg.standing && x.lg.upgrade && x.lg.outcome == 3 then
        if x.pd.hasContract then s.answerRequest p .wait
        else if within then s.acceptRequest p w else (s.answerRequest p .reject).trigger p .negotiation
      else
        let s := s.modPd p fun d => { d with asked := some (w, !within), ams := if d.ams == .none then .partner else d.ams }
        if t.mis then s.postDemand p (s.upgradeSize p o.e) .upgrade false true
        else s.postDemand p t.coins .restore false false

/-- Accepts a request that the grant covers now; one it does not is answered Reject, and new capabilities follow (R22). -/
def State.acceptCovered (s : State) (p : PortId) (w : Word) : State :=
  match (s.port p).pd.offerAt (rdoPos w) with
  | none => s.answerRequest p .reject
  | some o =>
    let t := offerTerms o w
    if t.v * t.i ≤ s.grantOf p * 1000 then s.acceptRequest p w else (s.answerRequest p .reject).trigger p .negotiation

/-- The answer the decision gives a waiting request (Table 5.7): the outcome, and whether the grant rose. -/
def State.answerAsked (s : State) (p : PortId) (rose : Bool) : State :=
  let x := s.port p
  match x.pd.asked with
  | none => s
  | some (w, beyond) =>
    let o := x.lg.outcome.toNat
    let c := x.pd.hasContract
    if o == 1 then
      if beyond then s.acceptCovered p w else (s.acceptCovered p w).trigger p .negotiation
    else if o == 2 then
      if beyond then (s.answerRequest p .reject).trigger p .negotiation
      else (s.acceptCovered p w).when rose fun s => s.trigger p .negotiation
    else if beyond then
      if o == 3 && c then s.answerRequest p .wait else (s.answerRequest p .reject).trigger p .negotiation
    else if c then s.answerRequest p (if o == 3 then .wait else .reject)
    else s.acceptCovered p w

/-! ## Requesting as sink (R158, R165, R90) -/

/-- The highest voltage of a port class in 10 mV (Table 0.6). -/
def classVolts (e : Bool) : Nat := if e then 4800 else 2000

/-- The Ember donor's choice: within the port class, the object of greatest power not above the ceiling, the higher voltage between
equal powers (R90). Fixed objects alone are considered.
DESIGN CHOICE, unsafe: log entry 111. -/
def emberChoice (e : Bool) (cap : Nat) (caps : List Word) : Word × Terms :=
  let c := (positions 1 caps).foldl (fun (acc : Cand) pw =>
    let o := pdoEntry pw.2
    if o.kind == 1 && o.vlo ≤ classVolts e then
      betterCand acc ⟨pw.1, o.vlo, min (min o.limit (classCeil e)) (cap * 1000 / o.vlo), o.limit⟩
    else acc) ⟨1, 500, 0, 0⟩
  (rdoWord c.pos false e (c.i * 2 ^ 10 + c.i), ⟨0, c.pos, c.v, c.i, false⟩)

/-- The request the port would send to some capabilities now.
DEDUCED, unsafe: log entry 26. -/
def State.requestFor (s : State) (p : PortId) (caps : List Word) : Word × Terms :=
  let x := s.port p
  if s.ember.donor == some p && s.sys.pwr == .ember then emberChoice (isE p) x.lg.grant caps
  else if s.early && x.tc.safeDef then chooseRequest (isE p) 90 45 true x.snk caps
  else chooseRequest (isE p) (classCeil (isE p)) x.lg.grant (3 ≤ x.lg.outcome.toNat) x.snk caps

/-- Sends the Request, or in EPR mode the EPR_Request with a copy of the object it names. -/
def State.sendRequest (s : State) (p : PortId) : State :=
  let s := s.takeTables p
  let x := s.port p
  match x.pd.srcCaps with
  | [] => s.modPd p fun d => { d with ams := .none }
  | caps =>
    let (w, t) := s.requestFor p caps
    let s := (s.modPd p fun d => { d with ams := .request, rdo := w, nxt := some t }).emberNote p 7
    if x.pd.epr then s.send p .eprRequest [w, caps.getD (t.pos - 1) 0] [] else s.send p .request [w] []

/-- The Ember donor keeps the contract of the start while its grant covers it (R93).
DEDUCED, unsafe: log entry 20. -/
def State.donorKeeps (s : State) (p : PortId) : Bool :=
  s.ember.donor == some p && (s.port p).pd.terms.coins ≤ s.grantOf p

/-- A sink's reaction to a changed grant: the converter's limit, and a new Request where it would differ (R165).
DEDUCED, unsafe: log entry 26. -/
def State.sinkGrant (s : State) (p : PortId) : State :=
  let x := s.port p
  let s := s.setIlim p
  if x.pd.contract == .explicit && !s.donorKeeps p && (s.requestFor p x.pd.srcCaps).1 != x.pd.rdo then s.trigger p .request else s

/-- A source's terms and their object: those accepted in a transition, else those in force. -/
def PdPort.held (d : PdPort) : Terms × Option Offer :=
  match d.nxt with
  | some t => (t, d.nxtObj)
  | none => (d.terms, d.obj)

/-- The bounded current of R161 at the contract voltage of a source, for the object as it was offered, never above the contract's
current (R164, R245). -/
def State.contractBound (s : State) (p : PortId) (g : Nat) : Nat :=
  let t := (s.port p).pd.held.1
  min t.i (match (s.port p).pd.held.2 with
    | some o => if o.e.kind == 3 then s.boundOf p o.e g * 1000 / t.v else s.boundOf p { o.e with vlo := t.v, vhi := t.v } g
    | none => g * 1000 / t.v)

/-- A source's reaction to its grant: with a contract, in force or in transition, whose power the grant does not cover, the limit
within the cycle and a negotiation (R164), a slew under way completing first (Table 8.10); new capabilities where a change of the grant alters them (Table 5.4); the Rp level and VBUS with no
contract (R117, R118); losing the 45 coins ends a soft-start (R217). -/
def State.sourceGrant (s : State) (p : PortId) (chg : Bool) : State :=
  let x := s.port p
  if x.pd.hasContract then
    let g := s.grantOf p
    let short := g < x.pd.held.1.coins && !(x.pd.contract == .transition && x.cv.slewing)
    let s := s.when short fun s => s.modCv p fun c => { c with ilim := ilimCode (s.contractBound p g) }
    s.when ((chg || short) && s.capsAltered p && x.pdSrc) fun s => s.trigger p .regrant
  else
    let s := if s.grantOf p < 45 && x.sw.st == .softstart && !x.sw.sinkDir then s.openSwitch p else s
    let s := (s.setRp p).applyVbus p
    s.when (chg && x.sw.st == .closed && x.pdSrc && !x.pd.offered.isEmpty && s.capsAltered p) fun s =>
      s.trigger p .regrant

/-! ## Resets by message (R141, R173) -/

/-- Both counters of a SOP type go back to their start (R141). -/
def PdPort.resetSop (d : PdPort) : Sop → PdPort
  | .sop => { d with txId := 0, rxId := none }
  | .sop1 => { d with txId1 := 0, rxId1 := none }
  | .sop2 => { d with txId2 := 0, rxId2 := none }

/-- The contract after a transition that a reset by message ends: the old one where there was one. -/
def PdPort.keptContract (d : PdPort) : Contract :=
  if d.contract == .transition then (if d.terms.ctype = 3 then .none else .explicit) else d.contract

/-- A notice unanswered, or answered NAK or BUSY: not resent, and after three in a row no more (R206). -/
def State.noticeFailed (s : State) (p : PortId) : State :=
  s.modLm p fun l => { l with
    waiting := false, noAck := true, noAckRun := l.noAckRun + 1, muted := l.muted || Nat.ble 2 l.noAckRun }

/-- LM_VERSION fails: Ledger mode ends; a DFP sends Exit Mode, and a UFP answers every command NAK (R202).
DEDUCED, unsafe: log entry 47. -/
def State.lmVersionFail (s : State) (p : PortId) : State :=
  let s := s.lmEnd p
  if (s.port p).tc.dfp then s.trigger p .exitMode else s.modLm p fun l => { l with failed := true }

/-- What a reset by message ends: a VDM_SEND as one with no answer, a notice as one unanswered, LM_VERSION as failed, and a swap
whose messages have begun (R201, R202, R206). -/
def State.cutSteps (s : State) (p : PortId) : State :=
  let x := s.port p
  let s := if x.swap.stage == .none || x.swap.stage == .probe || x.swap.stage == .pending then s
    else s.swapDone p 0x00 0x04 true
  match x.pd.ams with
  | .vdm => match x.lm.run with
    | some r => (if r.op = 1 && r.step == 5 then s.lmVersionFail p else s).vdmDone p 3 (r.op = 1) []
    | none => s
  | .notice => s.noticeFailed p
  | .lmVersion => s.lmVersionFail p
  | _ => s

/-- What was being sent or exchanged is dropped, and the AMS ends (R145, R151, R173). -/
def State.cutAms (s : State) (p : PortId) : State :=
  (s.cutSteps p).modPd p fun d => { d with
    tx := none, txQ := [], tries := 0, ams := .none, asked := none, nxt := none, nxtObj := none, capsSent := false,
    sinkTxWait := false, srAccept := false, chunk := none, contract := d.keptContract }

/-- Sends Soft_Reset: what was being sent is dropped (R173). -/
def State.softReset (s : State) (p : PortId) : State :=
  let s := (s.pdEvt p 2).count p.val 0x06 1
  ((s.cutAms p).modPd p fun d => { d.resetSop .sop with ams := .softReset }).sendCtl p .softReset

/-- A sink under a Revision 3.x contract may start an AMS only while it reads SinkTxOk; any other port may (R146). -/
def Port.sinkTxOk (x : Port) : Bool := !(x.pdSnk && x.pd.hasContract && x.pd.rev3) || x.tc.rpSeen == .a30

/-- Soft_Reset as an AMS of Table 5.4: under a Revision 3.x contract a source changes to SinkTxNG and waits tSinkTx first, and a
sink that reads SinkTxNG waits for SinkTxOk (R144, R146). -/
def State.askSoftReset (s : State) (p : PortId) : State :=
  let x := s.port p
  let ca := x.pd.hasContract && x.pd.rev3
  if x.pdSrc && ca && !x.pd.ng then
    ((s.cutAms p).modPd p fun d => { d with ams := .softReset, ng := true, sinkTxWait := true }).setRp p
  else if !x.sinkTxOk then
    (s.cutAms p).modPd p fun d => { d with trig := .softReset :: d.trig.filter fun a => a != .softReset }
  else s.softReset p

/-- The device's FR_Swap awaits its answer: anything but Accept leads to ErrorRecovery (R191). -/
def SwapPort.frSent (w : SwapPort) : Bool := w.kind == .fr && w.stage == .sent

/-- A protocol error: Hard Reset between Accept and PS_RDY of a power transition, a power role swap's included, and where
Soft_Reset is not answered with Accept; ErrorRecovery where FR_Swap is not; Soft_Reset anywhere else, to which an own swap
already sent yields (R151, R173, R191, R196). -/
def State.protocolError (s : State) (p : PortId) : State :=
  let x := s.port p
  if x.pd.contract == .transition || x.swap.running || (x.pd.ams == .softReset && !x.pd.sinkTxWait) then s.hardReset p
  else if x.swap.frSent then s.errorRecovery p
  else (if x.swap.stage == .sent then s.swapDone p 0x52 0x07 true else s).askSoftReset p

/-! ## The gate of received messages (R140 to R147) -/

/-- The receive MessageID of a SOP type. -/
def PdPort.rxOf (d : PdPort) : Sop → Option (BitVec 3)
  | .sop => d.rxId | .sop1 => d.rxId1 | .sop2 => d.rxId2

def PdPort.setRx (d : PdPort) (k : Sop) (v : BitVec 3) : PdPort :=
  match k with
  | .sop => { d with rxId := some v } | .sop1 => { d with rxId1 := some v } | .sop2 => { d with rxId2 := some v }

/-- The port receives PD on a SOP type: SOP in a PD role, SOP' and SOP'' on an E-port that sources VCONN (R140); none once PD
has stopped (R177), in BIST Carrier Mode (Table 5.2), or while the engine has no clock (Table 15.3).
PRESUMED, unsafe: log entry 132. -/
def State.receives (s : State) (p : PortId) (k : Sop) : Bool :=
  let x := s.port p
  s.portReady p && s.engineClk && !x.tc.leaving && (x.pdSrc || x.pdSnk) && x.pd.contract != .stopped && x.pd.bist != 1 &&
    (k == .sop || (isE p && x.tc.vconnOn))

/-- A message is new: its MessageID differs from the last of its SOP type (R141). -/
def State.fresh (s : State) (p : PortId) (h : RxHdr) : Bool := (s.port p).pd.rxOf h.sop != some h.id

/-- Starts GoodCRC to a message (R142). -/
def State.sendGoodCrc (s : State) (p : PortId) (h : RxHdr) : State :=
  s.modPd p fun d => { d with ack := some (h.sop, h.id) }

/-- Takes a new message in: its GoodCRC, its MessageID, the partner heard on SOP, and a start of the device's own that the sink's
message overtakes: it is dropped, Rp returns to SinkTxOk, and it waits to be started anew (R141, R142, R145, R176). -/
def State.takeMsg (s : State) (p : PortId) (h : RxHdr) : State :=
  let drop := (s.port p).pd.sinkTxWait
  let s := ((s.sendGoodCrc p h).modPd p fun d =>
    let d := { d.setRx h.sop h.id with heard := d.heard || h.sop == Sop.sop }
    if d.sinkTxWait then
      { d with sinkTxWait := false, ng := false, ams := .none, trig := if d.trig.contains d.ams then d.trig else d.ams :: d.trig }
    else d).count p.val 0x02 1
  if drop then s.setRp p else s

/-- What a message does once taken in: nothing more in BIST Test Data (Table 5.2).
PRESUMED, unsafe: log entry 132. -/
def State.act (s : State) (p : PortId) (f : State → State) : State := if (s.port p).pd.bist = 2 then s else f s

/-- Handles a received message of any kind: nothing where it is not received, and its GoodCRC alone where it is a repeat. -/
def State.onAny (s : State) (p : PortId) (h : RxHdr) (f : State → State) : State :=
  if s.receives p h.sop then (if s.fresh p h then (s.takeMsg p h).act p f else s.sendGoodCrc p h) else s

/-- Handles a received message that does not answer a Soft_Reset: while one of the device's awaits its Accept it causes Hard
Reset (R173). -/
def State.onMsg (s : State) (p : PortId) (h : RxHdr) (f : State → State) : State :=
  s.onAny p h fun s =>
    if (s.port p).pd.ams == .softReset && h.sop == .sop then s.hardReset p else f s

/-- The partner's revision, from its first Request or Source_Capabilities: the device uses the lower of 0b10 and that of the
header (R147). -/
def State.setRev (s : State) (p : PortId) (h : RxHdr) : State :=
  s.modPd p fun d => if d.revSet then d
    else { d with revSet := true, txRev := if h.rev.toNat < 2 then h.rev else 2, rev := if h.rev.toNat < 2 then 1 else 2 }

/-- The AMS is one the device started. -/
def Ams.own (a : Ams) : Bool := a != .none && a != .partner

/-- A message that opens an AMS of the partner's is unexpected in a power transition, and while an AMS of the device's own, its
first message sent, has not ended (R151, R154). -/
def State.serve (s : State) (p : PortId) (f : State → State) : State :=
  let x := s.port p
  if x.pd.contract == .transition || x.swap.running || (x.pd.ams.own && !x.pd.sinkTxWait) then s.protocolError p else f s

/-- An answer to a message that opens an AMS of the partner's. -/
def State.reply (s : State) (p : PortId) (ty : Mt) (objs : List Word) (ext : List Byte) : State :=
  (s.modPd p fun d => { d with ams := if d.ams == .none then .partner else d.ams }).send p ty objs ext

/-- An extended answer. -/
def State.replyExt (s : State) (p : PortId) (ty : Mt) (d : List Byte) : State :=
  (s.modPd p fun x => { x with ams := if x.ams == .none then .partner else x.ams }).sendExt p ty d

/-- An unsupported or unrecognised message (R151, R191). -/
def State.unsupported (s : State) (p : PortId) : State :=
  if (s.port p).swap.frSent then s.errorRecovery p else s.reply p (if (s.port p).pd.rev3 then .notSupported else .reject) [] []

/-- A message of Revision 3.x only: unrecognised from a Revision 2.0 partner (R150). -/
def State.only3 (s : State) (p : PortId) (f : State → State) : State :=
  if (s.port p).pd.rev3 then f s else s.unsupported p

end Sys2Proof.Machine
end

