-- ==== Sys2Proof/Machine/SwapOps.lean ====
section
/-!
DEFINITION. What the swaps share: asking for and acting on a swap probe, accepting a swap, completing it, and arming for
and signalling a Fast Role Swap (R184 to R196).
-/
namespace Sys2Proof.Machine

/-- A swap is pending: from the ACCEPTED reply to its SWAP_REQ until its first message is sent (R196). -/
def SwapPort.pending (w : SwapPort) : Bool := w.own && (w.stage == .probe || w.stage == .pending)

/-- Starts a swap probe for the other role (R185). -/
def State.startProbe (s : State) (p : PortId) (own : Bool) : State :=
  let x := s.port p
  let toSrc := x.pdSnk
  (s.modSwap p fun w => { w with
    kind := .pr, stage := if own then .probe else .rxProbe, toSrc := toSrc, own := own, won := false }).post
      (.probe p (x.attachDemand (!toSrc)) (!toSrc) 0)

/-- The own swap is the next AMS; a DR_Swap of a DFP in Ledger mode follows its Exit Mode (R193, R196). -/
def State.swapFirst (s : State) (p : PortId) : State :=
  let s := s.trigFirst p .swap
  s.when ((s.port p).swap.kind == .dr && (s.port p).lm.mode) fun s => s.trigFirst p .exitMode

/-- The power role of a swap accepted: as new sink the source waits tSrcTransition; as new source the switch opens at once
and PRAILn is prebiased (step 4 of Tables 6.2 and 6.3). -/
def State.prAccepted (s : State) (p : PortId) : State :=
  let s := s.modPd p fun d => { d with ams := if d.ams == .none then .partner else d.ams }
  if (s.port p).swap.toSrc then
    (((s.modSwap p fun w => { w with stage := .psRdy }).openSwitch p).prebias p)
  else s.modSwap p fun w => { w with stage := .standby }

/-- Takes VCONN and sends PS_RDY, or waits for the partner's PS_RDY to give it up (R194, Table 6.5). A port that can no longer take
it neither takes it nor sends PS_RDY.
DEDUCED, unsafe: log entry 102. -/
def State.vconnAccepted (s : State) (p : PortId) : State :=
  if (s.port p).tc.vconnOn then s.modSwap p fun w => { w with stage := .psRdy }
  else
    let s := s.modSwap p fun w => { w with stage := .closing }
    if s.vconnOk p then
      (s.modTc p fun t => { t with vconnOn := true, vconnMine := true, vconnSwap := true }).sendCtl p .psRdy
    else s

/-- The data role changes (R193). -/
def State.drComplete (s : State) (p : PortId) : State :=
  ((s.modTc p fun t => { t with dfp := !t.dfp }).swapDone p 0x00 0x00 false).amsEnd p

/-- A waiting AMS that either power role starts: it outlasts a change of role (R154). -/
def Ams.eitherRole : Ams → Bool
  | .softReset | .vdm | .getRevision | .getStatus | .notice | .lmVersion | .exitMode | .discoverCable => true
  | _ => false

/-- Ends a power role swap: the new role's state and level, no contract until the new negotiation, the commit posted, and
the reply (step 8 of Tables 6.2 and 6.3, step 7 of Table 6.4). A swap with no reservation posts the new role's demand.
DESIGN CHOICE, unsafe: log entry 98. -/
def State.prComplete (s : State) (p : PortId) : State :=
  let w := (s.port p).swap
  let s := s.modPd p fun d => { d with
    contract := .none, terms := Terms.reset, nxt := none, offered := [], capsCount := 0, srcCaps := [], ams := .none,
    asked := none, capsSent := false, trig := d.trig.filter Ams.eitherRole, sinkTxWait := false, obj := none, nxtObj := none,
    ng := w.toSrc && d.rev3, startDue := w.toSrc, chunk := none, frSink := w.kind == .fr && !w.toSrc }
  let s := s.modSw p fun w => { w with ovBase := 0, blank := false }
  let s := if (s.port p).lg.resv.isSome then s.post (.commit p)
    else (s.post (.release p)).attachDemand p (!w.toSrc)
  let s := s.modTc p fun t => { t with
    state := if w.toSrc then .attachedSrc else .attachedSnk,
    rpAdv := if w.toSrc then (if (s.port p).pd.rev3 then .a15 else .dflt) else .none,
    rpSeen := if w.toSrc then .none else t.rpSeen }
  s.swapDone p 0x00 0x00 false

/-- The Ledger's answer to a probe permits the swap (R185). -/
def probePermits (toSink : Bool) (outcome : BitVec 3) (coins : Nat) : Bool :=
  outcome = 1 || (outcome = 2 && (toSink || 45 ≤ coins))

/-- Acts on a probe's answer (R185, R190). -/
def State.probeAnswer (s : State) (p : PortId) : State :=
  let x := s.port p
  match x.lg.probe with
  | none => s
  | some (o, r, c) =>
    let s := s.modLg p fun l => { l with probe := none }
    if x.swap.stage == .probe || x.swap.stage == .rxProbe then
      let ok := probePermits (!x.swap.toSrc) o c
      if x.swap.stage == .probe then
        if ok then
          let s := s.modSwap p fun w => { w with stage := .pending }
          if x.swap.won then s.swapFirst p else s.trigger p .swap
        else s.swapDone p 0x50 0x08 false
      else if ok then (s.reply p .accept [] []).prAccepted p
      else
        let wait := o = 4 && (r = 1 || r = 2 || r = 5 || r = 6)
        (s.modSwap p fun w => { w with stage := .none }).reply p (if wait then .wait else .reject) [] []
    else if x.swap.frAsked then
      (s.modSwap p fun w => { w with frArmed := o = 1 }).modCv p fun k => { k with prebias := k.prebias || o = 1 }
    else s

/-! ## Fast Role Swap -/

/-- The Fast Role Swap current the partner's Sink_Capabilities ask for: 0 none, 1 Default, 2 1.5 A, 3 3.0 A. -/
def PdPort.frCurrent (d : PdPort) : Nat :=
  match d.sinkCaps with
  | w :: _ => bitsOf w.toNat 24 23
  | [] => 0

/-- The standby amount of a Fast Role Swap current (R190). -/
def frCoins (c : Nat) : Nat := if c == 1 then 45 else if c == 2 then 75 else 150

/-- The conditions of R190 and R184 but for the standby grant. -/
def State.frCond (s : State) (p : PortId) : Bool :=
  let x := s.port p
  x.pdSnk && cfgFrSwap x.cfg % 2 == 1 && x.pd.contract == .explicit && x.pd.rev3 && x.pd.terms.ctype == 0 &&
    !x.pd.epr && x.pd.frCurrent != 0 && s.ledger.ready && !s.bridged p

/-- Asks for the standby grant when the conditions first hold, and gives it back when they hold no longer. -/
def State.frCheck (s : State) (p : PortId) : State :=
  let w := (s.port p).swap
  if s.frCond p && !w.frAsked && w.stage == .none then
    (s.modSwap p fun w => { w with frAsked := true }).post
      (.probe p (frCoins (s.port p).pd.frCurrent) false (frCoins (s.port p).pd.frCurrent))
  else if !s.frCond p && !w.power then s.frDisarm p
  else s

/-- A source signals a Fast Role Swap on a house-bus loss, contract or none (R192); a power role swap already engaged goes on. -/
def State.frMaySignal (s : State) (p : PortId) : Bool :=
  let x := s.port p
  x.pdSrc && 2 ≤ cfgFrSwap x.cfg &&
    ((x.pd.sinkCaps.head?.map fun w => w.getLsbD 29).getD false) && x.pd.frCurrent != 0 && !x.swap.engaged

/-- Signals a Fast Role Swap: the signal is driven and the switch opens, not as a protective opening (R192). A swap that was
pending yields, and what was being sent is dropped.
DEDUCED, unsafe: log entry 29. -/
def State.frSignal (s : State) (p : PortId) (own : Bool) : State :=
  let s := if (s.port p).swap.stage == .none then s else s.swapDone p 0x52 0x07 true
  let s := (s.cutAms p).modSwap p fun w => { w with kind := .fr, stage := .standby, toSrc := false, own := own, won := false }
  s.openSwitch p

/-! ## Swap requests that meet (R184, R196) -/

/-- A swap request of the partner's: protocol error while another is answered or engaged; while an own one is pending, Wait, the
own being the next AMS, or a yield; otherwise served.
DEDUCED, unsafe: log entry 48. -/
def State.meetSwap (s : State) (p : PortId) (serve : State → State) : State :=
  let x := s.port p
  if x.swap.stage == .rxProbe || x.swap.engaged then s.protocolError p
  else if x.swap.pending then
    if x.pdSrc && x.swap.kind != .vconn then
      let s := (s.modSwap p fun w => { w with won := true }).reply p .wait [] []
      s.when (x.swap.stage == .pending) fun s => s.swapFirst p
    else
      let s := s.swapDone p 0x52 0x07 true
      serve (s.modPd p fun d => { d with trig := d.trig.filter fun a => a != .swap })
  else serve s

end Sys2Proof.Machine
end

