-- ==== Sys2Proof/Machine/VdmOps.lean ====
section
/-!
DEFINITION. What structured VDMs and Ledger mode share: headers, answers, the steps of a VDM_SEND, the Ledger-mode VDOs,
and the first message of each AMS the device starts (R153, R199 to R208).
PRESUMED, unsafe: log entry 34.
-/
namespace Sys2Proof.Machine

/-! ## VDM headers (Table 6.14) -/

def ledgerSvid : Nat := 0x3A8C

def vdmSvid (w : Word) : Nat := bitsOf w.toNat 31 16
def vdmPos (w : Word) : Nat := bitsOf w.toNat 10 8
def vdmType (w : Word) : Nat := bitsOf w.toNat 7 6
def vdmCmd (w : Word) : Nat := bitsOf w.toNat 4 0

/-- The version the device uses: 0 for 1.0, 1 for 2.0, 2 for 2.1, the lower of its own and the partner's (R199). -/
def Port.vdmVer (x : Port) : BitVec 2 :=
  let own : BitVec 2 := if x.pd.rev3 then 2 else 0
  match x.lm.vdmVer with
  | some v => if v < own then v else own
  | none => own

/-- The Structured VDM Version field of a version code. -/
def vdmVerBits (v : BitVec 2) : Nat := if v = 0 then 0 else if v = 1 then 4 else 5

/-- The version code of a received header. -/
def vdmVerOf (w : Word) : BitVec 2 :=
  if bitsOf w.toNat 14 13 == 0 then 0 else if bitsOf w.toNat 12 11 == 0 then 1 else 2

/-- A structured VDM header; command type 0 REQ, 1 ACK, 2 NAK. -/
def vdmHeader (svid pos ty cmd : Nat) (ver : BitVec 2) : Word :=
  BitVec.ofNat 32 (svid * 2 ^ 16 + 2 ^ 15 + vdmVerBits ver * 2 ^ 11 + pos * 2 ^ 8 + ty * 2 ^ 6 + cmd)

/-- Sends a VDM on a SOP type, a cable's at the revision agreed with it (R148). -/
def State.sendVdm (s : State) (p : PortId) (k : Sop) (v : List Word) : State :=
  let d := (s.port p).pd
  s.sendMsg p ⟨k, .vdm, v, [], if k == .sop then d.txRev else d.cableRev, 0⟩

/-- A request VDM on SOP. -/
def State.sendVdmReq (s : State) (p : PortId) (svid pos cmd : Nat) (vdos : List Word) : State :=
  s.sendVdm p .sop (vdmHeader svid pos 0 cmd (s.port p).vdmVer :: vdos)

/-- Answers a request VDM: 1 ACK, 2 NAK. -/
def State.answerVdm (s : State) (p : PortId) (req : Word) (ty : Nat) (vdos : List Word) : State :=
  let s := s.modPd p fun d => { d with ams := if d.ams == .none then .partner else d.ams }
  s.sendVdm p .sop (vdmHeader (vdmSvid req) (vdmPos req) ty (vdmCmd req) (s.port p).vdmVer :: vdos)

/-! ## Ledger-mode VDOs (Tables 6.11, 6.13) -/

/-- The device's Mode VDO (R203). -/
def modeVdo (p : PortId) : Word := if isE p then 0x10BC0960 else 0x10BC0258

/-- The device's Version VDO: 1.0. -/
def versionVdo : Word := 0x10000000

/-- The port maximum power in coins. -/
def portMaxPower (p : PortId) : Nat := if isE p then 2400 else 600

/-- The Outcome VDO. -/
def State.outcomeVdo (s : State) (p : PortId) : Word :=
  let l := (s.port p).lg
  BitVec.ofNat 32 (l.outcome.toNat * 2 ^ 28 + flag l.sink 24 + l.reason.toNat * 2 ^ 16 + l.grant % 65536)

/-- The Demand VDO, with the sequence number in force. -/
def State.demandVdo (s : State) (p : PortId) : Word :=
  let x := s.port p
  BitVec.ofNat 32 (x.lg.demand % 65536 * 2 ^ 16 + min (s.waitPos p) 255 * 2 ^ 8 + x.lm.seq.toNat)

/-- An energy count in mWh, saturating (R286, Table 6.13). -/
def energyVdo (mj : BitVec 48) : Word := BitVec.ofNat 32 (min (mj.toNat / 3600) 0xFFFFFFFF)

/-- The Ident VDO. -/
def State.identVdo (s : State) (p : PortId) : Word :=
  let node := if s.ridgeen && s.ring.enable then s.ring.node.toNat else 0
  BitVec.ofNat 32 (node * 2 ^ 24 + p.val * 2 ^ 16 + (s.port p).lg.cls.toNat * 2 ^ 14 + flag (s.bridged p) 13 +
    flag s.sys.hbisoLow 12)

/-- The identity VDOs (Table 6.10); the DFP VDO goes to a Revision 3.x partner only.
DEDUCED, unsafe: log entry 39. -/
def State.identityVdos (s : State) (p : PortId) : List Word :=
  [BitVec.ofNat 32 (flag s.ledgermodeen 26 + 3 * 2 ^ 23 + 3 * 2 ^ 21 + ledgerSvid), 0,
    BitVec.ofNat 32 (s.pid * 2 ^ 16 + 0x10)] ++
  (if (s.port p).pd.rev3 then [BitVec.ofNat 32 (2 * 2 ^ 29 + 3 * 2 ^ 22 + p.val)] else [])

/-! ## Ledger mode -/

/-- Ledger mode is entered: SEQ starts at 1 (Table 6.13). -/
def State.lmEnter (s : State) (p : PortId) : State :=
  s.modLm p fun l => { l with
    mode := true, verOk := false, failed := false, major := 0, minor := 0, seq := 1, lastSeq := 0, noAck := false,
    noAckRun := 0, muted := false, last := none, waiting := false }

/-- LM_VERSION succeeds: both ends use the lower minor version, and the first notice is due (R202, R206). -/
def State.lmVersionOk (s : State) (p : PortId) (peer : Word) : State :=
  (s.modLm p fun l => { l with
    verOk := true, major := 1, minor := BitVec.ofNat 4 (min 0 (bitsOf peer.toNat 27 24)) }).trigger p .notice

/-- The outcome and waiting-list position as a notice would carry them now.
DEDUCED, unsafe: log entry 47. -/
def State.noticeNow (s : State) (p : PortId) : Word × Byte := (s.outcomeVdo p, byteOf (min (s.waitPos p) 255) 0)

/-- A notice is due: Ledger mode has its version, the partner is not given up, and what it would say differs (R206). -/
def State.noticeDue (s : State) (p : PortId) : Bool :=
  let l := (s.port p).lm
  l.mode && l.verOk && !l.muted && !l.waiting && l.last != some (s.noticeNow p)

/-- Sends LM_OUTCOME. -/
def State.sendNotice (s : State) (p : PortId) : State :=
  let n := s.noticeNow p
  let s := (s.sendVdmReq p ledgerSvid 1 0x11 [s.outcomeVdo p, s.demandVdo p]).count p.val 0x14 1
  s.modLm p fun l => { l with
    last := some n, waiting := true, lastSeq := l.seq, seq := if l.seq = 255 then 1 else l.seq + 1 }

/-- Sends the message of the present step. -/
def State.vdmStep (s : State) (p : PortId) : State :=
  match (s.port p).lm.run with
  | none => s
  | some r =>
    let s := s.modLm p fun l => { l with run := some { r with sent := true } }
    if r.op = 0 then s.sendVdm p r.sop r.vdos
    else if r.op = 2 then s.sendVdmReq p ledgerSvid 1 5 []
    else match r.step with
      | 1 => s.sendVdmReq p 0xFF00 0 1 []
      | 2 => s.sendVdmReq p 0xFF00 0 2 []
      | 3 => s.sendVdmReq p ledgerSvid 0 3 []
      | 4 => s.sendVdmReq p ledgerSvid r.pos 4 []
      | _ => s.sendVdmReq p ledgerSvid 1 0x10 [versionVdo]

/-- Moves to a step, whose AMS starts at once, or once a sink reads SinkTxOk (R146, R195, R201). -/
def State.vdmNext (s : State) (p : PortId) (step pos : Nat) : State :=
  let s := s.modLm p fun l => { l with run := l.run.map fun r => { r with step := step, pos := pos, sent := false } }
  if (s.port p).sinkTxOk then s.vdmStep p else (s.trigFirst p .vdm).amsEnd p

/-- Ends the VDM_SEND of the AMS in progress. -/
def State.vdmEnd (s : State) (p : PortId) (result : Nat) (failed : Bool) (vdos : List Word) : State :=
  (s.vdmDone p result failed vdos).amsEnd p

/-- The first position of a Mode VDO with a version major of 1. -/
def firstMode : Nat → List Word → Option (Nat × Word)
  | _, [] => none
  | k, w :: r => if bitsOf w.toNat 31 28 == 1 then some (k, w) else firstMode (k + 1) r

/-- The request of a VDM_SEND is an Exit Mode of Ledger mode. -/
def VdmRun.exits (r : VdmRun) : Bool := r.op = 2 ||
  (r.op = 0 && r.sop == .sop && (r.vdos.head?.any fun w => vdmSvid w == ledgerSvid && vdmCmd w == 5))

/-- An ACK to the step in progress (R201); that of an Exit Mode ends Ledger mode (R208). -/
def State.vdmAcked (s : State) (p : PortId) (r : VdmRun) (v : List Word) : State :=
  if r.exits then (s.lmEnd p).vdmEnd p 0 false v
  else if r.op = 0 then s.vdmEnd p 0 false v
  else match r.step with
    | 1 => s.vdmNext p 2 0
    | 2 =>
      if v.tail.any fun w => bitsOf w.toNat 31 16 == ledgerSvid || bitsOf w.toNat 15 0 == ledgerSvid then s.vdmNext p 3 0
      else s.vdmEnd p 0 true v
    | 3 => match firstMode 1 v.tail with
      | some (k, w) => (s.modLm p fun l => { l with grantor := w.getLsbD 23 }).vdmNext p 4 k
      | none => s.vdmEnd p 0 true v
    | 4 => (s.lmEnter p).vdmNext p 5 r.pos
    | _ =>
      if bitsOf (v.getD 1 0).toNat 31 28 == 1 then (s.lmVersionOk p (v.getD 1 0)).vdmEnd p 0 false v
      else (s.lmVersionFail p).vdmEnd p 0 true v

/-- NAK (1), BUSY (2), no answer (3) or Not_Supported (4) to the step in progress. -/
def State.vdmRefused (s : State) (p : PortId) (r : VdmRun) (result : Nat) (v : List Word) : State :=
  (if r.op = 1 && r.step == 5 then s.lmVersionFail p else s).vdmEnd p result (r.op = 1) v

/-! ## First messages (Table 5.4) -/

/-- Discovery of the cable has not been answered: without a contract the source goes on to its capabilities. -/
def State.cableUnanswered (s : State) (p : PortId) : State :=
  (if (s.port p).pdSrc && (s.port p).pd.contract == .none then s.trigger p .negotiation else s).amsEnd p

/-- Sends Discover Identity on SOP' and counts the attempt (Table 5.4). -/
def State.askCable (s : State) (p : PortId) : State :=
  (s.modPd p fun d => { d with discTries := d.discTries + 1 }).sendVdm p .sop1
    [vdmHeader 0xFF00 0 0 1 (if (s.port p).pd.rev3 then 2 else 0)]

/-- The message of a pending swap (R196: it is sent once its AMS starts). -/
def State.sendSwap (s : State) (p : PortId) : State :=
  let w := (s.port p).swap
  let s := s.modSwap p fun w => { w with stage := .sent }
  match w.kind with
  | .pr => s.sendCtl p .prSwap
  | .dr => s.sendCtl p .drSwap
  | .vconn => s.sendCtl p .vconnSwap
  | .fr => s.sendCtl p .frSwap

/-- The operational PDP of an EPR entry in watts: the greatest entry power, capped by the grant (R167). -/
def Port.eprPdpOut (x : Port) : Nat := min (maxOf (x.snk.map snkPower)) x.lg.grant / 10

/-- An EPR_Mode data object: action and data. -/
def eprModeWord (act data : Nat) : Word := BitVec.ofNat 32 (act * 2 ^ 24 + data % 256 * 2 ^ 16)

/-! ## EPR entry as source (R166) -/

/-- EPR entry fails as source, with its reason (R166). -/
def State.eprFail (s : State) (p : PortId) (reason : Nat) : State :=
  (s.modPd p fun d => { d with ams := .partner }).send p .eprMode [eprModeWord 4 reason] []

/-- The grant leaves an EPR entry unomitted (R166). -/
def State.eprOffered (s : State) (p : PortId) : Bool :=
  let s := s.modPd p fun d => { d with epr := true }
  (s.offers p (s.grantOf p)).any fun x => x.1.isEpr

/-- The checks of R166 in their order, from the check that has not passed yet; a swap of VCONN or a cable discovery that they
need is started.
DEDUCED, unsafe: log entry 44. -/
def State.eprChecks (s : State) (p : PortId) (asked : Bool) : State :=
  let x := s.port p
  if !(s.epren && x.src.any Entry.isEpr) then s.eprFail p 5
  else if !rdoEpr x.pd.rdo then s.eprFail p 3
  else if !x.tc.vconnOn then
    if x.swap.stage == .none && s.vconnOk p then
      ((s.modPd p fun d => { d with ams := .eprEntry }).modSwap p fun w => { w with
        kind := .vconn, stage := .sent, toSrc := true, own := false, won := false }).sendCtl p .vconnSwap
    else s.eprFail p 2
  else if !x.pd.cableOk && !asked && x.pd.discTries < 20 then
    (s.modPd p fun d => { d with ams := .eprEntry }).askCable p
  else if !(x.pd.cableOk && x.pd.cable5A && x.pd.cableV = 3 && x.pd.cableEpr) then s.eprFail p 1
  else if !s.eprOffered p then s.eprFail p 4
  else
    let s := (s.modPd p fun d => { d with ams := .partner }).send p .eprMode [eprModeWord 3 0] []
    ((s.modPd p fun d => { d with epr := true }).pdEvt p 5).sendCaps p

/-! ## Starting an AMS -/

/-- The reference of the battery to ask after next: fixed batteries are numbered from 0, slots from 4 (PRESUMED, USB PD 3.2).
PRESUMED, unsafe: log entry 37. -/
def PdPort.batteryRef (d : PdPort) : Byte :=
  let fixed := (nth d.srcExt 22).toNat % 16
  let k := min 4 (fixed + (nth d.srcExt 22).toNat / 16) - d.batteries
  byteOf (if k < fixed then k else 4 + (k - fixed)) 0

/-- Sends the first message of an AMS. A VDM on SOP' or SOP'' needs VCONN sourced (R140), and is otherwise as one unanswered.
Exit Mode names object position 1.
DEDUCED, unsafe: log entry 41. DESIGN CHOICE, unsafe: log entry 100. -/
def State.amsFirst (s : State) (p : PortId) : Ams → State
  | .negotiation => if (s.port p).pdSrc then s.sendCaps p else s.amsEnd p
  | .regrant => if (s.port p).pdSrc && s.capsAltered p then s.sendCaps p else s.amsEnd p
  | .discoverCable =>
    if (s.port p).tc.vconnOn && !(s.port p).pd.cableOk && (s.port p).pd.discTries < 20 then s.askCable p
    else s.cableUnanswered p
  | .getSinkCap => s.sendCtl p .getSinkCap
  | .getRevision => s.sendCtl p .getRevision
  | .request => if (s.port p).pdSnk then s.sendRequest p else s.amsEnd p
  | .getSourceCap => s.sendCtl p .getSourceCap
  | .getSourceCapExt => s.sendCtl p .getSourceCapExt
  | .getBatteryCap =>
    s.send p .getBatteryCap [] [(s.port p).pd.batteryRef]
  | .getBatteryStatus => s.send p .getBatteryStatus [] [0]
  | .getStatus => s.sendCtl p .getStatus
  | .alertOcp => s.send p .alert [BitVec.twoPow 32 26] []
  | .alertOtp => s.send p .alert [BitVec.twoPow 32 27] []
  | .alertInput => s.send p .alert [BitVec.twoPow 32 29] []
  | .eprEntry =>
    (s.modPd p fun d => { d with eprTried := true }).send p .eprMode [eprModeWord 1 (s.port p).eprPdpOut] []
  | .eprKeepAlive => s.send p .eprKeepAlive [] []
  | .softReset => s.softReset p
  | .swap => if (s.port p).swap.stage == .pending then s.sendSwap p else s.amsEnd p
  | .vdm => match (s.port p).lm.run with
    | some r => if r.sop == .sop || (s.port p).tc.vconnOn then s.vdmStep p else s.vdmRefused p r 3 []
    | none => s.amsEnd p
  | .notice => if s.noticeDue p then s.sendNotice p else s.amsEnd p
  | .lmVersion =>
    if (s.port p).lm.mode && !(s.port p).lm.verOk then s.sendVdmReq p ledgerSvid 1 0x10 [versionVdo] else s.amsEnd p
  | .exitMode => s.sendVdmReq p ledgerSvid 1 5 []
  | .none => s
  | .partner => s

/-- The oldest trigger that may start, and what waits behind it: a VDM_SEND waits for a contract, which a Power Role Swap takes for a
time. -/
def Port.nextTrig (x : Port) : Option (Ams × List Ams) :=
  (x.pd.trig.find? fun a => a != .vdm || x.pd.hasContract).map fun a => (a, x.pd.trig.filter (· != a))

/-- Starts the oldest waiting trigger: a source under a Revision 3.x contract changes to SinkTxNG and waits tSinkTx unless
it already holds it; a sink under one starts only while it reads SinkTxOk (R144, R146, R195).
DEDUCED, unsafe: log entry 41. -/
def State.startAms (s : State) (p : PortId) : State :=
  let x := s.port p
  match x.nextTrig with
  | none => s
  | some (a, r) =>
    let ca := x.pd.hasContract && x.pd.rev3
    if !x.sinkTxOk then s
    else
      let s := s.modPd p fun d => { d with trig := r, ams := a }
      if x.pdSrc && ca && !x.pd.ng then
        (s.modPd p fun d => { d with ng := true, sinkTxWait := true }).setRp p
      else s.amsFirst p a

end Sys2Proof.Machine
end

