-- ==== Sys2Proof/Machine/Pd.lean ====
section
/-!
DEFINITION. The protocol layer, power negotiation, contracts, resets and their timers (chapter 5). A timer's event whose
timer does not run changes nothing.
-/
namespace Sys2Proof.Machine

/-- The port runs PD now: not once it has stopped (R177). -/
def State.pdLive (s : State) (p : PortId) : Bool :=
  let x := s.port p
  s.portReady p && !x.tc.leaving && (x.pdSrc || x.pdSnk) && x.pd.contract != .stopped

/-- The port takes Hard Reset, PD stopped or not (R177). -/
def State.hrLive (s : State) (p : PortId) : Bool :=
  let x := s.port p
  s.portReady p && !x.tc.leaving && (x.pdSrc || x.pdSnk)

/-- EPR entry by a sink (R167).
DEDUCED, unsafe: log entry 44. -/
def State.eprEntryCheck (s : State) (p : PortId) : State :=
  let x := s.port p
  s.when (x.pdSnk && isE p && s.epren && x.snk.any Entry.isEpr && ((x.pd.srcCaps.head?.map fun w => w.getLsbD 23).getD false) &&
      x.pd.rev = 3 && x.pd.contract == .explicit && !x.pd.epr && !x.pd.eprTried) fun s => s.trigger p .eprEntry

/-! ## Transmission (R141, R142) -/

/-- The port sends and receives on a SOP type: SOP always, SOP' and SOP'' only while it sources VCONN (R140). -/
def State.sopLive (s : State) (p : PortId) (k : Sop) : Bool := k == .sop || (isE p && (s.port p).tc.vconnOn)

/-- The next waiting message goes on the line. -/
def PdPort.nextTx (d : PdPort) : PdPort :=
  match d.txQ with
  | [] => { d with tx := none, tries := 0 }
  | m :: r => { d with tx := some { m with id := d.idOf m.sop }, txQ := r, tries := 0 }

/-- A VDM to the cable has not been taken: the cable does not answer. -/
def State.cableFailed (s : State) (p : PortId) : State :=
  let x := s.port p
  if x.pd.ams == .discoverCable then s.cableUnanswered p
  else if x.pd.ams == .eprEntry then s.eprFail p 1
  else match x.lm.run with
    | some r => if r.sop == .sop then s else s.vdmRefused p r 3 []
    | none => s

/-- The line is free: messages to a cable that wait are not sent once VCONN is no longer sourced (R140), and the next one goes. -/
def State.sendNext (s : State) (p : PortId) : State :=
  let lost := (s.port p).pd.txQ.any fun m => m.ty == .vdm && !s.sopLive p m.sop
  let s := s.modPd p fun d => PdPort.nextTx { d with txQ := d.txQ.filter fun m => s.sopLive p m.sop }
  let s := if (s.port p).pd.tx.isSome then s.count p.val 0x03 1 else s
  s.when lost fun s => s.cableFailed p

/-- A Soft_Reset has been answered: a source sends capabilities, and a sink awaits them (R173, R174). -/
def State.afterSoftReset (s : State) (p : PortId) : State :=
  (if (s.port p).pdSrc then s.trigger p .negotiation else s.modPd p fun d => { d with waitCaps := true }).amsEnd p

/-- What an acknowledged message completes: capabilities, their last chunk sent, begin to wait for a Request, PS_RDY makes the
contract, the last message of an AMS ends it. An AMS that follows is triggered first, so that SinkTxNG is held (R195).
PRESUMED, unsafe: log entry 36. -/
def State.acked (s : State) (p : PortId) (m : Msg) : State :=
  let x := s.port p
  let done := if x.pd.ams == .partner && x.pd.tx.isNone && x.pd.chunk.isNone then s.amsEnd p else s
  match m.ty with
  | .sourceCaps | .eprSourceCaps =>
    if x.pd.ams == .negotiation then s.modPd p fun d => { d with capsSent := d.chunk.isNone, capsCount := 0 } else done
  | .accept =>
    if x.pd.srAccept then
      (s.modPd p fun d => { d with srAccept := false }).afterSoftReset p
    else if x.swap.kind == .dr && x.swap.stage == .standby then s.drComplete p
    else s
  | .psRdy =>
    if x.pdSrc && x.pd.contract == .transition then (s.makeContract p).sourceGrant p false
    else if x.swap.kind == .vconn && x.swap.stage == .closing then
      let s := s.swapDone p 0x00 0x00 false
      if x.pd.ams == .eprEntry then s.eprChecks p false else (s.trigger p .discoverCable).amsEnd p
    else s
  | .reject | .wait => if x.pd.ams == .negotiation then s.amsEnd p else done
  | .alert => s.amsEnd p
  | _ => done

/-- GOODCRC (R142); one on SOP' or SOP'' is received only while the port sources VCONN (R140). -/
def execGoodcrc (p : PortId) (k : Sop) (id : BitVec 3) (s : State) : Out :=
  .next (s.when (s.pdLive p && s.sopLive p k) fun s =>
    match (s.port p).pd.tx with
    | none => s
    | some m =>
      if m.sop == k && m.id == id then
        ((s.modPd p fun d => { d.bumpId k with heard := d.heard || k == .sop }).sendNext p).acked p m
      else s)

/-- A transmission error (R142, R173, R177): Hard Reset in a power transition and for a Soft_Reset, sent or answered; a cable does
not answer; capabilities with no contract are sent again later; anything else causes Soft_Reset.
PRESUMED, unsafe: log entry 36. -/
def State.txError (s : State) (p : PortId) (m : Msg) : State :=
  let x := s.port p
  let s := (s.modPd p fun d => { d.bumpId m.sop with tx := none, txQ := [], tries := 0, chunk := none }).count p.val 0x05 1
  if x.pd.contract == .transition || x.swap.running || m.ty == .softReset ||
      (m.ty == .accept && x.pd.srAccept) then s.hardReset p
  else if m.sop != .sop then s.cableFailed p
  else if (m.ty == .sourceCaps || m.ty == .eprSourceCaps) && !x.pd.hasContract then s.amsEnd p
  else if x.swap.stage == .sent then
    if x.swap.frSent then s.errorRecovery p else (s.swapDone p 0x00 0x04 true).askSoftReset p
  else s.askSoftReset p

/-- RECEIVE_TIMEOUT (R142): retransmission, 2 times with a Revision 3.x partner and 3 with a 2.0 one; toward a cable
only while VCONN is sourced (R140). -/
def execReceiveTimeout (p : PortId) (s : State) : Out :=
  .next (s.when (s.pdLive p) fun s =>
    let d := (s.port p).pd
    match d.tx with
    | none => s
    | some m =>
      if d.tries < (if d.rev3 then 2 else 3) && s.sopLive p m.sop then
        (s.modPd p fun d => { d with tries := d.tries + 1 }).count p.val 0x04 1
      else s.txError p m)

/-- AMS_START (R154): a waiting trigger starts once no AMS runs, and none in a BIST mode (Table 5.2).
PRESUMED, unsafe: log entry 132. -/
def execAmsStart (p : PortId) (s : State) : Out :=
  .next (
    let d := (s.port p).pd
    s.when (s.pdLive p && d.ams == .none && d.tx.isNone && d.hr == .none && d.contract != .stopped &&
      d.contract != .transition && d.bist = 0) fun s => s.startAms p)

/-- SINK_TX_EXPIRY (R144): the AMS's first message is sent. -/
def execSinkTxExpiry (p : PortId) (s : State) : Out :=
  .next (s.when (s.pdLive p && (s.port p).pd.sinkTxWait) fun s =>
    (s.modPd p fun d => { d with sinkTxWait := false }).amsFirst p (s.port p).pd.ams)

/-! ## Negotiation -/

/-- An AMS of the device's own awaits its end: its first message has been sent. -/
def Port.ownRuns (x : Port) : Bool := x.pd.ams.own && !x.pd.sinkTxWait

/-- A message of EPR mode: unsupported on an S-port, and from a Revision 2.0 partner (R150). -/
def State.onlyEpr (s : State) (p : PortId) (epr : Bool) (f : State → State) : State :=
  if epr && !(isE p && (s.port p).pd.rev3) then s.unsupported p else f s

/-- SOURCE_CAPABILITIES (R158, Table 5.2): a sink requests from them; in EPR mode from the EPR ones. They end a Get_Source_Cap,
and are unexpected in any other AMS of the device's own. -/
def execSourceCapabilities (p : PortId) (h : RxHdr) (epr : Bool) (v : List Word) (s : State) : Out :=
  .next (s.onMsg p h fun s =>
    let x := s.port p
    s.onlyEpr p epr fun s =>
      if !x.pdSnk || x.pd.contract == .transition || x.swap.engaged || epr != x.pd.epr || v.isEmpty ||
          (x.ownRuns && x.pd.ams != .getSourceCap) then s.protocolError p
      else ((s.setRev p h).modPd p fun d => { d with
          srcCaps := v, chunk := none, waitRx := false, waitCaps := false }).sendRequest p)

/-- REQUEST (R163, Table 5.7). -/
def execRequest (p : PortId) (h : RxHdr) (epr : Bool) (rdo : Word) (s : State) : Out :=
  .next (s.onMsg p h fun s =>
    let x := s.port p
    s.onlyEpr p epr fun s =>
      if !x.pdSrc || x.pd.contract == .transition || x.swap.engaged || epr != x.pd.epr || x.pd.asked.isSome ||
          !(x.pd.capsSent || x.pd.contract == .explicit) || (x.ownRuns && x.pd.ams != .negotiation) then s.protocolError p
      else ((s.setRev p h).modPd p fun d => { d with capsSent := false }).handleRequest p rdo)

/-- ACCEPT (Table 5.2): the answer to a Soft_Reset, a Request or an own swap. -/
def execAccept (p : PortId) (h : RxHdr) (s : State) : Out :=
  .next (s.onAny p h fun s =>
    let x := s.port p
    if x.pd.ams == .softReset then
      (s.afterSoftReset p).prunDone p [0] 0
    else if x.pdSnk && x.pd.ams == .request && x.pd.nxt.isSome && x.pd.contract != .transition then
      let s := s.modPd p fun d => { d with
        contract := .transition, oldV := if d.hasContract then d.terms.v else 500, sinkSlew := false,
        terms := { d.terms with mis := (d.nxt.map (·.mis)).getD false } }
      let y := (s.port p).pd
      let s := s.modSw p fun w => { w with ovBase := max y.oldV ((y.nxt.map (·.v)).getD 0) }
      (s.modCv p fun c => { c with standby := true }).emberNote p 8
    else if x.swap.stage == .sent then
      match x.swap.kind with
      | .pr => s.prAccepted p
      | .dr => s.drComplete p
      | .vconn => s.vconnAccepted p
      | .fr => s.modSwap p fun w => { w with stage := .psRdy }
    else s.protocolError p)

/-- An answer that ends the device's own AMS without what it asked: Reject (1), Wait (2) or Not_Supported (3). -/
def State.refusedBy (s : State) (p : PortId) (k : Nat) : State :=
  let x := s.port p
  if x.pd.ams == .softReset then s.hardReset p
  else if x.swap.stage == .sent then
    if x.swap.frSent then s.errorRecovery p
    else
      let s := s.swapDone p 0x00 (byteOf k 0) true
      if x.pd.ams == .eprEntry then s.eprFail p 2 else s.amsEnd p
  else match x.pd.ams with
    | .request => (s.modPd p fun d => { d with nxt := none, waitRx := k == 2 }).amsEnd p
    | .getRevision => (s.modPd p fun d => { d with rev := 2 }).amsEnd p
    | .vdm => match x.lm.run with
      | some r => s.vdmRefused p r 4 []
      | none => s.amsEnd p
    | .notice => (s.noticeFailed p).amsEnd p
    | .lmVersion => (s.lmVersionFail p).amsEnd p
    | .discoverCable => s.cableUnanswered p
    | .eprEntry => if x.pdSrc then s.eprFail p 1 else s.amsEnd p
    | _ => s.amsEnd p

/-- The SOP type on which the answer of an AMS of the device's own comes, where Reject or Wait can be one: not for a source's
capabilities or an EPR entry. -/
def Port.answerSop (x : Port) : Option Sop :=
  match x.pd.ams with
  | .negotiation | .eprEntry => none
  | .discoverCable => some .sop1
  | .vdm => some ((x.lm.run.map (·.sop)).getD .sop)
  | _ => some .sop

/-- An answer is awaited on a SOP type that Reject or Wait can give: the device's own AMS runs, its first message sent, or on SOP a swap
has been sent. -/
def Port.awaits (x : Port) (k : Sop) : Bool :=
  (x.pd.ams.own && !x.pd.sinkTxWait && x.answerSop == some k && x.pd.contract != .transition) ||
    (k == .sop && x.swap.stage == .sent)

/-- An AMS of the device's own runs, its first message sent, that Not_Supported ends without what it asked. -/
def Port.unserved (x : Port) (k : Sop) : Bool :=
  x.awaits k || (x.pd.ams.own && x.pd.ams != .negotiation && !x.pd.sinkTxWait && x.pd.contract != .transition)

/-- A PDEVT bit set by a message from a Revision 3.x partner. -/
def State.noteEvt (s : State) (p : PortId) (bit : Nat) : State := s.when (s.port p).pd.rev3 fun s => s.pdEvt p bit

/-- Handles a received message of Revision 3.x whose receipt `note` records, expected or not (Table 5.12). -/
def State.onNoted (s : State) (p : PortId) (h : RxHdr) (note f : State → State) : State :=
  s.onAny p h fun s =>
    let s := note s
    if (s.port p).pd.ams == .softReset && h.sop == .sop then s.hardReset p else s.only3 p f

/-- Reject received (Table 5.2). -/
def State.gotReject (s : State) (p : PortId) (h : RxHdr) : State :=
  s.onMsg p h fun s => if (s.port p).awaits h.sop then s.refusedBy p 1 else s.protocolError p

/-- WAIT (Table 5.2). -/
def execWait (p : PortId) (h : RxHdr) (s : State) : Out :=
  .next (s.onMsg p h fun s => if (s.port p).awaits h.sop then s.refusedBy p 2 else s.protocolError p)

/-- NOT_SUPPORTED (Table 5.2, R149): it ends the AMS. -/
def execNotSupported (p : PortId) (h : RxHdr) (s : State) : Out :=
  .next (s.onNoted p h (fun s => s.noteEvt p 6) fun s =>
    if (s.port p).unserved h.sop then s.refusedBy p 3 else (s.modPd p fun d => { d with capsSent := false }).amsEnd p)

/-- PS_RDY (Table 5.2, Tables 6.2 to 6.5): ends a sink's transition, or a step of a swap. -/
def execPsRdy (p : PortId) (h : RxHdr) (s : State) : Out :=
  .next (s.onMsg p h fun s =>
    let x := s.port p
    if x.pdSnk && x.pd.contract == .transition then ((s.makeContract p).sinkGrant p).eprEntryCheck p
    else if x.swap.stage == .psRdy then
      match x.swap.kind with
      | .vconn =>
        let s := ((s.vconnOff p).modTc p fun t => { t with vconnMine := false }).swapDone p 0x00 0x00 false
        if x.pd.ams == .eprEntry then s else s.amsEnd p
      | .fr =>
        if x.swap.toSrc then (s.sendCtl p .psRdy).prComplete p
        else (s.modSwap p fun w => { w with stage := .closing }).tryClose p
      | _ =>
        let s := s.modSwap p fun w => { w with stage := .closing }
        let s := if x.swap.toSrc then
            s.modTc p fun t => { t with rpAdv := if x.pd.rev3 then .a15 else .dflt }
          else s
        s.tryClose p
    else s.protocolError p)

/-- SRC_TRANSITION_EXPIRY (R268, R288, Table 6.2): the reference starts its slew, that of a converter stopped by VHB at its restart;
or in a swap the switch opens. -/
def execSrcTransitionExpiry (p : PortId) (s : State) : Out :=
  .next (s.when (s.pdLive p) fun s =>
    let x := s.port p
    if x.pdSrc && x.pd.contract == .transition && x.cv.slewDue then
      (s.modCv p fun c => { c with slewDue := false, slewing := c.dir != 0, atTarget := false }).modPd p fun d => { d with
        sinkSlew := x.cv.dir != 0 }
    else if x.swap.kind == .pr && x.swap.stage == .standby then s.openSwitch p
    else s)

/-! ## Timers of the negotiation -/

/-- The device's own Request awaits its answer. -/
def Port.requested (x : Port) : Bool := x.pd.ams == .request && x.pd.nxt.isSome && x.pd.contract != .transition

/-- tSenderResponse ends unanswered (R173, R174, R149, Table 6.7). -/
def State.noResponse (s : State) (p : PortId) : State :=
  s.when (s.pdLive p && (s.port p).pd.tx.isNone) fun s =>
    let x := s.port p
    if x.pdSrc && x.pd.capsSent then s.hardReset p
    else if x.pd.ams == .softReset then s.hardReset p
    else if x.requested then s.hardReset p
    else if x.swap.stage == .sent then
      if x.swap.frSent then s.errorRecovery p
      else if x.pd.ams == .eprEntry then (s.swapDone p 0x00 0x04 true).eprFail p 2
      else (s.swapDone p 0x00 0x04 true).askSoftReset p
    else if x.pd.ams == .getRevision then (s.modPd p fun d => { d with rev := 2 }).amsEnd p
    else if x.pd.ams.own && !x.pd.sinkTxWait && x.pd.contract != .transition && x.pd.ams != .negotiation &&
        x.pd.ams != .vdm && x.pd.ams != .notice && x.pd.ams != .lmVersion && x.pd.ams != .exitMode &&
        x.pd.ams != .eprEntry && x.pd.ams != .discoverCable then s.amsEnd p
    else s

/-- A sink's power transition is under way. -/
def State.awaitsPsRdy (s : State) (p : PortId) : Bool :=
  s.pdLive p && (s.port p).pdSnk && (s.port p).pd.contract == .transition

/-- tPSTransition ends with no PS_RDY (R174). -/
def State.noPsRdy (s : State) (p : PortId) : State := s.when (s.awaitsPsRdy p) fun s => s.hardReset p

/-- SINK_WAIT_CAP_TIMEOUT (R174): no capabilities have come, after the attach or after a Soft_Reset; an Ember donor whose partner has
sent none keeps 5 V and goes on to step 10 (R90). -/
def execSinkWaitCapTimeout (p : PortId) (s : State) : Out :=
  .next (
    let x := s.port p
    s.when (s.pdLive p && x.pdSnk && ((x.pd.contract == .none && x.pd.srcCaps.isEmpty) || x.pd.waitCaps) &&
      x.pd.hr == .none && x.sw.st == .closed) fun s =>
      if s.sys.pwr == .ember && !x.pd.waitCaps then s.emberIsolate p else s.hardReset p)

/-- PD stops (R177): NOPD, and the demand falls to that of the Rp level advertised. -/
def State.stopPd (s : State) (p : PortId) : State :=
  let s := s.modPd p fun d => { d with
    contract := .stopped, ams := .none, trig := [], capsSent := false, capsCount := 0, tx := none, txQ := [],
    offered := [] }
  let c := match s.typecRp p with
    | .a30 => 150 | .a15 => 75 | _ => 45
  (s.pdEvt p 4).postDemand p c .attach false false

/-- NO_RESPONSE_TIMEOUT (R176): tNoResponse runs from a Hard Reset's end until a contract.
DESIGN CHOICE, unsafe: log entry 99. -/
def execNoResponseTimeout (p : PortId) (s : State) : Out :=
  .next (
    let x := s.port p
    s.when (s.pdLive p && 1 ≤ x.pd.hrCount && x.pd.contract == .none && x.pd.hr == .none) fun s =>
      if x.pd.hrCount < 2 then s.hardReset p
      else if x.pdSnk || x.pd.heard then s.errorRecovery p
      else s.stopPd p)

/-- CAPS_COUNT_EXHAUSTED (R177): nCapsCount capabilities have gone unacknowledged. -/
def execCapsCountExhausted (p : PortId) (s : State) : Out :=
  .next (
    let x := s.port p
    s.when (s.pdLive p && x.pdSrc && 50 ≤ x.pd.capsCount && x.pd.contract == .none) fun s => s.stopPd p)

/-- TYPEC_SEND_SOURCE_CAP_EXPIRY (R177, Table 5.10). -/
def execTypecSendSourceCapExpiry (p : PortId) (s : State) : Out :=
  .next (
    let x := s.port p
    s.when (s.pdLive p && x.pdSrc && x.pd.contract == .none && x.pd.hr == .none && x.pd.ams == .none &&
      x.pd.tx.isNone && 0 < x.pd.capsCount && x.pd.capsCount < 50) fun s => s.sendCaps p)

/-- SINK_REQUEST_EXPIRY (Table 5.10): tSinkRequest after a Wait the sink requests again. -/
def execSinkRequestExpiry (p : PortId) (s : State) : Out :=
  .next (
    let x := s.port p
    s.when (s.pdLive p && x.pdSnk && x.pd.waitRx) fun s =>
      (s.modPd p fun d => { d with waitRx := false }).trigger p .request)

/-- The port holds a PPS contract. -/
def PdPort.pps (d : PdPort) : Bool := d.contract == .explicit && d.terms.ctype == 1

/-- PPS_TIMEOUT (R172). -/
def execPpsTimeout (p : PortId) (s : State) : Out :=
  .next (s.when (s.pdLive p && (s.port p).pdSrc && (s.port p).pd.pps) fun s => s.hardReset p)

/-- PPS_REQUEST_EXPIRY (R172). -/
def execPpsRequestExpiry (p : PortId) (s : State) : Out :=
  .next (s.when (s.pdLive p && (s.port p).pdSnk && (s.port p).pd.pps) fun s => s.trigger p .request)

/-- PPS_UNDERVOLTAGE_TIMEOUT (R170): VBUS lies below the APDO's minimum as offered. -/
def execPpsUndervoltageTimeout (p : PortId) (s : State) : Out :=
  .next (
    let x := s.port p
    let low := match x.pd.obj with
      | some o => decide (x.tc.vbusMv < o.e.vlo * 10)
      | none => false
    s.when (s.pdLive p && x.pdSrc && x.pd.pps && low) fun s => s.hardReset p)

/-! ## Resets -/

/-- SOFT_RESET (R141, R173): Accept is sent and the counters of its SOP type go back to their start; a swap, a VDM or a notice
awaiting its answer is dropped, and a source sends capabilities after it. A Soft_Reset of the device's own that waits is no longer
due, but for one the host asked for (R145, R442); one in answer to FR_Swap leads to ErrorRecovery (R191).
DESIGN CHOICE, unsafe: log entry 112. -/
def execSoftReset (p : PortId) (h : RxHdr) (s : State) : Out :=
  .next (s.when (s.receives p h.sop) fun s => (s.takeMsg p h).act p fun s =>
    let s := (s.pdEvt p 2).count p.val 0x06 1
    let asked := (s.port p).prun.any fun r => r.kind == 0 && r.result.isNone
    let s := s.modPd p fun d => { d with trig := if asked then d.trig else d.trig.filter fun a => a != .softReset }
    if h.sop == .sop && (s.port p).swap.frSent then s.errorRecovery p
    else if h.sop == .sop then
      ((s.cutAms p).modPd p fun d => { d.resetSop .sop with ams := .partner, srAccept := true }).sendCtl p .accept
    else
      (s.modPd p fun d => d.resetSop h.sop).sendMsg p ⟨h.sop, .accept, [], [], (s.port p).pd.cableRev, 0⟩)

/-- Hard Reset received (R175). -/
def State.gotHardReset (s : State) (p : PortId) : State := s.when (s.hrLive p) fun s => s.hrSequence p

/-- PS_HARD_RESET_EXPIRY (R175): VBUS and VCONN are removed. -/
def execPsHardResetExpiry (p : PortId) (s : State) : Out :=
  .next (s.when (s.portReady p && (s.port p).pd.hr == .srcWait) fun s =>
    let st := (s.port p).sw.st
    let s := if st == .closed || st == .softstart then s.openSwitch p else s.vconnOff p
    (s.modPd p fun d => { d with hr := .srcOff }).holdRail p)

/-- SRC_RECOVER_EXPIRY (R175): vSafe5V is restored. -/
def execSrcRecoverExpiry (p : PortId) (s : State) : Out :=
  .next (s.when (s.portReady p && (s.port p).pd.hr == .srcOff) fun s =>
    (s.modPd p fun d => { d with hr := .srcRestore }).applyVbus p)

/-- The port waits as sink for vSafe5V. -/
def HrPhase.isSink : HrPhase → Bool
  | .sink _ => true
  | _ => false

/-- VSAFE5V_RETURN (R175): vSafe5V stands again, and the switch may close under R216. -/
def execVsafe5vReturn (p : PortId) (s : State) : Out :=
  .next (s.when (s.portReady p && (s.port p).pd.hr.isSink && 4750 ≤ (s.port p).tc.vbusMv) fun s =>
    ((s.modPd p fun d => { d with hr := .none }).prunDone p [1] 0).tryClose p)

/-- HARD_RESET_DETACH_TIMEOUT (R175): the port qualifies a detach. -/
def execHardResetDetachTimeout (p : PortId) (s : State) : Out :=
  .next (s.when (s.portReady p && (s.port p).pd.hr.isSink && !(s.port p).tc.leaving) fun s =>
    let s := ((s.leaveAttach p).portEvt p 1).count p.val 0x09 1
    (s.modTc p fun t => { t with leaving := true }).finishLeaving p)

/-! ## Cable discovery -/

/-- DISCOVER_IDENTITY_TIMER (Table 5.4): discovery is repeated after a contract by the port that sources VCONN, up to
20 attempts. -/
def execDiscoverIdentityTimer (p : PortId) (s : State) : Out :=
  .next (
    let x := s.port p
    s.when (s.pdLive p && x.tc.vconnOn && !x.pd.cableOk && x.pd.discTries < 20 && x.pd.hasContract) fun s =>
      s.trigger p .discoverCable)

/-- CABLE_IDENTITY_ANSWER (Table 5.4, R148): an ACK gives the cable's current, voltage and EPR capability from its cable VDO;
anything else leaves it undiscovered. Any answer gives the cable's revision. A late or repeated one is acknowledged alone (R141,
R142). -/
def execCableIdentityAnswer (p : PortId) (h : RxHdr) (v : List Word) (s : State) : Out :=
  .next (
    s.when (h.sop == .sop1) fun s => s.onMsg p h fun s =>
    let a := (s.port p).pd.ams
    s.when (!(s.port p).pd.sinkTxWait && (a == .discoverCable || (a == .eprEntry && (s.port p).pdSrc))) fun s =>
      let s := s.modPd p fun d => { d with cableRev := if h.rev < d.cableRev then h.rev else d.cableRev }
      match v with
      | hd :: _ :: _ :: _ :: c :: _ =>
        if vdmType hd == 1 then
          let n := c.toNat
          let s := s.modPd p fun d => { d with
            cableOk := true, cable5A := bitsOf n 6 5 == 2, cableEpr := c.getLsbD 17, cableV := BitVec.ofNat 2 (bitsOf n 10 9) }
          if a == .eprEntry then s.eprChecks p true
          else (if (s.port p).pdSrc then s.trigger p .negotiation else s).amsEnd p
        else if a == .eprEntry then s.eprFail p 1 else s.cableUnanswered p
      | _ => if a == .eprEntry then s.eprFail p 1 else s.cableUnanswered p)

end Sys2Proof.Machine
end

