-- ==== Sys2Proof/Machine/Ledger.lean ====
section
/-!
DEFINITION. The Ledger: accounts, ceilings, the decision cycle of R302 step by step, and what each port does with the
outcome (chapter 9).
-/
namespace Sys2Proof.Machine

/-! ## Accounts (Table 9.1) -/

/-- The bridge of which a port is the source end. -/
def State.bridgeOf (s : State) (p : PortId) : Option Bridge := s.ledger.bridges.find? fun b => b.src == p

/-- A bridge's sink end holds a sink contract. -/
def State.bridgeLive (s : State) (b : Bridge) : Bool :=
  let x := s.port b.snk
  x.snkAtt && x.pd.hasContract && !x.tc.inReset

/-- The bridge ceiling (R284): 0 with no sink contract. -/
def State.bridgeCeil (s : State) (b : Bridge) : Nat :=
  if s.bridgeLive b then (s.port b.snk).pd.terms.v * (s.port b.snk).pd.terms.i / 1000 * 9 / 10 else 0

/-- The sink end of a bridge is in ErrorRecovery or its port engine is reset (R285). -/
def State.bridgeFault (s : State) (b : Bridge) : Bool :=
  (s.port b.snk).tc.state == .errorRecovery || (s.port b.snk).tc.inReset

/-- The account a grant of a port in a direction is charged to.
DESIGN CHOICE, unsafe: log entry 130. -/
def State.acctOf (s : State) (p : PortId) (sink : Bool) : Acct :=
  if s.ledger.islanded then (if sink then .uncharged else .island)
  else if sink then
    (if s.formingSrc p || (s.ledger.bridges.any fun b => b.snk == p) then .uncharged else .intake)
  else match s.bridgeOf p with
    | some b => if s.bridgeLive b || s.bridgeFault b then .bridge p else .panel
    | none => .panel

/-- The account of a port's present grant. -/
def State.acct (s : State) (p : PortId) : Acct := s.acctOf p (s.port p).lg.sink

/-- Sum over the ports. -/
def sumPorts (f : PortId → Nat) : Nat := (allPorts.map f).sum

/-- Coins granted on an account, those of ports released while frozen included (R320). -/
def State.grantedOn (s : State) (a : Acct) : Nat :=
  sumPorts (fun p => if s.acct p == a then (s.port p).lg.grant else 0) +
    (if a == .panel || a == .island then s.ledger.frozenRel else 0)

def State.grantedCls (s : State) (a : Acct) (c : BitVec 2) : Nat :=
  sumPorts fun p => if s.acct p == a && (s.port p).lg.cls == c then (s.port p).lg.grant else 0

/-- Coins reserved on an account, that of the new grant as it now stands (R317, R319). -/
def State.reservedOn (s : State) (a : Acct) : Nat :=
  sumPorts fun p => match (s.port p).lg.resv with
    | some r => if s.acctOf p r.toSink == a then r.coins else 0
    | none => 0

def State.reservedCls (s : State) (a : Acct) (c : BitVec 2) : Nat :=
  sumPorts fun p => match (s.port p).lg.resv with
    | some r => if s.acctOf p r.toSink == a && (s.port p).lg.cls == c then r.coins else 0
    | none => 0

/-- The sum of all sink-direction grants. -/
def State.sinkGrants (s : State) : Nat := sumPorts fun p => if (s.port p).lg.sink then (s.port p).lg.grant else 0

/-- Capacity of an account (Table 9.1); a loan counts from the decision cycle after its acknowledgement (R324). -/
def State.capacity (s : State) : Acct → Nat
  | .panel => s.ledger.cfg.budget + (s.ledger.borrowed - s.ledger.uncounted) - s.ledger.lent
  | .island => s.sinkGrants * 9 / 10
  | .bridge p => match s.bridgeOf p with
    | some b => s.bridgeCeil b
    | none => 0
  | .intake => s.ledger.cfg.intakeCap
  | .uncharged => 65535

/-- Classes, floats and caps apply to the panel and island accounts. -/
def Acct.classed (a : Acct) : Bool := a == .panel || a == .island

/-- The class cap in force, taken as 0 for a shed class (R328). -/
def State.capOf (s : State) (c : BitVec 2) : Nat :=
  if c = 0 then s.ledger.cfg.capE
  else if c = 1 then (if s.ledger.shed = 2 then 0 else s.ledger.cfg.capW)
  else if s.ledger.shed = 0 then s.ledger.cfg.capC else 0

/-- The floats held back from a class. -/
def State.floats (s : State) (c : BitVec 2) : Nat :=
  if c = 0 then 0 else if c = 1 then s.ledger.cfg.floatE else s.ledger.cfg.floatE + s.ledger.cfg.floatW

/-- Free coins of an account before floats; negative where overdrawn. -/
def State.freeOn (s : State) (a : Acct) : Int :=
  (s.capacity a : Int) - s.grantedOn a - s.reservedOn a

/-- The free bound of a class on an account. -/
def State.freeBound (s : State) (a : Acct) (c : BitVec 2) : Int :=
  s.freeOn a - (if a.classed then (s.floats c : Int) else 0)

/-- The class-cap bound. -/
def State.capBound (s : State) (a : Acct) (c : BitVec 2) : Int :=
  (s.capOf c : Int) - s.grantedCls a c - s.reservedCls a c

/-- available() of R302. -/
def State.available (s : State) (a : Acct) (c : BitVec 2) : Nat :=
  if a == .uncharged then 65535
  else (if a.classed then min (s.freeBound a c) (s.capBound a c) else s.freeBound a c).toNat

/-! ## Ceilings (Table 9.4) -/

/-- The fault ceiling binds. -/
def State.faultCeil (s : State) (p : PortId) : Bool :=
  let x := s.port p
  x.tc.state == .errorRecovery || x.tc.held || x.tc.inReset ||
    (match s.bridgeOf p with
     | some b => !x.lg.sink && s.bridgeFault b
     | none => false)

/-- The ceilings that bind a port in a direction, each with its reason. -/
def State.ceilings (s : State) (p : PortId) (sink : Bool) : List (Nat × Nat) :=
  let x := s.port p
  (if s.faultCeil p then [(0, 8)] else []) ++
  (if x.lg.maxGrant == 65535 then [] else [(x.lg.maxGrant, 7)]) ++
  (if x.sw.therm != 0 then [(x.sw.ceil (isE p) * x.topV sink / 1000, 4)]
   else if x.sw.health == 1 then [(x.sw.ceil (isE p) * x.topV sink / 1000, 3)] else []) ++
  (match s.bridgeOf p with
   | some b =>
     if sink then []
     else if s.ledger.islanded then [(s.bridgeCeil b, 5)]
     else if s.bridgeLive b then [(s.bridgeCeil b, 1)] else []
   | none => [])

/-- A port's ceiling: the least of them. -/
def State.ceiling (s : State) (p : PortId) (sink : Bool) : Nat :=
  (s.ceilings p sink).foldl (fun n c => min n c.1) 65535

/-- The place of a reason in the order of R305. -/
def reasonRank (r : Nat) : Nat :=
  match r with
  | 8 => 0 | 5 => 1 | 7 => 2 | 4 => 3 | 3 => 4 | 2 => 5 | 6 => 6 | _ => 7

/-- The bound that sets a result: the least value, and between equal values the reason that stands first (R305). -/
def binding : List (Int × Nat) → Nat
  | [] => 1
  | b :: r => (r.foldl (fun m c => if c.1 < m.1 || (c.1 == m.1 && reasonRank c.2 < reasonRank m.2) then c else m) b).2

/-- A shortfall with this reason is placed on the waiting list (R308). -/
def queueable (r : Nat) : Bool := r == 1 || r == 2 || r == 5 || r == 6

/-! ## Single changes -/

/-- The floor of a grant for a cause: 45 coins for a source grant that has reached them, but 0 where the island account's
capacity shrinks (R296, R315).
DEDUCED, unsafe: log entry 51. -/
def State.floorOf (s : State) (p : PortId) (reason : Nat) : Nat :=
  let l := (s.port p).lg
  if l.sink || reason == 5 then 0 else min 45 l.grant

/-- Puts a standing shortfall on the waiting list, keeping the cycle of an entry already there (R308). -/
def LgPort.enqueue (l : LgPort) (cycle : Nat) (reason : Nat) : LgPort :=
  { l with waiting := if l.standing && l.grant < l.demand && queueable reason then some (l.waiting.getD cycle) else none }

/-- Lowers a grant: TRIMMED, with the reason of the cause, and its shortfall waits where that is queueable. -/
def State.trim (s : State) (p : PortId) (g reason : Nat) : State :=
  s.modLg p fun l =>
    { l with grant := g, outcome := 2, reason := byteOf reason 0 }.enqueue s.ledger.cycle reason

/-- The latest-raised of some ports: the latest increase, then the higher port (R303). -/
def State.latest (s : State) (l : List PortId) : Option PortId :=
  l.foldl (fun m p => match m with
    | none => some p
    | some q => if (s.port q).lg.raised ≤ (s.port p).lg.raised then some p else some q) none

/-- A power role swap with its reservation is in progress: a preemption or trim applies after its commit (R186). -/
def Port.swapHolds (x : Port) : Bool := x.swap.power && x.lg.resv.isSome

/-- The grants of a class on an account that stand above their floors for a cause. -/
def State.victims (s : State) (a : Acct) (c : BitVec 2) (reason : Nat) : List PortId :=
  allPorts.filter fun p =>
    s.acct p == a && (s.port p).lg.cls == c && s.floorOf p reason < (s.port p).lg.grant && !(s.port p).swapHolds

/-- Cuts latest-raised grants of a class on an account until `need` coins are freed; answers what was freed.
DEDUCED, unsafe: log entry 51. -/
def State.cutClass (s : State) (a : Acct) (c : BitVec 2) (reason : Nat) : Nat → Nat → State × Nat
  | 0, _ => (s, 0)
  | fuel + 1, need =>
    if need == 0 then (s, 0)
    else match s.latest (s.victims a c reason) with
      | none => (s, 0)
      | some v =>
        let g := (s.port v).lg.grant
        let take := min (g - s.floorOf v reason) need
        let (s', got) := (s.trim v (g - take) reason).cutClass a c reason fuel (need - take)
        (s', take + got)

/-- How many ports hold a lower grant than before. -/
def State.lowered (s old : State) : Nat :=
  (allPorts.filter fun p => (s.port p).lg.grant < (old.port p).lg.grant).length

/-- preempt() of R302: Comfort, then Working (R313). Each grant trimmed is counted (Table 18.3). -/
def State.preempt (s : State) (a : Acct) (need : Nat) : State × Nat :=
  let (s1, g1) := s.cutClass a 2 1 32 need
  let (s2, g2) := s1.cutClass a 1 1 32 (need - g1)
  let s3 := if g1 + g2 == 0 then s2 else (s2.lgEvt 0).count 32 0x07 (s2.lowered s)
  (s3, g1 + g2)

/-- shrink() of R302 on one account: class caps first, then the capacity, Comfort first (R315). -/
def State.shrinkAcct (s : State) (a : Acct) : State :=
  let s := if a.classed then
      [2, 1, 0].foldl (fun (s : State) (c : BitVec 2) =>
        (s.cutClass a c 2 32 (s.grantedCls a c + s.reservedCls a c - s.capOf c)).1) s
    else s
  let reason := if a == .island then 5 else if a == .panel then s.ledger.shrinkRsn.toNat else 1
  let excess := (-(s.freeOn a)).toNat
  let (s, g2) := s.cutClass a 2 reason 32 excess
  let (s, g1) := s.cutClass a 1 reason 32 (excess - g2)
  (s.cutClass a 0 reason 32 (excess - g2 - g1)).1

/-! ## decide() -/

/-- A demand or probe to be decided. -/
structure Dem where
  port : PortId
  coins : Nat
  sink : Bool
  kind : DemKind
  probe : Bool
  /-- the whole amount a Fast Role Swap standby probe needs, else 0 -/
  standby : Nat
  /-- the decision is a retry of a standing demand -/
  retry : Bool
  deriving DecidableEq, Repr

/-- minuse (Table 9.5), that of a bridge source end for each of its demands. -/
def State.minuse (s : State) (d : Dem) : Nat :=
  if d.standby != 0 then d.standby
  else if d.probe then (if d.sink then 1 else 45)
  else if !d.sink && (s.bridgeOf d.port).isSome then 45
  else match d.kind with
    | .attach => if d.sink then 1 else 45
    | _ => (s.port d.port).lg.grant + 1

/-- The present grant counts as free for a demand on the same account (R316). -/
def State.ownCoins (s : State) (d : Dem) (a : Acct) : Nat :=
  let l := (s.port d.port).lg
  if s.acct d.port == a && l.sink == d.sink then l.grant else 0

/-- The bounds of a demand (R305): ceilings, and on a charged account its free coins and its class cap. A retry that free
coins of the panel bind keeps reason 0x06 while the grant stands as the withdrawal left it. -/
def State.bounds (s : State) (d : Dem) (a : Acct) : List (Int × Nat) :=
  let l := (s.port d.port).lg
  let own : Int := s.ownCoins d a
  let freeR := if a == .island then 5 else if a == .panel && d.retry && l.reason == 6 then 6 else 1
  (s.ceilings d.port d.sink).map (fun c => ((c.1 : Int), c.2)) ++
  (if a == .uncharged then []
   else (s.freeBound a l.cls + own, freeR) :: (if a.classed then [(s.capBound a l.cls + own, 2)] else []))

/-- What a decision gives, after preemption: the state, the coins, the outcome and the reason. -/
def State.weigh (s : State) (d : Dem) : State × Nat × Nat × Nat :=
  let a := s.acctOf d.port d.sink
  let cls := (s.port d.port).lg.cls
  let want := min d.coins (s.ceiling d.port d.sink)
  let own := s.ownCoins d a
  let room := s.available a cls + own
  let capRoom := if a.classed then (s.capBound a cls + own).toNat else 65535
  let limit := min want capRoom
  let (s, room) := if room < want && cls == 0 && s.ledger.cfg.preempt && !d.probe && room < limit then
      let (s', got) := s.preempt a (limit - room)
      (s', room + got)
    else (s, room)
  let give := min want room
  let r := binding (s.bounds d a)
  if d.coins ≤ give then (s, give, 1, 0)
  else if s.minuse d ≤ give then (s, give, 2, r)
  else if queueable r && !d.probe then (s, give, 3, r)
  else (s, give, 4, r)

/-- A REFUSED outcome of a decision cycle: REFUSE, the count, and every REFSAMPLE-th posts a record (R333). -/
def State.refusal (s : State) (d : Dem) (reason : Nat) : State :=
  let s := (s.lgEvt 1).count 32 0x06 1
  let n := s.ledger.refused + 1
  let s := { s with ledger.refused := n }
  if s.ledger.cfg.refSample != 0 && n % s.ledger.cfg.refSample == 0 then
    s.postRec 0x07 ([byteOf d.port.val 0, byteOf (s.port d.port).lg.cls.toNat 0, byteOf reason 0,
      byteOf (dirCode d.sink) 0] ++ leBytes 2 d.coins ++ leBytes 2 (s.ceiling d.port d.sink) ++ leBytes 4 n)
  else s

/-- decide() of R302 for a demand: the grant, outcome, reason and waiting-list entry (R308, R311). -/
def State.decideDemand (s : State) (d : Dem) : State :=
  let (s, give, o, r) := s.weigh d
  let s := s.count 32 0x02 1
  let s := if o == 4 then s.refusal d r else s.count 32 (o + 2) 1
  s.modLg d.port fun l =>
    let l := if o == 1 || o == 2 then
        { l with grant := give, sink := d.sink, raised := if l.grant < give then s.ledger.cycle else l.raised }
      else l
    { l with outcome := BitVec.ofNat 3 o, reason := byteOf r 0 }.enqueue s.ledger.cycle (if o == 4 then 0 else r)

/-- decide() for a probe: the answer, and on an answer that permits the swap the reservation (R316, R317). -/
def State.decideProbe (s : State) (d : Dem) : State :=
  let a := s.acctOf d.port d.sink
  let own := s.ownCoins d a
  let (s, give, o, r) := s.weigh d
  let s := if o == 4 then s.refusal d r else s
  let ok := if d.standby != 0 then o == 1 else probePermits d.sink (BitVec.ofNat 3 o) give
  s.modLg d.port fun l => { l with
    probe := some (BitVec.ofNat 3 o, byteOf r 0, give),
    resv := if ok then some ⟨give - own, give, d.sink, d.standby, d.coins, BitVec.ofNat 3 o, byteOf r 0⟩ else l.resv }

/-- Decides while frozen: every new demand is answered QUEUED with reason 0x08 (R320), a probe REFUSED with it.
DEDUCED, unsafe: log entry 56. -/
def State.decideFrozen (s : State) (d : Dem) : State :=
  if d.probe then (s.refusal d 8).modLg d.port fun l => { l with probe := some (4, 8, 0) }
  else s.modLg d.port fun l => { l with outcome := 3, reason := 8, waiting := none }

def State.decideOne (s : State) (d : Dem) : State :=
  if s.ledger.frozen then s.decideFrozen d else if d.probe then s.decideProbe d else s.decideDemand d

/-! ## The cycle's steps (R302) -/

/-- A bridge takes effect or is removed (R283); a removed one's feeding sink end has its own limit again (R264). -/
def State.setBridge (s : State) (q : Bridge × Bool) : State :=
  if q.2 then { s with ledger.bridges := s.ledger.bridges ++ [q.1] }
  else
    let gone := s.ledger.bridges.filter fun c => c.src == q.1.src
    let s := { s with ledger.bridges := s.ledger.bridges.filter fun c => c.src != q.1.src }
    gone.foldl (fun s b => s.when ((s.port b.snk).cv.dir = 2) fun s => s.setIlim b.snk) s

/-- take_pending_config(), the bridges and the house-bus isolation of R319 included.
DESIGN CHOICE, unsafe: log entry 50. -/
def State.takeConfig (s : State) : State :=
  let L := s.ledger
  let s := match L.pend with
    | some c => { s with ledger := { L with
        cfg := c, pend := none, refused := 0, noBorrow := false,
        shrinkRsn := if c.budget < L.cfg.budget then 1 else L.shrinkRsn } }
    | none => s
  let s := s.eachPort fun s p => s.modLg p fun l => match l.pendCls with
    | some (c, m) => { l with cls := c, maxGrant := m, pendCls := none }
    | none => l
  let s := s.ledger.brPend.foldl State.setBridge s
  ({ s with ledger.brPend := [], ledger.islanded := s.sys.hbisoLow } : State).reForm

/-! ## Loans on the books (R321 to R327) -/

def sumLoans (l : List Loan) : Nat := (l.map (·.coins)).sum

/-- BORROWED and LENT follow the loans; offers count as lent at once (R323). -/
def State.bookLoans (s : State) : State :=
  let b := sumLoans s.ring.borrowedFrom
  let l := sumLoans s.ring.lentTo + sumLoans s.ring.offers
  let s := if b != s.ledger.borrowed then s.lgEvt 2 else s
  let s := if l != s.ledger.lent then s.lgEvt 3 else s
  { s with ledger.borrowed := b, ledger.uncounted := min s.ledger.uncounted b, ledger.lent := l }

/-- The balance with one node changed to a value, a new entry standing first.
DESIGN CHOICE, unsafe: log entry 61. -/
def setLoan (l : List Loan) (n : Node) (coins : Nat) : List Loan :=
  if l.any fun x => x.node == n then l.map fun x => if x.node == n then { x with coins := coins } else x
  else ⟨n, coins, 0⟩ :: l

/-- The balance with one node. -/
def loanOf (l : List Loan) (n : Node) : Nat := ((l.find? fun x => x.node == n).map (·.coins)).getD 0

/-- apply_ring_book() of R302: loans acknowledged count from now (R324), and borrowers' lower balances are adopted (R363); not while
frozen (R320). -/
def State.applyRingBook (s : State) : State :=
  if s.ledger.frozen then s
  else
    let due := fun (l : List Loan) (d : Loan) => setLoan l d.node (min d.coins (loanOf l d.node))
    ({ s with
      ring := { s.ring with lentTo := s.ring.lentDue.foldl due s.ring.lentTo, lentDue := [] },
      ledger := { s.ledger with uncounted := 0 } } : State).bookLoans

/-- A release, commit, reservation release or LEDGER_RELEASE is applied (R317, R330). -/
def State.applyPost (s : State) : Post → State
  | .release p =>
    let g := (s.port p).lg.grant
    let s := if s.ledger.frozen && (s.acct p).classed then { s with ledger.frozenRel := s.ledger.frozenRel + g } else s
    s.modLg p fun l => { l with
      outcome := 0, reason := 0, grant := 0, demand := 0, standing := false, waiting := none, resv := none,
      upgrade := false, probe := none }
  | .commit p => s.modLg p fun l => match l.resv with
    | some r => { l with
        grant := r.give, sink := r.toSink, outcome := r.outcome, reason := r.reason, demand := r.want, standing := true,
        kind := .attach, upgrade := false, waiting := none, resv := none,
        raised := if l.grant < r.give then s.ledger.cycle else l.raised }.enqueue s.ledger.cycle r.reason.toNat
    | none => l
  | .resvRelease p => s.modLg p fun l => { l with resv := none, probe := none }
  | .hostRelease p => s.modLg p fun l =>
    if l.standing && l.outcome != 1 then
      { l with demand := 0, standing := false, waiting := none, outcome := 4, reason := 7, upgrade := false }
    else l
  | _ => s

/-- The port a posting concerns. -/
def Post.port : Post → PortId
  | .demand p _ _ _ _ => p | .probe p _ _ _ => p | .release p => p | .commit p => p | .resvRelease p => p
  | .hostRelease p => p

/-- The posting is a commit. -/
def Post.commits : Post → Bool
  | .commit _ => true
  | _ => false

/-- The posting is a demand of a port. -/
def Post.demands (p : PortId) : Post → Bool
  | .demand q .. => p == q
  | _ => false

/-- A posting that ends a demand, or with `probe` a probe, that its port posted before it in the cycle (R33, R186). -/
def Post.ends (probe : Bool) : Post → Bool
  | .release _ => true
  | .resvRelease _ => probe
  | _ => false

/-- The demands and probes of a cycle that no later release of their port ends. -/
def liveDemands : List Post → List Post
  | [] => []
  | q :: r =>
    let rest := liveDemands r
    match q with
    | .demand p .. => if r.any fun z => z.ends false && z.port == p then rest else q :: rest
    | .probe p .. => if r.any fun z => z.ends true && z.port == p then rest else q :: rest
    | _ => rest

/-- Cuts every grant above its ceiling (R300); a bridge ceiling below the grant sets BRIDGETRIM (R285). -/
def State.applyCeilings (s : State) : State :=
  s.eachPort fun s p =>
    let l := (s.port p).lg
    let c := s.ceiling p l.sink
    if c < l.grant && !(s.port p).swapHolds then
      let r := binding ((s.ceilings p l.sink).map fun c => ((c.1 : Int), c.2))
      let s := if !l.sink && (match s.bridgeOf p with
          | some b => s.bridgeCeil b < l.grant
          | none => false) then s.cvEvt p 5 else s
      s.trim p c r
    else s

/-- The bridges whose sink end has lost its contract since the last cycle, the panel joined. -/
def State.bridgesLost (s : State) : List PortId :=
  if s.ledger.islanded then []
  else s.ledger.brLive.filter fun p => match s.bridgeOf p with
    | some b => !s.bridgeLive b && !s.bridgeFault b && !(s.port p).lg.sink && (s.port p).lg.standing
    | none => false

/-- The source ends of the bridges that have been removed, the panel joined (R318). -/
def State.bridgesGone (s : State) (old : List Bridge) : List PortId :=
  if s.ledger.islanded then []
  else (old.map fun (b : Bridge) => b.src).filter fun p =>
    (s.bridgeOf p).isNone && !(s.port p).lg.sink && (s.port p).lg.standing

/-- Such a source end's demand is decided against the panel budget. Where its bridge still stands, the ceiling of 0 cuts its grant and
sets BRIDGETRIM (R285, R318); where the bridge is removed no ceiling binds, and a grant that had reached 45 coins keeps them (R296). -/
def State.dropLost (s : State) (l : List PortId) : State :=
  l.foldl (fun s p =>
    if (s.bridgeOf p).isNone then s.modLg p fun g => { g with grant := min 45 g.grant, waiting := none }
    else (if (s.port p).lg.grant == 0 then s else s.cvEvt p 5).modLg p fun g => { g with grant := 0, waiting := none }) s

/-- apply_shed(): the level in force (R328). -/
def State.applyShed (s : State) : State :=
  let own := s.ledger.cfg.shedLvl
  let rx := s.ring.peers.foldl (fun (m : BitVec 2) q => if m < q.shed then q.shed else m) 0
  let lvl := if own < rx then rx else own
  let s := if lvl != s.ledger.shed then s.lgEvt 5 else s
  { s with ledger.shed := lvl, ledger.shedRx := own < rx }

/-- Shrinks every account.
DEDUCED, unsafe: log entry 51. -/
def State.shrinkAll (s : State) : State :=
  if s.ledger.islanded then s.shrinkAcct .island
  else
    let s := (s.shrinkAcct .panel).shrinkAcct .intake
    s.ledger.bridges.foldl (fun s b => s.shrinkAcct (.bridge b.src)) s

/-- Inserts by class, then port, after equals (R32). -/
def insertDem (cls : PortId → Nat) (d : Dem) : List Dem → List Dem
  | [] => [d]
  | e :: r =>
    if cls d.port < cls e.port || (cls d.port == cls e.port && d.port.val < e.port.val) then d :: e :: r
    else e :: insertDem cls d r

def sortDems (cls : PortId → Nat) (l : List Dem) : List Dem := l.foldl (fun acc d => insertDem cls d acc) []

/-- Takes a posted demand as its port's standing demand, which replaces the one before it (R306, R311). -/
def State.takeDemand (s : State) : Post → State × Option Dem
  | .demand p c k snk up =>
    (s.modLg p fun l => { l with
      demand := c, standing := true, kind := k, upgrade := up, waiting := none,
      sink := if l.grant == 0 then snk else l.sink }, some ⟨p, c, snk, k, false, 0, false⟩)
  | .probe p c snk st => (s, some ⟨p, c, snk, .attach, true, st, false⟩)
  | _ => (s, none)

/-- The retry of a standing demand.
DEDUCED, unsafe: log entry 52. -/
def State.retryOf (s : State) (p : PortId) : Dem :=
  let l := (s.port p).lg
  ⟨p, l.demand, l.sink, l.kind, false, 0, true⟩

/-- New demands and probes are decided by class, then port, with the demands of `lost` bridge ends. -/
def State.decideNew (s : State) (posts : List Post) (lost : List PortId) : State :=
  let (s, ds) := (liveDemands posts).foldl (fun (acc : State × List Dem) q =>
    let (s, d) := acc.1.takeDemand q
    (s, acc.2 ++ d.toList)) (s, [])
  let again := (lost.filter fun p => !(ds.any fun d => d.port == p && !d.probe)).map fun p =>
    { s.retryOf p with kind := .attach, retry := false }
  (sortDems (fun p => (s.port p).lg.cls.toNat) (ds ++ again)).foldl State.decideOne s

/-- What a change of makes a standing demand due again: the ceiling, MAXGRANT and the fault state (R306). -/
def State.dueMark (s : State) (p : PortId) : Nat × Nat × Bool :=
  (s.ceiling p (s.port p).lg.sink, (s.port p).lg.maxGrant, s.faultCeil p)

/-- Standing demands due again: not fully granted, with no entry, after such a change (R306). -/
def State.decideDue (s : State) : State :=
  let due := allPorts.filter fun p =>
    let l := (s.port p).lg
    l.standing && l.outcome != 1 && l.waiting.isNone && s.dueMark p != l.lastCeil
  (sortDems (fun p => (s.port p).lg.cls.toNat) (due.map s.retryOf)).foldl State.decideOne s

/-- The waiting list in its order (R308). -/
def State.waitList (s : State) : List PortId :=
  (allPorts.filter fun p => (s.port p).lg.waiting.isSome).foldl (fun acc p =>
    acc.takeWhile (fun q => !s.waitsBefore p q) ++ p :: acc.dropWhile (fun q => !s.waitsBefore p q)) []

/-- Each entry is decided again, in list order (R310).
DESIGN CHOICE, unsafe: log entry 131. -/
def State.decideWaiting (s : State) : State :=
  s.waitList.foldl (fun s p =>
    if (s.port p).lg.waiting.isSome then (s.decideOne (s.retryOf p)).count 32 0x08 1 else s) s

/-- The summary words and the ceilings the next cycle compares with (Table 9.12, R306, R619).
DEDUCED, unsafe: log entry 49. -/
def State.publish (s : State) : State :=
  let a : Acct := if s.ledger.islanded then .island else .panel
  let s := { s with
    ledger.cap := s.capacity a, ledger.granted := s.grantedOn a + s.reservedOn a,
    ledger.intake := if s.ledger.islanded then 0 else s.grantedOn .intake,
    ledger.pubBorrow := s.ledger.borrowed, ledger.pubLent := s.ledger.lent, ledger.pubStat := s.statNow,
    ledger.brLive := (s.ledger.bridges.filter s.bridgeLive).map fun (b : Bridge) => b.src }
  s.eachPort fun s p => s.modLg p fun l =>
    if s.ledger.frozen then l else { l with lastCeil := s.dueMark p }

/-- The arithmetic of one cycle on some postings, `old` being the bridges before it. While frozen a commit, which would change a
grant, waits (R320). -/
def State.cycleBook (s : State) (old : List Bridge) (posts : List Post) : State :=
  let s := { s with ledger.cycle := s.ledger.cycle + 1 }
  if s.ledger.frozen then
    let s := (posts.filter fun q => !q.commits).foldl State.applyPost s
    ({ s with ledger.posts := posts.filter Post.commits ++ s.ledger.posts } : State).decideNew posts [] |>.publish
  else
    let s := posts.foldl State.applyPost s
    let lost := s.bridgesLost ++ s.bridgesGone old
    ((((((s.dropLost lost).applyCeilings).applyShed).shrinkAll).decideNew posts lost).decideDue).decideWaiting.publish

/-! ## What the ports do with the outcome (Table 9.7) -/

/-- One port's reaction: OUTCHG when outcome, reason or grant changed, the answer of a waiting request or probe, and the
grant as source or sink. -/
def State.react (s : State) (old : LgPort) (p : PortId) : State :=
  let x := s.port p
  let l := x.lg
  let chg := l.outcome != old.outcome || l.reason != old.reason || l.grant != old.grant
  let s := if chg then (s.modLg p fun l => { l with outchg := true }) else s
  let s := if l.grant != old.grant then s.count p.val 0x12 1 else s
  let decided := x.pd.asked.isSome && l.standing && !(s.ledger.posts.any fun q => q.demands p)
  let s := if decided then s.answerAsked p (old.grant < l.grant) else s
  let s := s.probeAnswer p
  if !x.tc.state.attached || x.tc.leaving then s
  else if x.srcAtt then
    if l.sink then s else if chg || old.sink || s.capsAltered p then s.sourceGrant p (l.grant != old.grant || old.sink) else s.tryClose p
  else if x.snkAtt then (((if chg then s.sinkGrant p else s).tryClose p).startReverse p).frCheck p
  else s

/-- The source end of a bridge delivers power: attached, its switch closed and its converter running. -/
def Port.delivers (x : Port) : Bool := x.srcAtt && x.sw.st == .closed && x.cv.dir = 1

/-- The feeding sink end of a bridge takes the input power that the source end's measured output sets: a measured value,
bounded by its contract and grant; nothing where the source end is lost (R284, R285).
DESIGN CHOICE, safe: log entry 53. -/
def State.bridgeFeed (s : State) : State :=
  if s.ledger.islanded then s
  else s.ledger.bridges.foldl (fun s b =>
    if (s.port b.snk).cv.dir = 2 then
      if (s.port b.src).delivers then
        let s := s.setIlim b.snk
        (s.modCv b.snk fun c => { c with ilim := min c.ilim (s.freeNat % 256) }).drawn
      else s.modCv b.snk fun c => { c with ilim := 0 }
    else s) s

/-- The power an Ember donor is taken in with: its contract's, or with none vSafe5V at the partner's Rp (R89, R90). -/
def State.donorCoins (s : State) (p : PortId) : Nat :=
  let x := s.port p
  if x.pd.hasContract then x.pd.terms.coins else demandOf 500 (s.curLimit p)

/-- The first normal cycle (R84): the Ledger is READY, which completes an Ember start (R611), contracts made under safe defaults are demands of 45 coins, and
each attached port posts a demand from its table for the next cycle. The Ember donor's contract is taken in with its own
power (R89). An accessory posts none (R119).
DEDUCED, unsafe: log entry 10. DEDUCED, unsafe: log entry 20. -/
def State.firstCycle (s : State) : State × List PortId :=
  let ps := allPorts.filter fun p => ((s.port p).srcAtt || (s.port p).snkAtt) && (s.port p).tc.safeDef
  let s := ps.foldl (fun s p =>
    s.post (.demand p (if s.ember.donor == some p then s.donorCoins p else 45) .attach (s.port p).snkAtt false)) s
  ({ s with ledger.ready := true, sys.evt := if s.sys.emberBoot then setBit s.sys.evt 1 else s.sys.evt }, ps)

/-- After the first cycle, the demands from the loaded tables; the Ember donor, which keeps its contract, makes none (R93).
DEDUCED, unsafe: log entry 20. -/
def State.afterFirst (s : State) (ps : List PortId) : State :=
  ps.foldl (fun s p =>
    let s := (s.modTc p fun t => { t with safeDef := false }).takeTables p
    if s.ember.donor == some p then s
    else s.postDemand p ((s.port p).attachDemand (s.port p).snkAtt) .attach (s.port p).snkAtt false) s

/-- What a cycle takes in as it begins: the configuration and the ring book. -/
def State.takeInputs (s : State) : State := s.takeConfig.applyRingBook

/-- The ports, loans and shed levels as a mismatched cycle saw them. -/
def State.withInputs (s : State) (i : Rerun) : State :=
  ({ s with
    ledger := { s.ledger with borrowed := i.borrowed, uncounted := 0, lent := i.lent, shrinkRsn := i.shrinkRsn },
    ring.peers := i.peers } : State).eachPort fun s p =>
      s.modPort p fun x => { i.ports.get p with lg := x.lg, cv := x.cv }

/-- The results of a repeated cycle in the present state. -/
def State.outOf (t s : State) : State :=
  ({ t with
    ledger := { t.ledger with
      borrowed := s.ledger.borrowed, uncounted := s.ledger.uncounted, lent := s.ledger.lent, shrinkRsn := s.ledger.shrinkRsn },
    ring.peers := s.ring.peers } : State).eachPort fun t p => t.modPort p fun x => { s.port p with lg := x.lg, cv := x.cv }

/-- The cycle's arithmetic on what has arrived, or in a repeat on the inputs of the cycle that mismatched (R320). -/
def State.cycleRun (s : State) (fresh : Bool) : State :=
  match s.ledger.rerun with
  | none => ({ s with ledger.posts := [] } : State).takeInputs.cycleBook s.ledger.bridges s.ledger.posts
  | some i =>
    let n := if fresh then s.ledger.posts.length else i.posts
    let t := { s with ledger.posts := s.ledger.posts.drop n, ledger.rerun := none }
    ((t.withInputs i).cycleBook i.bridges (s.ledger.posts.take n)).outOf t

/-- One cycle whose results stand. -/
def State.cycleAgreed (s : State) : State :=
  let (s, fresh) := if s.ledger.ready || s.ledger.stuck then (s, []) else s.firstCycle
  let olds := s.ports.map (·.lg)
  let s := s.cycleRun (!fresh.isEmpty)
  let s := if s.ledger.returnAll && s.ledger.borrowed == 0 then { s with ledger.returnAll := false } else s
  let s := (s.eachPort fun s p => s.react (olds.get p) p).bridgeFeed
  (s.afterFirst fresh).count 32 0x01 1

/-- The Ledger freezes (R320): FROZEN and a LEDGER_FREEZE record. A second freeze within an hour stands until RESET_N
(R518).
DEDUCED, unsafe: log entry 56. -/
def State.freezeLedger (s : State) : State :=
  let hour := 3600000000
  let recent := s.ledger.freezes.any fun t => s.sys.sts.toNat - t.toNat < hour
  let s := s.lgEvt 7
  let s := { s with ledger := { s.ledger with
    frozen := true, rerun := none, freezes := s.sys.sts :: s.ledger.freezes, pubStat := s.ledger.pubStat ||| 1 } }
  let body := fun (k : Byte) => k :: (leBytes 2 s.ledger.granted ++ [byteOf s.waitLen 0])
  let s := s.postRec 0x08 (body 1)
  if recent then { s with ledger.stuck := true, ledger.ready := false }.postRec 0x08 (body 3) else s

/-- A lane mismatch: nothing of the cycle is published and it is run again from the same inputs, which it has taken in; at the repeat
the Ledger freezes (R320).
DEDUCED, unsafe: log entry 56. DEDUCED, safe: log entry 95. -/
def State.laneMismatch (s : State) : State :=
  let s := (s.lgEvt 6).count 32 0x09 1
  match s.ledger.rerun with
  | none =>
    let t := s.takeInputs
    let i : Rerun := {
      posts := s.ledger.posts.length, bridges := s.ledger.bridges, ports := t.ports,
      borrowed := t.ledger.borrowed, lent := t.ledger.lent, shrinkRsn := t.ledger.shrinkRsn, peers := t.ring.peers }
    ({ t with ledger.rerun := some i } : State).count 32 0x0A 1
  | some _ => s.freezeLedger

/-- A decision cycle runs: the interpreter has loaded the configuration and CORE is running (R79, R84, R89). -/
def State.ledgerRuns (s : State) : Bool :=
  (s.ledger.ready || s.ledger.stuck || (s.sys.interpSeen && 8 ≤ s.sys.boot)) && (s.sys.pwr == .run || s.sys.pwr == .doze) &&
    !s.sys.resetLow && s.sysMhz != 0

/-- DECISION_CYCLE (R302): with the lane compare off, lane B is not compared (Table 15.3). -/
def execDecisionCycle (laneMis : Bool) (s : State) : Out :=
  .next (if !s.ledgerRuns then s
    else if laneMis && s.safeOn 2 && !s.ledger.frozen then s.laneMismatch else s.cycleAgreed)

end Sys2Proof.Machine
end

