-- ==== Sys2Proof/Machine/CmdOps.lean ====
section
/-!
DEFINITION. Command packets: the opcode table, the acceptance checks, replies, tags, lanes and parts (chapter 12,
Table 13.1).
-/
namespace Sys2Proof.Machine

/-! ## The opcode table (Table 13.1) -/

/-- Which targets an opcode takes (R432). -/
inductive Tgt where
  | dev | port | either
  deriving DecidableEq, Repr

/-- The opcodes of a port, of the device, and of either; those introduced by 1.1. -/
def portOps : List Nat :=
  [0x10, 0x11, 0x12, 0x13, 0x14, 0x20, 0x21, 0x22, 0x23, 0x31, 0x40]
def devOps : List Nat :=
  [0x00, 0x01, 0x02, 0x03, 0x30, 0x41, 0x42, 0x48, 0x49, 0x4A, 0x50, 0x51, 0x52, 0x53, 0x60, 0x61, 0x62, 0x68, 0x69,
   0x6A, 0x6B, 0x70, 0x71, 0x78, 0x79, 0x7A, 0x80, 0x81, 0x82, 0x83, 0x88, 0x89, 0x8A, 0x91]
def eitherOps : List Nat := [0x32, 0x33, 0x90]
def sinceOne : List Nat := [0x33, 0x41, 0x42, 0x82, 0x83]

/-- An assigned opcode's target and the minor version that introduced it. -/
def opRow (op : Byte) : Option (Tgt × Nat) :=
  let since := if sinceOne.contains op.toNat then 1 else 0
  if portOps.contains op.toNat then some (.port, since)
  else if devOps.contains op.toNat then some (.dev, since)
  else if eitherOps.contains op.toNat then some (.either, since) else none

/-- The lengths of the opcodes whose payload has a fixed form, the read-back lengths of R436 included. -/
def lenZeroOr : List (Nat × Nat) :=
  [(0x03, 2), (0x10, 10), (0x11, 0), (0x12, 0), (0x13, 1), (0x30, 20), (0x31, 4), (0x32, 0), (0x33, 0), (0x41, 8),
   (0x48, 12), (0x79, 4), (0x82, 3), (0x8A, 0), (0x91, 4)]
def lenOneOr : List (Nat × Nat) :=
  [(0x01, 1), (0x14, 1), (0x23, 1), (0x49, 1), (0x4A, 1), (0x50, 12), (0x51, 8), (0x52, 4), (0x53, 10), (0x60, 2),
   (0x62, 1), (0x89, 1), (0x90, 1)]
def lenOnly : List (Nat × Nat) :=
  [(0x00, 4), (0x40, 2), (0x42, 2), (0x68, 6), (0x69, 8), (0x6A, 4), (0x6B, 8), (0x70, 8), (0x81, 2), (0x83, 3)]

/-- The length is valid for the opcode (check 4). -/
def lenOk (op : Byte) (pl : List Byte) : Bool :=
  let n := pl.length
  let row := fun (l : List (Nat × Nat)) => (l.find? fun r => r.1 == op.toNat).map (·.2)
  match row lenZeroOr, row lenOneOr, row lenOnly with
  | some k, _, _ => n == 0 || n == k
  | _, some k, _ => n == 1 || n == k
  | _, _, some k => n == k
  | _, _, _ =>
    if op == 0x20 || op == 0x21 then 4 ≤ n && n == 4 + 8 * (nth pl 0).toNat
    else if op == 0x22 then 4 ≤ n && n == 4 + 4 * (nth pl 2).toNat
    else if op == 0x61 then 8 ≤ n && n == 8 + field pl 4 2
    else if op == 0x71 then 1 ≤ n && n ≤ 48
    else if op == 0x78 || op == 0x7A then n == (if nth pl 0 == 1 then 36 else 4)
    else if op == 0x80 then n == 2 || n == 5
    else if op == 0x88 then 5 ≤ n
    else true

/-- A port number as a byte names it. -/
def portOf (b : Byte) : Option PortId := if h : b.toNat < 32 then some ⟨b.toNat, h⟩ else none

/-- The port a packet is aimed at. -/
def Packet.port (k : Packet) : Option PortId := portOf k.target

/-- The opcode's function is fused off (check 6, R5, R582).
DESIGN CHOICE, unsafe: log entry 121. -/
def State.fusedOff (s : State) (k : Packet) : Bool :=
  if k.opcode == 0x22 then (nth k.payload 0 == 1 || nth k.payload 0 == 2) && !s.ledgermodeen
  else if k.opcode == 0x48 || k.opcode == 0x49 || k.opcode == 0x4A then !s.ridgeen
  else if k.opcode == 0x7A then !s.lanternen
  else if k.opcode == 0x80 then
    (match portOf (nth k.payload 0) with
     | some p => !s.porten p
     | none => nth k.payload 0 == 33 && !s.ridgeen)
  else false

/-- The block an opcode is aimed at reads READY (check 9, Table 13.1, R369). A fused-off sink end of BRIDGE_SET is told at check 10
(R283). -/
def State.blockReady (s : State) (k : Packet) : Bool :=
  let pr := match k.port with
    | some p => s.portReady p
    | none => true
  let op := k.opcode.toNat
  if op == 0x40 then
    s.ledger.ready && pr && (match portOf (nth k.payload 0) with
      | some q => s.portReady q || !s.porten q
      | none => true)
  else if op == 0x4A then s.ringReady || nth k.payload 0 == 0
  else if 0x10 ≤ op && op < 0x30 then pr
  else if (0x30 ≤ op && op < 0x40) || op == 0x42 then s.ledger.ready
  else if 0x60 ≤ op && op ≤ 0x62 then (s.pbus[(nth k.payload 0).toNat]?.map (·.ready)).getD true
  else if op == 0x70 || op == 0x71 then s.sys.sboxReady
  else if 0x78 ≤ op && op ≤ 0x7A then s.sys.vaultReady
  else if 0x80 ≤ op && op ≤ 0x83 then s.sys.perfReady
  else true

/-- The target suits the opcode (check 7, R432). -/
def tgtOk (t : Tgt) (k : Packet) : Bool :=
  match t with
  | .dev => k.target == 0xFF
  | .port => k.port.isSome
  | .either => k.port.isSome || k.target == 0xFF

/-- Checks 2 to 9 of Table 12.4: the status of the first that fails. -/
def State.checks (s : State) (k : Packet) : Option Byte :=
  if k.version != 1 then some 0x11
  else match opRow k.opcode with
    | none => some 0x12
    | some (t, since) =>
      if s.sys.minor < since then some 0x12
      else if 1024 < k.len || k.len != k.payload.length || !lenOk k.opcode k.payload then some 0x13
      else if (match k.port with
          | some p => !s.porten p
          | none => false) then some 0x21
      else if s.fusedOff k then some 0x23
      else if k.flags != 0 || (k.cls == 3 && k.opcode != 1) || !tgtOk t k then some 0x14
      else if s.mb.tags.contains k.tag then some 0x15
      else if !s.blockReady k then some 0x20
      else none

/-! ## The order of acceptance (R421) -/

/-- Inserts a command in the order of acceptance. -/
def insertOrd (k : Packet) : List Packet → List Packet
  | [] => [k]
  | j :: r => if k.ord < j.ord then k :: j :: r else j :: insertOrd k r

/-- A command accepted earlier for the same resource has still to start: commands on one resource run in the order of acceptance. -/
def State.laneBefore (s : State) (f : Packet → Bool) (k : Packet) : Bool :=
  s.mb.lanes.any fun j => !j.dead && f j && j.ord < k.ord

/-! ## Replies (R408, R420 to R425) -/

/-- Payload bytes waiting in the reply queue. -/
def Mailbox.bytes (m : Mailbox) : Nat := (m.replies.map fun r => r.payload.length).sum

/-- The reply queue takes a reply with this many payload bytes (R424). -/
def Mailbox.room (m : Mailbox) (n : Nat) : Bool := m.replies.length < 128 && m.bytes + n ≤ 65536

/-- Places a reply in the queue, or keeps it until there is room (R425). -/
def State.place (s : State) (r : Reply) : State :=
  if s.mb.held.isEmpty && s.mb.room r.payload.length then
    let s := { s with mb.replies := s.mb.replies ++ [r] }.count 35 0x03 1
    if r.status == 1 then s.count 35 0x04 1 else s
  else { s with mb.held := s.mb.held ++ [r] }

/-- The interpreter is there, and has answered all that lay in the mailbox at its last reset, and what ended since (R526). -/
def State.caughtUp (s : State) : Bool := s.sys.interp && s.mb.late.isEmpty && !s.mb.inbox.any (·.stale)

/-- A reply is produced: it waits behind what R526 puts before it. -/
def State.emit (s : State) (r : Reply) : State :=
  if s.caughtUp then s.place r else { s with mb.late := s.mb.late ++ [r] }

/-- A reply to a packet. -/
def Packet.reply (k : Packet) (status : Byte) (pl : List Byte) (compl more owns : Bool) : Reply :=
  ⟨compl, more, k.opcode, k.cls, k.tag, status, k.seq, pl, owns⟩

/-- The bytes of a reply as the host reads them (R408, R410). -/
def Reply.bytes (r : Reply) : List Byte :=
  let h := [byteOf (16 + 8 + flag r.compl 2 + flag r.more 1) 0, r.opcode, byteOf (r.cls.toNat * 64 + r.tag.toNat) 0,
    r.status] ++ leBytes 2 r.payload.length ++ [r.seq]
  h ++ crc8 h :: r.payload

/-! ## Trace (R595 to R597) -/

/-- The table address of a command (R596). -/
def Packet.tableAddr (k : Packet) : BitVec 16 :=
  let op := k.opcode.toNat
  let n := if op == 0x68 || op == 0x69 || op == 0x6B then field k.payload 2 2
    else if op == 0x70 then field k.payload 2 2
    else if (0x50 ≤ op && op ≤ 0x53) || (0x60 ≤ op && op ≤ 0x62) then (nth k.payload 0).toNat
    else if op == 0x80 then (nth k.payload 0).toNat * 256 + (nth k.payload 1).toNat
    else 0
  BitVec.ofNat 16 n

/-- Adds a record to the ring; the oldest is overwritten and counted. -/
def Trace.push (t : Trace) (r : TraceRec) : Trace :=
  if t.ring.length < 256 then { t with ring := t.ring ++ [r] }
  else { t with ring := t.ring.drop 1 ++ [r], lost := satAdd t.lost 1 }

/-- A traced packet's first reply is placed (R595, R597). Its latency in 5 ns units is that of the microseconds that have passed since it
was handed over, and what the processing took within them, which is a measured time.
DESIGN CHOICE, safe: log entry 88. -/
def State.traceReply (s : State) (k : Packet) (status : Byte) : State :=
  if k.traced then
    let r : TraceRec := ⟨k.opcode, byteOf (k.cls.toNat * 64 + k.tag.toNat) 0, k.target, status, k.tableAddr,
      BitVec.ofNat 32 (min 0xFFFFFFFF (200 * (s.sys.sts.toNat - k.sts.toNat) + s.freeNat)), k.sts.truncate 32⟩
    let t := s.trace
    let t := if t.reading == 0 then t.push r
      else if t.side.length < 16 then { t with side := t.side ++ [r] }
      else { t with lost := satAdd t.lost 1 }
    { s with trace := t }.drawn
  else s

/-- The packet at a place in the count is the N-th, the 2N-th and so on after the TRACE_CFG (R595). -/
def Trace.due (t : Trace) (i : Nat) : Bool := t.n != 0 && t.base < i && (i - t.base) % t.n.toNat == 0

/-- TRACE_CFG comes into force: the sample count restarts at its own place, and CLEAR empties both buffers (R476, R595, R597). -/
def Trace.takeCfg (t : Trace) (n : BitVec 16) (clear : Bool) (place : Nat) : Trace :=
  let t := if clear then { t with ring := [], side := [] } else t
  { t with n := n, base := place, pend := none }

/-- The same, for the packets too that were accepted after it and wait in their lanes. -/
def State.traceTake (s : State) (n : BitVec 16) (clear : Bool) (place : Nat) : State :=
  let t := s.trace.takeCfg n clear place
  { s with trace := t, mb.lanes := s.mb.lanes.map fun (k : Packet) => if place < k.idx then { k with traced := t.due k.idx } else k }

/-- A TRACE_READ ends: once none is left, the side buffer joins the ring, and a TRACE_CFG that waited comes into force (Table 18.8). -/
def State.traceEnd (s : State) : State :=
  if 1 < s.trace.reading then { s with trace.reading := s.trace.reading - 1 }
  else
    let t := s.trace
    let s := { s with trace := t.side.foldl Trace.push { t with reading := 0, side := [] } }
    match t.pend with
    | some (n, c, place) => s.traceTake n c place
    | none => s

/-- Counts a packet past check 1, and marks it where it is the N-th (R595). -/
def State.traceCount (s : State) (k : Packet) : State × Packet :=
  let i := s.trace.seen + 1
  ({ s with trace.seen := i }, { k with idx := i, traced := s.trace.due i })

/-! ## Saved entries (R435, R436) -/

/-- The bits of a saved command's payload of some length that are not reserved (R9, R439 to R482).
DEDUCED, unsafe: log entry 68. -/
def writable (op : Byte) (n : Nat) : List Byte :=
  match op.toNat with
  | 0x10 => leBytes 10 cfgMask.toNat
  | 0x20 | 0x21 => [0xFF, 0, 0, 0] ++ (List.range ((n - 4) / 8)).flatMap fun _ => 0xFF :: 0 :: List.replicate 6 0xFF
  | 0x30 => List.replicate 19 0xFF ++ [0x0F]
  | 0x31 => [3, 0, 0xFF, 0xFF]
  | 0x41 => [1, 0xFF, 0, 0, 0xFF, 0xFF, 0xFF, 0xFF]
  | 0x48 => 0x0F :: List.replicate 11 0xFF
  | 0x50 => List.replicate 7 0xFF ++ 7 :: List.replicate 4 0xFF
  | 0x51 => [0xFF, 1, 0, 0, 0xFF, 0xFF, 0xFF, 0xFF]
  | 0x52 => [0xFF, 0xFF, 0xFF, 0]
  | 0x53 => List.replicate 6 0xFF ++ [3, 0xFF, 3, 7]
  | 0x60 => [0xFF, 7]
  | 0x79 => [0xFF, 0xFF, 1, 0xFF]
  | 0x80 => [0xFF, 0xFF, 0xFF, 7, 0xFF]
  | 0x82 => [0xFF, 0xFF, 1]
  | 0x91 => [0xFF, 0, 0, 0]
  | _ => List.replicate n 0xFF

/-- Replaces the entry of an opcode and selector, its reserved bits 0; a pending erase of it is dropped (R9, R438). -/
def State.saveEntry (s : State) (op : Byte) (sel : Nat) (pl : List Byte) : State :=
  let rest := s.store.entries.filter fun e => !(e.op == op && e.sel == sel)
  { s with store := ⟨rest ++ [⟨op, sel, pl.zipWith (· &&& ·) (writable op pl.length)⟩],
      s.store.erase.filter fun e => !(e.1 == op && e.2 == sel)⟩ }

/-- The saved entry of an opcode and selector. -/
def State.savedEntry (s : State) (op : Byte) (sel : Nat) : Option (List Byte) :=
  (s.store.entries.find? fun e => e.op == op && e.sel == sel).map (·.payload)

/-! ## What a command answers -/

/-- The first reply of a command: final, ACCEPTED, or in parts with the final status (R422, R423). -/
inductive CmdRes where
  | final (status : Byte) (pl : List Byte)
  | accepted
  | parts (status : Byte) (l : List (List Byte))
  deriving DecidableEq, Repr

/-- OK with no payload. -/
def ok : CmdRes := .final 0 []

/-- A final status alone. -/
def fail (status : Byte) : CmdRes := .final status []

/-- Bytes cut into parts of `n` (R423). -/
def cut (n : Nat) : Nat → List Byte → List (List Byte)
  | 0, _ => []
  | f + 1, b => if b.length ≤ n then [b] else b.take n :: cut n f (b.drop n)

/-- The remaining parts of a command are none: a TRACE_READ then lets the buffer change again (R597). -/
def State.partsOver (s : State) (k : Packet) : State := if k.opcode == 0x83 then s.traceEnd else s

/-- The next part of a reply in parts: the last carries the final status and frees the tag (R423). -/
def State.emitPart (s : State) (k : Packet) (status : Byte) (l : List (List Byte)) : State :=
  match l with
  | [] => (s.emit (k.reply status [] false false true)).partsOver k
  | [b] => (s.emit (k.reply status b false false true)).partsOver k
  | b :: r => { s.emit (k.reply 0 b false true false) with mb.parts := s.mb.parts ++ [(k, status, r)] }

/-- Places a command's first reply. -/
def State.answer (s : State) (k : Packet) : CmdRes → State
  | .final st pl => (s.emit (k.reply st pl false false true)).traceReply k st
  | .accepted => ({ s with mb.flights := insertOrd k s.mb.flights }.emit (k.reply 1 [] false false false)).traceReply k 1
  | .parts st l => (s.emitPart k st l).traceReply k (if l.length ≤ 1 then st else 0)

/-! ## Long operations (R422) -/

/-- The oldest flight that meets a condition. -/
def State.flight (s : State) (f : Packet → Bool) : Option Packet := s.mb.flights.find? f

/-- Completes a long operation with COMPL and its final status. -/
def State.complete (s : State) (k : Packet) (status : Byte) (pl : List Byte) : State :=
  { s with mb.flights := s.mb.flights.filter fun x => x.tag != k.tag }.emit (k.reply status pl true false true)

/-- Commands in progress to a port whose engine is reset, but the PORT_RESET that caused it, are answered
ABORTED_PORT_RESET, and those waiting in a lane will be (Table 15.5). -/
def State.abortPort (s : State) (p : PortId) (but : Option (BitVec 6)) : State :=
  let hit := fun (k : Packet) => k.port == some p && some k.tag != but
  let s := { s with
    mb.lanes := s.mb.lanes.map fun (k : Packet) => if k.port == some p then { k with dead := true } else k,
    mb.aborted := s.mb.aborted.map fun (x : Packet × Bool × List Byte) =>
      if x.1.port == some p then ({ x.1 with dead := true }, x.2) else x }
  (s.mb.flights.filter hit).foldl (fun s k => s.complete k 0x30 []) s

/-! ## Acceptance (R415, R420) -/

/-- Takes a packet from the mailbox: the checks, then its tag and its place in its lane. -/
def State.accept (s : State) (k : Packet) : State :=
  let (s, k) := s.traceCount k
  match s.checks k with
  | some st => (s.emit (k.reply st (if st == 0x11 then [1, 2] else []) false false false)).traceReply k st
  | none =>
    let k := { k with minor := s.sys.minor, ord := s.mb.acc }
    { s with mb.tags := k.tag :: s.mb.tags, mb.lanes := s.mb.lanes ++ [k], mb.acc := s.mb.acc + 1 }.count 35 0x02 1

/-- A lane's rank: URGENT, NORMAL, BULK; ABORT always runs URGENT (R409). -/
def Packet.rank (k : Packet) : Nat := if k.cls == 2 || k.opcode == 1 then 0 else if k.cls == 0 then 1 else 2

/-- The next command to start: the best lane, then acceptance order (R421). -/
def nextIn : List Packet → Option Packet
  | [] => none
  | k :: r => match nextIn r with
    | some j => if j.rank < k.rank then some j else some k
    | none => some k

/-- The interpreter can take and start a command: it is there with nothing to answer first, is clocked and the reply queue has room
(R425). -/
def State.canServe (s : State) : Bool :=
  s.sys.interp && s.sysMhz != 0 && s.mb.held.isEmpty && s.mb.late.isEmpty && s.mb.room 1024

/-- Packets that lay in the mailbox at the reset are answered ABORTED_UPDATE, in order and as room comes; they have no tag (R525). -/
def State.takeStale : Nat → State → State
  | 0, s => s
  | n + 1, s => match s.mb.inbox with
    | k :: r =>
      if k.stale && s.sys.interp && s.mb.held.isEmpty && s.mb.room 0 then
        let (s, k) := { s with mb.inbox := r }.traceCount k
        State.takeStale n ((s.place (k.reply 0x31 [] false false false)).traceReply k 0x31)
      else s
    | [] => s

/-- Takes packets from the mailbox in order. -/
def State.acceptAll : Nat → State → State
  | 0, s => s
  | n + 1, s => match s.mb.inbox with
    | k :: r => if s.canServe then State.acceptAll n ({ s with mb.inbox := r }.accept k) else s
    | [] => s

/-! ## Before the interpreter's first READY (R81) -/

/-- The mailbox front end answers with a header alone. -/
def State.frontEnd : Nat → State → State
  | 0, s => s
  | n + 1, s => match s.mb.inbox with
    | k :: r => if s.mb.room 0 then
        State.frontEnd n { s with mb.inbox := r, mb.replies := s.mb.replies ++ [k.reply 0x20 [] false false false] }
      else s
    | [] => s

/-- Held replies go into the queue as room comes (R425). -/
def State.flushList : List Reply → State → State
  | [], s => { s with mb.held := [] }
  | r :: l, s =>
    if s.mb.room r.payload.length then State.flushList l ({ s with mb.held := [] }.place r)
    else { s with mb.held := r :: l }
def State.flushHeld (s : State) : State := if s.sys.interp then State.flushList s.mb.held s else s

/-- With the mailbox's stale packets answered, the completions that waited behind them follow (R526). -/
def State.flushLate (s : State) : State :=
  if s.sys.interp && !s.mb.inbox.any (·.stale) then s.mb.late.foldl State.place { s with mb.late := [] } else s

/-! ## The host side of the mailbox -/

/-- The host target acknowledges addresses (R371, R393). -/
def State.hostUp (s : State) : Bool :=
  s.sup.vio == .ok && !s.sys.resetLow && 3 ≤ s.sys.boot && s.sys.pwr != .off

/-- A wake from SLEEP reaches DOZE (R74). -/
def State.wakeUp (s : State) : State := if s.sys.pwr == .sleep then { s with sys.pwr := .doze } else s

/-- Free mailbox slots (R424). -/
def State.cqFree (s : State) : Nat := 16 - s.mb.inbox.length

/-- A packet from the header fields a host chooses, with the rest right (R407). -/
def cmdPacket (h : CmdHdr) (op : Byte) (pl : List Byte) : Packet :=
  ⟨1, 0, op, h.cls, h.tag, h.target, pl.length, h.seq, pl, false, 0, 0, 0, false, 0, false⟩

end Sys2Proof.Machine
end

