-- ==== Sys2Proof/Machine/FuseOps.lean ====
section
/-!
DEFINITION. The fuse array: regions, kinds of bits, the spare map, the boot read at both margins, the region codes and
programming (chapter 17).
-/
namespace Sys2Proof.Machine

/-! ## Regions (Table 17.1) -/

def regBase (r : Nat) : Nat :=
  match r with
  | 0 => 0x000 | 1 => 0x080 | 2 => 0x0C0 | 3 => 0x3D8 | _ => 0x3DF

/-- The lock word, which is a region's last word. -/
def regLock (r : Nat) : Nat :=
  match r with
  | 0 => 0x07F | 1 => 0x0BF | 2 => 0x3D7 | 3 => 0x3DE | _ => 0x3FF

/-- The CRC word of FACTORY, IDENTITY and CUSTOMER. -/
def regCrc (r : Nat) : Nat := regLock r - 1

/-- The region of a word address. -/
def regOf (w : Nat) : Nat :=
  if w < 0x080 then 0 else if w < 0x0C0 then 1 else if w < 0x3D8 then 2 else if w < 0x3DF then 3 else 4

/-- The lock bits of a word: any of the four copies of the write-lock, and of the read-lock (R554). -/
def wlockIn (w : Word) : Bool := w &&& 0x0F != 0
def rlockIn (w : Word) : Bool := w &&& 0xF0 != 0

/-- A region's locks as latched. -/
def State.wlocked (s : State) (r : Nat) : Bool := wlockIn (s.fuseWord (regLock r))
def State.rlocked (s : State) (r : Nat) : Bool := rlockIn (s.fuseWord (regLock r))

/-- A write-lock in force for a command: latched, or programmed since boot by a FUSE_LOCK (Table 13.20). -/
def State.wlockNow (s : State) (r : Nat) : Bool := s.wlocked r || wlockIn (s.fuse.added.word (regLock r))
def State.rlockNow (s : State) (r : Nat) : Bool := s.rlocked r || rlockIn (s.fuse.added.word (regLock r))

/-! ## Marginal words (R556, R557) -/

/-- The Lock bits and the Enable bits of a word (Table 17.3, Table 17.2). -/
def lockBits (w : Nat) : Word :=
  if 0x3D8 ≤ w && w ≤ 0x3DD then 0xFFFFFFFF
  else if w == 0x0C0 then 0x800
  else if w == regLock (regOf w) then 0x1FF else 0
def enableBits (w : Nat) : Word := if w == 0 then 0xFFFFFFFF else if w == 1 then 0x1F else 0

/-- A word whose two reads differ: OR for its Lock bits, AND for its Enable bits, NORMAL for its Data bits. -/
def takeMarginal (w : Nat) (n st : Word) : Word :=
  ((n ||| st) &&& lockBits w) ||| ((n &&& st) &&& enableBits w) ||| (n &&& ~~~ (lockBits w ||| enableBits w))

/-! ## The spare map (R558) -/

/-- The number of ones of a number of at most `k` bits. -/
def ones : Nat → Nat → Nat
  | 0, _ => 0
  | k + 1, v => v % 2 + ones k (v / 2)

/-- A map entry's fields are those of a valid entry. -/
def entryGood (e : Nat) (w : Word) : Bool :=
  w.getLsbD 15 && ones 17 w.toNat % 2 == 1 && bitsOf w.toNat 14 10 == e

/-- The valid map entries, as words and spares, each word once at its lowest entry, and how many entries are ignored. -/
def readMap (n st : Mem) : List (Nat × Nat) × Nat :=
  (List.range 32).foldl (fun (acc : List (Nat × Nat) × Nat) e =>
    let a := n.word (0x3DF + e)
    let b := st.word (0x3DF + e)
    if a = 0 && b = 0 then acc
    else if a = b && entryGood e a then
      let w := bitsOf a.toNat 9 0
      if acc.1.any fun m => m.1 == w then (acc.1, acc.2 + 1) else (acc.1 ++ [(w, e)], acc.2)
    else (acc.1, acc.2 + 1)) ([], 0)

/-- The spare of a mapped word. -/
def spareOf (m : List (Nat × Nat)) (w : Nat) : Option Nat := (m.find? fun x => x.1 == w).map (·.2)

/-- The physical word a word is taken from.
DEDUCED, unsafe: log entry 77. -/
def physOf (m : List (Nat × Nat)) (w : Nat) : Nat :=
  match spareOf m w with
  | some k => 0x400 + k
  | none => w

/-- The words that a store lists, each once, below a bound. -/
def listedWords (bound : Nat) (m : Mem) : List Nat :=
  m.foldl (fun l c => if c.1 / 4 < bound && !l.contains (c.1 / 4) then l ++ [c.1 / 4] else l) []

/-- Inserts in ascending order, once. -/
def insertNat (x : Nat) : List Nat → List Nat
  | [] => [x]
  | y :: r => if x < y then x :: y :: r else if x == y then y :: r else y :: insertNat x r

/-- The words that may be read as other than 0: those listed in either read, and those mapped. -/
def liveWords (n st : Mem) (m : List (Nat × Nat)) : List Nat :=
  (listedWords 1024 n ++ listedWords 1024 st ++ m.map (·.1)).foldl (fun l w => insertNat w l) []

/-! ## The region code (R566) -/

/-- The words a region's code covers. -/
def codeWords (r : Nat) : List Nat := (List.range (regCrc r - regBase r)).map (regBase r + ·)

/-- CRC-16 over a region's words of an image. -/
def regCode (img : Mem) (r : Nat) : BitVec 16 := crc16 (img.readBytes (4 * regBase r) (4 * (regCrc r - regBase r)))

/-- The CRC word of a code. -/
def crcWordOf (c : BitVec 16) : Word := BitVec.ofNat 32 (c.toNat + (~~~ c).toNat * 2 ^ 16)

/-- A write-locked region is SEALED_INCOMPLETE: its CRC word is not that of its latched content (R568). -/
def sealedBad (img : Mem) (r : Nat) : Bool :=
  wlockIn (img.word (regLock r)) && img.word (regCrc r) != crcWordOf (regCode img r)

/-! ## The boot read (R557 to R559, R568) -/

/-- Forms the latched image, its marginal flags and its map. A spare's latched value, which EXPECT of an unmapped one is (R560), is its
NORMAL read, at 0x400 and up. -/
def Fuse.boot (f : Fuse) : Fuse :=
  let (m, bad) := readMap f.normal f.strict
  let (img, mar) := (liveWords f.normal f.strict m).foldl (fun (acc : Mem × List Nat) w =>
    let a := f.normal.word (physOf m w)
    let b := f.strict.word (physOf m w)
    if a = b then (acc.1.setWord w a, acc.2) else (acc.1.setWord w (takeMarginal w a b), acc.2 ++ [w])) ([], [])
  let all := ((listedWords 0x420 f.normal).filter (0x400 ≤ ·)).foldl (fun (i : Mem) w => i.setWord w (f.normal.word w)) img
  { f with
    latched := all, marginal := mar, mapped := m, mapBad := bad, killDone := false, rerun := false, sealedF := sealedBad img 0, sealedI := sealedBad img 1,
    sealedC := sealedBad img 2, run := none, queue := [], added := [], failed := [], reported := [],
    evt := if mar.isEmpty && bad == 0 then 0 else 8 }

/-- A fresh read with the map entries valid at its moment (R561): the value at a margin, and whether the reads differ. -/
def Fuse.fresh (f : Fuse) (m : List (Nat × Nat)) (strict : Bool) (w : Nat) : Word × Bool :=
  let a := f.normal.word (physOf m w)
  let b := f.strict.word (physOf m w)
  (if strict then b else a, a != b)

/-! ## Programming (R562, R563) -/

/-- Programs the bits of a physical word that do not read 1 at STRICT margin: `fail` are those that do not verify, and
`weak` which of them read 1 at NORMAL margin afterwards. -/
def Fuse.program (f : Fuse) (phys : Nat) (bits fail weak : Word) : Fuse :=
  let b := bits &&& ~~~ f.strict.word phys
  let good := b &&& ~~~ fail
  let bad := b &&& fail
  { f with
    normal := f.normal.setWord phys (f.normal.word phys ||| good ||| (bad &&& weak)),
    strict := f.strict.setWord phys (f.strict.word phys ||| good),
    added := f.added.setWord phys (f.added.word phys ||| good),
    failed := f.failed.setWord phys (f.failed.word phys ||| bad) }

/-- The bits of `bits` that are to be pulsed and do not verify. -/
def Fuse.failMask (f : Fuse) (phys : Nat) (bits fail : Word) : Word := bits &&& ~~~ f.strict.word phys &&& fail

/-- The number of ones of a word. -/
def wordOnes (w : Word) : Nat := ones 32 w.toNat

/-- Programs a physical word; the fuse pulses are counted: three for a bit that fails, one to three for another
(Table 18.3). -/
def State.progWord (s : State) (phys : Nat) (bits fail : Word) : State :=
  let b := bits &&& ~~~ s.fuse.strict.word phys
  let g := wordOnes (b &&& ~~~ fail)
  let s := s.count 36 0x08 (3 * wordOnes (b &&& fail) + g + s.freeNat % (2 * g + 1))
  let s := s.drawn
  { s with fuse := s.fuse.program phys bits fail (BitVec.ofNat 32 s.freeNat) }.drawn

/-! ## What a fuse command programs (R466 to R468, R564, R565, R567) -/

/-- A 16-bit field of a fuse command's payload. -/
def fuseArg (k : Packet) : Nat := field k.payload 2 2

/-- A word as it reads now at both margins, through the map entries valid now (R561). -/
def State.readNow (s : State) (w : Nat) : Word × Word :=
  let ph := physOf (readMap s.fuse.normal s.fuse.strict).1 w
  (s.fuse.normal.word ph, s.fuse.strict.word ph)

/-- The map entry of a word and a spare (Table 17.4). -/
def mapEntry (w sp : Nat) : Nat :=
  let v := w + sp * 2 ^ 10 + 2 ^ 15
  v + (1 - ones 17 v % 2) * 2 ^ 16

/-- The CRC-16 of a region's present NORMAL content, and whether one of its words reads marginal. -/
def State.regionNow (s : State) (r : Nat) : BitVec 16 × Bool :=
  let m := (readMap s.fuse.normal s.fuse.strict).1
  let rd := fun (w : Nat) => (s.fuse.normal.word (physOf m w), s.fuse.strict.word (physOf m w))
  (crc16 ((codeWords r).flatMap fun w => leBytes 4 (rd w).1.toNat),
    (List.range (regLock r + 1 - regBase r)).any fun i => (rd (regBase r + i)).1 != (rd (regBase r + i)).2)

/-- What a FUSE_LOCK comes to: the status that ends it, or 0 and the words it programs in order (R567). -/
def State.lockPlan (s : State) (k : Packet) : Byte × List (Nat × Word) :=
  let r := (nth k.payload 0).toNat
  let b := nth k.payload 1
  let force := b.getLsbD 7
  let needW := b.getLsbD 0 && !s.wlockNow r
  let needR := b.getLsbD 1 && !s.rlockNow r
  let bits : Word := (if needW then 0x0F else 0) ||| (if needR then 0xF0 else 0) ||| (if force then 0x100 else 0)
  let last := [(physOf s.fuse.mapped (regLock r), bits)]
  if !needW && !needR then (0x22, [])
  else if needW && (r == 1 || r == 2) then
    let given := BitVec.ofNat 16 (fuseArg k)
    let (c, marg) := s.regionNow r
    let (n, st) := s.readNow (regCrc r)
    if marg && !force then (0x40, [])
    else if c != given && !force then (0x42, [])
    else if n = 0 && st = 0 then (0, (physOf s.fuse.mapped (regCrc r), crcWordOf given) :: last)
    else if n != crcWordOf given && !force then (0x42, [])
    else (0, last)
  else (0, last)

/-- The words a fuse command programs, in order, each with the bits named. -/
def State.fuseWork (s : State) (k : Packet) : List (Nat × Word) :=
  let v := BitVec.ofNat 32 (field k.payload 4 4)
  if k.opcode == 0x69 then [(physOf s.fuse.mapped (fuseArg k), v)]
  else if k.opcode == 0x6A then (s.lockPlan k).2
  else
    let sp := (nth k.payload 0).toNat
    [(0x400 + sp, v), (0x3DF + sp, BitVec.ofNat 32 (mapEntry (fuseArg k) sp))]

/-- Programs the words of a list in order, as far as the first that has a bit that does not verify. -/
def State.progList (fail : Word) : List (Nat × Word) → State → State × Option (Nat × Word)
  | [], s => (s, none)
  | (w, b) :: r, s =>
    let m := s.fuse.failMask w b fail
    let s := s.progWord w b fail
    if m = 0 then State.progList fail r s else (s, some (w, m))

/-- The bits of a word below one. -/
def lowBits (j : Nat) : Word := BitVec.ofNat 32 (2 ^ j - 1)

/-- How far a list of words had been programmed when something stopped it, as a free value says: the whole words, and, of the word
then in progress, the number of its bits that are over, the lower ones coming first (R562).
DESIGN CHOICE, safe: log entry 78. -/
def cutAt (n : Nat) (l : List (Nat × Word)) : List (Nat × Word) × Option (Nat × Word) × Nat :=
  let i := n % (l.length + 1)
  (l.take i, (l.drop i).head?, n / 128 % 33)

/-- Programs the words of a list in order, going on after a bit that does not verify (R542); which do not is open. Whether one did not
comes with it. -/
def State.progThrough (l : List (Nat × Word)) (s : State) : State × Bool :=
  l.foldl (fun (acc : State × Bool) x =>
    let fl := BitVec.ofNat 32 acc.1.freeNat
    (acc.1.drawn.progWord x.1 x.2 fl, acc.2 || acc.1.fuse.failMask x.1 x.2 fl != 0)) (s, false)

/-- A pulse was under way at a bit that is to be programmed: how strongly it reads afterwards is open.
DESIGN CHOICE, safe: log entry 78. -/
def State.weakBit (s : State) (phys : Nat) (bits : Word) (j : Nat) : State :=
  let b := bits &&& ~~~ s.fuse.strict.word phys &&& (BitVec.ofNat 32 (2 ^ j))
  let n := s.freeNat % 3
  { s with fuse := { s.fuse with
      normal := s.fuse.normal.setWord phys (s.fuse.normal.word phys ||| (if n = 0 then 0 else b)),
      strict := s.fuse.strict.setWord phys (s.fuse.strict.word phys ||| (if n = 2 then b else 0)) } }.drawn

/-- What does not verify of the command that runs, besides what a free value says: the bits a VPP excursion stopped or left without
their pulses. -/
def FuseRun.without (r : FuseRun) : Word := r.stopped ||| r.unpowered

/-- A fuse command is stopped after the pulse in progress, which is verified (R527): how far it had come is not stated. A bit that does not
verify is told of (Table 17.11).
DESIGN CHOICE, safe: log entry 78. -/
def State.fuseStop (s : State) : State :=
  match s.fuse.run with
  | none => s
  | some r =>
    let n := s.freeNat
    let s := s.drawn
    let fail := BitVec.ofNat 32 s.freeNat ||| r.without
    let s := s.drawn
    let (whole, last, j) := cutAt n (s.fuseWork r.pkt)
    match State.progList fail (whole ++ last.toList.map fun x => (x.1, x.2 &&& lowBits j)) { s with fuse.run := none } with
    | (s, none) => s
    | (s, some _) => s.fuseEvt 1

/-- KILL programs the array: it is pending, with VMAIN valid, CORE on and the fuse read done (R542, R543). -/
def State.killRuns (s : State) : Bool :=
  s.alarm.killPend && s.sup.vmain == .ok && s.sys.pwr != .off && !s.sys.resetLow && Nat.ble 4 s.sys.boot

/-- It was programming it in a boot that VMAIN has just left (R543). -/
def State.killRan (s : State) : Bool :=
  s.alarm.killPend && s.sys.pwr != .off && !s.sys.resetLow && Nat.ble 5 s.sys.boot

/-- The words KILL programs, in order: the KEYKILL bits, then IDENTITY. -/
def killWords : List Nat := (List.range 6).map (0x3D8 + ·) ++ (List.range 64).map (0x080 + ·)

/-- They stand where the map says, with all their bits.
DEDUCED, unsafe: log entry 77. -/
def State.killWork (s : State) : List (Nat × Word) := killWords.map fun w => (physOf s.fuse.mapped w, 0xFFFFFFFF)

/-- Programming cut short by a loss of CORE, a fuse command's or KILL's, which goes on after a bit that fails: how far it had come, and how
strongly the bit then pulsed reads, the manual does not state (Tables 16.6, 17.10, R543).
DESIGN CHOICE, safe: log entry 78. -/
def State.fuseCut (s : State) : State :=
  let n := s.freeNat
  match s.fuse.run with
  | none =>
    if s.killRuns || s.killRan then
      let (whole, last, j) := cutAt n s.killWork
      let s := (s.drawn.progThrough whole).1
      match last with
      | some (w, b) => (s.progThrough [(w, b &&& lowBits j)]).1.weakBit w b j
      | none => s
    else s
  | some r =>
    let s := s.drawn
    let fail := BitVec.ofNat 32 s.freeNat ||| r.without
    let s := s.drawn
    let (whole, last, j) := cutAt n (s.fuseWork r.pkt)
    match State.progList fail whole { s with fuse.run := none }, last with
    | (s, none), some (w, b) => (s.progWord w (b &&& lowBits j) fail).weakBit w b j
    | (s, _), _ => s

/-! ## What the fuses give the Vault (Table 16.2) -/

/-- A KEYKILL bit is latched as 1, and so read programmed at one of the margins at boot (Tables 16.2, 17.3, R559), or a KILL has been
programmed since (R545). -/
def Fuse.killed (f : Fuse) : Bool := f.killDone || (List.range 6).any fun i => f.latched.word (0x3D8 + i) != 0

/-- The 40 bytes of WRAPKEY and the 32 of ROOTDIG, as latched. -/
def Fuse.wrapKey (f : Fuse) : List Byte := f.latched.readBytes (4 * 0x081) 40
def Fuse.rootDig (f : Fuse) : List Byte := f.latched.readBytes (4 * 0x08B) 32

end Sys2Proof.Machine
end

