-- ==== Sys2Proof/Machine/RingOps.lean ====
section
/-!
DEFINITION. Ridgeline's frames and what a node does with them: building, sealing and editing a frame, lending on the wire,
joining, leaving and the master's cycle (chapter 10, R321 to R328).
-/
namespace Sys2Proof.Machine

/-! ## Frames (R341 to R346) -/

/-- The CRC of a control frame is right (R342). -/
def frameGood (f : List Byte) : Bool := field f 30 2 == (crc16 (f.take 30)).toNat

/-- A control frame from its code, sender, cycle count and body; what the body leaves is reserved and sent as 0. -/
def ctlFrame (code src cyc : Byte) (body : List Byte) : List Byte :=
  let h := [code, src, 0xFF, cyc] ++ (body ++ List.replicate 26 0).take 26
  h ++ leBytes 2 (crc16 h).toNat

/-- A frame with some of its bytes replaced. -/
def setBytes (f : List Byte) (i : Nat) (bs : List Byte) : List Byte := f.take i ++ bs ++ f.drop (i + bs.length)

/-- An edited control frame with its CRC recomputed, inverted where the frame as received failed its own (R344). -/
def reseal (f : List Byte) (good : Bool) : List Byte :=
  let c := crc16 (f.take 30)
  f.take 30 ++ leBytes 2 (if good then c else ~~~ c).toNat

/-- OFFER entry `i` of a control frame: node, coins, ACK (Table 10.4). -/
def offerAt (f : List Byte) (i : Nat) : Node × Nat × Bool :=
  (nth f (8 + 3 * i), field f (9 + 3 * i) 2 % 32768, (nth f (10 + 3 * i)).getLsbD 7)

/-- The three bytes of an OFFER entry. -/
def offerBytes (n : Node) (coins : Nat) (ack : Bool) : List Byte := n :: leBytes 2 (coins % 32768 + if ack then 32768 else 0)

/-- The characters of Table 10.1: idle fill K28.5; a frame behind its K28.1; end of train K29.7; an ordered set behind its K28.0. -/
def idleFill : List RingSym := [.k 0xBC]
def frameSyms (f : List Byte) : List RingSym := .k 0x3C :: f.map .d
def eot : List RingSym := [.k 0xFD]
def orderedSet (ty : Byte) (n : Node) (sq : Byte) : List RingSym := [.k 0x1C, .d ty, .d n, .d sq]

/-- The codes of Table 10.3. -/
def fcCycle : Byte := 0x01
def fcNode : Byte := 0x02
def fcJoin : Byte := 0x03
def fcLeave : Byte := 0x04
def fcInfo : Byte := 0x81

/-- The device's Ridgeline version, 1.0 (R356). -/
def ringVersion : Byte := 0x10

/-! ## Time (R348, R359, R360) -/

/-- The ring cycle of an RCYC code in ns. -/
def rcycNs (c : BitVec 2) : Nat := 1000000 * 2 ^ c.toNat

/-- RCYC as configured: that of a RING_CFG awaiting the next join, or the one in force (R357, Table 1.7). -/
def Ring.cfgRcyc (r : Ring) : BitVec 2 := (r.pend.map fun (x : Bool × Node × BitVec 2) => x.2.2).getD r.rcyc

/-- Tmin in ns for a number of nodes and a cable delay (R348). -/
def tminNs (n cable : Nat) : Nat := (n + 1) * 6600 + n * 1000 + cable + 20000

/-- The west segment delay: the mean of the last 16 measurements, in 20 ns steps (R360). -/
def Ring.westNs (r : Ring) : Nat := if r.west.isEmpty then 0 else r.west.sum / r.west.length / 20 * 20

/-! ## Membership -/

/-- The node's bypass is open: it is joined, or it is joining and has come to step 4 of Table 10.5, or it closes in the next ring
gap (R351). -/
def Ring.isOpen (r : Ring) : Bool := 2 ≤ r.link.toNat || r.joinDue || r.joinSent || r.gapClose

/-- Sends characters on RGE_TX, idle fill where there are none; with the bypass closed the transmitters are off (R353). -/
def State.sendEast (s : State) (l : List RingSym) : State :=
  { s with ring.out := if s.ring.isOpen then (if l.isEmpty then idleFill else l) else [] }

/-- Sends a set on the status channel RGW_TX (R340), or idle fill. -/
def State.sendWest (s : State) (ty : Option Byte) : State :=
  if s.ring.isOpen then
    match ty with
    | some t => { s with ring := { s.ring with wout := orderedSet t s.ring.node s.ring.wseq, wseq := s.ring.wseq + 1 } }
    | none => { s with ring.wout := idleFill }
  else { s with ring := { s.ring with wout := [], wTick := 0 } }

/-- One microsecond of the links: a link status every 8 µs (R340), and idle fill.
DEDUCED, unsafe: log entry 64. DESIGN CHOICE, unsafe: log entry 120. -/
def State.linksUs (s : State) : State :=
  let due := 7 ≤ s.ring.wTick
  let s := { s with ring.wTick := if due then 0 else s.ring.wTick + 1 }
  (s.sendEast []).sendWest (if due then some 0x01 else none)

/-- Joined nodes, this one included (NCOUNT). -/
def Ring.ncount (r : Ring) : Nat := if 2 ≤ r.link.toNat then r.peers.length + 1 else r.peers.length

def Ring.present (r : Ring) (n : Node) : Bool := r.peers.any fun q => q.node == n

/-- Inserts a node in ascending order, once. -/
def insertPeer (q : Peer) : List Peer → List Peer
  | [] => [q]
  | x :: r => if q.node < x.node then q :: x :: r else if q.node == x.node then x :: r else x :: insertPeer q r

def Ring.addPeer (r : Ring) (n : Node) : Ring := { r with peers := insertPeer ⟨n, 0⟩ r.peers }

/-- MASTER, with MASTERCHG on a change. -/
def State.setMaster (s : State) (n : Node) : State :=
  if s.ring.master == n then s else { s with ring.master := n }.rgEvt 5

/-- Another node is admitted (R355). -/
def State.admitNode (s : State) (n : Node) : State :=
  if n == s.ring.node || s.ring.present n then s else { s with ring := s.ring.addPeer n }.rgEvt 2

/-- A node has loans, offers or recalls with this one. -/
def Ring.deals (r : Ring) (n : Node) : Bool :=
  (r.lentTo ++ r.borrowedFrom ++ r.offers).any fun l => l.node == n

/-- A node is no longer one of the ring's to this one: its shed level goes with it, and its loans are to be withdrawn (R327). -/
def Ring.forget (r : Ring) (n : Node) : Ring :=
  { r with
    peers := r.peers.filter fun q => q.node != n,
    infos := r.infos.filter fun i => i.1 != n,
    lostNodes := if r.deals n && !r.lostNodes.contains n then r.lostNodes ++ [n] else r.lostNodes }

/-- Another node has left or is lost (R358, R365). -/
def State.nodeGone (s : State) (n : Node) : State :=
  if s.ring.present n then ({ s with ring := s.ring.forget n } : State).rgEvt 3 else s

/-- Another node is lost (R365), which is counted (Table 18.3). -/
def State.dropNode (s : State) (n : Node) : State :=
  if s.ring.present n then (s.nodeGone n).count 33 0x09 1 else s

/-- Every other node is gone. -/
def State.dropAll (s : State) : State := s.ring.peers.foldl (fun s q => s.dropNode q.node) s

/-- A node listens when Ridgeline is not fused off, enabled, neither bypassed nor refused, and REFCLK is present (R353). Disabled,
its receivers are off (Table 1.2).
DEDUCED, unsafe: log entry 65. -/
def State.ringListen (s : State) : State :=
  let r := s.ring
  let ok := s.ridgeen && r.enable && !r.bypassed && !r.refused && !s.clk.refclk
  { s with ring := { r with
    link := if ok then 1 else 0, upRun := 0, clean := 0, cycSeen := false,
    wsync := r.wsync && r.enable, esync := r.esync && r.enable } }

/-- RING_CFG that awaited the next join comes into force (Table 1.7). -/
def State.ringTake (s : State) : State :=
  match s.ring.pend with
  | some (e, n, c) => { s with ring := { s.ring with enable := e, node := n, rcyc := c, pend := none } }
  | none => s

/-- The node has left: LEFT, the bypass closes, and it listens again where it may (R358). The nodes it leaves behind are not lost,
but its loans with them are withdrawn (R327); a master's successor is MASTER. -/
def State.ringLeft (s : State) : State :=
  let s := s.rgEvt 1
  let s := if s.ring.link = 3 then s.setMaster s.ring.handover else s
  let r := s.ring.peers.foldl (fun r q => r.forget q.node) s.ring
  ({ s with ring := { r with
      ready := false, trim := 0, stsFrac := 0, joinDue := false, joinSent := false, leaveDue := false, gapClose := false,
      handover := 0, joiners := [],
      refQ := [], ownCyc := false, toAck := [], infos := [], trainOut := false, ringDown := false, cycDiff := false,
      passed := 0, infoLast := [], sinceInfo := 0 } }.ringTake).ringListen

/-- The bypass closes: a joined node has left; another one listens again where it may (R353). -/
def State.ringClosed (s : State) : State :=
  if 2 ≤ s.ring.link.toNat then s.ringLeft
  else ({ s with ring := { s.ring with joinDue := false, joinSent := false, gapClose := false } }.ringTake).ringListen

/-- Asks the node to leave in order (R358); a node that is not joined only closes its bypass, in the next ring gap where it is open
(R351). -/
def State.ringLeave (s : State) : State :=
  if 2 ≤ s.ring.link.toNat then { s with ring.leaveDue := true }
  else if s.ring.isOpen then { s with ring := { s.ring with joinDue := false, joinSent := false, gapClose := true } }
  else s.ringClosed

/-- The node's ring gap, before the next CYCLE: the bypass closes where that waited for it, and an open node measures its west segment
by an echo request (R351, R360). -/
def State.ringGap (s : State) : State := (if s.ring.gapClose then s.ringClosed else s).sendWest (some 0x02)

/-! ## Lending: the sums (R321 to R326) -/

/-- A panel lends and borrows: Ridgeline READY, HBISO_N released, the Ledger not frozen, and the node not leaving (R321, R368). -/
def State.lendOk (s : State) : Bool := s.ringReady && !s.sys.hbisoLow && !s.ledger.frozen && !s.ring.leaveDue

/-- The panel's own 0x01 and 0x06 shortfall over classes up to a bound, in list order, each entry of the panel account capped by the
room left in its class cap (R322, R326); the intake and bridge accounts have no class caps (Table 9.1). -/
def State.shortfall (s : State) (maxCls : Nat) : Nat :=
  let room := fun (c : BitVec 2) => (s.capBound .panel c).toNat
  (s.waitList.foldl (fun (acc : Nat × Nat × Nat × Nat) p =>
    let l := (s.port p).lg
    if (l.reason == 1 || l.reason == 6) && l.cls.toNat ≤ maxCls then
      let n := l.demand - l.grant
      if !(s.acct p).classed then (acc.1 + n, acc.2)
      else if l.cls = 0 then (acc.1 + min n acc.2.1, acc.2.1 - n, acc.2.2)
      else if l.cls = 1 then (acc.1 + min n acc.2.2.1, acc.2.1, acc.2.2.1 - n, acc.2.2.2)
      else (acc.1 + min n acc.2.2.2, acc.2.1, acc.2.2.1, acc.2.2.2 - n)
    else acc) (0, room 0, room 1, room 2)).1

/-- Free coins of the panel account less both floats. -/
def State.spare (s : State) : Int := s.freeOn .panel - s.ledger.cfg.floatE - s.ledger.cfg.floatW

/-- The float deficit (R322). -/
def State.floatDeficit (s : State) : Nat := (-s.spare).toNat

/-- ASK (R322). -/
def State.ask (s : State) : Nat :=
  let g := s.ledger.cfg
  if s.lendOk && g.borrowMax != 0 && !s.ledger.returnAll && !s.ledger.noBorrow then
    min 65535 (min (g.borrowMax - s.ledger.borrowed) (s.shortfall 2 + s.floatDeficit))
  else 0

/-- LENDABLE (R323). -/
def State.lendable (s : State) : Nat :=
  if s.lendOk then (min ((s.ledger.cfg.lendMax : Int) - s.ledger.lent) (s.spare - s.shortfall 2)).toNat else 0

/-- RETURN (R325): everything on LEDGER_RELEASE target 0xFF or while islanded (R319), nothing while frozen (R320). -/
def State.toReturn (s : State) : Nat :=
  if s.ledger.frozen then 0
  else if s.ledger.returnAll || s.sys.hbisoLow then s.ledger.borrowed
  else min s.ledger.borrowed (s.spare - s.shortfall 2).toNat

/-- What a lender recalls (R326). -/
def State.toRecall (s : State) : Nat :=
  if s.lendOk then min s.ledger.lent (s.shortfall 1 + s.floatDeficit) else 0

/-- A loan grows, and stands first as the newest. -/
def addLoan (l : List Loan) (n : Node) (coins : Nat) : List Loan :=
  ⟨n, loanOf l n + coins, 0⟩ :: l.filter fun x => x.node != n

/-- The node's balance statement of a slot: OPKIND, OPNODE and OPAMT, and the books after it (R325, R326, R363). A return that
makes the panel shrink does so with reason 0x06 (R315).
DESIGN CHOICE, unsafe: log entry 61. -/
def State.statement (s : State) : State × List Byte :=
  let r := s.ring
  let ret := s.toReturn
  let rec' := s.toRecall
  match (if ret == 0 then none else r.borrowedFrom.find? fun l => l.coins != 0) with
  | some l =>
    let left := l.coins - min l.coins ret
    ({ s with ring.borrowedFrom := setLoan r.borrowedFrom l.node left, ledger.shrinkRsn := 6 }.bookLoans,
      [1, l.node] ++ leBytes 2 left)
  | none =>
    match (if rec' == 0 then none else r.lentTo.find? fun l => l.coins != 0) with
    | some l => (s, [2, l.node] ++ leBytes 2 (l.coins - min l.coins rec'))
    | none =>
      let all := r.borrowedFrom.map (fun l => ((1 : Byte), l)) ++ r.lentTo.map (fun l => ((2 : Byte), l))
      match all[r.turn % all.length]? with
      | some (k, l) => ({ s with ring.turn := r.turn + 1 }, [k, l.node] ++ leBytes 2 l.coins)
      | none => (s, [0, 0, 0, 0])

/-- The acknowledgements of a slot: the offers are booked as borrowed when they are acknowledged, and count from the next decision
cycle (R324). A panel that borrows nothing after LEDGER_RELEASE 0xFF acknowledges none (R325). -/
def State.acknowledge (s : State) : State × List Byte :=
  let acks := if s.lendOk && !s.ledger.noBorrow then s.ring.toAck.take 4 else []
  let s := acks.foldl (fun s l => (({ s with
      ring.borrowedFrom := addLoan s.ring.borrowedFrom l.node l.coins,
      ledger.borrowed := s.ledger.borrowed + l.coins, ledger.uncounted := s.ledger.uncounted + l.coins } : State).count
        33 0x08 l.coins).when (l.coins != 0) fun s => s.lgEvt 2) s
  ({ s with ring.toAck := [] }.bookLoans, (acks.flatMap fun l => offerBytes l.node l.coins true))

/-- NSTAT (Table 10.4, R364). -/
def State.nstat (s : State) : Byte :=
  BitVec.ofNat 8 ((if s.ledger.cfg.shedRing then s.ledger.cfg.shedLvl.toNat else 0) + flag s.sys.hbisoLow 2 +
    flag s.ledger.frozen 3 + flag s.lendOk 4)

/-- The node's own control frame of its slot: NODE, JOIN or LEAVE (R347, R362). -/
def State.ownFrame (s : State) : State × List Byte :=
  let code := if s.ring.leaveDue then fcLeave else if s.ring.joinDue then fcJoin else fcNode
  let (s, acks) := s.acknowledge
  let (s, st) := s.statement
  (s, ctlFrame code s.ring.node s.ring.cyc
    ([s.nstat, ringVersion] ++ leBytes 2 s.ask ++ (acks ++ List.replicate 12 0).take 12 ++ st))

/-! ## Panel information (R350) -/

/-- The highest PORTTEMP. -/
def State.tmax (s : State) : Int := allPorts.foldl (fun m p => max m (s.port p).sw.temp) (s.port 0).sw.temp

/-- LGRFREE (Table 9.12).
DEDUCED, unsafe: log entry 49. -/
def State.lgrFree (s : State) : BitVec 16 := BitVec.ofNat 16 s.ledger.cap - BitVec.ofNat 16 s.ledger.granted

/-- Bytes 4 to 31 of PANEL_INFO. -/
def State.panelInfo (s : State) : List Byte :=
  leBytes 2 s.ledger.cap ++ leBytes 2 s.ledger.granted ++ leBytes 2 s.lgrFree.toNat ++ leBytes 2 s.ledger.pubBorrow ++
    leBytes 2 s.ledger.pubLent ++ leBytes 2 (s.sup.vhbMv / 100) ++ [byteOf (BitVec.ofInt 8 s.tmax).toNat 0,
    byteOf s.islStat.toNat 0] ++
    leBytes 4 ((allPorts.map fun p => flag (s.port p).tc.state.attached p.val).sum) ++ s.ring.hostInfo

/-- A position lies among those permitted a data frame. -/
def Ring.mayInfo (r : Ring) (pos : Nat) : Bool :=
  let n := r.ncount
  n != 0 && decide ((pos + n - r.dpos % n) % n < r.dcount)

/-- The node's data frame, when its position permits one and it has changed or 64 cycles have passed. -/
def State.infoFrame (s : State) (pos : Nat) : State × List (List Byte) :=
  let body := s.panelInfo
  if s.ring.mayInfo pos && !s.ring.leaveDue && !s.ring.joinDue && (body != s.ring.infoLast || 64 ≤ s.ring.sinceInfo) then
    ({ s with ring.infoLast := body, ring.sinceInfo := 0 }, [[fcInfo, s.ring.node, 0xFF, s.ring.cyc] ++ body])
  else (s, [])

/-! ## A cycle begins -/

/-- A recall comes into force: the coins leave the borrower's capacity, which shrinks with reason 0x06 (R326). -/
def State.recallDue (s : State) (l : Loan) : State :=
  if l.coins < loanOf s.ring.borrowedFrom l.node then
    { s with ring.borrowedFrom := setLoan s.ring.borrowedFrom l.node l.coins, ledger.shrinkRsn := 6 }.bookLoans
  else s

/-- What every node counts at the start of a ring cycle: the ages of offers and of panel information, and recalls at their second cycle, none while frozen (R320). -/
def State.ringTick (s : State) : State :=
  let r := s.ring
  let due := r.recalls.filter fun l => 1 ≤ l.age && !s.ledger.frozen
  let s := due.foldl State.recallDue s
  ({ s with ring := { s.ring with
    sinceInfo := s.ring.sinceInfo + 1,
    recalls := (r.recalls.filter fun (l : Loan) => l.age == 0 || s.ledger.frozen).map fun (l : Loan) =>
      { l with age := l.age + 1 },
    offers := s.ring.offers.map fun (l : Loan) => { l with age := l.age + 1 },
    infos := s.ring.infos.map fun (i : Node × Nat × List Byte) => (i.1, i.2.1 + 1, i.2.2) } }).count 33 0x01 1

/-- The JOINs of the cycle before are settled: every one but a refused one is present from here (R355). -/
def State.settleJoins (s : State) (refused : Node) : State :=
  let s := s.ring.joiners.foldl (fun s j => if j.1 == refused then s else s.admitNode j.1) s
  { s with ring.joiners := [] }

/-- The master's verdict on one JOIN (R355): 0 to admit, else the cause. -/
def Ring.verdict (r : Ring) (n : Node) (ver : Byte) : Byte :=
  if n == r.node || r.present n then 1
  else if ver >>> 4 != ringVersion >>> 4 then 2
  else if rcycNs r.rcyc < tminNs (r.ncount + 1) r.cableNs then 3 else 0

/-- The master judges the JOINs in ring order. -/
def State.judgeJoins (s : State) : State :=
  let s := s.ring.joiners.foldl (fun s j =>
    let v := s.ring.verdict j.1 j.2
    if v = 0 then s.admitNode j.1 else { s with ring.refQ := s.ring.refQ ++ [(j.1, v)] }) s
  { s with ring.joiners := [] }

/-- The lowest-numbered other node. -/
def Ring.lowestPeer (r : Ring) : Node := ((r.peers.head?).map (·.node)).getD 0

/-- HANDOVER (R357): a lower node than the master, or at the master's leave the next-lowest. -/
def Ring.handTo (r : Ring) : Node :=
  let l := r.lowestPeer
  if l != 0 && (r.leaveDue || l < r.node) then l else 0

/-- The data positions the master publishes (R350). -/
def Ring.dcountFor (r : Ring) : Nat :=
  min r.ncount ((rcycNs r.rcyc - tminNs r.ncount r.cableNs) / 6600)

/-- The master's CYCLE, NODE, data frame and EOT (R347, R348, R357). Where its last CYCLE has not come back intact, RINGUP ends
(R370). A leaving master's bypass closes in its next ring gap (R358). -/
def State.masterCycle (s : State) : State :=
  let s := s.ringTick.judgeJoins
  let r := s.ring
  let n := r.ncount
  let ref := r.refQ.head?
  let r := { r with
    cyc := r.cyc + 1, rcycNow := r.rcyc, cycDiff := r.rcyc != r.cfgRcyc, rver := ringVersion, ttrain := r.ttMeas,
    dpos := (r.dpos + r.dcount) % n, dcount := r.dcountFor, handover := r.handTo, refQ := r.refQ.drop 1,
    trainOut := true, ownCyc := false, upRun := if r.ownCyc then r.upRun else 0 }
  let s := { s with ring := r }
  let cyc := ctlFrame fcCycle r.node r.cyc
    (leBytes 8 s.sys.sts.toNat ++ [0, 0, 0, byteOf r.rcyc.toNat 0, ringVersion, byteOf n 0, byteOf r.dpos 0,
      byteOf r.dcount 0] ++ leBytes 2 r.ttrain ++ [r.handover, (ref.map (·.1)).getD 0, (ref.map (·.2)).getD 0])
  let (s, own) := s.ownFrame
  let (s, info) := s.infoFrame 0
  (s.sendEast (frameSyms cyc ++ frameSyms own ++ info.flatMap frameSyms ++ eot)).when s.ring.leaveDue fun s =>
    { s with ring.gapClose := true }

/-! ## Frames received -/

/-- A control frame that fails its CRC is counted (R342). -/
def State.crcBad (s : State) : State :=
  (({ s with ring.crc := satAdd s.ring.crc 1 }).rgEvt 7).count 33 0x03 1

def State.crcGood (s : State) : State := s.count 33 0x02 1

/-- Sends a received frame on, where the bypass is open. -/
def State.forward (s : State) (f : List Byte) : State := s.sendEast (frameSyms f)

/-- A received control frame that is sent on is one more of the train (R349).
DEDUCED, unsafe: log entry 58. -/
def State.passOn (s : State) (f : List Byte) : State := { s.forward f with ring.passed := s.ring.passed + 1 }

/-- A master gives way to a lower-numbered one (R367): it stops, follows and sends JOIN in its next slot, with the settings that
awaited a join (R31). -/
def State.lowerMaster (s : State) (n : Node) : State :=
  let s := s.dropAll.ringTake
  ({ s with ring := { s.ring with
      link := 1, joinDue := true, joinSent := false, trainOut := false, handover := 0, refQ := [], joiners := [] } }).setMaster n

/-- The master's time at the arrival of a CYCLE, in µs (R359).
DEDUCED, unsafe: log entry 59. -/
def Ring.estimate (r : Ring) (f : List Byte) : Nat := field f 4 8 + (field f 12 3 + r.westNs) / 1000

/-- STS at a join: one step where the error exceeds 10 µs (R361).
DESIGN CHOICE, safe: log entry 62. -/
def State.alignSts (s : State) (f : List Byte) : State :=
  let e := s.ring.estimate f
  let t := s.sys.sts.toNat
  if t + 10 < e || e + 10 < t then { s with sys.sts := BitVec.ofNat 64 e }.rgEvt 8 else s

/-- A node that is not the master trims the rate of its STS toward the master's time (R361): by 200 ppm, the most it may, where the
error exceeds the 2 µs it is to hold, and by how much within them is not stated.
DESIGN CHOICE, safe: log entry 62. -/
def State.discipline (s : State) (f : List Byte) : State :=
  s.when (s.ring.link = 2) fun s =>
    let e := s.ring.estimate f
    let t := s.sys.sts.toNat
    let d : Int := if t + 2 < e || e + 2 < t then 200 else (s.freeNat % 201 : Nat)
    ({ s with ring.trim := if t < e then d else if e < t then -d else 0 } : State).drawn

/-- A node that has sent JOIN hears the next CYCLE (step 7 of Table 10.5, R355); a refused one's bypass closes in its ring gap. -/
def State.joinAnswer (s : State) (f : List Byte) : State :=
  if !s.ring.joinSent then s
  else if nth f 23 == s.ring.node then
    let r := s.ring.peers.foldl (fun r q => r.forget q.node) s.ring
    { s with ring := { r with
        link := 1, joinSent := false, joinDue := false, ready := false, gapClose := true, refused := true,
        refCause := (nth f 24).truncate 4 } }.rgEvt 4
  else
    let s := { s with ring := { s.ring with link := 2, joinSent := false, ready := true } }.rgEvt 0
    s.alignSts f

/-- What an intact CYCLE of another node gives: ring state, joins settled, alignment (R347 to R361). A master takes only the
one it handed over to, or a lower one (R367). A joined node that hears the CYCLE of a master it does not count as present, a lost
one among them, must join anew, and counts it as present from its own admission. -/
def State.takeCycle (s : State) (f : List Byte) : State :=
  let src := nth f 1
  let r := s.ring
  if r.link = 3 && r.handover != src && r.node < src then s
  else
    let s := if r.link = 3 then
        if r.handover == src then { s with ring := { r with link := 2, trainOut := false } } else s.lowerMaster src
      else s
    let strange := s.ring.link = 2 && r.handover != src && !s.ring.present src && !s.ring.joinSent
    let s := if strange then { s.ringTake with ring.joinDue := true } else s
    let s := s.ringTick
    let r := s.ring
    let next := nth f 3 == r.cyc + 1
    let run := if r.upRun == 0 || next then min 3 (r.upRun + 1) else 1
    let s := { s with ring := { r with
      upRun := run, clean := if r.clean == 0 || next then min 3 (r.clean + 1) else 1, cycSeen := true, cyc := nth f 3,
      rcycNow := (nth f 15).truncate 2, rver := nth f 16,
      dpos := (nth f 18).toNat, dcount := (nth f 19).toNat, ttrain := field f 20 2, handover := nth f 22,
      cycDiff := (nth f 15).truncate 2 != r.cfgRcyc } }
    let s := (s.setMaster src).settleJoins (nth f 23)
    let s := if strange then s else if s.ring.isOpen then s.admitNode src else { s with ring := s.ring.addPeer src }
    (s.joinAnswer f).discipline f

/-- The DELAY edit of a forwarded CYCLE (R359), saturating.
DEDUCED, unsafe: log entry 59. -/
def Ring.delayEdit (r : Ring) (f : List Byte) (good : Bool) : List Byte :=
  reseal (setBytes f 12 (leBytes 3 (min 0xFFFFFF (field f 12 3 + r.westNs + 1000)))) good

/-- The frame is the node's own, come back through an open bypass: it is stripped (R347). -/
def Ring.own (r : Ring) (f : List Byte) : Bool := r.isOpen && nth f 1 == r.node

/-- A control frame's CRC is checked and counted. -/
def State.crcSeen (s : State) (f : List Byte) : State := if frameGood f then s.crcGood else s.crcBad

/-- No CYCLE was received intact in this cycle (RINGUP; step 3 of Table 10.5). -/
def State.noCycle (s : State) : State := { s with ring := { s.ring with upRun := 0, clean := 0, cycSeen := false } }

/-- The EOT ends the node's cycle: where no CYCLE came before it the cycle had none; a master's own is judged as it sends the next. -/
def State.slotPassed (s : State) : State :=
  if s.ring.link = 3 then s else if s.ring.cycSeen then { s with ring.cycSeen := false } else s.noCycle

/-- A CYCLE frame arrives: the node's own comes back to it, or another's begins the train after the ring gap. -/
def State.onCycle (s : State) (f : List Byte) : State :=
  let good := frameGood f
  if s.ring.own f then
    let s := (s.crcSeen f).sendEast []
    if s.ring.link = 3 then
      { s with ring := { s.ring with
        ownCyc := good, upRun := if good then min 3 (s.ring.upRun + 1) else 0,
        cableNs := if good then field f 12 3 + s.ring.westNs - 1000 * s.ring.peers.length else s.ring.cableNs } }
    else s
  else
    let s := { s.ringGap with ring.passed := 0 }
    let s := s.passOn (s.ring.delayEdit f good)
    if good then s.crcGood.takeCycle f else s.crcBad.noCycle

/-- A lender's offer into a passing request: the edited frame, the amount booked (R323, R362).
DEDUCED, safe: log entry 60. -/
def State.offerInto (s : State) (f : List Byte) : State × List Byte :=
  let ask := field f 6 2
  let free := (List.range 4).find? fun i => (offerAt f i).1 == 0
  let n := min 32767 (min ask s.lendable)
  match free with
  | some i =>
    if n == 0 then (s, f)
    else
      let f := setBytes (setBytes f 6 (leBytes 2 (ask - n))) (8 + 3 * i) (offerBytes s.ring.node n false)
      (({ s with ring.offers := ⟨nth f 1, n, 0⟩ :: s.ring.offers }.bookLoans).count 33 0x07 n, f)
  | none => (s, f)

/-- An acknowledgement of this node's offer, the oldest of its amount, makes it a loan (R324).
DEDUCED, safe: log entry 60. -/
def State.takeAcks (s : State) (f : List Byte) : State :=
  let src := nth f 1
  (List.range 4).foldl (fun s i =>
    let (n, c, a) := offerAt f i
    if a && n == s.ring.node && s.ring.offers.any (fun o => o.node == src && o.coins == c) then
      { s with ring := { s.ring with
        offers := (s.ring.offers.reverse.eraseP fun (o : Loan) => o.node == src && o.coins == c).reverse,
        lentTo := addLoan s.ring.lentTo src c } }.bookLoans
    else s) s

/-- Counts a statement that differs from the node's own balance, and answers how many in a row have (R363). -/
def Ring.differs (r : Ring) (n : Node) (d : Bool) : Ring × Nat :=
  let k := if d then ((r.differ.find? fun x => x.1 == n).map (·.2)).getD 0 + 1 else 0
  let rest := r.differ.filter fun x => x.1 != n
  ({ r with differ := if k == 0 || 3 ≤ k then rest else (n, k) :: rest }, k)

/-- A borrower's statement of what it holds from this node: a lower balance is a return, which the next decision cycle adopts, as
that is the lower value that stands after three that differ (R325, R363). -/
def State.borrowerSays (s : State) (src : Node) (amt : Nat) : State :=
  let mine := loanOf s.ring.lentTo src
  let (r, _) := s.ring.differs src (amt != mine)
  { s with ring := if amt < mine then { r with lentDue := r.lentDue ++ [⟨src, amt, 0⟩] } else r }

/-- A lender's statement: the balance to which its loan is to fall is a recall, which takes effect at the second cycle; after
three that differ the lower value stands (R326, R363). -/
def State.lenderSays (s : State) (src : Node) (amt : Nat) : State :=
  let mine := loanOf s.ring.borrowedFrom src
  let (r, k) := s.ring.differs src (amt != mine)
  let s := { s with ring := r }
  if amt < mine then
    if 3 ≤ k then s.recallDue ⟨src, amt, 0⟩
    else if s.ring.recalls.any fun l => l.node == src && l.coins == amt then s
    else { s with ring.recalls := s.ring.recalls ++ [⟨src, amt, 0⟩] }
  else s

/-- What a present node's intact NODE frame says: its shed level, acknowledgements and balance (R328, R362 to R364). -/
def State.takeNode (s : State) (f : List Byte) : State :=
  let src := nth f 1
  let s := { s with ring.peers := s.ring.peers.map fun (q : Peer) =>
    if q.node == src then { q with shed := (nth f 4).truncate 2 } else q }
  let s := s.takeAcks f
  if s.ledger.frozen || nth f 21 != s.ring.node then s
  else if nth f 20 == 1 then s.borrowerSays src (field f 22 2)
  else if nth f 20 == 2 then s.lenderSays src (field f 22 2)
  else s

/-- The node's own NODE frame returns: RINGDOWN clears, offers in it are to be acknowledged, and a ring of one is READY
once its CYCLE has returned too (R324, R354, R366). A node that every other has lost, and that has not been admitted since, must join
anew (R367). -/
def State.ownNodeBack (s : State) (f : List Byte) : State :=
  let r := s.ring
  let offers := (List.range 4).filterMap fun i =>
    let (n, c, a) := offerAt f i
    if n != 0 && !a then some (⟨n, c, 0⟩ : Loan) else none
  { s with ring := { r with
    ringDown := false, toAck := offers, joinDue := r.joinDue || (r.ringDown && r.link == 2 && r.peers.isEmpty),
    ready := r.ready || (r.link == 3 && r.ownCyc) } }

/-- A NODE frame arrives: stripped where it is the node's own, else counted, edited, sent on and acted on. -/
def State.onNode (s : State) (f : List Byte) : State :=
  let good := frameGood f
  let src := nth f 1
  if s.ring.own f then
    let s := (s.crcSeen f).sendEast []
    if good && 2 ≤ s.ring.link.toNat then s.ownNodeBack f else s
  else
    let wants := 2 ≤ s.ring.link.toNat && s.ring.present src && field f 6 2 != 0
    let (s, g) := if wants then s.offerInto f else (s, f)
    let s := s.passOn (if g == f then f else reseal g good)
    if !good then s.crcBad
    else
      let s := s.crcGood
      if 2 ≤ s.ring.link.toNat && s.ring.present src then s.takeNode f
      else if src == s.ring.node then { s with ring.clean := 0 }
      else if !s.ring.isOpen || s.ring.joinDue || s.ring.joinSent then { s with ring := s.ring.addPeer src }
      else s

/-- A JOIN frame arrives (R355). -/
def State.onJoin (s : State) (f : List Byte) : State :=
  if s.ring.own f && s.ring.joinSent then (s.crcSeen f).sendEast []
  else
    let s := (s.passOn f).crcSeen f
    s.when (frameGood f) fun s => { s with ring.joiners := s.ring.joiners ++ [(nth f 1, nth f 5)] }

/-- A LEAVE frame arrives (R358). -/
def State.onLeave (s : State) (f : List Byte) : State :=
  if s.ring.own f then (s.crcSeen f).sendEast []
  else ((s.passOn f).crcSeen f).when (frameGood f) fun s => s.nodeGone (nth f 1)

/-- A PANEL_INFO frame arrives: that of a node present, which a listening node counts too, is kept for RING_STATUS, and nothing else is
done with it (R343, R350, R456). -/
def State.onInfo (s : State) (f : List Byte) : State :=
  let src := nth f 1
  if s.ring.own f then s.sendEast []
  else
    let s := s.forward f
    if s.ring.present src then
      ({ s with ring.infos := s.ring.infos.filter (fun (i : Node × Nat × List Byte) => i.1 != src) ++
        [(src, 0, (f.drop 4).take 28)] }.rgEvt 10).count 33 0x04 1
    else s.count 33 0x04 1

/-- A frame with a reserved code: sent on unchanged and ignored, a control frame being one of the train all the same, with its CRC
counted (R342, R345).
DEDUCED, unsafe: log entry 58. -/
def State.onReserved (s : State) (f : List Byte) : State :=
  let ctl := !(nth f 0).msb
  if s.ring.own f then (if ctl then s.crcSeen f else s).sendEast []
  else if ctl then (s.passOn f).crcSeen f else s.forward f

/-- RLPHY is on: CORE powered, and Ridgeline enabled and not fused off (Table 1.2); with the bypass closed it listens through the tap
(R353). -/
def State.ringHears (s : State) : Bool :=
  s.ridgeen && s.ring.enable && (s.sys.pwr == .run || s.sys.pwr == .doze) && !s.sys.resetLow

/-- A frame arrives on RGW_RX and is taken by its FCODE (Table 10.3); out of sync it is discarded (R338).
DEDUCED, unsafe: log entry 58. -/
def State.onFrame (s : State) (f : List Byte) : State :=
  let c := nth f 0
  if !s.ringHears then s
  else if !s.ring.wsync then s.sendEast [] |>.when (c == fcCycle && s.ring.link != 3) State.noCycle
  else if c == fcCycle then s.onCycle f
  else if c == fcNode then s.onNode f
  else if c == fcJoin then s.onJoin f
  else if c == fcLeave then s.onLeave f
  else if c == fcInfo then s.onInfo f
  else s.onReserved f

end Sys2Proof.Machine
end

