-- ==== Sys2Proof/Machine/TimerOps.lean ====
section
/-!
DEFINITION. The general timers and window comparators: prescaler and count, the reload tick, matches, captures, links and
TOUT (chapter 14).
-/
namespace Sys2Proof.Machine

/-- A timer. -/
def State.tmr (s : State) (k : TmrId) : Tmr := s.tmrs.get k
def State.setTmr (s : State) (k : TmrId) (t : Tmr) : State := { s with tmrs := s.tmrs.set k.val t }
def State.modTmr (s : State) (k : TmrId) (f : Tmr → Tmr) : State := s.setTmr k (f (s.tmr k))
def allTmrs : List TmrId := List.finRange 48

/-! ## Event sources (chapter 13, before R458) -/

/-- An EVSRC value names a source. -/
def evsrcOk (b : Byte) : Bool := (8 ≤ b.toNat && b.toNat ≤ 15) || (64 ≤ b.toNat && b.toNat % 64 < 48)

/-- The timer whose event an EVSRC names, and which: 1 overflow, 2 CMPA, 3 CMPB. -/
def evsrcTmr (b : Byte) : Option (TmrId × Nat) :=
  if h : b.toNat % 64 < 48 then (if 64 ≤ b.toNat then some (⟨b.toNat % 64, h⟩, b.toNat / 64) else none) else none

/-- The EVSRC of a timer's event. -/
def evsrcOf (k : TmrId) (e : Nat) : Byte := byteOf (64 * e + k.val) 0

/-! ## Counting (R485 to R487) -/

/-- The divisor in 1/256 units. -/
def Tmr.divisor (t : Tmr) : Nat := 256 * t.presc.toNat + t.prescFrac.toNat

/-- The gate of a gated slave (Table 14.3): with a timer event as trigger that timer's run or its count, with a TIN pin the level held
of it against the one CAPEDGE names.
DESIGN CHOICE, unsafe: log entry 74. -/
def State.gateOpen (s : State) (t : Tmr) : Bool :=
  match evsrcTmr t.trig with
  | some (k, 1) => (s.tmr k).run
  | some (k, 2) => (s.tmr k).count < (s.tmr k).cmpa
  | some (k, _) => (s.tmr k).count < (s.tmr k).cmpb
  | none => t.gate != (t.capEdge == 1)

/-- Counter clocks are counted: the timer is no gated slave, or its gate is open. -/
def State.counts (s : State) (t : Tmr) : Bool := t.smode != 1 || s.gateOpen t

/-- The values a timer's compare registers take at its next counter clock (R492). -/
def Tmr.nextA (t : Tmr) : Word := t.wrA.getD t.cmpa
def Tmr.nextB (t : Tmr) : Word := t.wrB.getD t.cmpb

/-- A written value that the next count has passed. -/
def Tmr.lateA (t : Tmr) : Bool := t.wrA.any fun v => v.toNat ≤ t.count.toNat
def Tmr.lateB (t : Tmr) : Bool := t.wrB.any fun v => v.toNat ≤ t.count.toNat

/-- The highest count a running timer comes to before its next event: a match or the reload tick is a command of its own. -/
def Tmr.holdAt (t : Tmr) : Nat :=
  let lim := fun (c : Word) (m : Nat) => if t.count < c then min m (c.toNat - 1) else m
  if t.lateA || t.lateB then t.count.toNat else lim t.nextB (lim t.nextA t.reload.toNat)

/-- Some source ticks pass through the prescaler (R486): its counter clocks wait while an event stands before them, and are lost while a
gate is closed, one that was due at its closing among them (R493, Table 14.12). -/
def Tmr.sourceTicks (t : Tmr) (open_ : Bool) (n : Nat) : Tmr :=
  if t.run && t.divisor != 0 then
    let a := t.acc + 256 * n
    let due := if open_ then t.owed + (a / t.divisor : Nat) else min t.owed 0
    let adv := min (t.holdAt - t.count.toNat) due.toNat
    let t := { t with acc := a % t.divisor, owed := due - adv, count := t.count + BitVec.ofNat 32 adv }
    if adv = 0 then t
    else { t with
      cmpa := t.nextA, cmpb := t.nextB, wrA := none, wrB := none,
      toutLvl := if t.mode = 3 then decide (t.count < t.nextA) else t.toutLvl }
  else t

/-- LFO periods that end in the next microsecond. -/
def State.lfoTicks (s : State) : Nat := (s.sys.tick + 1) * 32768 / 1000000 - s.sys.tick * 32768 / 1000000

/-- Source ticks of an internal clock in the next microsecond (Table 14.1); a lost clock gives none, and SYSCLK runs
at 48 MHz in fallback. -/
def State.ticksPerUs (s : State) (src : Byte) : Nat :=
  match src with
  | 0 => s.sysMhz
  | 1 => if s.clk.refclk then 0 else 25
  | 2 => s.lfoTicks
  | 3 => if s.clk.hfo then 0 else 12
  | _ => 0

/-- A TIN pin as a timer's source. -/
def isTin (b : Byte) : Bool := 8 ≤ b.toNat && b.toNat ≤ 15

/-- The edges of a TIN pin in a microsecond, as a free value gives them: at most 50 rising ones, and falling ones between them
(Table 14.1). -/
def tinEdges (v : Nat) (pin : Nat) (edge : BitVec 2) : Nat :=
  let x := v / 256 ^ pin % 256
  let rise := x % 64 % 51
  let fall := rise + x / 64 % 3 - 1
  if edge = 0 then rise else if edge = 1 then fall else rise + fall

/-- Source ticks of a timer's clock in the next microsecond: how many edges a TIN pin sees is open.
DESIGN CHOICE, unsafe: log entry 74. -/
def State.tmrTicks (s : State) (t : Tmr) : Nat :=
  if t.smode = 3 then 0
  else if isTin t.clkSrc then tinEdges s.freeNat (t.clkSrc.toNat - 8) t.capEdge
  else s.ticksPerUs t.clkSrc

/-- One microsecond passes for the timers. -/
def State.timersUs (s : State) : State :=
  let pins := s.tmrs.toList.any fun t => t.run && t.smode != 3 && isTin t.clkSrc
  let t := { s with tmrs := s.tmrs.map fun t => t.sourceTicks (s.counts t) (s.tmrTicks t) }
  if pins then t.drawn else t

/-! ## Events -/

/-- Sets a TFLAG bit, with the interpreter's interrupt (R494). -/
def State.tmrFlag (s : State) (k : TmrId) (i : Nat) : State :=
  ((s.modTmr k fun t => { t with flag := setBit t.flag i }).leaveDoze).count 35 0x06 1

/-! ## Freezing the counters (R587 to R589) -/

/-- The live counters. -/
def Perf.live (f : Perf) : List Word := f.ctrs.toList.map (·.val)

/-- A freeze at this moment: the counters stop, and a snapshot is gathered, or follows those being gathered. -/
def State.perfStop (s : State) : State :=
  let f := s.perf
  if f.gather then { s with perf := { f with frozen := true, again := f.again ++ [(f.live, s.sys.sts)] } }
  else { s with perf := { f with frozen := true, gather := true, taken := f.live, takenSts := s.sys.sts } }

/-- A release. -/
def State.perfGo (s : State) : State := { s with perf.frozen := false }

/-- An event of some source comes: a trigger armed on it fires once (R587, R588). -/
def State.perfTrigger (s : State) (fits : Byte → Bool) : State :=
  match s.perf.trig with
  | some (src, rel) =>
    if fits src then
      let s := { s with perf.trig := none }
      if rel then s.perfGo else s.perfStop
    else s
  | none => s

/-- A timer event is a source tick of every timer clocked from it, and fires a freeze trigger armed on it. -/
def State.tmrEvent (s : State) (k : TmrId) (e : Nat) : State :=
  ({ s with tmrs := s.tmrs.map fun (t : Tmr) =>
    if t.smode != 3 && t.clkSrc == evsrcOf k e then t.sourceTicks (s.counts t) 1 else t } : State).perfTrigger (· == evsrcOf k e)

/-- TOUT's level when a period starts at count 0 (Table 14.2). -/
def Tmr.startLevel (t : Tmr) : Bool :=
  if t.mode = 2 then true else if t.mode = 3 then 0 < t.cmpa else t.toutLvl

/-- Settings that awaited the reload tick (R489). -/
def Tmr.takePend (t : Tmr) : Tmr :=
  match t.pend with
  | some (r, b3, b7) =>
    { t with reload := r, toutEn := b3.getLsbD 1, toutPol := b3.getLsbD 2, toutPin := b3.extractLsb' 3 3,
             capEdge := b3.extractLsb' 6 2, capPin := b7.extractLsb' 0 3, pend := none }
  | none => t

/-- A compare match at the present count (R487, R492): CMPA moves TOUT, CMPB never does. -/
def State.cmpMatch (s : State) (k : TmrId) (isB : Bool) : State :=
  if isB then (s.tmrFlag k 2).tmrEvent k 3
  else
    let s := s.modTmr k fun t => { t with toutLvl := if t.mode = 1 || t.mode = 4 then !t.toutLvl else false }
    (s.tmrFlag k 1).tmrEvent k 2

/-- The reload tick (R487): what awaited it takes effect, and a compare value of 0 matches on it. -/
def State.reload (s : State) (k : TmrId) : State :=
  let s := s.modTmr k fun t =>
    let t := { t.takePend with count := 0, owed := t.owed - 1, cmpa := t.nextA, cmpb := t.nextB, wrA := none, wrB := none }
    if t.mode = 2 then { t with run := false, toutLvl := false, owed := 0 } else { t with toutLvl := t.startLevel }
  let s := (s.tmrFlag k 0).tmrEvent k 1
  let s := if (s.tmr k).cmpa = 0 then s.cmpMatch k false else s
  if (s.tmr k).cmpb = 0 then s.cmpMatch k true else s

/-- A counter clock of a timer that does not stand at RELOAD (R487, R492): values written take effect, a register that equals the new
count matches, and one written with a value that has been passed matches late. PWM's output is active while the count lies below
CMPA (Table 14.2). -/
def State.tmrClock (s : State) (k : TmrId) : State :=
  let t := s.tmr k
  let c := t.count + 1
  let s := s.modTmr k fun t => { t with
    count := c, owed := t.owed - 1, cmpa := t.nextA, cmpb := t.nextB, wrA := none, wrB := none,
    toutLvl := if t.mode = 3 then decide (c < t.nextA) else t.toutLvl }
  let s := if t.nextA = c || t.lateA then s.cmpMatch k false else s
  let s := if t.nextB = c || t.lateB then s.cmpMatch k true else s
  s.modTmr k fun u => { u with
    flag := u.flag ||| (if t.lateA then setBit 0 4 else 0) ||| (if t.lateB then setBit 0 5 else 0) }

/-- An internal clock of Table 14.1 runs. -/
def State.srcRuns (s : State) (src : Byte) : Bool :=
  match src with
  | 0 => s.sysMhz != 0
  | 1 => !s.clk.refclk
  | 2 => true
  | 3 => !s.clk.hfo
  | _ => false

/-- A running timer's clock is one of the device's own, and it runs, so that it comes at once; an event, a pin or a link brings its clock
in its own time, and a lost clock none. -/
def State.ownClock (s : State) (t : Tmr) : Bool := t.smode != 3 && s.srcRuns t.clkSrc

/-- Writes a compare register, at the next counter clock of a running timer: that of an internal clock comes with the command, any
other and one that a closed gate does not let come (R493) later; and whether the match is late.
DEDUCED, unsafe: log entry 75. -/
def State.cmpWrite (s : State) (k : TmrId) (isB : Bool) (v : Word) : State × Bool :=
  let t := s.tmr k
  if !t.run then
    (s.modTmr k fun t => if isB then { t with cmpb := v, wrB := none } else { t with cmpa := v, wrA := none }, false)
  else
    let s := s.modTmr k fun t => if isB then { t with wrB := some v } else { t with wrA := some v }
    let late := t.count != t.reload && v.toNat ≤ t.count.toNat
    (if s.counts t && s.ownClock t && t.count != t.reload then s.tmrClock k else s, late)

/-- The trigger falls on a counter clock that was due: the count it produces is 0, which only a compare value of 0 matches
(Table 14.12). -/
def State.zeroClock (s : State) (k : TmrId) : State :=
  let s := s.modTmr k fun t => { t with count := 0, cmpa := t.nextA, cmpb := t.nextB, wrA := none, wrB := none }
  let s := if (s.tmr k).cmpa = 0 then s.cmpMatch k false else s
  if (s.tmr k).cmpb = 0 then s.cmpMatch k true else s

/-- A reset-mode trigger (Table 14.3): a period starts; where the count stood at RELOAD this is the reload tick, with OVF and the
settings that awaited it (R489). -/
def State.tmrRestart (s : State) (k : TmrId) : State :=
  let t := s.tmr k
  let s := if t.run && t.count == t.reload then s.reload k else if t.run && decide (0 < t.owed) then s.zeroClock k else s
  s.modTmr k fun t =>
    let t := { t with count := 0, acc := 0, owed := 0, run := t.mode != 0 }
    { t with toutLvl := t.startLevel }

/-! ## The converters' master (R273) -/

/-- The frequency of an internal clock in kHz (Table 14.1); that of the LFO is below the window. -/
def State.clockKhz (s : State) (src : Byte) : Option Nat :=
  match src with
  | 0 => some (1000 * s.sysMhz)
  | 1 => some (if s.clk.refclk then 0 else 25000)
  | 2 => some 32
  | 3 => some (if s.clk.hfo then 0 else 12000)
  | _ => none

/-- The rate in kHz, as a fraction, of a timer's source and of a timer's event: an event comes once in a period of a timer that runs on
and whose compare value its count reaches. That of a TIN pin, of a gated or a reset timer, of a one-shot and of captures is not
known from the settings. -/
def State.srcRate (s : State) : Nat → Byte → Option (Nat × Nat)
  | 0, _ => none
  | n + 1, src =>
    match s.clockKhz src, evsrcTmr src with
    | some f, _ => some (f, 1)
    | none, none => none
    | none, some (k, e) =>
      let t := s.tmr k
      if !t.run || t.mode = 0 || (e == 2 && t.reload < t.cmpa) || (e == 3 && t.reload < t.cmpb) then some (0, 1)
      else if t.smode = 1 || t.smode = 2 || t.mode = 2 || (t.mode = 4 && e != 1) then none
      else (s.srcRate n (if t.smode = 3 then t.trig else t.clkSrc)).map fun r =>
        (r.1 * 256, r.2 * (t.divisor * (t.reload.toNat + 1)))

/-- TMR40 + k runs in periodic mode and overflows at 200 kHz to 1 MHz and within ±25 % of a frequency in 10 kHz units (R273, R496).
A rate that is not known from the settings is taken as in the window. -/
def State.inSyncWindow (s : State) (k fsw : Nat) : Bool :=
  if h : 40 + k < 48 then
    let t := s.tmr ⟨40 + k, h⟩
    t.run && t.mode = 1 && (match s.srcRate 49 (if t.smode = 3 then t.trig else t.clkSrc) with
      | some r =>
        let n := r.1 * 256
        let d := r.2 * (t.divisor * (t.reload.toNat + 1))
        200 * d ≤ n && n ≤ 1000 * d && 30 * fsw * d ≤ 4 * n && 4 * n ≤ 50 * fsw * d
      | none => true)
  else false

/-! ## TOUT (R490) -/

/-- The timer that drives a TOUT pin. -/
def State.toutDriver (s : State) (pin : BitVec 3) : Option TmrId :=
  allTmrs.find? fun k => (s.tmr k).toutEn && (s.tmr k).toutPin == pin

/-- TOUTCONF. -/
def State.toutConf (s : State) (k : TmrId) : Bool :=
  (s.tmr k).toutEn && s.toutDriver (s.tmr k).toutPin != some k

/-- TOUT and LTX are driven: in DOZE and RUN, with RESET_N high (Table 2.10). -/
def State.outsOn (s : State) : Bool := (s.sys.pwr == .run || s.sys.pwr == .doze) && !s.sys.resetLow

/-- A TOUT pin's level, `none` for high impedance. -/
def State.toutPin (s : State) (pin : BitVec 3) : Option Bool :=
  if !s.outsOn then none else (s.toutDriver pin).map fun k => (s.tmr k).toutLvl != (s.tmr k).toutPol

/-! ## Configuration (R488, R489, Table 13.14) -/

/-- TMR_CFG's settings applied to a timer. -/
def Tmr.applyCfg (t : Tmr) (pl : List Byte) : Tmr :=
  let mode := (nth pl 1).truncate 3
  let b3 := nth pl 3
  let presc := BitVec.ofNat 16 (field pl 4 2)
  let reload := BitVec.ofNat 32 (field pl 8 4)
  let start := b3.getLsbD 0 && mode != 0
  if t.run && mode == t.mode && nth pl 2 == t.clkSrc && presc == t.presc && nth pl 6 == t.prescFrac then
    { t with pend := some (reload, b3, nth pl 7) }
  else
    let t := { t with
      mode := mode, clkSrc := nth pl 2, presc := presc, prescFrac := nth pl 6, pend := some (reload, b3, nth pl 7) }
    let t := { t.takePend with
      run := start, count := 0, acc := 0, owed := 0, toutLvl := false, cmpa := t.nextA, cmpb := t.nextB, wrA := none, wrB := none }
    { t with toutLvl := start && t.startLevel }

/-! ## Comparators (R501 to R505) -/

def State.gwc (s : State) (g : Fin 16) : Gwc := s.gwcs.get g
def State.setGwc (s : State) (g : Fin 16) (x : Gwc) : State := { s with gwcs := s.gwcs.set g.val x }

/-- The bit of EVT that names a state. -/
def gwcBit : GwcSt → Option Nat
  | .below => some 0 | .inside => some 1 | .above => some 2 | .off => none

/-- The hysteresis in code steps of 2.5 mV (R504). -/
def gwcHyst (h : BitVec 2) : Nat := if h = 0 then 0 else if h = 1 then 1 else if h = 2 then 4 else 16

/-- What a comparator's output becomes when its input stands at a code (R502, R504); one above 2.5575 V reads ABOVE. -/
def Gwc.output (x : Gwc) (v : Nat) : GwcSt :=
  let lo := x.thLo.toNat
  let hi := x.thHi.toNat
  let h := gwcHyst x.hyst
  if 1023 < v then .above
  else if x.raw == .above && hi ≤ v + h then .above
  else if x.raw == .below && v ≤ lo + h then .below
  else if v < lo then .below else if hi < v then .above else .inside

/-- One sample: without a filter the output itself, else the state that more than half of the last M samples hold, from the M-th on;
where none does, the state is kept (R484, R503). -/
def Gwc.sample (x : Gwc) (v : Nat) : Gwc :=
  let out := x.output v
  let m := x.filtM.toNat
  if m = 0 then { x with raw := out, st := out }
  else
    let l := x.hist ++ [out]
    let l := l.drop (l.length - m)
    let major := [GwcSt.below, .inside, .above].find? fun st => m < 2 * l.count st
    { x with raw := out, hist := l, st := if l.length = m then major.getD x.st else x.st }

end Sys2Proof.Machine
end

