-- ==== Sys2Proof/Machine/Regs.lean ====
section
/-!
DEFINITION. The register window: every register as it reads, what a byte written does, and the clear-on-read counts
(chapter 19 and the register tables of the other chapters).
-/
namespace Sys2Proof.Machine

/-! ## Words (Tables 3.5, 19.4, 19.8, 11.9, 17.11, 17.12, 15.8, 16.7, 18.5, 10.8, 14.4, 14.5, 14.11) -/

/-- A word whose bit `i` is a test of `i`. -/
def bitsWord (n : Nat) (f : Nat → Bool) : Nat := (List.range n).foldl (fun a i => a + flag (f i) i) 0

/-- A word with a bit for each port. -/
def portBits (f : PortId → Bool) : Nat := allPorts.foldl (fun a p => a + flag (f p) p.val) 0

def idcode : Nat := 0xA5324810

/-- VARIANTID as latched (Table 17.3). -/
def State.variant (s : State) : Byte := (s.fuseWord 1).extractLsb' 8 8

def Pwr.code : Pwr → Nat
  | .off => 0 | .ember => 1 | .sleep => 2 | .doze => 3 | .run => 4

def State.sysstate (s : State) : Byte :=
  BitVec.ofNat 8 (s.sys.pwr.code + flag s.sys.sleepEn 3 + flag s.sys.dozeEn 4 + flag s.sys.emberBoot 5 + flag s.sys.vioSel 6)

def State.portReadyWord (s : State) : Nat := portBits s.portReady

/-- READY of a peripheral bus. -/
def State.pbReady (s : State) (i : Nat) : Bool := (s.pbus[i]?.map (·.ready)).getD false

def State.blkReady (s : State) : Nat :=
  flag s.ledger.ready 0 + flag s.ringReady 1 + flag s.sys.sboxReady 2 + flag s.sys.vaultReady 3 + flag s.sys.perfReady 4 +
  bitsWord 4 s.pbReady * 32 + flag s.sys.interp 9

/-- RQCOUNT: replies waiting (R424). -/
def State.rqCount (s : State) : Nat := min s.mb.replies.length 255

/-- PBSTAT; its reset value while the bus is not READY (R607). -/
def Pbus.stat (b : Pbus) : Byte :=
  if b.ready then BitVec.ofNat 8 (flag b.enabled 0 + flag (b.xfer || b.clearing) 1 + flag b.stuck 2 + b.rate.toNat * 8) else 0

def State.fuseStat (s : State) : Nat :=
  let f := s.fuse
  flag (!f.marginal.isEmpty) 0 + flag (f.mapBad != 0) 1 + flag f.sealedF 2 + flag f.sealedI 3 + flag f.sealedC 4 +
  flag (f.run.isSome || s.killRuns) 5 +
    flag ((f.run.map (·.pump)).getD false || s.killRuns) 6 + bitsWord 5 s.wlocked * 2 ^ 8 +
  bitsWord 5 s.rlocked * 2 ^ 13 + min f.mapped.length 32 * 2 ^ 18 + min f.marginal.length 255 * 2 ^ 24

def State.sbStat (s : State) : Nat :=
  min s.sbox.pinned 256 + flag s.sbox.fullScan 9 + flag s.sbox.hdrRepair 10 + min s.sbox.queue.length 63 * 2 ^ 12

/-- The recommended operating conditions hold, as far as the monitors of the supplies, clocks, voltages and temperatures tell (R510,
Table 20.2); VPP is to be in its range while it programs.
DEDUCED, unsafe: log entry 119. -/
def State.inConditions (s : State) : Bool :=
  s.sup.vdrvA == .ok && s.sup.vdrvB == .ok && s.sup.vio == .ok && s.sup.vhb == .ok && s.sup.vbat != .above &&
  Nat.ble 18000 s.sup.vhbMv && Nat.ble s.sup.vhbMv 60000 &&
  (s.sup.vconnin == .ok || allPorts.all fun p => !(s.port p).tc.vconnOn) && !s.clk.refclk && !s.clk.lfoXtal &&
  s.sup.vpp != .above && (s.sup.vpp == .ok || s.fuse.run.all fun r => r.pump) &&
  allPorts.all fun p =>
    let x := s.port p
    let top := if isE p then 50400 else 22000
    decide (-40 ≤ x.sw.temp) && decide (x.sw.temp ≤ 125) && Nat.ble x.tc.vbusMv top && Nat.ble x.tc.prailMv top

/-- SAFEOK: the single-fault guarantee of R510 holds as far as the device sees, and no self-test has failed.
DEDUCED, unsafe: log entry 119. -/
def State.safeOk (s : State) : Bool :=
  s.inConditions && s.safety.cfg &&& 0x7F == 0x7F && s.safety.stFail == 0 && !s.safety.stuck &&
  allPorts.all fun p => !s.porten p || cfgAudEn (s.port p).cfg

def State.safeStat (s : State) : Nat :=
  s.safety.cfg.toNat + flag s.safeCfgLock 8 + flag s.safeOk 9 + flag s.safety.romOnly 10 + s.safety.stFail.toNat * 2 ^ 16

/-- The sources whose trigger holds now. -/
def Alarm.holds (a : Alarm) : BitVec 7 := BitVec.ofNat 7 (bitsWord 7 fun i => a.present.getLsbD i && a.away.getD i 0 == 0)

/-- ATTSTATE as it reads: its reset value until the Vault is READY (R607), and 7 once zeroized by ALARM, but not after the boot that finds
the identity killed (R537, R546).
DEDUCED, unsafe: log entry 71. -/
def State.attState (s : State) : Nat :=
  if !s.sys.vaultReady then 1 else if s.vault.zeroized && s.vault.attState != 3 then 7 else s.vault.attState.toNat

def State.almStat (s : State) : Nat :=
  s.alarm.holds.toNat + flag s.lantern.unlocked 7 + s.attState * 2 ^ 8 + flag s.alarm.killPend 11 + flag s.fuse.killed 12

/-- The port's SYNCSRC names the timer (Table 8.3). -/
def State.syncUse (s : State) (k : TmrId) : Bool :=
  allPorts.any fun p => 8 ≤ cfgSyncSrc (s.port p).cfg && cfgSyncSrc (s.port p).cfg + 32 == k.val

/-- A timer's block. -/
def State.tmrBlock (s : State) (k : TmrId) : List Byte :=
  let t := s.tmr k
  leBytes 4 t.count.toNat ++ leBytes 4 t.cmpa.toNat ++ leBytes 4 t.cmpb.toNat ++
  [byteOf (t.mode.toNat + flag t.run 3 + flag (t.clkSrc == 0 && s.sysMhz == 48) 4 + flag (s.toutConf k) 5 + flag t.toutLvl 6 +
    flag (s.syncUse k) 7) 0, t.flag, byteOf (t.smode.toNat + flag (t.smode == 1 && s.gateOpen t) 2) 0, 0]

def gwcCode : GwcSt → Nat
  | .below => 0 | .inside => 1 | .above => 2 | .off => 3

def State.gwcState (s : State) : Nat :=
  (List.finRange 16).foldl (fun a g => a + gwcCode (s.gwc g).st * 4 ^ g.val) 0

def State.perfStat (s : State) : Byte :=
  let f := s.perf
  byteOf (flag f.frozen 0 + flag f.snapValid 1 + flag f.snapErr 2 + flag f.gather 3 + flag f.trig.isSome 4) 0

def State.rgStat (s : State) : Nat :=
  let r := s.ring
  r.link.toNat + flag (3 ≤ r.upRun) 2 + flag r.wsync 3 + flag r.esync 4 + flag r.cycDiff 5 + flag r.ringDown 6 +
  r.node.toNat * 2 ^ 8 + r.master.toNat * 2 ^ 16 + min r.ncount 255 * 2 ^ 24

def State.rgTime (s : State) : Nat :=
  let r := s.ring
  min r.ttrain 65535 + r.rver.toNat * 2 ^ 16 + r.refCause.toNat * 2 ^ 24 + r.rcycNow.toNat * 2 ^ 28

/-- RGMAP: the joined nodes, this one included (R370). -/
def State.rgMap (s : State) : Nat :=
  let r := s.ring
  (r.peers.map fun q => 2 ^ q.node.toNat).sum + (if 2 ≤ r.link.toNat && !r.present r.node then 2 ^ r.node.toNat else 0)

/-! ## The port summary (Table 19.15) -/

/-- A port's registers take live values: it is READY (R607).
DEDUCED, unsafe: log entry 70. -/
def State.portLive (s : State) (p : PortId) : Bool := s.porten p && (s.port p).tc.ready

/-- The registers of a port that is not live: reset values, those of the baseline and the class, and what is measured; SWSTATUS shows a
withdrawn or held port's WITHDRAWN or DISCHARGE (R246).
DEDUCED, unsafe: log entry 70. -/
def State.portBlockReset (s : State) (p : PortId) : List Byte :=
  let w := (s.port p).sw
  leBytes 4 0xF000 ++ List.replicate 6 0 ++ [byteOf (BitVec.ofInt 8 w.temp).toNat 0, 0] ++ leBytes 4 0x60 ++
  List.replicate 8 0 ++
  leBytes 4 (if s.porten p && (s.port p).tc.held then (s.swStatus p).toNat else flag (cfgAudEn (s.port p).cfg) 5) ++
  leBytes 2 w.cellsOut ++ leBytes 2 (classCeil (isE p)) ++ leBytes 2 0 ++ leBytes 2 0x0C ++ leBytes 4 0 ++ leBytes 4 0x40 ++ List.replicate 16 0

/-- DESIGN CHOICE, unsafe: log entry 116. -/
def State.portBlock (s : State) (p : PortId) : List Byte :=
  if s.portLive p then
    let x := s.port p
    leBytes 4 x.tc.status.toNat ++ [x.tc.evt, x.pd.evt] ++ leBytes 2 x.sw.evt.toNat ++ leBytes 2 x.cv.evt.toNat ++
    [byteOf (BitVec.ofInt 8 x.sw.temp).toNat 0, 0] ++ leBytes 4 x.pdStatus.toNat ++ leBytes 2 x.pd.terms.v ++
    leBytes 2 x.pd.terms.i ++ leBytes 4 x.pd.battStat.toNat ++ leBytes 4 (s.swStatus p).toNat ++ leBytes 2 x.sw.cellsOut ++
    leBytes 2 (x.sw.ceil (isE p)) ++ leBytes 2 x.sw.auditPos ++ leBytes 2 (s.convStat p).toNat ++
    leBytes 4 x.cv.refWord.toNat ++ leBytes 4 (if s.ledger.ready then x.lg.word.toNat else 0x40) ++
    leBytes 4 (if s.ledger.ready then (s.lgrDemand p).toNat else 0) ++ leBytes 4 x.lm.status.toNat ++
    leBytes 4 x.lm.need.toNat ++ leBytes 4 x.lm.peer.toNat
  else s.portBlockReset p

/-- The metering view (R624). -/
def State.portMeter (s : State) (p : PortId) : List Byte :=
  if s.portLive p then leBytes 6 (s.port p).cv.energyOut.toNat ++ leBytes 6 (s.port p).cv.energyIn.toNat else []

/-! ## DIGEST (R612) -/

/-- Fault bits of CONVEVT (R292). -/
def convFaults : BitVec 16 := 0x1C5

/-- Pn's attention and its fault. -/
def State.attention (s : State) (p : PortId) : Bool :=
  let x := s.port p
  s.portLive p && (x.tc.evt != 0 || x.pd.evt != 0 || x.cv.evt &&& ~~~ convFaults != 0 || (s.ledger.ready && x.lg.outchg))
def State.portFault (s : State) (p : PortId) : Bool :=
  let x := s.port p
  (s.portLive p && (x.sw.evt != 0 || x.cv.evt &&& convFaults != 0)) || s.safety.portEvt.getLsbD p.val

/-- TMRk's TFLAG has a bit set. -/
def State.tmrHot (s : State) (k : Nat) : Bool := (s.tmrs[k]?.map fun t => t.flag != 0).getD false

/-- The 128 bits of DIGEST as a number. -/
def State.digest (s : State) : Nat :=
  let rg := if s.ringReady then s.ring.evt else 0
  portBits s.attention + portBits s.portFault * 2 ^ 32 + (if s.ledger.ready then s.ledger.evt.toNat else 0) * 2 ^ 64 +
  flag s.ledger.islChg 72 + flag (rg &&& 0x13 != 0) 73 + flag (rg &&& 0x2C != 0) 74 + flag (rg.getLsbD 6) 75 +
  flag (rg.getLsbD 7) 76 + flag (rg &&& 0x300 != 0) 77 + flag (rg.getLsbD 10) 78 +
  bitsWord 16 (fun g => s.tmrHot (3 * g) || s.tmrHot (3 * g + 1) || s.tmrHot (3 * g + 2)) * 2 ^ 80 +
  s.gwcEvt.toNat * 2 ^ 96 + flag (!s.mb.replies.isEmpty) 112 + flag (s.bus.hdrErr != 0) 113 +
  flag (s.sys.sboxReady && s.sbox.evt != 0) 114 + flag (s.alarm.evt != 0) 115 + flag (s.fuse.evt != 0) 116 +
  flag (s.safety.evt != 0) 117 + flag (s.sys.evt.getLsbD 0) 118 + flag (s.sys.evt.getLsbD 1) 119

/-! ## Pages (R605) -/

def State.page00 (s : State) : List Byte :=
  leBytes 4 idcode ++ [s.variant, byteOf (16 + s.sys.minor) 0, s.sysstate, s.bus.wrap.zeroExtend 8,
    byteOf s.rqCount 0, byteOf s.cqFree 0, s.bus.hdrErr, s.sys.evt, s.bus.haddrCfg, s.bus.haddrBase, s.bus.haddrMask,
    s.bus.lastAddr] ++ leBytes 16 s.digest

def State.page01 (s : State) : List Byte :=
  leBytes 4 s.portReadyWord ++ leBytes 2 s.blkReady ++ leBytes 2 s.sys.irestart.toNat ++
  leBytes 4 (portBits fun p => !s.porten p) ++ leBytes 4 (portBits fun p => s.porten p && (s.port p).tc.held) ++
  s.pbus.toList.map Pbus.stat ++ leBytes 4 s.fuseStat ++ [s.fuse.evt, 0, 0, 0] ++
  (if s.sys.sboxReady then leBytes 4 s.sbStat ++ leBytes 4 s.sbox.newest.toNat ++ [s.sbox.evt] else [])

def State.page05 (s : State) : List Byte :=
  leBytes 8 s.sys.sts.toNat ++ [s.sys.stsStat, 0, 0, 0] ++ leBytes 4 s.gwcState ++ leBytes 2 s.gwcEvt.toNat

def State.page06 (s : State) : List Byte :=
  leBytes 4 s.safeStat ++ leBytes 4 s.safety.evt.toNat ++ leBytes 4 s.safety.portEvt.toNat ++
  leBytes 2 s.safety.eccSbe.toNat ++ [s.safety.eccDbe, 0] ++ leBytes 2 s.almStat ++ leBytes 2 s.alarm.evt.toNat ++
  [s.alarm.authFail]

/-- A counter block is fused off (R582). -/
def State.blkOff (s : State) (b : Nat) : Bool :=
  if h : b < 32 then !s.porten ⟨b, h⟩ else b == 33 && !s.ridgeen

/-- A role reads a counter block (R593), which is READY and not fused off (R607). -/
def State.mayRead (s : State) (role b : Nat) : Bool :=
  s.sys.perfReady && !s.blkOff b && (s.perf.perm[b]?.map fun m => m.getLsbD role).getD false

/-- A counter as the view shows it. -/
def Perf.shown (f : Perf) (i : Nat) : Word :=
  if f.view then f.snap.getD i 0 else (f.ctrs[i]?.map (·.val)).getD 0

/-- A counter block's byte. -/
def State.perfByte (s : State) (role b o : Nat) : Byte :=
  if s.mayRead role b then byteOf (s.perf.shown (4 * b + o / 4)).toNat (o % 4) else 0

/-- PERFOVF as a role reads it. -/
def State.ovfFor (s : State) (role : Nat) : Nat :=
  (List.range 38).foldl (fun a b => if s.mayRead role b then a + bitsOf s.perf.ovf.toNat (4 * b + 3) (4 * b) * 16 ^ b else a) 0

/-- The status area from 0x0A:0x80. -/
def State.perfArea (s : State) (role : Nat) : List Byte :=
  if s.sys.perfReady then
    [byteOf (flag s.perf.view 0) 0, s.perfStat] ++ leBytes 2 s.perf.snapSeq.toNat ++ leBytes 8 s.perf.snapSts.toNat ++
    leBytes 19 (s.ovfFor role) ++ [0] ++ leBytes 2 s.trace.ring.length ++ leBytes 2 s.trace.lost.toNat ++
    leBytes 2 s.trace.n.toNat
  else []

/-- DEDUCED, unsafe: log entry 49. -/
def State.page0B (s : State) : List Byte :=
  let l := s.ledger
  (if l.ready then
    leBytes 2 l.cap ++ leBytes 2 l.granted ++ leBytes 2 s.lgrFree.toNat ++ leBytes 2 l.pubBorrow ++ leBytes 2 l.pubLent ++
    leBytes 2 l.intake ++ leBytes 2 s.lgrStat.toNat ++ [l.evt, 0]
  else List.replicate 16 0) ++ leBytes 2 s.islStat.toNat

def State.page0C (s : State) : List Byte :=
  if s.ringReady then
    leBytes 4 s.rgStat ++ leBytes 4 s.rgTime ++ leBytes 2 s.ring.crc.toNat ++ leBytes 2 s.ring.evt.toNat ++
    List.replicate 20 0 ++ leBytes 32 s.rgMap
  else List.replicate 4 0 ++ leBytes 4 (2 ^ 28)

/-- The pages of Table 19.1. -/
def pageOk (p : Byte) : Bool :=
  let n := p.toNat
  n ≤ 6 || (8 ≤ n && n ≤ 0x0C) || (0x10 ≤ n && n ≤ 0x17)

/-- A port of a port page: the page's number and the offset choose it. -/
def pagePort (page off : Nat) : PortId := Fin.ofNat 32 (4 * (page - 0x10) + off / 64)

/-- The byte at an offset of a page, as a host role reads it. -/
def State.winByte (s : State) (role : Nat) (page off : Nat) : Byte :=
  if off = 0xFF then s.bus.page
  else if page = 0 then nth s.page00 off
  else if page = 1 then nth s.page01 off
  else if page ≤ 4 then
    nth (s.tmrBlock (Fin.ofNat 48 (16 * (page - 2) + off / 16))) (off % 16)
  else if page = 5 then nth s.page05 off
  else if page = 6 then nth s.page06 off
  else if page = 8 || page = 9 then
    (if off < 0xF0 then s.perfByte role (15 * (page - 8) + off / 16) (off % 16) else 0)
  else if page = 0x0A then
    (if off < 0x80 then s.perfByte role (30 + off / 16) (off % 16) else nth (s.perfArea role) (off - 0x80))
  else if page = 0x0B then nth s.page0B off
  else if page = 0x0C then nth s.page0C off
  else if 0x10 ≤ page && page ≤ 0x17 then
    (if off = 0xFE then byteOf (flag s.bus.sumView 0) 0
     else nth (if s.bus.sumView then s.portMeter (pagePort page off) else s.portBlock (pagePort page off)) (off % 64))
  else 0

/-! ## Clear-on-read counts (R380) -/

/-- The counts cleared when read: the page and offset of the lowest byte, and the width. -/
inductive CorReg where
  | hdrErr | rgCrc | eccSbe | eccDbe | trLost
  deriving DecidableEq, Repr

def CorReg.place : CorReg → Nat × Nat × Nat
  | .hdrErr => (0x00, 0x0A, 1)
  | .rgCrc => (0x0C, 0x08, 2)
  | .eccSbe => (0x06, 0x0C, 2)
  | .eccDbe => (0x06, 0x0E, 1)
  | .trLost => (0x0A, 0xA2, 2)

def corRegs : List CorReg := [.hdrErr, .rgCrc, .eccSbe, .eccDbe, .trLost]

/-- The count is cleared by the amount latched, which is all of it: none arrives within a transaction here. A block that is
not READY keeps its count (R607). -/
def State.corClear (s : State) : CorReg → State
  | .hdrErr => { s with bus.hdrErr := 0 }
  | .rgCrc => if s.ringReady then { s with ring.crc := 0 } else s
  | .eccSbe => { s with safety.eccSbe := 0 }
  | .eccDbe => { s with safety.eccDbe := 0 }
  | .trLost => if s.sys.perfReady then { s with trace.lost := 0 } else s

/-- The pointer after a byte (R377). -/
def HostBus.next (b : HostBus) : Byte :=
  let w := if b.wrap = 0 then 256 else 8 * 2 ^ b.wrap.toNat
  byteOf (b.ptr.toNat / w * w + (b.ptr.toNat + 1) % w) 0

/-- What a read of a byte latches and clears: `got` are the two-byte counts whose low byte has been read. -/
def State.readEffect (s : State) (got : List CorReg) : State × List CorReg :=
  let at_ := fun (r : CorReg) (k : Nat) =>
    let (pg, off, _) := r.place
    s.bus.page.toNat == pg && s.bus.ptr.toNat == off + k
  match corRegs.find? fun r => at_ r 0 with
  | some r => if r.place.2.2 == 1 then (s.corClear r, got) else (s, r :: got)
  | none => match got.find? fun r => at_ r 1 with
    | some r => (s.corClear r, got.filter (· != r))
    | none => (s, got)

/-- Reads `n` bytes from the pointer. -/
def State.readLoop (role : Nat) : Nat → List CorReg → State → List Byte → State × List Byte
  | 0, _, s, out => (s, out)
  | n + 1, got, s, out =>
    let b := s.winByte role s.bus.page.toNat s.bus.ptr.toNat
    let (s, got) := s.readEffect got
    State.readLoop role n got { s with bus.ptr := s.bus.next } (out ++ [b])

/-! ## Writes (R10, R379, R381) -/

/-- Clears the bits a byte written at byte `i` of a register names. -/
def w1c {n : Nat} (r : BitVec n) (i : Nat) (v : Byte) : BitVec n := r &&& ~~~ ((v.zeroExtend n) <<< (8 * i))

/-- The SAFEEVT bits whose condition still holds, which a write leaves set (R532). -/
def State.safeHeld (s : State) : Word :=
  let out := fun (x : SupSt) => x != .ok
  BitVec.ofNat 32 (flag (s.clk.hfo || s.clk.refclk || s.clk.pll) 4 + flag s.clk.lfoXtal 5 + flag (out s.sup.vmain) 6 +
    flag (out s.sup.vdrvA) 7 + flag (out s.sup.vdrvB) 8 + flag (out s.sup.vio) 9 + flag (out s.sup.vconnin) 10 +
    flag (out s.sup.vhb) 11 + flag (out s.sup.vbat) 12 + flag (out s.sup.vpp) 13 +
    flag (out s.sup.vdcore || out s.sup.vdaon) 14 + flag (s.sys.linkA || s.sys.linkB) 15 +
    flag (allPorts.any fun p => (s.port p).sw.tripWire) 17)

/-- STS counts on the LFO: in SLEEP and OFF, and in EMBER before REFCLK runs (Table 14.8). -/
def State.stsOnLfo (s : State) : Bool := s.sys.pwr == .sleep || s.sys.pwr == .off || (s.sys.pwr == .ember && s.sys.boot < 5)

/-- The STSSTAT bits whose condition still holds (R498). -/
def State.stsHeld (s : State) : Byte :=
  byteOf (flag (s.clk.refclk || s.clk.pll) 0 +
    flag s.stsOnLfo 1) 0

/-- A byte written to a port block. -/
def State.portWrite (s : State) (p : PortId) (o : Nat) (v : Byte) : State :=
  if s.bus.sumView || !s.portLive p then s
  else if o = 4 then s.modTc p fun t => { t with evt := w1c t.evt 0 v }
  else if o = 5 then s.modPd p fun t => { t with evt := w1c t.evt 0 v }
  else if o = 6 || o = 7 then s.modSw p fun t => { t with evt := w1c t.evt (o - 6) v }
  else if o = 8 || o = 9 then s.modCv p fun t => { t with evt := w1c t.evt (o - 8) v }
  else if o = 0x28 && s.ledger.ready then s.modLg p fun t => { t with outchg := t.outchg && !v.getLsbD 4 }
  else s

/-- A byte written at an offset of a page, PAGE and the host-address registers apart. -/
def State.winWrite (s : State) (page off : Nat) (v : Byte) : State :=
  if page = 0 then
    (if off = 6 then { s with sys.sleepEn := v.getLsbD 3, sys.dozeEn := v.getLsbD 4 }
     else if off = 7 then { s with bus.wrap := v.truncate 2 }
     else if off = 0x0B then { s with sys.evt := w1c s.sys.evt 0 v } else s)
  else if page = 1 then
    (if off = 0x18 then { s with fuse.evt := w1c s.fuse.evt 0 v }
     else if off = 0x24 && s.sys.sboxReady then { s with sbox.evt := w1c s.sbox.evt 0 v } else s)
  else if page ≤ 4 then
    (if off % 16 = 13 then
      s.modTmr (Fin.ofNat 48 (16 * (page - 2) + off / 16)) fun t => { t with flag := w1c t.flag 0 v } else s)
  else if page = 5 then
    (if off = 8 then { s with sys.stsStat := w1c s.sys.stsStat 0 (v &&& ~~~ s.stsHeld) }
     else if off = 0x10 || off = 0x11 then { s with gwcEvt := w1c s.gwcEvt (off - 0x10) v } else s)
  else if page = 6 then
    (if 4 ≤ off && off < 8 then
      { s with safety.evt := (w1c s.safety.evt (off - 4) v) ||| (s.safety.evt &&& s.safeHeld) }
     else if 8 ≤ off && off < 12 then { s with safety.portEvt := w1c s.safety.portEvt (off - 8) v }
     else if off = 0x12 || off = 0x13 then { s with alarm.evt := w1c s.alarm.evt (off - 0x12) v } else s)
  else if page = 0x0A && s.sys.perfReady then
    (if off = 0x80 then { s with perf.view := v.getLsbD 0 }
     else if 0x8C ≤ off && off < 0x9F then { s with perf.ovf := w1c s.perf.ovf (off - 0x8C) v } else s)
  else if page = 0x0B then
    (if off = 0x0E && s.ledger.ready then { s with ledger.evt := w1c s.ledger.evt 0 v }
     else if off = 0x10 then { s with ledger.islChg := s.ledger.islChg && !v.getLsbD 3 } else s)
  else if page = 0x0C && s.ringReady then
    (if off = 0x0A || off = 0x0B then { s with ring.evt := w1c s.ring.evt (off - 0x0A) v } else s)
  else if 0x10 ≤ page && page ≤ 0x17 then
    (if off = 0xFE then { s with bus.sumView := v.getLsbD 0 } else s.portWrite (pagePort page off) (off % 64) v)
  else s

/-- What takes effect when the transaction ends: PAGE and the host-address registers (R372, R378). -/
structure AtStop where
  page : Option Byte
  cfg : Option Byte
  base : Option Byte
  mask : Option Byte
  deriving DecidableEq, Repr

/-- A data byte of a window write is acknowledged, its own effect having come first: what the count then sets stays set (R10). -/
def State.byteAcked (s : State) : State := s.count 34 0x06 1

/-- Writes bytes from the pointer, on the page in force when the transaction began. -/
def State.writeLoop (page : Nat) : List Byte → AtStop → State → State × AtStop
  | [], e, s => (s, e)
  | v :: r, e, s =>
    let off := s.bus.ptr.toNat
    let (s, e) :=
      if off = 0xFF then (s, { e with page := if pageOk v then some v else e.page })
      else if page = 0 && off = 0x0C then (s, { e with cfg := some (v &&& 0x01) })
      else if page = 0 && off = 0x0D then (s, { e with base := some (v &&& 0x7F) })
      else if page = 0 && off = 0x0E then (s, { e with mask := some (v &&& 0x7F ||| 0x08) })
      else (s.winWrite page off v, e)
    State.writeLoop page r e ({ s with bus.ptr := s.bus.next } : State).byteAcked

/-- A write transaction's data bytes: the first sets the pointer (R376); one that is cut puts nothing into force that waits for the
STOP (R393). -/
def State.winTx (s : State) (stop : Bool) : List Byte → State
  | [] => s
  | p :: r =>
    let (s, e) := State.writeLoop s.bus.page.toNat r ⟨none, none, none, none⟩ ({ s with bus.ptr := p } : State).byteAcked
    if !stop then s else { s with bus := { s.bus with
        page := e.page.getD s.bus.page, haddrCfg := e.cfg.getD s.bus.haddrCfg,
        haddrBase := e.base.getD s.bus.haddrBase, haddrMask := e.mask.getD s.bus.haddrMask } }

end Sys2Proof.Machine
end

