-- ==== Sys2Proof/Machine/VhbOps.lean ====
section
/-!
DEFINITION. House-bus excursions: the stop of every converter and its restart (R275, R276, R281, R192), and the islanding
that an undervoltage brings about.
-/
namespace Sys2Proof.Machine

/-- HBISO_N is pulled low (R277). -/
def State.isolate (s : State) : State :=
  if s.sys.hbisoLow then s
  else (({ s with sys.hbisoLow := true, ledger.islChg := true, ledger.joining := false } : State).reForm).flagChange s.unconstrained

/-- HBISO_N is released other than by ISLAND_SET.
DEDUCED, unsafe: log entry 55. -/
def State.hbisoRelease (s : State) : State :=
  ({ s with
    sys.hbisoLow := false, ledger.islChg := s.ledger.islChg || s.sys.hbisoLow } : State).flagChange s.unconstrained

/-- One converter stops through the idle path, remembering the direction in which R275 restarts it; a forming one is restarted by
the rules of islanding. What idle brings follows: frequency fields that wait come into force, and the Ember donor's own
oscillator ends (R274). A source's soft-start ends with the condition that its rail stands at target (R217). A slew that waits for
tSrcTransition waits on, as do the arming for a Fast Role Swap and the diode emulation of one (R271, R290). -/
def State.vhbStopOne (s : State) (p : PortId) : State :=
  let x := s.port p
  let d := x.cv.dir
  if d = 0 then s
  else
    let s := ((s.modCv p fun c => { c with
      dir := 0, region := 3, atTarget := false, synced := false, slewing := false, ilimAct := false, prebias := x.swap.frArmed,
      ember := false, stopped := if d = 3 then 0 else d }).cvEvt p 1).takeFreq p
    if x.sw.st == .softstart && !x.sw.sinkDir then
      (s.openSwitch p).modCv p fun c => { c with stopped := d }
    else s

/-- A forming source holds a sink contract. -/
def State.canForm (s : State) : Bool := allPorts.any fun p => s.formingSrc p && (s.port p).pd.hasContract

/-- VHB reads a level: each converter's region follows, and a forming one is at target while VHB stands within ±5 % of VFORM (R256,
R267). -/
def State.vhbRead (s : State) (mv : Nat) : State :=
  ({ s with sup.vhbMv := mv } : State).eachPort fun s p =>
    let s := s.convRegion p
    s.when ((s.port p).cv.dir = 3) fun s => s.modCv p fun c => { c with atTarget := s.atVform }

/-- A VHB excursion (R275): every converter stops. On undervoltage an armed panel islands (R281), and a source with Fast Role
Swap permission signals one (R192). -/
def State.vhbOut (s : State) (hi : Bool) : State :=
  let sig := if hi then [] else allPorts.filter s.frMaySignal
  let s := s.eachPort fun s p => if sig.contains p then s else s.vhbStopOne p
  if hi then s
  else
    let s := if s.ledger.armed && !s.sys.hbisoLow && s.canForm then s.isolate else s
    sig.foldl (fun s p => s.frSignal p false) s

/-- A stopped converter restarts in its direction: a source's reference ramps from the present rail, and nothing is sent
for it. A transition's slew begins with it, where tSrcTransition has passed (R288). -/
def State.restartOne (s : State) (p : PortId) : State :=
  let x := s.port p
  if x.cv.stopped = 0 then s
  else
    let s := s.convStart p x.cv.stopped x.cv.vref
    let s := s.when ((s.port p).cv.dir = 1) fun s => (s.modCv p fun c => { c with diode := x.cv.diode }).modPd p fun d =>
      { d with sinkSlew := d.sinkSlew || (x.pdSrc && d.contract == .transition && !x.cv.slewDue) }
    let y := s.port p
    if y.cv.dir = 1 && y.sw.st != .closed && y.cv.vref == 250 then s.modCv p fun c => { c with prebias := true }
    else if y.cv.dir = 2 then s.setIlim p else s

/-- VHB is back past the release level of its excursion: the stopped converters restart, but after an overvoltage not those
running in reverse (R276). A source that could not start prebias for want of VHB starts it. -/
def State.vhbBack (s : State) (mv : Nat) : State :=
  let above := s.sup.vhb == .above
  let t := ({ s with sup.vhb := .ok } : State).vhbRead mv
  (t.eachPort fun t p => if above && (t.port p).cv.stopped = 2 then t else t.restartOne p).flagChange s.unconstrained

/-- Whether a level ends the excursion in force (Table 3.1). -/
def State.vhbReleased (s : State) (mv : Nat) : Bool :=
  match s.sup.vhb with
  | .ok => false
  | .below => 17500 ≤ mv && mv ≤ 62000
  | .above => mv ≤ 60000 && 16500 ≤ mv

/-- Forming has brought the local bus to its target: VHB stands there, and for the Ember donor the regulators are enabled
(step 12 of Table 3.9). -/
def State.formed (s : State) (p : PortId) : State :=
  let mv := (s.port p).cv.vref * 20
  let s := if s.vhbReleased mv then s.vhbBack mv else s.vhbRead mv
  if s.sys.pwr == .ember && s.ember.donor == some p && s.ember.step == 11 then
    { s with ember.step := 12, sys.mainenLow := false }
  else s

end Sys2Proof.Machine
end

