-- ==== Sys2Proof/Machine/CmdPanel.lean ====
section
/-!
DEFINITION. The Ledger, bridge, Ember, island, Ridgeline, timer and comparator commands (R448 to R461).
DEDUCED, unsafe: log entry 68.
-/
namespace Sys2Proof.Machine

/-! ## Ledger (R448 to R451, R297, R330) -/

/-- LEDGER_CFG's payload as settings (Table 13.10). -/
def lgCfgOf (pl : List Byte) : LgCfg :=
  { budget := field pl 0 2, intakeCap := field pl 2 2, floatE := field pl 4 2, floatW := field pl 6 2,
    capE := field pl 8 2, capW := field pl 10 2, capC := field pl 12 2, lendMax := field pl 14 2,
    borrowMax := field pl 16 2, refSample := (nth pl 18).toNat, preempt := (nth pl 19).getLsbD 0,
    shedLvl := (nth pl 19).extractLsb' 1 2, shedRing := (nth pl 19).getLsbD 3 }

/-- Settings in the payload's layout. -/
def LgCfg.bytes (c : LgCfg) : List Byte :=
  leBytes 2 c.budget ++ leBytes 2 c.intakeCap ++ leBytes 2 c.floatE ++ leBytes 2 c.floatW ++ leBytes 2 c.capE ++
  leBytes 2 c.capW ++ leBytes 2 c.capC ++ leBytes 2 c.lendMax ++ leBytes 2 c.borrowMax ++
  [byteOf c.refSample 0, byteOf (flag c.preempt 0 + c.shedLvl.toNat * 2 + flag c.shedRing 3) 0]

/-- The checks of Table 9.2. -/
def State.lgCfgOk (s : State) (c : LgCfg) : Bool :=
  45 * s.nen ≤ c.budget && c.lendMax + 45 * s.nen ≤ c.budget && c.shedLvl != 3 && c.floatE + c.floatW ≤ c.budget

/-- LEDGER_CFG (R448): in force from the next decision cycle. -/
def State.cmdLedgerCfg (s : State) (k : Packet) : State × CmdRes :=
  match k.payload with
  | [] => (s, .final 0 ((s.savedEntry 0x30 0xFF).getD (s.ledger.pend.getD s.ledger.cfg).bytes))
  | pl =>
    if s.lgCfgOk (lgCfgOf pl) then
      ({ s.saveEntry 0x30 0xFF pl with ledger.pend := some (lgCfgOf pl) }, ok)
    else (s, fail 0x14)

/-- LEDGER_CLASS (R449). -/
def State.cmdLedgerClass (s : State) (k : Packet) (p : PortId) : State × CmdRes :=
  match k.payload with
  | [] =>
    let l := (s.port p).lg
    let (c, m) := l.pendCls.getD (l.cls, l.maxGrant)
    (s, .final 0 ((s.savedEntry 0x31 p.val).getD (c.zeroExtend 8 :: 0 :: leBytes 2 m)))
  | pl =>
    let c := (nth pl 0).truncate 2
    if c = 3 then (s, fail 0x14)
    else ((s.saveEntry 0x31 p.val pl).modLg p fun l => { l with pendCls := some (c, field pl 2 2) }, ok)

/-- The reply for one port (Table 13.11). -/
def State.ledgerPort (s : State) (p : PortId) : List Byte :=
  let l := (s.port p).lg
  [l.outcome.zeroExtend 8, l.reason, l.cls.zeroExtend 8, byteOf (dirCode l.sink) 0] ++ leBytes 2 l.grant ++
  leBytes 2 l.demand ++ leBytes 2 (s.ceiling p l.sink) ++ leBytes 2 ((l.resv.map (·.coins)).getD 0) ++ [byteOf (s.waitPos p) 0]

/-- The summary reply (Table 13.12), with the waiting list. -/
def State.ledgerSummary (s : State) : List Byte :=
  let l := s.ledger
  leBytes 2 l.cap ++ leBytes 2 l.granted ++ leBytes 2 s.lgrFree.toNat ++ leBytes 2 l.pubBorrow ++ leBytes 2 l.pubLent ++
  leBytes 2 l.intake ++ leBytes 2 s.lgrStat.toNat ++ [l.evt, 0] ++
  s.waitList.flatMap fun p =>
    let x := (s.port p).lg
    byteOf p.val 0 :: x.cls.zeroExtend 8 :: leBytes 2 (x.demand - x.grant)

/-- LEDGER_QUERY (R450). -/
def State.cmdLedgerQuery (s : State) (k : Packet) : State × CmdRes :=
  match k.port with
  | some p => (s, .final 0 (s.ledgerPort p))
  | none => (s, .final 0 s.ledgerSummary)

/-- LEDGER_RELEASE (R451, R330, R325). -/
def State.cmdLedgerRelease (s : State) (k : Packet) : State × CmdRes :=
  match k.port with
  | some p => (s.post (.hostRelease p), ok)
  | none => ({ s with ledger.returnAll := true, ledger.noBorrow := true }, ok)

/-! ## Bridge, Ember, island (R452 to R454) -/

/-- The bridges as they will stand at the next decision cycle. -/
def State.bridgesNext (s : State) : List Bridge :=
  s.ledger.brPend.foldl (fun l (b, on) => if on then l ++ [b] else l.filter fun c => c.src != b.src) s.ledger.bridges

/-- The port is in a PR_Swap. -/
def Port.inPrSwap (x : Port) : Bool := x.swap.kind == .pr && x.swap.stage != .none

/-- BRIDGE_SET (R452, R283): in force from the next decision cycle.
DEDUCED, unsafe: log entry 54. -/
def State.cmdBridgeSet (s : State) (k : Packet) (p : PortId) : State × CmdRes :=
  match portOf (nth k.payload 0) with
  | none => (s, fail 0x14)
  | some q =>
    let l := s.bridgesNext
    let inOne := fun (r : PortId) => l.any fun b => b.src == r || b.snk == r
    if !s.porten q then (s, fail 0x21)
    else if !(nth k.payload 1).getLsbD 0 then
      (if l.contains ⟨p, q⟩ then ({ s with ledger.brPend := s.ledger.brPend ++ [(⟨p, q⟩, false)] }, ok) else (s, ok))
    else if p == q || cfgRole (s.port p).cfg == 1 || cfgRole (s.port q).cfg == 0 then (s, fail 0x14)
    else if inOne p || inOne q || (s.port p).inPrSwap || (s.port q).inPrSwap || 16 ≤ l.length then (s, fail 0x23)
    else ({ s with ledger.brPend := s.ledger.brPend ++ [(⟨p, q⟩, true)] }, ok)

/-- EMBER_CFG (R453). -/
def State.cmdEmberCfg (s : State) (k : Packet) : State × CmdRes :=
  match k.payload with
  | [] => (s, .final 0 ((s.savedEntry 0x41 0xFF).getD
      (byteOf (flag s.ember.forbid 0) 0 :: s.ember.pwrMax.zeroExtend 8 :: 0 :: 0 :: leBytes 4 s.ember.mask.toNat)))
  | pl =>
    if 3 < nth pl 1 then (s, fail 0x14)
    else ({ s.saveEntry 0x41 0xFF pl with
        ember.forbid := (nth pl 0).getLsbD 0, ember.pwrMax := (nth pl 1).truncate 2,
        ember.mask := BitVec.ofNat 32 (field pl 4 4) }, ok)

/-- ISLAND_SET JOIN: each forming source changes to feeding, and HBISO_N is released 1 ms later (R282).
DEDUCED, unsafe: log entry 55. -/
def State.islandJoin (s : State) : State :=
  if s.sys.hbisoLow then
    { s.eachPort State.feedOne with ledger.joining := true }
  else s

/-- A new forming target; a converter that forms moves to it. -/
def State.setVform (s : State) (v : Nat) : State :=
  ({ s with ledger.vform := v } : State).eachPort fun s p =>
    s.when ((s.port p).cv.dir = 3) fun s => s.formRef p

/-- ISLAND_SET (R454, R278).
DEDUCED, unsafe: log entry 55. -/
def State.cmdIslandSet (s : State) (k : Packet) : State × CmdRes :=
  let m := (nth k.payload 0).toNat
  let v := (nth k.payload 1).toNat
  if 3 < m || (2 ≤ m && k.minor < 2) || (v != 0 && (v < 18 || 60 < v)) then (s, fail 0x14)
  else if s.sys.hbisoLow && (m == 1 || m == 2) then (s, ok)
  else
    let s := if v == 0 then s else s.setVform v
    let s :=
      if m == 0 then s.islandJoin
      else if m == 1 then s.isolate
      else { s with ledger.armed := m == 2 }
    (s, ok)

/-! ## Ridgeline (R455 to R457, R369) -/

/-- RING_CFG (R455): ENABLE 0 and REJOIN make a joined node leave; node number and ring cycle wait for the next join; a refused node
may try again (R355). -/
def State.cmdRingCfg (s : State) (k : Packet) : State × CmdRes :=
  match k.payload with
  | [] =>
    let (e, n, c) := s.ring.pend.getD (s.ring.enable, s.ring.node, s.ring.rcyc)
    (s, .final 0 ((s.savedEntry 0x48 0xFF).getD (byteOf (flag e 0 + c.toNat * 4) 0 :: n :: s.ring.hostInfo)))
  | pl =>
    let b := nth pl 0
    let n := nth pl 1
    let c := b.extractLsb' 2 2
    if n == 0xFF then (s, fail 0x14)
    else
      let saved := (b &&& 0xFD) :: pl.drop 1
      let s := { s.saveEntry 0x48 0xFF saved with
        ring.pend := some (b.getLsbD 0, n, c), ring.hostInfo := pl.drop 2, ring.refused := false,
        ring.cycDiff := if s.ring.link.toNat < 2 then false else c != s.ring.rcycNow }
      (if !b.getLsbD 0 || b.getLsbD 1 || s.ring.link.toNat < 2 then s.ringLeave else s, ok)

/-- PANEL_INFO received from the nodes, one 32-byte entry each, in node order. -/
def State.infoEntries (s : State) : List (List Byte) :=
  let one := fun (n : Nat) => (s.ring.infos.filter fun i => i.1.toNat == n).map fun (i : Node × Nat × List Byte) =>
    i.1 :: byteOf (min i.2.1 255) 0 :: 0 :: 0 :: i.2.2
  (List.range 256).flatMap one

/-- The 44 bytes of RING_STATUS SEL 0x00. -/
def State.ringStatus (s : State) : List Byte :=
  leBytes 4 s.rgStat ++ leBytes 4 s.rgTime ++ leBytes 2 s.ring.crc.toNat ++ leBytes 2 s.ring.evt.toNat ++ leBytes 32 s.rgMap

/-- RING_STATUS (R456). -/
def State.cmdRingStatus (s : State) (k : Packet) : State × CmdRes :=
  let sel := nth k.payload 0
  if sel == 0 then (s, .parts 0 [s.ringStatus])
  else if sel == 1 && 1 ≤ k.minor then
    (s, .parts 0 (cut 1024 9 s.infoEntries.flatten))
  else (s, fail 0x14)

/-- RING_BYPASS (R457). -/
def State.cmdRingBypass (s : State) (k : Packet) : State × CmdRes :=
  let m := nth k.payload 0
  if m == 0 then
    let s := { s with ring.bypassed := false, ring.refused := false }
    (if s.ring.link = 0 then s.ringListen else s, ok)
  else if m == 1 then ({ s with ring.bypassed := true }.ringLeave, ok)
  else (s, fail 0x14)

/-! ## Timers and comparators (R458 to R461) -/

/-- The timer a byte names. -/
def tmrOf (b : Byte) : Option TmrId := if h : b.toNat < 48 then some ⟨b.toNat, h⟩ else none

/-- A byte is an EVSRC that is not an event of the timer itself. -/
def evsrcFor (k : TmrId) (b : Byte) : Bool := evsrcOk b && (evsrcTmr b).map (·.1) != some k

/-- TMR_CFG's fields lie in Table 13.14. -/
def tmrCfgOk (k : TmrId) (pl : List Byte) : Bool :=
  nth pl 1 ≤ 4 && (nth pl 2 ≤ 3 || evsrcFor k (nth pl 2)) && (nth pl 3).extractLsb' 6 2 != 3 && field pl 4 2 != 0

/-- TMR_CFG in the payload's layout, from the settings in force or pending. -/
def Tmr.cfgBytes (t : Tmr) (k : TmrId) : List Byte :=
  let (r, b3, b7) := t.pend.getD (t.reload, byteOf (t.run.toNat + t.toutEn.toNat * 2 + t.toutPol.toNat * 4 + t.toutPin.toNat * 8 +
    t.capEdge.toNat * 64) 0, t.capPin.zeroExtend 8)
  [byteOf k.val 0, t.mode.zeroExtend 8, t.clkSrc, b3] ++ leBytes 2 t.presc.toNat ++ [t.prescFrac, b7] ++ leBytes 4 r.toNat

/-- TMR_CFG (R458).
DEDUCED, unsafe: log entry 75. -/
def State.cmdTmrCfg (s : State) (k : Packet) : State × CmdRes :=
  match tmrOf (nth k.payload 0) with
  | none => (s, fail 0x14)
  | some t =>
    if k.payload.length == 1 then (s, .final 0 ((s.savedEntry 0x50 t.val).getD ((s.tmr t).cfgBytes t)))
    else if !tmrCfgOk t k.payload then (s, fail 0x14)
    else if s.syncUse t && nth k.payload 1 != 1 then (s, fail 0x23)
    else ((s.saveEntry 0x50 t.val k.payload).modTmr t fun x => x.applyCfg k.payload, ok)

/-- TMR_CMP (R459, R492).
DEDUCED, unsafe: log entry 75. -/
def State.cmdTmrCmp (s : State) (k : Packet) : State × CmdRes :=
  match tmrOf (nth k.payload 0) with
  | none => (s, fail 0x14)
  | some t =>
    if k.payload.length == 1 then
      (s, .final 0 ((s.savedEntry 0x51 t.val).getD ([byteOf t.val 0, 0, 0, 0] ++ leBytes 4 (s.tmr t).cmpa.toNat)))
    else
      let (s, late) := (s.saveEntry 0x51 t.val k.payload).cmpWrite t ((nth k.payload 1).getLsbD 0)
        (BitVec.ofNat 32 (field k.payload 4 4))
      (s, .final 0 [byteOf (flag late 0) 0])

/-- Following clocked links from a trigger source comes back to a timer. -/
def State.linkLoops (s : State) (slave : TmrId) : Nat → Byte → Bool
  | 0, _ => false
  | n + 1, b => match evsrcTmr b with
    | none => false
    | some (k, _) => k == slave || ((s.tmr k).smode = 3 && State.linkLoops s slave n (s.tmr k).trig)

/-- TMR_LINK (R460, R493). A gate on a TIN pin starts at the pin's level, which is not known here.
DESIGN CHOICE, unsafe: log entry 74. -/
def State.cmdTmrLink (s : State) (k : Packet) : State × CmdRes :=
  match tmrOf (nth k.payload 0) with
  | none => (s, fail 0x14)
  | some t =>
    let m := nth k.payload 1
    let trig := nth k.payload 2
    if k.payload.length == 1 then
      (s, .final 0 ((s.savedEntry 0x52 t.val).getD [byteOf t.val 0, (s.tmr t).smode.zeroExtend 8, (s.tmr t).trig, 0]))
    else if 3 < m || !evsrcFor t trig || (m == 3 && s.linkLoops t 48 trig) then (s, fail 0x14)
    else
      (((s.saveEntry 0x52 t.val k.payload).modTmr t fun x => { x with
        smode := m.truncate 2, trig := trig, gate := s.freeNat % 2 == 1 }).drawn, ok)

/-- The comparator a byte names. -/
def gwcOf (b : Byte) : Option (Fin 16) := if h : b.toNat < 16 then some ⟨b.toNat, h⟩ else none

/-- CMP_CFG's fields lie in Table 13.15. -/
def cmpCfgOk (pl : List Byte) : Bool :=
  let m := (nth pl 3).toNat
  nth pl 1 ≤ 4 && nth pl 2 ≤ 3 && (m == 0 || (m % 2 == 1 && 3 ≤ m && m ≤ 31)) && nth pl 4 ≤ 2 &&
  field pl 5 2 % 1024 ≤ field pl 7 2 % 1024

/-- CMP_CFG (R461, R505): a change of mode, thresholds, hysteresis or filter clears the filter's history, and the filtered state is held
until the next decision; MODE 0x00 reads OFF. -/
def State.cmdCmpCfg (s : State) (k : Packet) : State × CmdRes :=
  match gwcOf (nth k.payload 0) with
  | none => (s, fail 0x14)
  | some g =>
    let pl := k.payload
    let x := s.gwc g
    if pl.length == 1 then
      (s, .final 0 ((s.savedEntry 0x53 g.val).getD ([byteOf g.val 0, x.mode.zeroExtend 8, x.hyst.zeroExtend 8,
        x.filtM.zeroExtend 8, x.filtClk.zeroExtend 8] ++ leBytes 2 x.thLo.toNat ++ leBytes 2 x.thHi.toNat ++
        [x.evtMask.zeroExtend 8])))
    else if !cmpCfgOk pl then (s, fail 0x14)
    else
      let y : Gwc := { x with
        mode := (nth pl 1).truncate 3, hyst := (nth pl 2).truncate 2, filtM := (nth pl 3).truncate 5,
        filtClk := (nth pl 4).truncate 2, thLo := BitVec.ofNat 10 (field pl 5 2), thHi := BitVec.ofNat 10 (field pl 7 2) }
      ((s.saveEntry 0x53 g.val pl).setGwc g { y with
        evtMask := (nth pl 9).truncate 3, hist := if y == x then x.hist else [],
        raw := if nth pl 1 == 0 then .off else x.raw, st := if nth pl 1 == 0 then .off else x.st }, ok)

end Sys2Proof.Machine
end

