-- ==== Sys2Proof/Machine/CmdPort.lean ====
section
/-!
DEFINITION. The device, port and policy commands: what each does once accepted, and its first reply (R418, R427, R437 to
R447).
DEDUCED, unsafe: log entry 68.
-/
namespace Sys2Proof.Machine

/-! ## Device commands -/

/-- HELLO (R418, Table 12.5). -/
def State.cmdHello (s : State) (k : Packet) : State × CmdRes :=
  if nth k.payload 0 != 1 then (s, .final 0x11 [1, 2])
  else
    let m := min (nth k.payload 1).toNat 2
    ({ s with sys.minor := m }, .final 0 [1, 2, byteOf m 0, 16, 128, 64, 0, 4])

/-- ECHO (R437). -/
def State.cmdEcho (s : State) (k : Packet) : State × CmdRes := (s, .final 0 k.payload)

/-- The DEVICE_STATUS reply (Table 13.3). -/
def State.deviceStatus (s : State) : List Byte :=
  leBytes 4 idcode ++ [s.variant, s.sysstate, byteOf s.sys.minor 0, 0] ++ leBytes 4 s.portReadyWord ++
  leBytes 2 s.blkReady ++ [0, 0] ++ leBytes 8 s.sys.sts.toNat ++ leBytes 2 s.sys.irestart.toNat ++ [0, 0]

/-- DEVICE_STATUS (R438): read, or mark every saved entry to be erased at the next boot. -/
def State.cmdDeviceStatus (s : State) (k : Packet) : State × CmdRes :=
  match k.payload with
  | [op, c] =>
    if op == 0 then (s, .final 0 s.deviceStatus)
    else if op == 1 && c == 0xE5 then
      ({ s with store.erase := s.store.entries.map fun (e : Saved) => (e.op, e.sel) }, ok)
    else (s, fail 0x14)
  | _ => (s, .final 0 s.deviceStatus)

/-! ## PORT_CFG, PORT_ENABLE, PORT_DISABLE (R439, R440) -/

/-- The port is in an Unattached state. -/
def Port.unattached (x : Port) : Bool := x.tc.state == .unattachedSnk || x.tc.state == .unattachedSrc

/-- The port is in an attached, accessory or Unsupported.Accessory state, in which a table waits (Table 1.7). -/
def Port.tableWaits (x : Port) : Bool := x.tc.state.attached

/-- A new configuration: at once on a port that is Disabled or Unattached, else at the next entry to Unattached, the frequency
fields sooner on an idle converter; a port whose role no longer allows its Unattached state goes to that of its role (Table 1.7, R99).
DESIGN CHOICE, unsafe: log entry 50. -/
def State.takeCfg (s : State) (p : PortId) (c : PortCfg) : State :=
  let s := s.modPort p fun x => { x with cfgPend := some c }
  let x := s.port p
  if x.tc.state == .disabled then s.modPort p fun x => { x with cfg := c, cfgPend := none }
  else if x.unattached then
    let s := s.modPort p fun x => { x with cfg := c, cfgPend := none }
    if cfgRole c == 2 || x.tc.state == (s.port p).restState then s else s.toUnattached p
  else s.takeFreq p

/-- PORT_CFG (R439). -/
def State.cmdPortCfg (s : State) (k : Packet) (p : PortId) : State × CmdRes :=
  let x := s.port p
  match k.payload with
  | [] => (s, .final 0 ((s.savedEntry 0x10 p.val).getD (leBytes 10 (x.cfgPend.getD x.cfg).toNat)))
  | pl =>
    let c := BitVec.ofNat 80 (leVal pl) &&& cfgMask
    if cfgValid (isE p) s.ledgermodeen c then ((s.saveEntry 0x10 p.val pl).takeCfg p c, ok) else (s, fail 0x14)

/-- Enables a port: OK from Disabled, through ErrorRecovery while trip-wire lines agree (R517), held during a discharge, a duplicate while one is held (R233, R234, R440). -/
def State.portEnable (s : State) (p : PortId) : State × Byte :=
  let x := s.port p
  if x.tc.enHeld then (s, 0x03)
  else if x.sw.st == .discharge then (s.modTc p fun t => { t with enHeld := true }, 0x02)
  else if x.tc.state == .disabled then
    (if x.sw.tripWire then (s.errorRecovery p).modTc p fun t => { t with erBack := false } else s.toUnattached p, 0)
  else (s.modTc p fun t => { t with erBack := false }, 0)

/-- PORT_ENABLE (R440); OK or DEFERRED is saved (R435). -/
def State.cmdPortEnable (s : State) (_k : Packet) (p : PortId) : State × CmdRes :=
  let (s, st) := s.portEnable p
  (if st == 3 then s else s.saveEntry 0x11 p.val [1], fail st)

/-- Disables a port in any state: VBUS and VCONN are removed, the demand is released, a held enable is cancelled, HOLDOFF ends and
TRIPCNT clears, and a configuration that waited comes into force (Table 4.13, R228, R235, Table 1.7). -/
def State.portDisable (s : State) (p : PortId) : State :=
  let s := if (s.port p).tc.state.attached then s.leaveAttach p else s
  let s := s.modTc p fun t => { t with
    state := .disabled, cc1 := .opn, cc2 := .opn, oriented := false, rpAdv := .none, rpSeen := .none, vconnOn := false,
    raSeen := false, dbAttach := false, leaving := false, enHeld := false, safeDef := false, tryDone := false,
    erBack := false, ccHeld := false }
  let s := s.modSw p fun w => { w with st := if w.st == .holdoff then .opn else w.st, tripCnt := 0, holdNext := false }
  s.applyCfg p

/-- PORT_DISABLE (R440). -/
def State.cmdPortDisable (s : State) (_k : Packet) (p : PortId) : State × CmdRes :=
  ((s.portDisable p).saveEntry 0x11 p.val [0], ok)

/-! ## PORT_STATUS, PORT_RESET (R441, R442) -/

/-- CFGPEND (Table 13.5). -/
def State.cfgPendByte (s : State) (p : PortId) : Byte :=
  let x := s.port p
  let sv := s.savedEntry 0x11 p.val
  byteOf (flag x.cfgPend.isSome 0 + flag x.srcPend.isSome 1 + flag x.snkPend.isSome 2 + flag (sv == some [1]) 3 +
    flag sv.isSome 4) 0

/-- The 72 bytes of Table 13.5. -/
def State.portStatus (s : State) (p : PortId) : List Byte :=
  let x := s.port p
  leBytes 4 x.tc.status.toNat ++ [x.tc.evt, x.pd.evt] ++ leBytes 4 x.pdStatus.toNat ++ leBytes 2 x.pd.terms.v ++
  leBytes 2 x.pd.terms.i ++ leBytes 4 (s.swStatus p).toNat ++ leBytes 2 x.sw.evt.toNat ++ leBytes 2 x.sw.cellsOut ++
  leBytes 2 (x.sw.ceil (isE p)) ++ [byteOf (BitVec.ofInt 8 x.sw.temp).toNat 0, s.cfgPendByte p] ++
  leBytes 2 (s.convStat p).toNat ++ leBytes 4 x.cv.refWord.toNat ++ leBytes 2 x.cv.evt.toNat ++ [0, 0] ++
  leBytes 4 x.lm.status.toNat ++ leBytes 10 x.cfg.toNat ++ leBytes 10 (x.cfgPend.getD x.cfg).toNat ++
  leBytes 6 x.cv.energyOut.toNat ++ leBytes 6 x.cv.energyIn.toNat

/-- Clears a port's four event registers. -/
def State.clearEvents (s : State) (p : PortId) : State :=
  (((s.modTc p fun t => { t with evt := 0 }).modPd p fun t => { t with evt := 0 }).modSw p fun t => { t with evt := 0 }).modCv p
    fun t => { t with evt := 0 }

/-- PORT_STATUS (R441). -/
def State.cmdPortStatus (s : State) (k : Packet) (p : PortId) : State × CmdRes :=
  (if (nth k.payload 0).getLsbD 0 then s.clearEvents p else s, .final 0 (s.portStatus p))

/-- The engine pair of a port is reset, by PORT_RESET or a mismatch (R514, R524, Table 15.5): commands in progress end, the port
leaves the reset through ErrorRecovery, and is not READY. -/
def State.pairReset (s : State) (p : PortId) (but : Option (BitVec 6)) : State :=
  let s := s.abortPort p but
  let s := s.errorRecovery p
  let s := (s.modSwap p fun w => { w with result := none }).modLm p fun l => { l with result := none }
  s.modPort p fun x => { x with
    prun := x.prun.filter fun r => some r.tag == but, tc := { x.tc with ready := false, inReset := true } }

/-- PORT_RESET (R442, Table 13.6). A Hard Reset asked for while a detach waits for vSafe0V has lost its attach already.
DEDUCED, unsafe: log entry 22. -/
def State.cmdPortReset (s : State) (k : Packet) (p : PortId) : State × CmdRes :=
  let x := s.port p
  let kind := nth k.payload 0
  let run := fun (s : State) => s.modPort p fun x => { x with prun := x.prun ++ [⟨k.tag, kind, none⟩] }
  if 3 < kind then (s, fail 0x14)
  else if kind == 0 then
    (if x.pd.hasContract then ((run s).trigger p .softReset, .accepted) else (s, fail 0x23))
  else if kind == 1 then
    (if x.tc.state == .attachedSrc || x.tc.state == .attachedSnk then
      (if x.tc.leaving then (run s).prunDone p [1] 5 else (run s).hardReset p, .accepted)
     else (s, fail 0x23))
  else if kind == 2 then ((run s).errorRecovery p, .accepted)
  else ((run s).pairReset p (some k.tag), .accepted)

/-! ## Tables (R443 to R445) -/

/-- The head and entries of a table read back: as last written, byte 1 telling whether it awaits its boundary. -/
def State.tableBack (s : State) (p : PortId) (op : Byte) (pend : Option (List Entry)) (tab : List Entry) : List Byte :=
  let t := pend.getD tab
  match s.savedEntry op p.val with
  | some pl => nth pl 0 :: byteOf (flag pend.isSome 0) 0 :: pl.drop 2
  | none => byteOf t.length 0 :: byteOf (flag pend.isSome 0) 0 :: 0 :: 0 :: t.flatMap entryBytes

/-- PDO_SET (R443, R445): a port in an attached state takes the table at the next AMS that builds capabilities, which the
command brings about. -/
def State.cmdPdoSet (s : State) (k : Packet) (p : PortId) : State × CmdRes :=
  let x := s.port p
  let n := (nth k.payload 0).toNat
  let t := entriesOf n (k.payload.drop 4)
  if n == 0 then (s, .final 0 (s.tableBack p 0x20 x.srcPend x.src))
  else if 11 < n || !srcTableOk (isE p) s.epren t then (s, fail 0x14)
  else
    let s := s.saveEntry 0x20 p.val k.payload
    if x.tableWaits then
      let s := s.modPort p fun x => { x with srcPend := some t }
      (s.when (x.pdSrc && x.sw.st == .closed && x.pd.contract != .stopped) fun s => s.trigger p .negotiation, ok)
    else (s.modPort p fun x => { x with src := t, srcPend := none }, ok)

/-- SINK_PREF_SET (R444, R445). -/
def State.cmdSinkPrefSet (s : State) (k : Packet) (p : PortId) : State × CmdRes :=
  let x := s.port p
  let n := (nth k.payload 0).toNat
  let t := entriesOf n (k.payload.drop 4)
  if n == 0 then (s, .final 0 (s.tableBack p 0x21 x.snkPend x.snk))
  else if 6 < n || !t.all (snkEntryOk (isE p) s.epren) then (s, fail 0x14)
  else
    let s := s.saveEntry 0x21 p.val k.payload
    if x.tableWaits then
      let s := s.modPort p fun x => { x with snkPend := some t }
      (s.when (x.pdSnk && x.pd.inForce) fun s => s.trigger p .getSourceCap, ok)
    else (s.modPort p fun x => { x with snk := t, snkPend := none }, ok)

/-! ## VDM_SEND (R446) -/

/-- The VDOs of a VDM_SEND payload. -/
def vdosOf (pl : List Byte) : List Word :=
  (List.range (nth pl 2).toNat).map fun i => BitVec.ofNat 32 (field pl (4 + 4 * i) 4)

/-- The SOP type a byte names. -/
def sopOf (b : Byte) : Sop := if b == 1 then .sop1 else if b == 2 then .sop2 else .sop

/-- The status of check 10, 0 where the command runs. -/
def State.vdmCheck (s : State) (p : PortId) (pl : List Byte) : Byte :=
  let x := s.port p
  let op := nth pl 0
  let sop := nth pl 1
  let n := nth pl 2
  let w := (vdosOf pl).headD 0
  if 2 < op || 2 < sop || (op != 0 && sop != 0) || (op == 0 && (n == 0 || 7 < n)) || (op != 0 && n != 0) ||
      (op == 0 && vdmTypeBit w == false) || (sop != 0 && !isE p) then 0x14
  else if (sop != 0 && !x.tc.vconnOn) || !x.pd.hasContract ||
      (op == 0 && vdmSvid w == ledgerSvid && vdmCmd w == 0x11) ||
      ((op == 2 || (op == 0 && (vdmCmd w == 4 || vdmCmd w == 5))) && !x.tc.dfp) ||
      (op == 1 && (!cfgLmEn x.cfg || !x.tc.dfp || !x.pd.rev3)) then 0x23
  else 0
where
  /-- VDM Type: 1 structured -/
  vdmTypeBit (w : Word) : Bool := w.getLsbD 15

/-- Starts a VDM_SEND, or ends it at once where the port's attach has ended while it waited, or a Hard Reset has come. -/
def State.startVdm (s : State) (p : PortId) (k : Packet) : State :=
  let pl := k.payload
  match (s.port p).lm.cutOf k with
  | none =>
    (s.modLm p fun l => { l with
      run := some ⟨nth pl 0, sopOf (nth pl 1), vdosOf pl, if nth pl 0 == 1 then 1 else 0, false, 0⟩ }).trigger p .vdm
  | some r => s.modLm p fun l => { l with result := some (vdmReply r.toNat 0 []) }

/-- The oldest VDM_SEND or SWAP_REQ in progress on a port. -/
def State.flightOn (s : State) (p : PortId) (op : Byte) : Option Packet :=
  s.flight fun k => k.opcode == op && k.port == some p

/-- A VDM_SEND of a port. -/
def vdmSendOn (p : PortId) (k : Packet) : Bool := k.opcode == 0x22 && k.port == some p

/-- The oldest VDM_SEND of a port starts, unless one runs or one accepted earlier has still to start (R421). -/
def State.vdmGo (s : State) (p : PortId) : State :=
  let l := (s.port p).lm
  match s.flightOn p 0x22 with
  | some k => if l.run.isNone && l.result.isNone && !s.laneBefore (vdmSendOn p) k then s.startVdm p k else s
  | none => s

/-- VDM_SEND: one runs at a time on a port, and others wait in acceptance order (R421). -/
def State.cmdVdmSend (s : State) (k : Packet) (p : PortId) : State × CmdRes :=
  let st := s.vdmCheck p k.payload
  if st != 0 then (s.vdmGo p, fail st)
  else
    let l := (s.port p).lm
    let first := match s.flightOn p 0x22 with
      | some j => k.ord < j.ord && l.run.isNone && l.result.isNone
      | none => true
    (if first && !s.laneBefore (vdmSendOn p) k then s.startVdm p k else s, .accepted)

/-- VDM_SEND_COMPLETE: the finished command's completion, and the start of the next. -/
def State.vdmComplete (s : State) (p : PortId) : State :=
  match (s.port p).lm.result with
  | none => s
  | some r =>
    let s := s.modLm p fun l => { l with result := none }
    let s := match s.flightOn p 0x22 with
      | some k => s.complete k 0 r
      | none => s
    s.vdmGo p

/-! ## SWAP_REQ (R447, R197) -/

/-- The swap a KIND byte names. -/
def swapOf (b : Byte) : SwapKind := if b == 0 then .pr else if b == 1 then .dr else if b == 2 then .vconn else .fr

/-- The port class or the port's state does not serve the swap a KIND byte asks for: 0 where it does (R184, R193, R194). An EPR
source may be asked to give VCONN away; one that may not source VCONN is denied taking it.
DEDUCED, unsafe: log entry 102. DESIGN CHOICE, unsafe: log entry 104. DESIGN CHOICE, unsafe: log entry 124. -/
def State.swapRefusal (s : State) (p : PortId) (kind : Byte) : Byte :=
  let x := s.port p
  if (kind == 0 && cfgRole x.cfg != 2) || (kind == 2 && !isE p) ||
      (kind == 3 && (x.snkAtt || cfgFrSwap x.cfg < 2 || x.pd.frCurrent == 0)) then 0x14
  else if (kind == 0 || kind == 3) && !s.ledger.ready then 0x20
  else if !x.pd.hasContract || (kind == 0 && s.bridged p) || (kind == 1 && x.lm.mode && !x.tc.dfp) ||
      (kind == 2 && !x.tc.vconnOn && !s.vconnOk p) then 0x23
  else 0

/-- The swap of a SWAP_REQ starts; one that waited and can be served no longer yields to the partner's.
DEDUCED, unsafe: log entry 48. -/
def State.startSwap (s : State) (p : PortId) (kind : Byte) : State :=
  let x := s.port p
  if s.swapRefusal p kind != 0 then s.modSwap p fun w => { w with result := some (0x52, 7) }
  else if kind == 0 then (s.frDisarm p).startProbe p true
  else if kind == 3 then s.frSignal p true
  else
    let s := s.modSwap p fun w => { w with
      kind := swapOf kind, stage := .pending, own := true, won := false,
      toSrc := if kind == 1 then !x.tc.dfp else !x.tc.vconnOn }
    (if kind == 1 && x.lm.mode then s.trigger p .exitMode else s).trigger p .swap

/-- The completion of a finished SWAP_REQ, and the start of one that waited for the partner's swap to end, once a contract
stands. -/
def State.swapComplete (s : State) (p : PortId) : State :=
  let s := match (s.port p).swap.result with
    | none => s
    | some (st, r) =>
      let s := s.modSwap p fun w => { w with result := none }
      match s.flightOn p 0x23 with
      | some k => s.complete k st [r]
      | none => s
  match s.flightOn p 0x23 with
  | some k => if (s.port p).swap.stage == .none && (s.port p).pd.hasContract then s.startSwap p (nth k.payload 0) else s
  | none => s

/-- The status of check 10, 0 where the command runs.
DESIGN CHOICE, unsafe: log entry 114. -/
def State.swapCheck (s : State) (k : Packet) (p : PortId) : Byte :=
  let kind := nth k.payload 0
  let r := s.swapRefusal p kind
  if 3 < kind || (kind == 3 && k.minor < 2) || r == 0x14 then 0x14
  else if (s.flightOn p 0x23).isSome then 0x03 else r

/-- SWAP_REQ. -/
def State.cmdSwapReq (s : State) (k : Packet) (p : PortId) : State × CmdRes :=
  let s := if (s.port p).swap.result.isSome then s.swapComplete p else s
  let st := s.swapCheck k p
  if st != 0 then (s, fail st)
  else (if (s.port p).swap.stage == .none then s.startSwap p (nth k.payload 0) else s, .accepted)

end Sys2Proof.Machine
end

