-- ==== Sys2Proof/Machine/PbusOps.lean ====
section
/-!
DEFINITION. The peripheral buses: what a controller does next, the ends of a transfer and of a clear, and resets (R395 to
R401, R530).
-/
namespace Sys2Proof.Machine

def State.pb (s : State) (b : BusId) : Pbus := s.pbus.get b
def State.modPb (s : State) (b : BusId) (f : Pbus → Pbus) : State := { s with pbus := s.pbus.set b.val (f (s.pb b)) }

/-- Every bus, in ascending order. -/
def allBuses : List BusId := List.finRange 4

/-- Lengths of a transfer's write and read data (Table 13.16). -/
def wlenOf (k : Packet) : Nat := field k.payload 4 2
def rlenOf (k : Packet) : Nat := field k.payload 6 2

/-- Completes packets in order with one status. -/
def State.completeAll (s : State) (l : List Packet) (status : Byte) : State :=
  l.foldl (fun s k => s.complete k status []) s

/-- A bus a payload names. -/
def busOf (b : Byte) : Option BusId := if h : b.toNat < 4 then some ⟨b.toNat, h⟩ else none

/-- A transfer on a bus. -/
def xferOn (b : BusId) (k : Packet) : Bool := k.opcode == 0x61 && busOf (nth k.payload 0) == some b

/-- A clear begins: one that PBUS_CLEAR asked for, or the controller's own (R399). -/
def Pbus.clear (x : Pbus) (forHost : Bool) : Pbus := { x with clearing := true, forHost := forHost, needClear := false }

/-- What an idle controller does: a PBUS_CLEAR ahead of the queue, else the transfer at the head of the queue, after a clear
where one must precede it (R399), unless one accepted earlier has still to start (R421). A stuck bus refuses its queue (R401). With
VIO out of range it waits. -/
def State.pbusNext (s : State) (b : BusId) : State :=
  let x := s.pb b
  if x.xfer || x.clearing then s
  else if !x.clears.isEmpty then s.modPb b fun x => x.clear true
  else match x.queue with
    | [] => s
    | k :: _ =>
      if x.stuck then (s.modPb b fun x => { x with queue := [] }).completeAll x.queue 0x51
      else if s.sup.vio != .ok || s.laneBefore (xferOn b) k then s
      else if x.needClear then s.modPb b fun x => x.clear false
      else s.modPb b fun x => { x with xfer := true }

/-- ENABLE and RATE come into force between transfers (R395). A disabled bus completes its queue ABORTED_HOST, and has been reset, so
that a clear precedes its next transfer (R399, R530). On enabling, a clear runs if SDA is low, which is a level outside the device (R399).
DEDUCED, unsafe: log entry 73. -/
def State.pbusApply (s : State) (b : BusId) (en : Bool) (rate : BitVec 2) : State :=
  let x := s.pb b
  let s := s.modPb b fun y => { y with enabled := en, rate := rate, pend := none }
  if !en then (s.modPb b fun y => { y with queue := [], needClear := y.needClear || x.enabled }).completeAll x.queue 0x32
  else if !x.enabled && !x.clearing then
    let low := s.freeNat % 2 == 1
    ((s.modPb b fun y => if low then y.clear false else y).drawn).pbusNext b
  else s

/-- A transfer has ended: a PBUS_CFG that waited comes into force, and the controller goes on. -/
def State.pbusEnd (s : State) (b : BusId) : State :=
  let x := s.pb b
  let s := s.modPb b fun y => { y with xfer := false, queue := y.queue.drop 1 }
  let s := match x.pend with
    | some (en, rate) => s.pbusApply b en rate
    | none => s
  s.pbusNext b

/-- The RESULT, WACK and bytes read of a finished transfer (R463). -/
def xferReply (k : Packet) (r : Byte) (wack : Nat) (rd : List Byte) : List Byte :=
  let w := wlenOf k
  let acked := if r == 1 then 0 else if r == 2 then min wack (w - 1) else w
  r :: leBytes 2 acked ++ 0 :: (if r == 0 then (List.range (rlenOf k)).map (nth rd) else [])

/-- What the completion of an abandoned transfer says, with its RESULT: how far the transfer had come is open (R397).
DEDUCED, unsafe: log entry 73. -/
def State.cutXfer (s : State) (k : Packet) (r : Byte) : State × List Byte :=
  let acked := s.freeNat % (wlenOf k + 1)
  let s := s.drawn
  let n := if acked == wlenOf k then s.freeNat % (rlenOf k + 1) else 0
  let s := s.drawn
  let rd := s.freeBytes n
  (s.drawn, r :: leBytes 2 acked ++ 0 :: rd)

/-- A VIO excursion: the transfer in progress completes OK with RESULT 0x04, how far it had come being open, and every bus
needs a clear (R399, R530).
DEDUCED, unsafe: log entry 73. -/
def State.pbusVio (s : State) : State :=
  allBuses.foldl (fun s b =>
    let s := s.modPb b fun y => { y with needClear := true }
    match (s.pb b).xfer, (s.pb b).queue with
    | true, k :: _ =>
      let (s, pl) := s.cutXfer k 4
      (s.complete k 0 pl).pbusEnd b
    | _, _ => s) s

/-- The controllers are reset with the interpreter: what they held is answered by it (R527, R530).
DEDUCED, unsafe: log entry 73. -/
def State.pbusReset (s : State) : State :=
  { s with pbus := s.pbus.map fun (x : Pbus) =>
    let (en, rate) := x.pend.getD (x.enabled, x.rate)
    { x with enabled := en, rate := rate, pend := none, xfer := false, clearing := false, needClear := true, queue := [],
             clears := [], ready := x.ready || (x.clearing && Nat.ble 10 s.sys.boot) } }

end Sys2Proof.Machine
end

