-- ==== Sys2Proof/Machine/CmdUnit.lean ====
section
/-!
DEFINITION. The peripheral-bus, fuse and Strongbox commands (R462 to R470): what each does once accepted, and its first reply.
-/
namespace Sys2Proof.Machine

/-! ## Peripheral buses (R462 to R464) -/


/-- PBUS_CFG: with ENABLE 0 the transfer in progress completes (R395), or is abandoned with ABORTED_HOST (R530), which is left open; other
settings wait for its end.
DEDUCED, unsafe: log entry 73. -/
def State.cmdPbusCfg (s : State) (k : Packet) : State × CmdRes :=
  match busOf (nth k.payload 0) with
  | none => (s, fail 0x14)
  | some b =>
    let x := s.pb b
    let v := nth k.payload 1
    let rate := v.extractLsb' 1 2
    if k.payload.length == 1 then
      let (en, rt) := x.pend.getD (x.enabled, x.rate)
      (s, .final 0 ((s.savedEntry 0x60 b.val).getD [byteOf b.val 0, byteOf (flag en 0 + rt.toNat * 2) 0]))
    else if rate = 3 then (s, fail 0x14)
    else
      let s := s.saveEntry 0x60 b.val k.payload
      if x.xfer && !v.getLsbD 0 && s.freeNat % 2 == 1 then
        ((s.drawn.modPb b fun y => { y with xfer := false }).pbusApply b false rate, ok)
      else if x.xfer then
        let s := if v.getLsbD 0 then s else s.drawn
        let s := s.modPb b fun y => { y with pend := some (v.getLsbD 0, rate) }
        (if v.getLsbD 0 then s
         else (s.modPb b fun y => { y with queue := y.queue.take 1 }).completeAll (x.queue.drop 1) 0x32, ok)
      else (s.pbusApply b (v.getLsbD 0) rate, ok)

/-- The lengths lie in the ranges of Table 13.16. -/
def xferOk (form wlen rlen : Nat) : Bool :=
  match form with
  | 0 => wlen ≤ 256 && rlen == 0
  | 1 => wlen == 0 && 1 ≤ rlen && rlen ≤ 256
  | 2 => 1 ≤ wlen && wlen ≤ 256 && 1 ≤ rlen && rlen ≤ 256
  | _ => false

/-- PBUS_XFER (R396). -/
def State.cmdPbusXfer (s : State) (k : Packet) : State × CmdRes :=
  match busOf (nth k.payload 0) with
  | none => (s, fail 0x14)
  | some b =>
    let x := s.pb b
    if !xferOk (nth k.payload 2).toNat (wlenOf k) (rlenOf k) then (s.pbusNext b, fail 0x14)
    else if !(x.pend.map (·.1)).getD x.enabled then (s.pbusNext b, fail 0x23)
    else if x.stuck then (s.pbusNext b, fail 0x51)
    else ((s.modPb b fun y => { y with queue := insertOrd k y.queue }).pbusNext b, .accepted)

/-- PBUS_CLEAR. -/
def State.cmdPbusClear (s : State) (k : Packet) : State × CmdRes :=
  match busOf (nth k.payload 0) with
  | none => (s, fail 0x14)
  | some b => ((s.modPb b fun y => { y with clears := insertOrd k y.clears }).pbusNext b, .accepted)

/-! ## Fuses (R465 to R468) -/

/-- A bit map, bit `j` of byte `i` for entry `8 i + j`. -/
def bitMap (l : List Bool) : List Byte :=
  (List.range ((l.length + 7) / 8)).map fun i => BitVec.ofNat 8 (bitsWord 8 fun j => l.getD (8 * i + j) false)

/-- A word and its mark, as FUSE_READ returns them in a mode (R561). -/
def State.fuseRd (s : State) (mode : Byte) (m : List (Nat × Nat)) (w : Nat) : Word × Bool :=
  if mode == 0 then (s.fuseWord w, s.fuse.marginal.contains w) else s.fuse.fresh m (mode == 2) w

/-- FUSE_READ. -/
def State.cmdFuseRead (s : State) (k : Packet) : State × CmdRes :=
  let mode := nth k.payload 0
  let w := fuseArg k
  let n := field k.payload 4 2
  if 2 < mode || 1023 < w || n == 0 || 256 < n || 1024 < w + n then (s, fail 0x14)
  else if (List.range 5).any fun r => s.rlocked r && w ≤ regLock r && regBase r < w + n then (s, fail 0x22)
  else
    let m := (readMap s.fuse.normal s.fuse.strict).1
    let l := (List.range n).map fun i => s.fuseRd mode m (w + i)
    let pl := leBytes 2 w ++ leBytes 2 n ++ (l.flatMap fun x => leBytes 4 x.1.toNat) ++ bitMap (l.map (·.2))
    (if mode == 0 then s else s.count 36 0x07 n, .parts (if l.any (·.2) then 0x40 else 0) (cut 1024 2 pl))

/-- The OTP controller is taken. -/
def State.fuseBusy (s : State) : Bool := s.fuse.run.isSome || s.alarm.killPend

/-- Check 10 of the three programming commands: 0 where the command runs (R466 to R468, R564, R565).
DEDUCED, unsafe: log entry 76. -/
def State.fuseCheck (s : State) (k : Packet) : Byte :=
  let w := fuseArg k
  if k.opcode == 0x69 then
    if 1023 < w || field k.payload 4 4 == 0 || w == regLock (regOf w) || regOf w == 4 ||
        ((regOf w ≤ 2) && w == regCrc (regOf w)) then 0x14
    else if s.wlockNow (regOf w) then 0x22
    else if (nth k.payload 1).getLsbD 0 && s.sup.vpp != .ok then 0x23 else 0
  else if k.opcode == 0x6A then
    if 4 < nth k.payload 0 then 0x14 else if nth k.payload 0 == 0 then 0x22 else 0
  else
    let sp := (nth k.payload 0).toNat
    let e := s.fuse.normal.word (0x3DF + sp)
    if 31 < sp || 1023 < w || 3 ≤ regOf w || w == regLock (regOf w) then 0x14
    else if s.wlockNow (regOf w) || s.wlockNow 4 then 0x22
    else if (e = s.fuse.strict.word (0x3DF + sp) && entryGood sp e) ||
        (spareOf (readMap s.fuse.normal s.fuse.strict).1 w).isSome || s.fuse.normal.word (0x400 + sp) != 0 ||
        s.fuse.strict.word (0x400 + sp) != 0 || s.fuse.badSpares.contains sp then 0x23
    else 0

/-- The command has the controller. -/
def State.fuseBegin (s : State) (k : Packet) : State :=
  { s with fuse.run := some ⟨k, !(k.opcode == 0x69 && (nth k.payload 1).getLsbD 0), 0, 0⟩ }

/-- It is a waiting KEYGEN's turn at the controller (Table 18.8).
DEDUCED, unsafe: log entry 84. -/
def State.keygenTurn (s : State) : Bool := !s.fuseBusy && s.lantern.keygen.any fun x => x.2 = 0

/-- A programming command. -/
def isFuseProg (k : Packet) : Bool := k.opcode == 0x69 || k.opcode == 0x6A || k.opcode == 0x6B

/-- The controller is free: the next command takes it, once more checked; one that now fails completes with its status. -/
def State.fuseNext : Nat → State → State
  | 0, s => s
  | n + 1, s =>
    if s.fuseBusy || s.keygenTurn then s
    else match s.fuse.queue with
      | [] => s
      | k :: r =>
        if s.laneBefore isFuseProg k then s
        else
        let t : State := { s with fuse.queue := r, lantern.keygen := s.lantern.keygen.map fun x => (x.1, x.2 - 1) }
        let status := t.fuseCheck k
        if status == 0 then t.fuseBegin k else State.fuseNext n (t.complete k status [])

/-- The controller goes on with what waits for it. -/
def State.fuseGo (s : State) : State := State.fuseNext (s.fuse.queue.length + 1) s

/-- A command waits for the controller in the order of acceptance (R421); a KEYGEN behind one that comes after it stays behind. -/
def State.fuseWait (s : State) (k : Packet) : State :=
  let ahead := (s.fuse.queue.filter fun j => j.ord < k.ord).length
  { s with
    fuse.queue := insertOrd k s.fuse.queue,
    lantern.keygen := s.lantern.keygen.map fun x => (x.1, if ahead < x.2 then x.2 + 1 else x.2) }

/-- Check 10 and the start, or the wait for the controller, of a programming command. -/
def State.fuseStart (s : State) (k : Packet) : State × CmdRes :=
  let st := s.fuseCheck k
  if st != 0 then (s.fuseGo, fail st)
  else if s.fuseBusy || s.lantern.keygen.isSome || s.laneBefore isFuseProg k then (s.fuseWait k, .accepted)
  else (s.fuseBegin k, .accepted)

/-- FUSE_PROG. -/
def State.cmdFuseProg (s : State) (k : Packet) : State × CmdRes := s.fuseStart k

/-- FUSE_LOCK. -/
def State.cmdFuseLock (s : State) (k : Packet) : State × CmdRes := s.fuseStart k

/-- FUSE_SPARE. -/
def State.cmdFuseSpare (s : State) (k : Packet) : State × CmdRes := s.fuseStart k

/-- Bits are in FAILMASK: they are compared no longer, and a spare that FUSE_SPARE was programming cannot be used again (R560, R565);
FUSEEVT, the FUSE_FAIL record, and the completion. -/
def State.fuseFailed (s : State) (k : Packet) (phys : Nat) (mask : Word) : State :=
  let s := { s with fuse := { s.fuse with
    failed := s.fuse.failed.setWord phys (s.fuse.failed.word phys ||| mask),
    badSpares := if k.opcode == 0x6B && phys == 0x400 + (nth k.payload 0).toNat then (nth k.payload 0).toNat :: s.fuse.badSpares
      else s.fuse.badSpares } }
  ((s.fuseEvt 1).postRec 0x0F (k.opcode :: leBytes 2 phys ++ leBytes 4 mask.toNat)).complete k 0x41 (leBytes 4 mask.toNat)

/-- The running command of an opcode ends, `f` doing what is its own; the controller then goes on. -/
def State.fuseEnd (s : State) (op : Byte) (fail : Word) (f : State → Word → Packet → State) : State :=
  match s.fuse.run with
  | some r =>
    if r.pkt.opcode == op && !s.alarm.killPend then
      let s := f s (fail ||| r.without) r.pkt
      { s with fuse.run := none }.fuseGo
    else s
  | none => s

/-- Every bit of a fuse command has verified: a lock with FORCE sets its event and posts its record (R567), and the command
completes. -/
def State.fuseOk (s : State) (k : Packet) : State :=
  let r := nth k.payload 0
  let b := nth k.payload 1
  let s := if k.opcode == 0x6A && b.getLsbD 7 then
      let crc := if r == 1 || r == 2 then (s.regionNow r.toNat).1 else 0
      (s.fuseEvt 2).postRec 0x0E (r :: (b &&& 3) :: leBytes 2 (fuseArg k) ++ leBytes 2 crc.toNat)
    else s
  s.complete k 0 []

/-- Words are programmed, and the command ends as they verified. -/
def State.fuseWords (s : State) (fl : Word) (k : Packet) (work : List (Nat × Word)) : State :=
  match State.progList fl work s with
  | (s, none) => s.fuseOk k
  | (s, some (w, m)) => s.fuseFailed k w m

/-- FUSE_PROG ends (R562, R466). -/
def State.fuseProgEnd (s : State) (fl : Word) (k : Packet) : State := s.fuseWords fl k (s.fuseWork k)

/-- FUSE_LOCK ends (R567).
DEDUCED, unsafe: log entry 76. -/
def State.fuseLockEnd (s : State) (fl : Word) (k : Packet) : State :=
  match s.lockPlan k with
  | (0, work) => s.fuseWords fl k work
  | (st, _) => s.complete k st []

/-- FUSE_SPARE ends (R565). -/
def State.fuseSpareEnd (s : State) (fl : Word) (k : Packet) : State := s.fuseWords fl k (s.fuseWork k)

/-! ## Strongbox (R469, R470, R577) -/

/-- The 64 bytes of a slot. -/
def Sbox.slot (b : Sbox) (i : Nat) : List Byte := b.mram.readBytes (64 * i) 64

/-- A slot's record is committed: its COMMIT is valid for its bytes 0 to 59 (R570, R571). -/
def committed (r : List Byte) : Bool := BitVec.ofNat 32 (field r 60 4) == crcWordOf (crc16 (r.take 60))

/-- SEQ of a record. -/
def recSeq (r : List Byte) : Word := BitVec.ofNat 32 (field r 0 4)

/-- Serial order: `a` precedes or equals `b` (R574). -/
def seqLe (a b : Word) : Bool := (b - a).toNat < 2 ^ 31

/-- The slots that the store lists a byte of. -/
def Sbox.listed (b : Sbox) : List Nat :=
  b.mram.foldl (fun l c => if l.contains (c.1 / 64) then l else l ++ [c.1 / 64]) []

/-- The committed records. An all-zero slot is absent, its COMMIT being no code's. -/
def Sbox.records (b : Sbox) : List (List Byte) := (b.listed.map b.slot).filter committed

/-- The record that follows in serial order: the first with SEQ at or after one. -/
def firstFrom (start : Word) (l : List (List Byte)) : Option (List Byte) :=
  l.foldl (fun best r =>
    if seqLe start (recSeq r) then
      (match best with
       | some x => if seqLe (recSeq r) (recSeq x) then some r else best
       | none => some r)
    else best) none

/-- The next SEQ: 0 is never used (R574). -/
def seqNext (q : Word) : Word := if q = 0xFFFFFFFF then 1 else q + 1

/-- Up to `n` records by sequence, and where the next part begins. -/
def bySeq (newest : Word) (l : List (List Byte)) : Nat → Word → List Byte × Option Word
  | 0, q => ([], if seqLe q newest && (firstFrom q l).isSome then some q else none)
  | n + 1, q =>
    match firstFrom q l with
    | some r =>
      if newest = 0 || !seqLe (recSeq r) newest then ([], none)
      else if recSeq r = newest then (r, none)
      else
        let (o, nx) := bySeq newest l n (seqNext (recSeq r))
        (r ++ o, nx)
    | none => ([], none)

/-- One part of an SBOX_READ from a START and a COUNT: at most 16 records, and the START and COUNT of the next part. -/
def Sbox.readPart (b : Sbox) (mode : Byte) (start count : Nat) : List Byte × Option (Nat × Nat) :=
  let n := min count 16
  if mode == 0 then
    let m := min n (8192 - start)
    let one := fun (i : Nat) => if committed (b.slot (start + i)) then b.slot (start + i) else List.replicate 64 0
    ((List.range m).flatMap one, if count ≤ n || 8192 ≤ start + n then none else some (start + n, count - n))
  else
    let (o, nx) := bySeq b.newest b.records n (BitVec.ofNat 32 start)
    (o, if count ≤ n then none else nx.map fun q => (q.toNat, count - n))

/-- The payload of a part, and what stands for the parts still to come: the START and COUNT of the next. -/
def Sbox.part (b : Sbox) (pl : List Byte) : List (List Byte) :=
  let (o, nx) := b.readPart (nth pl 0) (field pl 2 4) (field pl 6 2)
  match nx with
  | some (st, n) => [o, nth pl 0 :: 0 :: leBytes 4 st ++ leBytes 2 n]
  | none => [o]

/-- SBOX_READ: each part is read when it is produced (Table 13.20). -/
def State.cmdSboxRead (s : State) (k : Packet) : State × CmdRes :=
  let start := field k.payload 2 4
  let n := field k.payload 6 2
  if 1 < nth k.payload 0 || n == 0 || 1024 < n || (nth k.payload 0 == 0 && 8191 < start) then (s, fail 0x14)
  else (s, .parts 0 (s.sbox.part k.payload))

/-! ## Writing records (R571 to R574, R578) -/

/-- The slot after one in the journal. -/
def jNext (j : Nat) : Nat := if j < 8191 then j + 1 else 256

/-- The types marked "Pinned" in Table 17.9. -/
def pinnedType (t : Byte) : Bool := [0x02, 0x03, 0x04, 0x05, 0x08, 0x0A, 0x0C, 0x0D].contains t

/-- Bytes 0 to 59 of a record. -/
def recBytes (seq : Word) (r : Rec) : List Byte :=
  leBytes 4 seq.toNat ++ r.ty :: byteOf r.body.length 0 :: leBytes 6 r.sts.toNat ++ r.body ++
    List.replicate (48 - r.body.length) 0

/-- The slot the next record of a type is written to, and the pointers after it (R569, R573).
DEDUCED, unsafe: log entry 80. -/
def Sbox.take (b : Sbox) (pin : Bool) : Nat × Sbox :=
  if pin && b.pinned < 256 then (b.pinned, { b with pinned := b.pinned + 1 })
  else (b.jnext, { b with jnext := jNext b.jnext })

/-- The record to be written next, and the store without it: a LOST record comes first (R30).
DEDUCED, unsafe: log entry 80. -/
def Sbox.head (b : Sbox) (sts : BitVec 48) : Option (Rec × Sbox) :=
  if 0 < b.lost then some (⟨0x12, leBytes 2 (min b.lost 65535), sts⟩, { b with lost := 0 })
  else match b.queue with
    | r :: q => some (r, { b with queue := q })
    | [] => none

/-- A reset or a loss of power cuts short the record that was being written, if one was, which is not stated: its slot is absent with COMMIT 0
and some words of the record, and after an interpreter reset the next slot is taken; a loss of power may also come between the
commit and the header (R571, R578).
DESIGN CHOICE, safe: log entry 136. -/
def State.recordCut (s : State) (power : Bool) : State :=
  match s.sys.interp && s.sys.sboxReady, s.sbox.head (s.sys.sts.truncate 48) with
  | true, some (r, _) =>
    let n := s.freeNat
    let (i, b) := s.sbox.take (pinnedType r.ty)
    let bytes := recBytes b.nextSeq r
    let put := fun (l c : List Byte) => (s.sbox.mram.writeBytes (64 * i + 60) c).writeBytes (64 * i) l
    let s := s.drawn
    if n % 3 = 0 then s
    else if n % 3 = 1 then
      let cut := put (bytes.take (4 * (n / 3 % 16))) (leBytes 4 0)
      if power then { s with sbox.mram := cut } else { s with sbox := { b with mram := cut } }
    else if power then { s with sbox.mram := put bytes (leBytes 4 (crcWordOf (crc16 bytes)).toNat) }
    else s
  | _, _ => s

/-- SEQ `n` places on. -/
def seqAfter : Nat → Word → Word
  | 0, q => q
  | n + 1, q => seqAfter n (seqNext q)

/-- SBOX_MARK: the number counts the records ahead, and a LOST record to be written first (R470). -/
def State.cmdSboxMark (s : State) (k : Packet) : State × CmdRes :=
  let n := s.sbox.queue.length
  if 32 ≤ n then (s, fail 0x20)
  else
    (s.postRec 0x13 k.payload,
      .final 0 (leBytes 4 (seqAfter (n + if 0 < s.sbox.lost then 1 else 0) s.sbox.nextSeq).toNat))

end Sys2Proof.Machine
end

