-- ==== Sys2Proof/Machine/Sha.lean ====
section
/-!
DEFINITION. SHA-256 and HMAC-SHA-256, as the manual's key check values, nonce responses and measurements use them
(R471, R473, R539).
-/
namespace Sys2Proof.Machine

/-- The 64 round constants. -/
def shaK : List Word :=
  [0x428A2F98, 0x71374491, 0xB5C0FBCF, 0xE9B5DBA5, 0x3956C25B, 0x59F111F1, 0x923F82A4, 0xAB1C5ED5] ++
  [0xD807AA98, 0x12835B01, 0x243185BE, 0x550C7DC3, 0x72BE5D74, 0x80DEB1FE, 0x9BDC06A7, 0xC19BF174] ++
  [0xE49B69C1, 0xEFBE4786, 0x0FC19DC6, 0x240CA1CC, 0x2DE92C6F, 0x4A7484AA, 0x5CB0A9DC, 0x76F988DA] ++
  [0x983E5152, 0xA831C66D, 0xB00327C8, 0xBF597FC7, 0xC6E00BF3, 0xD5A79147, 0x06CA6351, 0x14292967] ++
  [0x27B70A85, 0x2E1B2138, 0x4D2C6DFC, 0x53380D13, 0x650A7354, 0x766A0ABB, 0x81C2C92E, 0x92722C85] ++
  [0xA2BFE8A1, 0xA81A664B, 0xC24B8B70, 0xC76C51A3, 0xD192E819, 0xD6990624, 0xF40E3585, 0x106AA070] ++
  [0x19A4C116, 0x1E376C08, 0x2748774C, 0x34B0BCB5, 0x391C0CB3, 0x4ED8AA4A, 0x5B9CCA4F, 0x682E6FF3] ++
  [0x748F82EE, 0x78A5636F, 0x84C87814, 0x8CC70208, 0x90BEFFFA, 0xA4506CEB, 0xBEF9A3F7, 0xC67178F2]

/-- The initial hash value. -/
def shaInit : List Word :=
  [0x6A09E667, 0xBB67AE85, 0x3C6EF372, 0xA54FF53A, 0x510E527F, 0x9B05688C, 0x1F83D9AB, 0x5BE0CD19]

def wordAt (l : List Word) (i : Nat) : Word := l.getD i 0

/-- A big-endian word. -/
def beWord (b : List Byte) : Word := BitVec.ofNat 32 (leVal (b.take 4).reverse)

/-- The big-endian bytes of a number. -/
def beBytes (n v : Nat) : List Byte := (leBytes n v).reverse

/-- The message schedule, newest word first: each round adds one from the 16 before it. -/
def shaExtend : Nat → List Word → List Word
  | 0, w => w
  | n + 1, w =>
    let a := wordAt w 14
    let b := wordAt w 1
    let s0 := a.rotateRight 7 ^^^ a.rotateRight 18 ^^^ (a >>> 3)
    let s1 := b.rotateRight 17 ^^^ b.rotateRight 19 ^^^ (b >>> 10)
    shaExtend n ((wordAt w 15 + s0 + wordAt w 6 + s1) :: w)

/-- One round. -/
def shaRound (h : List Word) (kw : Word × Word) : List Word :=
  match h with
  | [a, b, c, d, e, f, g, i] =>
    let t1 := i + (e.rotateRight 6 ^^^ e.rotateRight 11 ^^^ e.rotateRight 25) + ((e &&& f) ^^^ (~~~e &&& g)) + kw.1 + kw.2
    let t2 := (a.rotateRight 2 ^^^ a.rotateRight 13 ^^^ a.rotateRight 22) + ((a &&& b) ^^^ (a &&& c) ^^^ (b &&& c))
    [t1 + t2, a, b, c, d + t1, e, f, g]
  | _ => h

/-- One 64-byte block. -/
def shaBlock (h : List Word) (b : List Byte) : List Word :=
  let w := (List.range 16).map fun i => beWord (b.drop (4 * i))
  let ws := (shaExtend 48 w.reverse).reverse
  (h.zip ((shaK.zip ws).foldl shaRound h)).map fun x => x.1 + x.2

/-- The padded message. -/
def shaPad (m : List Byte) : List Byte :=
  m ++ [0x80] ++ List.replicate ((55 + 64 - m.length % 64) % 64) 0 ++ beBytes 8 (8 * m.length)

/-- SHA-256 of some bytes, as 32 bytes. -/
def sha256 (m : List Byte) : List Byte :=
  let p := shaPad m
  ((List.range (p.length / 64)).foldl (fun h i => shaBlock h ((p.drop (64 * i)).take 64)) shaInit).flatMap fun w =>
    beBytes 4 w.toNat

/-- HMAC-SHA-256 of a message under a key of at most 64 bytes. -/
def hmac256 (key m : List Byte) : List Byte :=
  let k := key ++ List.replicate (64 - key.length) 0
  sha256 ((k.map fun b => b ^^^ 0x5C) ++ sha256 ((k.map fun b => b ^^^ 0x36) ++ m))

end Sys2Proof.Machine
end

