-- ==== Sys2Proof/Machine/Crypto.lean ====
section
/-!
DEFINITION. AES-256 key wrap and ECDSA over P-256, which the attestation identity uses (R211, R535 to R537). The manual names the
algorithms; their definitions are those of FIPS 197, RFC 3394 and FIPS 186.
PRESUMED, unsafe: log entry 133.
-/
namespace Sys2Proof.Machine

/-! ## AES-256 (FIPS 197) -/

/-- Multiplication by x in the field of AES, and the product of two bytes there. -/
def aesDouble (b : Byte) : Byte := (b <<< 1) ^^^ (if b.msb then 0x1B else 0)
def aesMul (a b : Byte) : Byte :=
  ((List.range 8).foldl (fun (acc : Byte × Byte) i => (if b.getLsbD i then acc.1 ^^^ acc.2 else acc.1, aesDouble acc.2)) (0, a)).1

/-- The inverse in that field, 0 of 0: the 254th power. -/
def aesInv (a : Byte) : Byte :=
  ((List.range 7).foldl (fun (acc : Byte × Byte) _ =>
    let sq := aesMul acc.2 acc.2
    (aesMul acc.1 sq, sq)) (1, a)).1

/-- The substitution of a byte, and its inverse. -/
def aesSub (a : Byte) : Byte :=
  let x := aesInv a
  x ^^^ x.rotateLeft 1 ^^^ x.rotateLeft 2 ^^^ x.rotateLeft 3 ^^^ x.rotateLeft 4 ^^^ 0x63
def aesUnsub (a : Byte) : Byte := aesInv (a.rotateLeft 1 ^^^ a.rotateLeft 3 ^^^ a.rotateLeft 6 ^^^ 0x05)

/-- Two byte strings, bit by bit. -/
def xorBytes (a b : List Byte) : List Byte := a.zipWith (· ^^^ ·) b

/-- The key schedule of a 32-byte key, newest word first: `i` words stand already. -/
def aesKeys : Nat → Nat → List (List Byte) → List (List Byte)
  | 0, _, w => w
  | n + 1, i, w =>
    let t := w.headD []
    let t := if i % 8 == 0 then
        xorBytes ((t.drop 1 ++ t.take 1).map aesSub) [BitVec.twoPow 8 (i / 8 - 1), 0, 0, 0]
      else if i % 8 == 4 then t.map aesSub else t
    aesKeys n (i + 1) (xorBytes (w.getD 7 []) t :: w)

/-- The 15 round keys, one after the other. -/
def aesSchedule (key : List Byte) : List Byte :=
  (aesKeys 52 8 ((List.range 8).map fun i => (key.drop (4 * i)).take 4).reverse).reverse.flatten

/-- The rows of the state shifted, forwards or back. -/
def aesShift (back : Bool) (st : List Byte) : List Byte :=
  (List.range 16).map fun i => nth st (i % 4 + 4 * ((i / 4 + (if back then 4 - i % 4 else i % 4)) % 4))

/-- The columns of the state mixed with some coefficients. -/
def aesMix (co : List Byte) (st : List Byte) : List Byte :=
  (List.range 16).map fun i =>
    (List.range 4).foldl (fun (acc : Byte) j => acc ^^^ aesMul (nth st (4 * (i / 4) + (i + j) % 4)) (nth co j)) 0

/-- The key of a round added to the state. -/
def aesAdd (ks : List Byte) (r : Nat) (st : List Byte) : List Byte := xorBytes st (ks.drop (16 * r))

/-- One block enciphered, and deciphered. -/
def aesEnc (ks : List Byte) (b : List Byte) : List Byte :=
  (List.range 14).foldl (fun st i =>
    let t := aesShift false (st.map aesSub)
    aesAdd ks (i + 1) (if i == 13 then t else aesMix [2, 3, 1, 1] t)) (aesAdd ks 0 b)
def aesDec (ks : List Byte) (b : List Byte) : List Byte :=
  (List.range 14).foldl (fun st i =>
    let t := aesAdd ks (13 - i) ((aesShift true st).map aesUnsub)
    if i == 13 then t else aesMix [14, 11, 13, 9] t) (aesAdd ks 14 b)

/-! ## Key wrap (RFC 3394) -/

/-- The initial value. -/
def wrapIv : List Byte := List.replicate 8 0xA6

/-- Block `i` of a register string replaced. -/
def setBlock (r : List Byte) (i : Nat) (b : List Byte) : List Byte := r.take (8 * i) ++ b ++ r.drop (8 * i + 8)

/-- A key of 32 bytes wrapped to 40. -/
def wrapKey (kek key : List Byte) : List Byte :=
  let ks := aesSchedule kek
  let (a, r) := (List.range 24).foldl (fun (acc : List Byte × List Byte) t =>
    let i := t % 4
    let b := aesEnc ks (acc.1 ++ (acc.2.drop (8 * i)).take 8)
    (xorBytes (b.take 8) (beBytes 8 (t + 1)), setBlock acc.2 i (b.drop 8))) (wrapIv, key)
  a ++ r

/-- The part's own wrapping key, of 256 bits. -/
def kek : List Byte := (List.range 32).map (nth Config.dieKey)

/-- The key of a wrapped one, where its integrity check passes. -/
def unwrapKey (kek w : List Byte) : Option (List Byte) :=
  let ks := aesSchedule kek
  let (a, r) := (List.range 24).foldl (fun (acc : List Byte × List Byte) u =>
    let t := 23 - u
    let i := t % 4
    let b := aesDec ks (xorBytes acc.1 (beBytes 8 (t + 1)) ++ (acc.2.drop (8 * i)).take 8)
    (b.take 8, setBlock acc.2 i (b.drop 8))) (w.take 8, w.drop 8)
  if a == wrapIv then some r else none

/-! ## P-256 (FIPS 186) -/

/-- The field's prime, the group's order, and the base point. -/
def p256P : Nat := 0xffffffff00000001000000000000000000000000ffffffffffffffffffffffff
def p256N : Nat := 0xffffffff00000000ffffffffffffffffbce6faada7179e84f3b9cac2fc632551
def p256G : Nat × Nat :=
  (0x6b17d1f2e12c4247f8bce6e563a440f277037d812deb33a0f4a13945d898c296,
   0x4fe342e2fe1a7f9b8ee7eb4a7c0f9e162bce33576b315ececbb6406837bf51f5)

/-- A power of at most 256 bits modulo a number, and the inverse modulo a prime. -/
def powMod (b e m : Nat) : Nat :=
  ((List.range 256).foldl (fun (acc : Nat × Nat) i =>
    (if e.testBit i then acc.1 * acc.2 % m else acc.1, acc.2 * acc.2 % m)) (1 % m, b % m)).1
def invMod (b m : Nat) : Nat := powMod b (m - 2) m

/-- The point that a line of some slope through a point leads to. -/
def p256Line (l : Nat) (a b : Nat × Nat) : Nat × Nat :=
  let x := (l * l + 2 * p256P - a.1 - b.1) % p256P
  (x, (l * (a.1 + p256P - x) + p256P - a.2) % p256P)

/-- The sum of two points, `none` being the point at infinity. -/
def p256Add (a b : Option (Nat × Nat)) : Option (Nat × Nat) :=
  match a, b with
  | none, q => q
  | q, none => q
  | some a, some b =>
    if a.1 != b.1 then some (p256Line ((b.2 + p256P - a.2) * invMod (b.1 + p256P - a.1) p256P % p256P) a b)
    else if a.2 == b.2 && a.2 != 0 then
      some (p256Line ((3 * a.1 * a.1 + p256P - 3) * invMod (2 * a.2) p256P % p256P) a b)
    else none

/-- A multiple of the base point. -/
def p256Mul (k : Nat) : Option (Nat × Nat) :=
  ((List.range 256).foldl (fun (acc : Option (Nat × Nat) × Option (Nat × Nat)) i =>
    (if k.testBit i then p256Add acc.1 acc.2 else acc.1, p256Add acc.2 acc.2)) (none, some p256G)).1

/-- A big-endian number. -/
def beNat (b : List Byte) : Nat := leVal b.reverse

/-- A scalar from random bytes: one of 1 to the order less 1. -/
def p256Scalar (b : List Byte) : Nat := beNat b % (p256N - 1) + 1

/-- The public key of a private key: the 64 bytes of its point, each coordinate most significant first. -/
def publicKey (key : List Byte) : List Byte :=
  match p256Mul (beNat key) with
  | some q => beBytes 32 q.1 ++ beBytes 32 q.2
  | none => List.replicate 64 0

/-- An ECDSA signature of a message with SHA-256 under a private key and a random scalar: r and s, most significant first. -/
def ecdsaSign (key : List Byte) (k : Nat) (msg : List Byte) : List Byte :=
  let r := ((p256Mul k).map (·.1)).getD 0 % p256N
  let s := invMod k p256N * (beNat (sha256 msg) + r * beNat key) % p256N
  beBytes 32 r ++ beBytes 32 s

end Sys2Proof.Machine
end

