-- ==== Sys2Proof/Machine/PdInfo.lean ====
section
/-!
DEFINITION. The informational messages of Table 5.2 with the contents of Table 5.3, EPR mode, BIST and chunked messages
(chapter 5). Bit places of data blocks are those of USB PD Revision 3.2.
PRESUMED, unsafe: log entry 34.
-/
namespace Sys2Proof.Machine

/-! ## Capabilities asked for -/

/-- The informative capabilities of a DRP acting as sink: bounded by class and cable only, with the omissions of R162
(R157). -/
def State.informative (s : State) (p : PortId) : List Offer :=
  let i := min (classCeil (isE p)) (s.cableCur p)
  let bound := fun (e : Entry) => (e, if e.kind == 2 then min e.limit i / 5 * 5 else min e.limit i)
  numberFrom 1 (match (s.port p).src with
    | [] => []
    | x :: r => bound x ::
        ((r.filter fun e => !e.isEpr && e.vhi ≤ s.cableMaxV p e.kind).map bound).filter fun y => 50 ≤ y.2)

/-- GET_SOURCE_CAP (Table 5.2, R157). -/
def execGetSourceCap (p : PortId) (h : RxHdr) (s : State) : Out :=
  .next (s.onMsg p h fun s =>
    let x := s.port p
    if x.pdSrc then s.serve p fun s => s.sendCaps p
    else if cfgRole x.cfg == 2 then s.serve p fun s =>
      let s := (s.takeTables p).modPd p fun d => { d with ams := .partner }
      s.sendObjs p false false (s.informative p)
    else s.unsupported p)

/-- The port acts as sink or may. -/
def Port.sinkOrDrp (x : Port) : Bool := x.pdSnk || cfgRole x.cfg == 2

/-- The port acts as source or may. -/
def Port.sourceOrDrp (x : Port) : Bool := x.pdSrc || cfgRole x.cfg == 2

/-- GET_SINK_CAP (R159). -/
def execGetSinkCap (p : PortId) (h : RxHdr) (s : State) : Out :=
  .next (s.onMsg p h fun s =>
    if (s.port p).sinkOrDrp then s.serve p fun s =>
      let s := s.takeTables p
      s.reply p .sinkCaps (s.sinkCapWords p false) []
    else s.unsupported p)

/-- SINK_CAPABILITIES (R160): the answer to Get_Sink_Cap. The device never asks for EPR_Sink_Capabilities (Table 5.2). -/
def execSinkCapabilities (p : PortId) (h : RxHdr) (epr : Bool) (v : List Word) (s : State) : Out :=
  .next (s.onMsg p h fun s =>
    s.onlyEpr p epr fun s =>
      if (s.port p).pd.ams == .getSinkCap && !epr then (s.modPd p fun d => { d with sinkCaps := v }).amsEnd p |>.frCheck p
      else s.protocolError p)

/-! ## Unsupported and unexpected messages -/

/-- A structured VDM received on SOP: the partner's version is taken from the first (R199); on a cable's SOP types it is not
answered.
DEDUCED, unsafe: log entry 40. -/
def State.onVdm (s : State) (p : PortId) (h : RxHdr) (v : List Word) (f : State → Word → State) : State :=
  s.onMsg p h fun s =>
    match v with
    | [] => s
    | w :: _ =>
      if h.sop != .sop then s
      else f (s.modLm p fun l => { l with vdmVer := some (l.vdmVer.getD (vdmVerOf w)) }) w

/-- A structured VDM that is answered: it opens an AMS of the partner's (R154). -/
def State.serveVdm (s : State) (p : PortId) (h : RxHdr) (v : List Word) (f : State → Word → State) : State :=
  s.onVdm p h v fun s w => s.serve p fun s => f s w

/-- A structured VDM that Table 6.9 does not name: Attention is ignored, any other answered NAK. -/
def State.otherVdm (s : State) (p : PortId) (w : Word) : State :=
  if vdmCmd w == 6 then s else s.serve p fun s => s.answerVdm p w 2 []

/-- UNSUPPORTED_MESSAGE: the messages of Table 5.2 that have no row of their own (R140, R143, R151). GotoMin is unexpected, Ping
is ignored, an unstructured Vendor_Defined message is unsupported and from a Revision 2.0 partner ignored; EPR_KeepAlive_Ack answers
the sink's EPR_KeepAlive; Security_Response, which the device never asks for, is unexpected with AUTHEN; the others are unsupported.
DEDUCED, unsafe: log entry 43. -/
def execUnsupportedMessage (p : PortId) (h : RxHdr) (k : StrayKind) (s : State) : Out :=
  .next (match k with
    | .notReceived => s
    | .ping => s.onAny p h id
    | .gotoMin => s.onMsg p h fun s => s.protocolError p
    | .unstructuredVdm => s.onMsg p h fun s => if (s.port p).pd.rev3 then s.unsupported p else s
    | .otherVdm w => s.onVdm p h [w] fun s w => s.otherVdm p w
    | .eprKeepAliveAck => s.onMsg p h fun s => s.only3 p fun s =>
        if !isE p then s.unsupported p
        else if (s.port p).pdSnk && (s.port p).pd.ams == .eprKeepAlive && !(s.port p).pd.sinkTxWait then s.amsEnd p
        else s.protocolError p
    | .securityResponse => s.onMsg p h fun s => s.only3 p fun s =>
        if s.authen then s.protocolError p else s.unsupported p
    | .unrecognised | .dataReset | .dataResetComplete | .getCountryCodes | .getCountryInfo | .enterUsb | .getBatteryCap
    | .getBatteryStatus | .firmwareUpdateRequest | .firmwareUpdateResponse | .countryInfo | .countryCodes
    | .vendorDefinedExtended | .badExtended => s.onMsg p h fun s => s.unsupported p)

/-! ## Revision -/

/-- GET_REVISION (R149): Revision 3.2, Version 1.0. -/
def execGetRevision (p : PortId) (h : RxHdr) (s : State) : Out :=
  .next (s.onMsg p h fun s => s.only3 p fun s => s.serve p fun s => s.reply p .revision [0x32100000] [])

/-- REVISION (R149): stored; a partner at 3.1 or later is known as such. -/
def execRevision (p : PortId) (h : RxHdr) (rmdo : Word) (s : State) : Out :=
  .next (s.onMsg p h fun s => s.only3 p fun s =>
    let n := rmdo.toNat
    let new := 3 < bitsOf n 31 28 || (bitsOf n 31 28 == 3 && 1 ≤ bitsOf n 27 24)
    let s := (s.modPd p fun d => { d with revision := rmdo, rev := if new then 3 else 2 }).eprEntryCheck p
    if (s.port p).pd.ams == .getRevision then s.amsEnd p else s)

/-! ## Status -/

/-- The grant omits or lowers a table entry (Table 5.3). -/
def State.grantLimits (s : State) (p : PortId) : Bool :=
  (s.port p).src.any fun e => s.boundOf p e (s.grantOf p) < s.boundOf p e 65535

/-- Temperature Status: 1 normal, 2 warning, 3 over-temperature (Table 5.3). -/
def tempStatus (t : BitVec 2) : Nat := if t = 0 then 1 else if t = 3 then 3 else 2

/-- The seven bytes of Status.
DESIGN CHOICE, safe: log entry 38. -/
def State.statusBytes (s : State) (p : PortId) : List Byte :=
  let x := s.port p
  let f := x.pd.stFlags
  [byteOf (BitVec.ofInt 8 x.sw.temp).toNat 0, byteOf (flag s.unconstrained 1) 0, 0,
    byteOf (flag (f.getLsbD 0) 1 + flag (f.getLsbD 2) 2 + flag (f.getLsbD 1) 3) 0,
    byteOf (tempStatus x.sw.therm * 2) 0, byteOf (flag (x.pdSrc && s.grantLimits p) 2) 0, 0]

/-- GET_STATUS (R152): the event flags start anew.
DESIGN CHOICE, safe: log entry 38. -/
def execGetStatus (p : PortId) (h : RxHdr) (s : State) : Out :=
  .next (s.onMsg p h fun s => s.only3 p fun s => s.serve p fun s =>
    (s.reply p .status [] (s.statusBytes p)).modPd p fun d => { d with stFlags := 0 })

/-- GET_PPS_STATUS (R152): the output current is a measured value. -/
def execGetPpsStatus (p : PortId) (h : RxHdr) (s : State) : Out :=
  .next (s.onMsg p h fun s => s.only3 p fun s =>
    let x := s.port p
    if x.pdSrc && x.pd.hasContract && x.pd.terms.ctype == 1 then s.serve p fun s =>
      (s.reply p .ppsStatus [] (leBytes 2 (x.tc.vbusMv / 20) ++
        [byteOf s.freeNat 0, byteOf (tempStatus x.sw.therm * 2 + flag x.ppsLimit 3) 0])).drawn
    else s.unsupported p)

/-! ## Power ratings -/

/-- A table entry's power capped by class, in coins. -/
def classPower (e : Bool) (x : Entry) : Nat :=
  if x.kind == 3 then min x.limit (x.vhi * classCeil e / 1000) else x.vhi * min x.limit (classCeil e) / 1000

/-- The greatest power of a port's source table, SPR or EPR part or both, in whole watts. -/
def Port.pdpMax (x : Port) (e : Bool) (f : Entry → Bool) : Nat := maxOf ((x.src.filter f).map (classPower e)) / 10

/-- GET_SOURCE_INFO (R152). -/
def execGetSourceInfo (p : PortId) (h : RxHdr) (s : State) : Out :=
  .next (s.onMsg p h fun s => s.only3 p fun s =>
    let x := s.port p
    if x.pdSrc then s.serve p fun s =>
      let m := x.pdpMax (isE p) fun _ => true
      s.reply p .sourceInfo [BitVec.ofNat 32 (m * 2 ^ 16 + min (s.grantOf p / 10) m * 2 ^ 8 + x.pd.reported / 10 % 256)] []
    else s.unsupported p)

/-- VID and PID (Table 5.3). -/
def State.vidPid (s : State) : List Byte := leBytes 2 0x3A8C ++ leBytes 2 s.pid

/-- GET_SOURCE_CAP_EXTENDED (R152): the fields Table 5.3 does not name are free values.
DESIGN CHOICE, safe: log entry 38. -/
def execGetSourceCapExtended (p : PortId) (h : RxHdr) (s : State) : Out :=
  .next (s.onMsg p h fun s => s.only3 p fun s =>
    let x := s.port p
    if x.sourceOrDrp then s.serve p fun s =>
      (s.reply p .sourceCapsExt [] (s.vidPid ++ [0, 0, 0, 0] ++ s.freeBytes 13 ++
        [byteOf (1 + flag s.unconstrained 1) 0, 0, byteOf (x.pdpMax (isE p) fun e => !e.isEpr) 0,
          byteOf (x.pdpMax (isE p) Entry.isEpr) 0])).drawn
    else s.unsupported p)

/-- A preference entry's power capped by class, in whole watts rounded down (Table 5.3). -/
def snkWatts (e : Bool) (x : Entry) : Nat := x.vhi * min x.limit (classCeil e) / 10000

/-- GET_SINK_CAP_EXTENDED (R152): the fields Table 5.3 does not name are free values.
DESIGN CHOICE, safe: log entry 38. -/
def execGetSinkCapExtended (p : PortId) (h : RxHdr) (s : State) : Out :=
  .next (s.onMsg p h fun s => s.only3 p fun s =>
    let x := s.port p
    if x.sinkOrDrp then s.serve p fun s =>
      let w := x.snk.map (snkWatts (isE p))
      let f := s.freeBytes 21
      (s.reply p .sinkCapsExt [] (f.take 18 ++ [byteOf (w.foldl min (w.headD 0)) 0, byteOf (w.headD 0) 0,
        byteOf (maxOf w) 0] ++ f.drop 18)).drawn
    else s.unsupported p)

/-- The part number that agrees with VARIANT, in ASCII (R610). -/
def State.partNumber (s : State) : String :=
  let v := bitsOf (s.fuseWord 1).toNat 15 8
  if v == 0x08 then "HNC-0848" else if v == 0x16 then "HNC-1648" else "HNC-3248"

/-- The bytes of an ASCII string. -/
def asciiBytes (t : String) : List Byte := t.toList.map fun c => byteOf c.toNat 0

/-- GET_MANUFACTURER_INFO (R152). -/
def execGetManufacturerInfo (p : PortId) (h : RxHdr) (s : State) : Out :=
  .next (s.onMsg p h fun s => s.only3 p fun s => s.serve p fun s =>
    s.reply p .manufacturerInfo [] (s.vidPid ++ asciiBytes ("AXIRUO " ++ s.partNumber)))

/-! ## Answers received -/

/-- EXTENDED_ANSWER (R152, Table 5.4): stored as the answer asked for; Source_Capabilities_Extended names the batteries to ask
after. -/
def execExtendedAnswer (p : PortId) (h : RxHdr) (k : ExtKind) (d : List Byte) (s : State) : Out :=
  .next (s.onMsg p h fun s => s.only3 p fun s =>
    let a := (s.port p).pd.ams
    match k with
    | .sourceInfo => s.modPd p fun x => { x with srcInfo := d }
    | .status =>
      if a == .getStatus then (s.modPd p fun x => { x with statusRx := d, chunk := none }).amsEnd p else s.protocolError p
    | .sourceCapExt =>
      if a == .getSourceCapExt then
        let n := min 4 ((nth d 22).toNat % 16 + (nth d 22).toNat / 16)
        let s := s.modPd p fun x => { x with srcExt := d, batteries := n }
        (if n == 0 then s else s.trigger p .getBatteryCap).amsEnd p
      else s.protocolError p
    | .ppsStatus | .sinkCapExt | .manufacturerInfo => s.protocolError p)

/-- A battery message is stored as it is received, with BATTRX, by a sink from a Revision 3.x partner (Tables 5.2, 5.12). -/
def State.noteBattery (s : State) (p : PortId) (cap : Bool) (d : List Byte) : State :=
  if (s.port p).pdSnk && (s.port p).pd.rev3 then
    (s.modPd p fun y => if cap then { y with battCap := d } else { y with battStat := BitVec.ofNat 32 (field d 0 4) }).pdEvt p 7
  else s

/-- BATTERY_STATUS (Tables 5.2, 5.12): stored on receipt, expected or not; it ends the AMS that asked for it. -/
def execBatteryStatus (p : PortId) (h : RxHdr) (cap : Bool) (d : List Byte) (s : State) : Out :=
  .next (s.onNoted p h (fun s => s.noteBattery p cap d) fun s =>
    let x := s.port p
    if !x.pdSnk then s.protocolError p
    else if cap && x.pd.ams == .getBatteryCap then
      let s := s.modPd p fun y => { y with batteries := y.batteries - 1 }
      (if x.pd.batteries ≤ 1 then s else s.trigger p .getBatteryCap).amsEnd p
    else if !cap && x.pd.ams == .getBatteryStatus then s.amsEnd p
    else s)

/-- ALERT (Tables 5.2, 5.4): ALERTRX and Get_Status; with Battery Status Change, Get_Battery_Status as sink. -/
def execAlert (p : PortId) (h : RxHdr) (ado : Word) (s : State) : Out :=
  .next (s.onNoted p h (fun s => s.noteEvt p 3) fun s => s.serve p fun s =>
    let s := s.trigger p .getStatus
    if ado.getLsbD 25 && (s.port p).pdSnk then s.trigger p .getBatteryStatus else s)

/-! ## BIST -/

/-- BIST (Table 5.2): Carrier Mode and Test Data in a vSafe5V contract; anything else is ignored.
PRESUMED, unsafe: log entry 132. -/
def execBist (p : PortId) (h : RxHdr) (bdo : Word) (s : State) : Out :=
  .next (s.onMsg p h fun s =>
    let d := (s.port p).pd
    let k := bitsOf bdo.toNat 31 28
    if d.contract == .explicit && d.terms.v == 500 then
      if k == 5 then s.modPd p fun d => { d with bist := 1 }
      else if k == 8 then s.modPd p fun d => { d with bist := 2 }
      else s
    else s)

/-- BIST_CONT_MODE_EXPIRY (Table 5.10): Carrier Mode ends. -/
def execBistContModeExpiry (p : PortId) (s : State) : Out :=
  .next (s.modPd p fun d => if d.bist = 1 then { d with bist := 0 } else d)

/-! ## EPR mode -/

/-- EPR_MODE (R166, R167, R169): an Exit above 20 V is answered Hard Reset by a source, whatever AMS runs. -/
def execEprMode (p : PortId) (h : RxHdr) (act data : Byte) (s : State) : Out :=
  .next (s.onMsg p h fun s => s.only3 p fun s =>
    let x := s.port p
    if !isE p then s.unsupported p
    else if act = 1 then
      if x.pdSrc && x.pd.contract == .explicit && !x.pd.epr then s.serve p fun s =>
        let s := (s.modPd p fun d => { d with eprPdp := data.toNat * 10 }).reply p .eprMode [eprModeWord 2 0] []
        s.eprChecks p false
      else s.protocolError p
    else if act = 2 then (if x.pdSnk && x.pd.ams == .eprEntry then s else s.protocolError p)
    else if act = 3 then
      if x.pdSnk && x.pd.ams == .eprEntry then ((s.modPd p fun d => { d with epr := true }).pdEvt p 5).amsEnd p
      else s.protocolError p
    else if act = 4 then (if x.pdSnk && x.pd.ams == .eprEntry then s.amsEnd p else s.protocolError p)
    else if act = 5 then
      if x.pdSrc && x.pd.epr && x.pd.contract == .explicit && 2000 < x.pd.terms.v then s.hardReset p
      else s.serve p fun s =>
      if !x.pd.epr || x.pd.contract != .explicit then s.protocolError p
      else if x.pdSrc then (s.eprExit p).sendCaps p
      else if x.pd.terms.v ≤ 2000 then s.eprExit p else s.protocolError p
    else s.protocolError p)

/-- Sends the EPR capabilities asked for outside EPR mode: they are not offered for a request, and none go below 45 coins (R162). -/
def State.sendEprInfo (s : State) (p : PortId) : State :=
  let s := (s.takeTables p).modPd p fun d => { d with ams := .partner }
  if s.grantOf p < 45 then s.amsEnd p else s.sendObjs p true s.unconstrained ((s.modPd p fun d => { d with epr := true }).buildOffers p (s.grantOf p))

/-- EPR_GET_SOURCE_CAP and EPR_Get_Sink_Cap (Table 5.2). -/
def execEprGetSourceCap (p : PortId) (h : RxHdr) (sink : Bool) (s : State) : Out :=
  .next (s.onMsg p h fun s => s.onlyEpr p true fun s =>
    let x := s.port p
    if sink then
      if x.pdSnk then s.serve p fun s =>
        let s := s.takeTables p
        s.replyExt p .eprSinkCaps (wordBytes (s.sinkCapWords p true))
      else s.unsupported p
    else if x.pdSrc then s.serve p fun s => if x.pd.epr then s.sendCaps p else s.sendEprInfo p
    else s.unsupported p)

/-- EPR_KEEPALIVE (R168): answered as EPR source, and otherwise unexpected.
DEDUCED, unsafe: log entry 44. -/
def execEprKeepalive (p : PortId) (h : RxHdr) (s : State) : Out :=
  .next (s.onMsg p h fun s => s.only3 p fun s =>
    let x := s.port p
    if !isE p then s.unsupported p
    else if x.pdSrc && x.pd.epr then s.serve p fun s => s.reply p .eprKeepAliveAck [] []
    else s.protocolError p)

/-- SINK_EPR_KEEPALIVE (R168). -/
def execSinkEprKeepalive (p : PortId) (s : State) : Out :=
  .next (s.when (s.pdLive p && (s.port p).pdSnk && (s.port p).pd.epr) fun s => s.trigger p .eprKeepAlive)

/-- SOURCE_EPR_KEEPALIVE_TIMEOUT (R168). -/
def execSourceEprKeepaliveTimeout (p : PortId) (s : State) : Out :=
  .next (s.when (s.pdLive p && (s.port p).pdSrc && (s.port p).pd.epr) fun s => s.hardReset p)

/-- ENTER_EPR_TIMEOUT (R167): the sink stays in SPR until its next attach. -/
def execEnterEprTimeout (p : PortId) (s : State) : Out :=
  .next (s.when (s.pdLive p && (s.port p).pdSnk && (s.port p).pd.ams == .eprEntry) fun s => s.amsEnd p)

/-! ## Chunks (R143) -/

/-- An authentication message's head: protocol version 1.0, a type and two parameters.
PRESUMED, unsafe: log entry 35. -/
def authMsg (ty p1 p2 : Byte) (body : List Byte) : List Byte := 0x10 :: ty :: p1 :: p2 :: body

/-- ERROR: 1 Invalid Request, 2 Unsupported Protocol, 3 Busy, 4 Unspecified. -/
def authError (e : Byte) : List Byte := authMsg 0x7F e 0 []

/-- An authentication request is being answered: its answer is being built, or its chunks are being sent (R210). -/
def PdPort.answering (d : PdPort) : Bool :=
  d.auth.isSome || (d.chunkTy == .securityResponse && match d.chunk with
    | some (_, _, true) => true
    | _ => false)

/-- The first chunk of an extended message: one that answers the device's own AMS, or one that opens an AMS of the partner's. -/
def State.serveChunk (s : State) (p : PortId) (f : State → State) : State :=
  if (s.port p).awaits .sop then f s else s.serve p f

/-- CHUNK_REQUEST: with `req` the partner asks for chunk `num` of what the device sends; otherwise chunk `num` of a message
with more to come has arrived, and the device asks for the next. Over 260 bytes is unsupported. The first chunk of a request that comes
while an authentication request is being answered is answered ERROR, Busy (R210). -/
def execChunkRequest (p : PortId) (h : RxHdr) (req : Bool) (num : Nat) (d : List Byte) (s : State) : Out :=
  .next (s.onMsg p h fun s => s.only3 p fun s =>
    let x := (s.port p).pd
    match x.chunk with
    | some (b, k, true) =>
      if !req && num == 0 && x.answering then (s.count 37 0x03 1).reply p .securityResponse [] (authError 3)
      else if req && num == k then
        let last := b.length ≤ 26 * (k + 1)
        (s.modPd p fun x => { x with chunk := if last then none else some (b, k + 1, true) }).send p x.chunkTy []
          ((b.drop (26 * k)).take 26)
      else s.protocolError p
    | some (b, k, false) =>
      if !req && num == k then
        if 260 < (b ++ d).length then (s.modPd p fun x => { x with chunk := none }).unsupported p
        else (s.modPd p fun x => { x with chunk := some (b ++ d, k + 1, false) }).reply p .chunkRequest []
          [byteOf (k + 1) 0]
      else s.protocolError p
    | none =>
      if !req && num == 0 && x.answering then (s.count 37 0x03 1).reply p .securityResponse [] (authError 3)
      else if !req && num == 0 then s.serveChunk p fun s =>
        (s.modPd p fun x => { x with chunk := some (d, 1, false) }).reply p .chunkRequest [] [1]
      else s.protocolError p)

/-- CHUNK_TIMEOUT (Table 5.10): the exchange is dropped. -/
def execChunkTimeout (p : PortId) (s : State) : Out :=
  .next (s.when (s.pdLive p && (s.port p).pd.chunk.isSome) fun s =>
    (s.modPd p fun x => { x with chunk := none, auth := none }).amsEnd p)

end Sys2Proof.Machine
end

