-- ==== Sys2Proof/Machine/VaultOps.lean ====
section
/-!
DEFINITION. The alarm's actions, the Vault's zeroization and identity checks, and Lantern's banner (chapter 16, R601, R603).
-/
namespace Sys2Proof.Machine

/-! ## Lantern's banner (R601) -/

def hexDigit (n : Nat) : Char := if n < 10 then Char.ofNat (48 + n) else Char.ofNat (55 + n)

/-- A number in `n` uppercase hexadecimal digits, most significant first. -/
def hexStr (n v : Nat) : String := String.ofList (((List.range n).map fun i => hexDigit (v / 16 ^ i % 16)).reverse)

/-- The lock banner. -/
def State.banner (s : State) : String := "AXIRUO " ++ s.partNumber ++ " LOCKED ID=" ++ hexStr 8 idcode

/-- What lines take of the output buffer, each with its CR LF: 10 bit times for a character (R599, R600). -/
def lineCost (l : List String) : Nat := (l.map fun x => 10000000 * (x.length + 2)).sum

/-- The size of the output buffer, in the unit of `lineCost`. -/
def bufferSize : Nat := 4096 * 10000000

/-- Lines are sent: they enter the output buffer, and nothing of them is dropped (R600).
DEDUCED, unsafe: log entry 86. -/
def Lantern.send (m : Lantern) (l : List String) : Lantern := { m with out := m.out ++ l, fill := m.fill + lineCost l }

/-- What is being sent is cut off, with the commands that wait, and the lines follow (R601, R603); a rate selected is then in force. -/
def Lantern.restart (m : Lantern) (l : List String) : Lantern :=
  { m with
    out := l, fill := lineCost l, dropped := 0, keygen := none, wait := [], bauds := [],
    baud := (m.bauds.getLast?.map (·.1)).getD m.baud }

/-- Characters leave the buffer for a microsecond at the rate in force; a rate is in force once the OK line of its BAUD is out (R599).
DEDUCED, unsafe: log entry 86. -/
def Lantern.drain (m : Lantern) : Lantern :=
  let past := m.bauds.filter fun x => Nat.ble x.2 m.baud
  { m with
    fill := m.fill - m.baud, baud := (past.getLast?.map (·.1)).getD m.baud,
    bauds := (m.bauds.drop past.length).map fun x => (x.1, x.2 - m.baud) }

/-- Lantern sends lines; LTX is high-impedance in EMBER (Table 2.10), and what is sent there is lost. -/
def State.ltxSend (s : State) (l : List String) : State :=
  if s.outsOn then { s with lantern := s.lantern.send l } else s

/-- Groups of hex digits, each a width and a value, behind a word. -/
def groups (w : String) (l : List (Nat × Nat)) : String := l.foldl (fun t x => t ++ " " ++ hexStr x.1 x.2) w

/-- The decimal digits of a number of at most as many digits as the first argument says. -/
def decDigits : Nat → Nat → String
  | 0, _ => ""
  | d + 1, n => (if n < 10 then "" else decDigits d (n / 10)) ++ String.singleton (Char.ofNat (48 + n % 10))

/-- A number in decimal. -/
def decStr (n : Nat) : String := decDigits 20 n

/-- A line that is dropped where the buffer has no room for it (R600). -/
def Lantern.offer (m : Lantern) (x : String) : Lantern :=
  if m.dropped = 0 && m.fill + lineCost [x] ≤ bufferSize then
    { m with out := m.out ++ [x], fill := m.fill + lineCost [x] }
  else { m with dropped := m.dropped + 1 }

/-- Space has returned after lines were dropped: D LOST tells how many (R600). -/
def Lantern.tellLost (m : Lantern) : Lantern :=
  let x := "D LOST " ++ decStr m.dropped
  if m.dropped != 0 && m.fill + lineCost [x] ≤ bufferSize then
    { m with out := m.out ++ [x], fill := m.fill + lineCost [x], dropped := 0 }
  else m

/-- The WATCH line of a changed DIGEST bit (Table 18.7). -/
def watchLine (t i : Nat) (on : Bool) : String :=
  groups "D" [(8, t / 2 ^ 32), (8, t % 2 ^ 32)] ++ " " ++ decStr i ++ (if on then " 1" else " 0")

/-- Lantern tells the changes of DIGEST: it is unlocked, WATCH is on, and the interpreter serves it. -/
def State.watching (s : State) : Bool := s.lantern.watch && s.lantern.unlocked && s.sys.interp

/-- The DIGEST bits that have changed since WATCH last saw it are told, a line for each (Table 18.7).
DEDUCED, unsafe: log entry 86. -/
def State.watchNote (s : State) : State :=
  if s.watching then
    let now := BitVec.ofNat 128 s.digest
    let l := (List.range 128).filter fun i => now.getLsbD i != s.lantern.seen.getLsbD i
    { s with lantern := l.foldl (fun m i => m.offer (watchLine s.sys.sts.toNat i (now.getLsbD i))) { s.lantern with seen := now } }
  else s

/-- A new step of Lantern: what it sent before is no longer what it sends. -/
def State.quiet (s : State) : State := { s with lantern.out := [] }

/-- The host clears bits of DIGEST: WATCH tells what had set them, and that they clear.
DEDUCED, unsafe: log entry 86. -/
def State.watched (f : State → State) (s : State) : State :=
  if s.watching then (f s.quiet.watchNote).watchNote else f s

/-- Lantern is locked, and executes no command that waits; a KEYGEN among them leaves the OTP controller to what waits behind it (R548). -/
def State.lanternLock (s : State) : State :=
  { s with lantern := { s.lantern with unlocked := false, watch := false, keygen := none, wait := [] } }.fuseGo

/-- Lantern is locked by an alarm: its output stops, and the banner follows (R603). -/
def State.lanternHalt (s : State) : State :=
  let s := s.lanternLock
  { s with lantern := s.lantern.restart (if s.lanternen && s.outsOn then [s.banner] else []) }

/-! ## Zeroization (Table 16.4) -/

/-- Every Vault byte is 0. -/
def State.zeroize (s : State) : State :=
  { s with vault := { s.vault with
      priv := none, pub := [], slots := Vector.replicate 8 KeySlot.reset, nonce := none, rng := List.replicate 64 0,
      zeroized := true } }.lanternHalt.count 37 0x07 1

/-- The identity is killed, or its killing is under way (R545). -/
def State.killed (s : State) : Bool := s.fuse.killed || s.alarm.killPend

/-! ## KILL takes the OTP controller (Table 16.6) -/

/-- The first word of a list with a named bit that does not read 1 at STRICT margin. -/
def Fuse.unfinished (f : Fuse) (l : List (Nat × Word)) : Option (Nat × Word) :=
  (l.find? fun x => x.2 &&& ~~~ f.strict.word x.1 != 0).map fun x => (x.1, x.2 &&& ~~~ f.strict.word x.1)

/-- The running fuse command ends after the pulse in progress, with its unprogrammed bits in FAILMASK; a lock that programs nothing ends as it
would have, and one that is whole is done (Tables 16.6, 17.10). -/
def State.fuseKilled (s : State) : State :=
  match s.fuse.run with
  | none => s
  | some r =>
    let work := s.fuseWork r.pkt
    let st := if r.pkt.opcode == 0x6A then (s.lockPlan r.pkt).1 else 0
    let s := s.fuseStop
    if st != 0 then s.complete r.pkt st []
    else match s.fuse.unfinished work with
      | some (w, m) => s.fuseFailed r.pkt w m
      | none => s.fuseOk r.pkt

/-! ## A detection (R541, R544) -/

/-- The settings of a source. -/
def State.almCfg (s : State) (i : Nat) : AlmCfg := (s.alarm.cfg[i]?).getD ⟨0, false, 0⟩

/-- CORE cannot take a record: the device is off, or RESET_N is low. -/
def State.coreDown (s : State) : Bool := s.sys.pwr == .off || s.sys.resetLow

/-- One ALARM record, posted, or latched in AON where none can be posted; beyond eight they are counted. -/
def State.almRecord (s : State) (i : Nat) : State :=
  let act := (s.almCfg i).action.zeroExtend 8
  if s.coreDown then
    (if s.alarm.latched.length < 8 then
      { s with alarm.latched := s.alarm.latched ++ [(byteOf i 0, act, s.sys.sts)] }
     else { s with alarm.beyond := s.alarm.beyond + 1 })
  else s.postRec 0x0A (byteOf i 0 :: act :: 0 :: leBytes 8 s.sys.sts.toNat)

/-- Sources fire together: each is recorded, and the highest action among them is taken once.
DEDUCED, unsafe: log entry 83. -/
def State.alarmFire (s : State) (l : List Nat) : State :=
  let s := l.foldl (fun s i => ((s.almEvt i).almRecord i).count 37 0x06 1) s
  let act := l.foldl (fun m i => max m (s.almCfg i).action.toNat) 0
  if act = 0 then s
  else if act = 1 then s.zeroize
  else ({ s with alarm.killPend := true } : State).zeroize.fuseKilled

/-! ## The background re-read (R560) -/

/-- The physical words to compare: every word that a read or the latched image lists, except the originals of mapped words.
DEDUCED, unsafe: log entry 79. -/
def Fuse.compared (f : Fuse) : List Nat :=
  ((listedWords 0x420 f.normal ++ listedWords 0x420 f.strict ++ (listedWords 0x420 f.latched).map (physOf f.mapped)).foldl
    (fun l w => insertNat w l) []).filter fun w => (spareOf f.mapped w).isNone

/-- EXPECT of a physical word: its latched value, with what has been programmed since boot.
DEDUCED, unsafe: log entry 79. -/
def Fuse.expect (f : Fuse) (w : Nat) : Word :=
  (match f.mapped.find? fun m => 0x400 + m.2 == w with
    | some m => f.latched.word m.1
    | none => f.latched.word w) ||| f.added.word w

/-- A pass finds these words changed: the reads of each, where a bit outside its FAILMASK differs from EXPECT.
DEDUCED, unsafe: log entry 79. -/
def Fuse.changes (f : Fuse) : List FuseDrift :=
  (f.compared.filter fun w =>
    let e := f.expect w
    ((f.normal.word w ^^^ e) ||| (f.strict.word w ^^^ e)) &&& ~~~ f.failed.word w != 0).map fun w =>
      ⟨w, f.normal.word w, f.strict.word w⟩

/-- A pass: each difference is reported the first time it is found in its present state.
DEDUCED, unsafe: log entry 79. -/
def State.reread (s : State) : State :=
  let ch := s.fuse.changes
  let s := (ch.filter fun (d : FuseDrift) => !s.fuse.reported.contains d).foldl (fun (s : State) (d : FuseDrift) =>
    (s.fuseEvt 0).postRec 0x0D (leBytes 2 d.word ++ leBytes 4 (s.fuse.expect d.word).toNat ++
      leBytes 4 d.normal.toNat ++ leBytes 4 d.strict.toNat)) s
  { s with fuse.reported := ch, fuse.rerun := false }.count 36 0x07 1056

/-! ## KILL programming (R542, R543) -/

/-- Every unprogrammed bit of KILL's words is tried; which of them do not verify is open, and told of (Table 17.11). The controller is then free
again, and a pass that KILL abandoned is rerun (Table 16.6).
DEDUCED, unsafe: log entry 77. -/
def State.killProgram (s : State) : State :=
  let (s, bad) := s.progThrough s.killWork
  let s := if bad then s.fuseEvt 1 else s
  let s := { s with alarm.killPend := false, fuse.killDone := true }.almEvt 7
  let s := if s.fuse.rerun then s.reread else s
  s.fuseGo

/-! ## The identity checks (R537, Table 16.2) -/

/-- A DER object's whole length, from its first bytes: a definite length of up to two bytes, as a certificate of at most 4,096
bytes has. -/
def derLen (b : List Byte) : Nat :=
  let n := (nth b 1).toNat
  if n < 0x80 then 2 + n
  else if n = 0x81 then 3 + (nth b 2).toNat
  else 4 + (nth b 2).toNat * 256 + (nth b 3).toNat

/-- The root certificate, which is the first of the chain (R535). -/
def rootCert (chain : List Byte) : List Byte := chain.take (derLen chain)

/-- The last certificate of a chain. -/
def leafCert : Nat → List Byte → List Byte
  | 0, c => c
  | n + 1, c => if derLen c < c.length then leafCert n (c.drop (derLen c)) else c

/-- The content of a DER object, and what follows it. -/
def derBody (b : List Byte) : List Byte :=
  (b.take (derLen b)).drop (if (nth b 1).toNat < 0x80 then 2 else if nth b 1 == 0x81 then 3 else 4)
def derNext (b : List Byte) : List Byte := b.drop (derLen b)

/-- The public key of a certificate, 64 bytes of an uncompressed point: in the fields to be signed, subjectPublicKeyInfo comes after the
version, where there is one, the serial number, the algorithm, the issuer, the validity and the subject.
PRESUMED, unsafe: log entry 134. -/
def certKey (c : List Byte) : List Byte :=
  let f := derBody (derBody c)
  let f := if nth f 0 == 0xA0 then derNext f else f
  let info := derBody (derNext (derNext (derNext (derNext (derNext f)))))
  (derBody (derNext info)).drop 2

/-- ATTSTATE, and the private key that the checks unwrapped. -/
def State.attCheck (s : State) : BitVec 3 × Option (List Byte) :=
  let f := s.fuse
  if f.killed then (3, none)
  else if f.wrapKey.all (· == 0) then (1, none)
  else if !s.wlocked 1 || f.sealedI then (2, none)
  else match unwrapKey kek f.wrapKey with
    | none => (4, none)
    | some key =>
      if sha256 (rootCert s.lantern.chain) != f.rootDig then (5, some key)
      else if certKey (leafCert 16 s.lantern.chain) != publicKey key then (6, some key)
      else (0, some key)

/-- Boot step 11: the checks run, the Vault holds what they unwrapped, and it is READY.
DEDUCED, unsafe: log entry 71. -/
def State.vaultBoot (s : State) : State :=
  let (st, key) := s.attCheck
  { s with sys.vaultReady := true, vault := { s.vault with
      attState := st, priv := key, pub := (key.map publicKey).getD [],
      zeroized := s.vault.zeroized && st != 0 } }

/-- Authentication is served (R537, R546). -/
def State.attOk (s : State) : Bool := s.vault.attState = 0 && !s.vault.zeroized && s.vault.priv.isSome

/-! ## Freezing and snapshots (R587 to R590) -/

/-- One PERF_CFG comes into force (R474). -/
def Perf.cfg (f : Perf) (pl : List Byte) : Perf :=
  let b := (nth pl 0).toNat
  let i := 4 * b + (nth pl 1).toNat
  let v := nth pl 3
  let one := fun (j : Nat) (c : Ctr) =>
    if j == i then ⟨nth pl 2, v.getLsbD 0, v.getLsbD 1, if v.getLsbD 2 then 0 else c.val⟩ else c
  { f with ctrs := f.ctrs.mapIdx one, perm := f.perm.mapIdx fun j m => if j == b then nth pl 4 else m }

/-- Gathering ends (R590, Table 18.8). -/
def State.snapDone (s : State) (err : Bool) : State :=
  let f := s.perf
  if f.gather then
    let f := { f with gather := false, taken := [], takenSts := 0 }
    let f := if err then { f with snapErr := true, snapValid := false }
      else { f with snap := s.perf.taken, snapSts := s.perf.takenSts, snapSeq := f.snapSeq + 1, snapValid := true,
                    snapErr := false }
    let f := f.pend.foldl Perf.cfg { f with pend := [] }
    { s with perf := match f.again with
      | (l, t) :: r => { f with again := r, gather := true, taken := l, takenSts := t }
      | [] => f }
  else s

end Sys2Proof.Machine
end

