-- ==== Sys2Proof/Machine/CmdSys.lean ====
section
/-!
DEFINITION. The Vault, alarm, Lantern, counter, trace, firmware and safety commands (R471 to R482): what each does once
accepted, and its first reply.
-/
namespace Sys2Proof.Machine

/-! ## Vault (R471, R545) -/

/-- VAULTSTAT. -/
def State.vaultStat (s : State) : Nat :=
  flag s.attOk 0 + flag s.vault.zeroized 1 + flag s.fuse.killed 2 + flag (s.sup.vbat != .ok) 3

/-- A slot's entry in the status reply.
DEDUCED, unsafe: log entry 81. -/
def KeySlot.entry (k : KeySlot) : List Byte :=
  if k.state = 1 || k.state = 2 then k.state.zeroExtend 8 :: k.ty :: 0 :: 0 :: k.kcv else [0, 0, 0, 0, 0, 0, 0, 0]

/-- A customer key slot. -/
def State.keySlot (s : State) (i : Nat) : KeySlot := (s.vault.slots[i]?).getD KeySlot.reset

/-- Replaces a slot.
DEDUCED, unsafe: log entry 81. -/
def State.setSlot (s : State) (i : Nat) (k : KeySlot) : State :=
  { s with vault.slots := s.vault.slots.mapIdx fun j x => if j == i then k else x }

/-- VAULT_CFG.
DEDUCED, unsafe: log entry 82. -/
def State.cmdVaultCfg (s : State) (k : Packet) : State × CmdRes :=
  let op := nth k.payload 0
  let i := (nth k.payload 1).toNat
  let lock := (nth k.payload 3).getLsbD 0
  let key := k.payload.drop 4
  if nth k.payload 2 != 1 then (s, fail 0x14)
  else if op == 0 then (s, .final 0 (leBytes 4 s.vaultStat ++ s.vault.slots.toList.flatMap KeySlot.entry))
  else if 2 < op || 7 < i then (s, fail 0x14)
  else if 2 ≤ (s.keySlot i).state.toNat || (op == 1 && s.killed) then (s, fail 0x22)
  else if op == 1 then (s.setSlot i ⟨if lock then 2 else 1, 1, key, (sha256 key).take 4⟩, ok)
  else (s.setSlot i ⟨if lock then 3 else 0, 0, [], []⟩, ok)

/-! ## Alarm (R472) -/

/-- The 28 bytes of the read-back. -/
def State.almBack (s : State) : List Byte :=
  (List.range 7).flatMap fun i =>
    let c := s.almCfg i
    [byteOf i 0, c.action.zeroExtend 8, byteOf (flag c.lock 0) 0, c.limit]

/-- ALARM_CFG: raising LIMIT counts as lowering the action (R547).
DEDUCED, unsafe: log entry 83. -/
def State.cmdAlarmCfg (s : State) (k : Packet) : State × CmdRes :=
  match k.payload with
  | [] => (s, .final 0 s.almBack)
  | pl =>
    let i := (nth pl 0).toNat
    let act := nth pl 1
    let lim := nth pl 3
    let c := s.almCfg i
    if 6 < i || 2 < act || (i == 6) == (lim == 0) then (s, fail 0x14)
    else if c.lock && (act.toNat < c.action.toNat || (i == 6 && c.limit < lim)) then (s, fail 0x22)
    else
      let new : AlmCfg := ⟨act.truncate 2, c.lock || (nth pl 2).getLsbD 0, lim⟩
      ({ s.saveEntry 0x79 i pl with alarm.cfg := s.alarm.cfg.mapIdx fun j x => if j == i then new else x }, ok)

/-! ## Lantern (R473, R539) -/

/-- A response answered DENIED counts, and fires source 0x06 at LIMIT. -/
def State.authDenied (s : State) : State :=
  let n := satAdd s.alarm.authFail 1
  let s := { s with alarm.authFail := n }.count 37 0x05 1
  if (s.almCfg 6).limit ≤ n then s.alarmFire [6] else s

/-- LANTERN_UNLOCK: the MAC covers the nonce and the four bytes of IDCODE (R548).
DEDUCED, unsafe: log entry 83. -/
def State.cmdLanternUnlock (s : State) (k : Packet) : State × CmdRes :=
  let op := nth k.payload 0
  let i := (nth k.payload 1).toNat
  if 2 < op || (op == 1 && 7 < i) then (s, fail 0x14)
  else if op == 2 then (s.lanternLock, ok)
  else if s.killed then (s, fail 0x22)
  else if op == 0 then
    let n := s.random 16
    ({ s.stirred with vault.nonce := some n }, .final 0 n)
  else
    let key := s.keySlot i
    let good := match s.vault.nonce with
      | some n => (key.state = 1 || key.state = 2) && hmac256 key.key (n ++ leBytes 4 idcode) == k.payload.drop 4
      | none => false
    let s := { s with vault.nonce := none }.count 37 0x04 1
    if good then ({ s with lantern.unlocked := true, alarm.authFail := 0 }, ok) else (s.authDenied, fail 0x23)

/-! ## Counters (R474, R475) -/

/-- The last event number of a block (Tables 18.2, 18.3). -/
def lastEvent (b : Nat) : Nat :=
  if b < 32 then 0x14 else if b == 32 || b == 33 then 0x0A else if b == 34 then 9 else if b == 37 then 7 else 8

/-- PERF_CFG. -/
def State.cmdPerfCfg (s : State) (k : Packet) : State × CmdRes :=
  let b := (nth k.payload 0).toNat
  let c := (nth k.payload 1).toNat
  let i := 4 * b + c
  if 37 < b || 3 < c then (s, fail 0x14)
  else if k.payload.length == 2 then
    let x := (s.perf.ctrs[i]?).getD Ctr.reset
    (s, .final 0 ((s.savedEntry 0x80 i).getD [byteOf b 0, byteOf c 0, x.event, byteOf (flag x.enable 0 + flag x.chain 1) 0,
      (s.perf.perm[b]?).getD 0]))
  else if lastEvent b < (nth k.payload 2).toNat || (c % 2 == 1 && (nth k.payload 3).getLsbD 1) then (s, fail 0x14)
  else
    let s := s.saveEntry 0x80 i k.payload
    (if s.perf.gather then { s with perf.pend := s.perf.pend ++ [k.payload] } else { s with perf := s.perf.cfg k.payload }, ok)

/-- PERF_FREEZE (R588, R589). -/
def State.cmdPerfFreeze (s : State) (k : Packet) : State × CmdRes :=
  let op := nth k.payload 0
  let t := nth k.payload 1
  if (op != 1 && op != 2) || (t != 0 && !evsrcOk t) then (s, fail 0x14)
  else if t != 0 then ({ s with perf.trig := some (t, op == 2) }, ok)
  else
    let s := { s with perf.trig := none }
    (if op == 1 then s.perfStop else s.perfGo, ok)

/-! ## Trace (R476, R477) -/

/-- TRACE_CFG: one that waits for the end of a TRACE_READ still empties the buffer when another follows it (R597). -/
def State.cmdTraceCfg (s : State) (k : Packet) : State × CmdRes :=
  match k.payload with
  | [] => (s, .final 0 ((s.savedEntry 0x82 0xFF).getD (leBytes 2 s.trace.n.toNat ++ [0])))
  | pl =>
    let n := BitVec.ofNat 16 (field pl 0 2)
    let clear := (nth pl 2).getLsbD 0
    let s := s.saveEntry 0x82 0xFF pl
    let cleared := clear || (match s.trace.pend with
      | some (_, c, _) => c
      | none => false)
    (if s.trace.reading != 0 then { s with trace.pend := some (n, cleared, k.idx) } else s.traceTake n clear k.idx, ok)

/-- The 16 bytes of a trace record. -/
def TraceRec.bytes (r : TraceRec) : List Byte :=
  [r.opcode, r.clsTag, r.target, r.status] ++ leBytes 2 r.table.toNat ++ [0, 0] ++ leBytes 4 r.latency.toNat ++
  leBytes 4 r.sts.toNat

/-- TRACE_READ: it runs until its last part is produced. -/
def State.cmdTraceRead (s : State) (k : Packet) : State × CmdRes :=
  let first := (nth k.payload 0).toNat
  let n := field k.payload 1 2
  if n == 0 || 256 < n then (s, fail 0x14)
  else
    let l := ((s.trace.ring.drop first).take n).flatMap TraceRec.bytes
    ({ s with trace.reading := s.trace.reading + 1 }, .parts 0 (cut 1024 4 l))

/-! ## Firmware (R478 to R480) -/

/-- FW_STAGE.
DEDUCED, unsafe: log entry 89. -/
def State.cmdFwStage (s : State) (k : Packet) : State × CmdRes :=
  let off := field k.payload 0 4
  let d := k.payload.drop 4
  let old := if off == 0 then [] else s.fw.staged
  if off != old.length || 131072 < off + d.length then (s, fail 0x14)
  else ({ s with fw.staged := old ++ d }, ok)

/-- A FIRMWARE record (Table 17.9). -/
def State.postFw (s : State) (ev : Byte) (prev new : Word) : State :=
  s.postRec 0x10 (ev :: leBytes 4 prev.toNat ++ leBytes 4 new.toNat)

/-- A committed image or a revert is in force, and the interpreter is to be reset. -/
def Fw.marked (f : Fw) : Bool := f.runs.any fun r => r.step == .marked

/-- A verification runs. -/
def Fw.verifying (f : Fw) : Bool := f.runs.any fun r => r.step == .verify

/-- A FW_COMMIT begins. -/
def Fw.begin (f : Fw) (k : Packet) (st : FwStep) : Fw :=
  { f with runs := (f.runs.filter fun r => r.ord < k.ord) ++ ⟨k.tag, k.ord, st⟩ :: f.runs.filter fun r => k.ord < r.ord }

/-- FW_COMMIT: a verification begins; the reset of a revert runs once the ACCEPTED reply is placed.
DEDUCED, unsafe: log entry 89. -/
def State.cmdFwCommit (s : State) (k : Packet) : State × CmdRes :=
  let op := nth k.payload 0
  let f := s.fw
  if 2 < op || (op == 0 && f.staged.isEmpty) then (s, fail 0x14)
  else if op == 1 then ({ s with fw.staged := [] }, ok)
  else if op == 2 then
    (({ s with fw := { f with image := [], active := 0 }.begin k .marked }.postFw 2 f.active 0), .accepted)
  else ({ s with fw := f.begin k .verify }, .accepted)

/-- FW_STATUS.
DEDUCED, unsafe: log entry 89. -/
def State.cmdFwStatus (s : State) (_k : Packet) : State × CmdRes :=
  let f := s.fw
  let st : Byte := if f.staged.isEmpty then 0 else if Config.fwComplete f.staged then 2 else 1
  (s, .final 0 (leBytes 4 Config.romVersion.toNat ++ leBytes 4 f.active.toNat ++ leBytes 4 f.staged.length ++
    [st, f.lastRes, 0, 0]))

/-! ## Safety (R481, R482, R522) -/

/-- SELFTEST. -/
def State.cmdSelftest (s : State) (k : Packet) : State × CmdRes :=
  let t := nth k.payload 0
  let forPort := t == 3 || t == 4
  if 6 < t || forPort != k.port.isSome then (s, fail 0x14)
  else match k.port with
    | some p => (s, if (s.port p).tc.state.attached then fail 0x23 else .accepted)
    | none => (s, .accepted)

/-- SAFECFG: a bit may always be set; one may be cleared only while neither lock is set. LOCK itself never clears.
DEDUCED, unsafe: log entry 90. -/
def State.safeCfgSet (s : State) (v : Byte) : Option State :=
  let old := s.safety.cfg
  if (old &&& ~~~ v) != 0 && (old.getLsbD 7 || s.safeCfgLock) then none
  else some { s with safety.cfg := v }

def State.cmdSafecfg (s : State) (k : Packet) : State × CmdRes :=
  match k.payload with
  | [] => (s, .final 0 ((s.savedEntry 0x91 0xFF).getD [s.safety.cfg, 0, 0, 0]))
  | pl => match s.safeCfgSet (nth pl 0) with
    | none => (s, fail 0x22)
    | some t => (t.saveEntry 0x91 0xFF pl, ok)

/-- A self-test has failed: STFAIL, its event, and the record, which names the test, and in its mask the port of a port's test, else
the test again (R513, R522). -/
def State.testNoted (s : State) (t : Nat) (p : Option PortId) : State :=
  ({ s with safety.stFail := setBit s.safety.stFail t }.safeEvt 16).postSafety 7 t (match p with
    | some p => 2 ^ p.val
    | none => 2 ^ t)

/-- What a failed self-test does (R522). With the lane compare off the Ledger never freezes (Table 15.3). -/
def State.testFailed (s : State) (t : Nat) (p : Option PortId) : State :=
  let s := s.testNoted t p
  if t == 3 || t == 4 then
    (match p with
     | some p => s.withdraw p 0xFFFF false
     | none => s)
  else if t == 5 then (if s.ledger.frozen || !s.safeOn 2 then s else s.freezeLedger)
  else if t == 2 || t == 6 then { s with safety.repeatDue := setBit s.safety.repeatDue t }
  else s

/-- A test that passed. -/
def State.testPassed (s : State) (t : Nat) : State := { s with safety.stFail := clrBit s.safety.stFail t }

end Sys2Proof.Machine
end

