-- ==== Sys2Proof/Machine/Interp.lean ====
section
/-!
DEFINITION. The interpreter: ABORT, the run of a command by its opcode, the drain of mailbox and lanes, its reset and return
(R421, R427, R428, R516, R525 to R528).
-/
namespace Sys2Proof.Machine

/-! ## ABORT (R427, R428, R433) -/

/-- A flight leaves with ABORTED_HOST, `f` having taken it from its block. -/
def State.abortFlight (s : State) (k : Packet) (f : State → State) : State × Byte := ((f s).complete k 0x32 [], 0)

/-- A command answered ACCEPTED is abortable only where Table 13.1 marks it so. -/
def State.abortLong (s : State) (k : Packet) : State × Byte :=
  let no := (s, (2 : Byte))
  if k.opcode == 0x90 then s.abortFlight k id
  else if k.opcode == 0x61 then
    (match busOf (nth k.payload 0) with
     | none => no
     | some b =>
       let x := s.pb b
       if x.xfer && (x.queue.head?.map (·.tag)) == some k.tag then
         s.abortFlight k fun s => (s.modPb b fun y => { y with needClear := true }).pbusEnd b
       else s.abortFlight k fun s =>
         (s.modPb b fun y => { y with queue := y.queue.filter fun j => j.tag != k.tag }).pbusNext b)
  else match k.port with
    | none => no
    | some p =>
      let first := ((s.flightOn p k.opcode).map (·.tag)) == some k.tag
      let x := s.port p
      if k.opcode == 0x22 then
        (if !first || (x.lm.run.isNone && x.lm.result.isNone) then s.abortFlight k id
         else match x.lm.run with
           | some r =>
             if r.sent then no
             else
               let s := (s.modLm p fun l => { l with run := none }).modPd p fun d => { d with trig := d.trig.filter (· != .vdm) }
               let (s, r) := s.abortFlight k id
               (s.vdmGo p, r)
           | none => no)
      else if k.opcode == 0x23 then
        (if x.swap.pending then
          s.abortFlight k fun s =>
            ((s.swapDone p 0x32 0 true).modSwap p fun w => { w with result := none }).modPd p fun d =>
              { d with trig := d.trig.filter (· != .swap) }
         else if x.swap.result.isNone && !x.swap.own then s.abortFlight k id else no)
      else no

/-- A command has left its lane without its body: what it kept waiting on its resource goes on (R421). -/
def State.freed (s : State) (k : Packet) : State :=
  if k.opcode == 0x61 then
    (match busOf (nth k.payload 0) with
     | some b => s.pbusNext b
     | none => s)
  else if k.opcode == 0x69 || k.opcode == 0x6A || k.opcode == 0x6B then s.fuseGo
  else if k.opcode == 0x22 then
    (match k.port with
     | some p => s.vdmGo p
     | none => s)
  else s

/-- ABORT of one tag (Table 12.6a): waiting in a lane, in parts, or a long operation.
DEDUCED, unsafe: log entry 69. -/
def State.abortTag (s : State) (own : BitVec 6) (t : BitVec 6) (all : Bool) : State × Byte :=
  if t == own then (s, if all then 1 else 2)
  else if !s.mb.tags.contains t then (s, 1)
  else match s.mb.lanes.find? fun k => k.tag == t with
    | some k =>
      ((({ s with mb.lanes := s.mb.lanes.filter fun (j : Packet) => j.tag != t }.emit
        (k.reply 0x32 [] false false true)).traceReply k 0x32).freed k, 0)
    | none => match s.mb.parts.find? fun x => x.1.tag == t with
      | some x =>
        (({ s with mb.parts := s.mb.parts.filter fun (y : Packet × Byte × List (List Byte)) => y.1.tag != t }.emit
          (x.1.reply 0x32 [] false false true)).partsOver x.1, 0)
      | none => match s.mb.flights.find? fun k => k.tag == t with
        | some k => s.abortLong k
        | none => (s, 2)

/-- ABORT.
DEDUCED, unsafe: log entry 69. -/
def State.cmdAbort (s : State) (k : Packet) : State × CmdRes :=
  let t := nth k.payload 0
  if t.toNat < 64 then
    let (s, r) := s.abortTag k.tag (t.truncate 6) false
    (s, .final 0 [r])
  else if t == 0xFF then
    let (s, l) := (List.range 64).foldl (fun (acc : State × List Byte) i =>
      let (s, r) := acc.1.abortTag k.tag (BitVec.ofNat 6 i) true
      (s, acc.2 ++ [r])) (s, [])
    (s, .final 0 l)
  else (s, fail 0x14)

/-! ## Running a command (Table 13.1) -/

/-- A command of a port. -/
def State.onPort (s : State) (k : Packet) (f : State → Packet → PortId → State × CmdRes) : State × CmdRes :=
  match k.port with
  | some p => f s k p
  | none => (s, fail 0x14)

/-- What a command does, by its opcode. -/
def State.runBody (s : State) (k : Packet) : State × CmdRes :=
  match k.opcode.toNat with
  | 0x00 => s.cmdHello k
  | 0x01 => s.cmdAbort k
  | 0x02 => s.cmdEcho k
  | 0x03 => s.cmdDeviceStatus k
  | 0x10 => s.onPort k State.cmdPortCfg
  | 0x11 => s.onPort k State.cmdPortEnable
  | 0x12 => s.onPort k State.cmdPortDisable
  | 0x13 => s.onPort k State.cmdPortStatus
  | 0x14 => s.onPort k State.cmdPortReset
  | 0x20 => s.onPort k State.cmdPdoSet
  | 0x21 => s.onPort k State.cmdSinkPrefSet
  | 0x22 => s.onPort k State.cmdVdmSend
  | 0x23 => s.onPort k State.cmdSwapReq
  | 0x30 => s.cmdLedgerCfg k
  | 0x31 => s.onPort k State.cmdLedgerClass
  | 0x32 => s.cmdLedgerQuery k
  | 0x33 => s.cmdLedgerRelease k
  | 0x40 => s.onPort k State.cmdBridgeSet
  | 0x41 => s.cmdEmberCfg k
  | 0x42 => s.cmdIslandSet k
  | 0x48 => s.cmdRingCfg k
  | 0x49 => s.cmdRingStatus k
  | 0x4A => s.cmdRingBypass k
  | 0x50 => s.cmdTmrCfg k
  | 0x51 => s.cmdTmrCmp k
  | 0x52 => s.cmdTmrLink k
  | 0x53 => s.cmdCmpCfg k
  | 0x60 => s.cmdPbusCfg k
  | 0x61 => s.cmdPbusXfer k
  | 0x62 => s.cmdPbusClear k
  | 0x68 => s.cmdFuseRead k
  | 0x69 => s.cmdFuseProg k
  | 0x6A => s.cmdFuseLock k
  | 0x6B => s.cmdFuseSpare k
  | 0x70 => s.cmdSboxRead k
  | 0x71 => s.cmdSboxMark k
  | 0x78 => s.cmdVaultCfg k
  | 0x79 => s.cmdAlarmCfg k
  | 0x7A => s.cmdLanternUnlock k
  | 0x80 => s.cmdPerfCfg k
  | 0x81 => s.cmdPerfFreeze k
  | 0x82 => s.cmdTraceCfg k
  | 0x83 => s.cmdTraceRead k
  | 0x88 => s.cmdFwStage k
  | 0x89 => s.cmdFwCommit k
  | 0x8A => s.cmdFwStatus k
  | 0x90 => s.cmdSelftest k
  | 0x91 => s.cmdSafecfg k
  | _ => (s, fail 0x12)

/-! ## Reset (R516, R525, R527) -/

/-- Finished by the port engine, or by the firmware commit itself (R434, R479). -/
def Packet.outlives (k : Packet) : Bool :=
  k.opcode == 0x14 || k.opcode == 0x22 || k.opcode == 0x23 || k.opcode == 0x89

/-- Inserts by lane, then acceptance order. -/
def insertHeld (x : Packet × Bool × List Byte) : List (Packet × Bool × List Byte) → List (Packet × Bool × List Byte)
  | [] => [x]
  | y :: r =>
    if x.1.rank < y.1.rank || (x.1.rank == y.1.rank && x.1.ord < y.1.ord) then x :: y :: r else y :: insertHeld x r

/-- A FW_COMMIT under verification when the interpreter is reset has not been marked active (R528). -/
def FwRun.cutShort (r : FwRun) : FwRun := if r.step == .verify then { r with step := .aborted } else r

/-- The commands in progress that a reset of the interpreter cuts short, each with the payload of its completion: a transfer that a bus runs
has RESULT 0x05 (Table 11.7).
DEDUCED, unsafe: log entry 73. -/
def State.cutFlights (s : State) (l : List Packet) : State × List (Packet × Bool × List Byte) :=
  l.foldl (fun acc k =>
    if k.opcode == 0x61 && s.pbus.toList.any fun (x : Pbus) => x.xfer && x.queue.head?.any fun j => j.tag == k.tag then
      let (s, pl) := acc.1.cutXfer k 5
      (s, acc.2 ++ [(k, true, pl)])
    else (acc.1, acc.2 ++ [(k, true, [])])) (s, [])

/-- The interpreter is reset: what it held will be answered ABORTED_UPDATE on its return, in the order of R526, and so will the packets
that stay in the mailbox; the PBUS controllers are reset and fuse programming stops; a VDM_SEND that waited for a command now gone
starts. -/
def State.interpReset (s : State) : State :=
  if s.sys.interp then
    let m := s.mb
    let (s, long) := s.cutFlights (m.flights.filter fun k => !k.outlives)
    let cutShort : List Packet := m.parts.map fun x => { x.1 with traced := false }
    let short := (m.lanes ++ cutShort).map fun k => (k, false, [])
    let s := { s with mb := { m with
      inbox := m.inbox.map fun (k : Packet) => { k with stale := true }, lanes := [], parts := [],
      flights := m.flights.filter Packet.outlives, aborted := (long ++ short).foldl (fun l x => insertHeld x l) [] } }
    let s := if s.trace.reading == 0 then s else ({ s with trace.reading := 1 } : State).traceEnd
    let s := { (s.recordCut false).pbusReset.fuseStop with fuse.queue := [] }
    let s := allPorts.foldl State.vdmGo s
    { s with fw.runs := s.fw.runs.map FwRun.cutShort, sys.interp := false, lantern := s.lantern.restart [] }.count 35 0x08 1
  else s

/-- A fault resets the interpreter, from the moment CORE runs; the third within 10 s holds it on ROM firmware until RESET_N (R516). -/
def State.interpFault (s : State) (cause bit : Nat) (addr : Nat) : State :=
  if s.memOn then
    let s := (s.safeEvt bit).postSafety cause 0xFF addr
    let now := s.sys.sts
    let l := now :: s.safety.resets.filter fun t => now.toNat - t.toNat < 10000000
    let s := { s with safety.resets := l }
    let s := if 3 ≤ l.length && !s.safety.romOnly then
        let s := (s.postSafety 9 0xFF 0).postFw 5 s.fw.active 0
        { s with
          safety.romOnly := true, fw.active := 0,
          fw.runs := s.fw.runs.map fun (r : FwRun) => if r.step == .marked then { r with step := .aborted } else r }
      else s
    s.interpReset
  else s

/-- A FW_COMMIT that verifies takes a further step: the oldest, since they run in the order of acceptance (R421). -/
def fwStep (st : FwStep) : List FwRun → List FwRun
  | [] => []
  | r :: l => if r.step == .verify then { r with step := st } :: l else r :: fwStep st l

/-- A verification ends (R479, R528): a good image is marked active and the interpreter resets into it.
DEDUCED, unsafe: log entry 89. -/
def State.fwVerified (s : State) : State :=
  let f := s.fw
  let v := Config.fwVersion f.staged
  if Config.fwSigOk f.staged then
    let live := if s.safety.romOnly then 0 else v
    ({ s with fw := { f with image := f.staged, active := live, staged := [], lastRes := 1, runs := fwStep .marked f.runs } }.postFw 1 f.active
      v).interpReset
  else { s with fw := { f with lastRes := 2, runs := fwStep .denied f.runs } }.postFw 4 f.active v

/-! ## The drain -/

/-- Starts commands from the lanes while the interpreter can serve; a committed image resets it after the ACCEPTED reply.
DESIGN CHOICE, unsafe: log entry 4. -/
def State.runLanes : Nat → State → State
  | 0, s => s
  | n + 1, s =>
    if s.canServe then
      match nextIn s.mb.lanes with
      | none => s
      | some k =>
        let s := { s with mb.lanes := s.mb.lanes.filter fun (j : Packet) => j.ord != k.ord }
        if k.dead then
          State.runLanes n ((s.emit (k.reply 0x30 [] false false true)).traceReply k 0x30)
        else
          let (t, r) := s.runBody k
          let u := t.answer k r
          State.runLanes n (if k.opcode == 0x89 && u.fw.marked then u.interpReset else u)
    else s

/-- Answers what lay in the mailbox at the interpreter's reset, takes what else waits in it, and runs what waits in the lanes; before
the interpreter's first READY the front end answers (R81).
DESIGN CHOICE, unsafe: log entry 4. -/
def State.drain (s : State) : State :=
  if s.sys.interpSeen then
    let s := (State.takeStale s.mb.inbox.length s).flushLate
    let s := State.acceptAll s.mb.inbox.length s
    State.runLanes s.mb.lanes.length s
  else State.frontEnd s.mb.inbox.length s

/-- A packet past check 1 goes into the mailbox, whose interrupt leaves DOZE (Table 3.4). -/
def State.handOver (s : State) (k : Packet) : State :=
  ({ s.leaveDoze with mb.inbox := s.mb.inbox ++ [{ k with sts := s.sys.sts }] }.count 34 0x02 1).drain

/-! ## The host's address and bytes (R371, R372) -/

/-- An address is acknowledged: it wakes the device from SLEEP, and LASTADDR takes it. -/
def State.hostAck (s : State) (a : HostAddr) (masked : Bool) : State :=
  let s := s.wakeUp
  { s with bus.acked := true, bus.out := [], bus.acks := 0, bus.lastAddr := a.zeroExtend 8 ||| (if masked then 0x80 else 0) }

/-- An address is not acknowledged. -/
def State.hostNack (s : State) : State := { s with bus.acked := false, bus.out := [], bus.acks := 0 }

/-- Data bytes of a mailbox or group write are acknowledged. -/
def State.ackBytes (s : State) (n : Nat) : State := { s with bus.acks := n }.count 34 0x06 n

/-- CA, the mailbox's own address (Table 11.1). -/
def State.ca (s : State) : HostAddr := 0x58 + s.sys.addr.zeroExtend 7

/-- A packet is written to the mailbox at CA (R382): the address wakes the device, and a full mailbox does not acknowledge it (R383).
DESIGN CHOICE, unsafe: log entry 4. -/
def State.submit (s : State) (k : Packet) : State :=
  if !s.hostUp then s.hostNack
  else if 16 ≤ s.mb.inbox.length then s.wakeUp.hostNack.count 34 0x04 1
  else ((s.hostAck s.ca false).ackBytes (min 1032 (8 + k.payload.length))).handOver k

/-! ## The return (R526) -/

/-- A FW_COMMIT that has come to its end completes (R479, R528). -/
def State.fwComplete (s : State) (r : FwRun) : State :=
  let t := { s with fw.runs := s.fw.runs.filter fun (q : FwRun) => q.tag != r.tag }
  match s.flight fun k => k.opcode == 0x89 && k.tag == r.tag with
  | none => t
  | some k =>
    if r.step == .denied then t.complete k 0x23 [1]
    else if r.step == .done then
      t.complete k 0 (0 :: leBytes 4 (if s.fw.active = 0 then Config.romVersion else s.fw.active).toNat)
    else t.complete k 0x31 []

/-- It has. -/
def FwRun.over (r : FwRun) : Bool := r.step != .verify && r.step != .marked

/-- The interpreter is back: the held replies in order, those of packets still in the mailbox, what ended meanwhile, and the FW_COMMIT
completion; then IRESTART, and what else waits. -/
def State.interpReturn (s : State) : State :=
  if s.sys.interpSeen && !s.sys.interp then
    let m := s.mb
    let s := { s with sys.interp := true, mb.aborted := [] }.flushHeld
    let s := m.aborted.foldl (fun s x =>
      let st : Byte := if x.1.dead then 0x30 else 0x31
      (s.place (x.1.reply st (if x.1.dead then [] else x.2.2) x.2.1 false true)).traceReply
        (if x.2.1 then { x.1 with traced := false } else x.1) st) s
    let s := (State.takeStale s.mb.inbox.length s).flushLate
    let s := { s with
      fw.runs := s.fw.runs.map fun (r : FwRun) => if r.step == FwStep.marked then { r with step := .done } else r }
    let s := (s.fw.runs.filter FwRun.over).foldl State.fwComplete s
    { s with sys.irestart := satAdd s.sys.irestart 1, sys.evt := setBit s.sys.evt 0 }.drain
  else s

end Sys2Proof.Machine
end

