-- ==== Sys2Proof/Machine/SupplyOps.lean ====
section
/-!
DEFINITION. Losing and regaining power: the reset of CORE and the port groups, of AON, and the entry to OFF (R16 to R18, R51,
Table 3.1).
-/
namespace Sys2Proof.Machine

/-! ## Resets -/

/-- A port whose group is reset: what is measured on it stays. -/
def Port.coreReset (x : Port) (e : Bool) : Port :=
  let r := Port.reset e
  { r with tc := { r.tc with vbusMv := x.tc.vbusMv, prailMv := x.tc.prailMv }, sw := { r.sw with temp := x.sw.temp } }

/-- CORE and the port groups are reset. AON, the MRAM, the fuses and what has programmed them stay; every register takes its reset value
(R608), STSSTAT among them.
DEDUCED, unsafe: log entry 18. -/
def State.coreReset (s : State) : State :=
  let s := (s.fuseCut).recordCut true
  { s with
    sup.waitA := false, sup.waitB := false,
    ports := Vector.ofFn fun p => (s.port p).coreReset (isE p),
    ledger := Ledger.reset s.nen, ring := Ring.reset, tmrs := Vector.replicate 48 Tmr.reset,
    gwcs := Vector.replicate 16 Gwc.reset, gwcEvt := 0, pbus := Vector.replicate 4 Pbus.reset, mb := Mailbox.reset,
    perf := Perf.reset, trace := Trace.reset,
    bus := { HostBus.reset with
      haddrCfg := s.bus.haddrCfg, haddrBase := s.bus.haddrBase, haddrMask := s.bus.haddrMask },
    fuse := { s.fuse with
      run := none, queue := [], added := [], failed := [], reported := [], killDone := false, rerun := false, evt := 0 },
    sbox := { s.sbox with queue := [], lost := 0, evt := 0 },
    lantern := { Lantern.reset with chain := s.lantern.chain },
    fw := { s.fw with active := 0, lastRes := 0, runs := [] },
    safety := { Safety.reset with supLatch := s.safety.supLatch },
    alarm := { s.alarm with evt := 0 },
    sys := { s.sys with
      boot := 0, sleepEn := false, dozeEn := true, hbisoLow := false, mainenLow := false, drvenLow := false,
      interp := false, interpSeen := false, perfReady := false, vaultReady := false, sboxReady := false, evt := 0,
      irestart := 0, stsStat := 0, minor := 0, linkA := false, linkB := false } }

/-- AON loses power (R18, R497, R534, R547, R548): STS starts at 0 again, every value held there takes its reset value, and Lantern is
locked. -/
def State.aonReset (s : State) : State :=
  let s := s.lanternLock
  { s with
    vault := Vault.reset, alarm := Alarm.reset, safety.supLatch := none,
    bus := { s.bus with
      haddrCfg := HostBus.reset.haddrCfg, haddrBase := HostBus.reset.haddrBase, haddrMask := HostBus.reset.haddrMask },
    ember := { s.ember with forbid := false, pwrMax := 3, mask := 0xFFFFFFFF, latched := none },
    sys := { s.sys with cause := 1, sts := 0, stsAcc := 0, stsStat := 0, strapDue := true } }

/-- AON is powered: VMAIN is valid, the start regulator runs, or VBAT is within its range (R18).
DEDUCED, unsafe: log entry 13. -/
def State.aonOn (s : State) : Bool := (s.sup.vmain == .ok || s.ember.reg || s.sup.vbat == .ok) && s.sup.vdaon == .ok

/-- AON keeps its values only while it is powered (R18).
DEDUCED, unsafe: log entry 13. -/
def State.aonCheck (s : State) : State := if s.aonOn then s else s.aonReset

/-- The fuse read at the start of CORE: the latched image, and what takes its reset value from it; Lantern sends its banner,
but in EMBER, where LTX is high-impedance (R557, R601, Tables 2.10, 4.1, 9.2). Fused-off ports open their CC pins (R2). -/
def State.coreStart (s : State) : State :=
  let s := { s with fuse := s.fuse.boot }
  let one := fun (p : PortId) =>
    let r := s.saferole p
    let x := { s.port p with cfg := defaultCfg (isE p) (if r == 3 then 0 else r) s.ledgermodeen }
    if s.porten p then x else { x with tc := { x.tc with cc1 := .opn, cc2 := .opn } }
  { s with
    ports := Vector.ofFn one, ledger.cfg := LgCfg.default s.nen,
    lantern := s.lantern.restart (if s.lanternen && s.sys.pwr == .run then [s.banner] else []) }

/-- The majority of three readings of each strap (R48). -/
def strapMajority (e : Straps) : BitVec 4 := (e.r1 &&& e.r2) ||| (e.r1 &&& e.r3) ||| (e.r2 &&& e.r3)

/-- The straps are sampled once at an AON power-up and at a RESET_N release: the majority of three readings (R48, R49). -/
def State.sampleStraps (s : State) : State :=
  if s.sys.strapDue then
    { s with sys := { s.sys with
      addr := (strapMajority s.sys.straps).extractLsb' 0 3, emberen := (strapMajority s.sys.straps).getLsbD 3, strapDue := false } }
  else s

/-- Step 15 of Table 3.9: the donor's gate drive moves to VDRV as soon as its die has it, and the start regulator goes off (R17,
R18).
DEDUCED, unsafe: log entry 13. -/
def State.donorMoved (s : State) : State :=
  if s.sys.pwr == .ember && 15 ≤ s.ember.step && s.ember.donor.all fun (p : PortId) => s.vdrv (dieOf p) == .ok then
    { s with ember.reg := false } else s

/-- The device is in an Ember start that has not yet moved to VMAIN. -/
def State.onStart (s : State) : Bool := s.sys.pwr == .ember && s.ember.step < 15

/-- STS has come to run on the LFO (R498). -/
def State.stsLfo (s : State) : State := { s with sys.stsStat := setBit s.sys.stsStat 1 }

/-- A supply comes back: where it powers AON up, the straps are sampled, the random generator is seeded, and in OFF STS runs on the LFO
(R48, R498, Table 16.1).
DEDUCED, unsafe: log entry 13. -/
def State.aonBack (s t : State) : State :=
  if !s.aonOn && t.aonOn then (t.sampleStraps.when t.stsOnLfo State.stsLfo).seedRng else t

/-- The device enters OFF: VMAIN is absent, and no Ember start runs (R72).
DEDUCED, unsafe: log entry 14. -/
def State.goOff (s : State) : State :=
  let s := s.coreReset
  ({ s with sys := { s.sys with pwr := .off, cause := 2 }, ember := { s.ember with step := 0, donor := none } } : State).stsLfo.aonCheck

/-- A VMAIN excursion, or one of VDCORE, which acts as it: CORE and the port groups are reset, the cause is latched in AON, and
the device enters OFF.
DEDUCED, unsafe: log entry 14. -/
def State.mainLost (s : State) (bit : Nat) (hi : Bool) : State :=
  let s := s.coreReset
  ({ s with
    safety.supLatch := some (bit, hi), ember.step := 0, ember.donor := none,
    sys := { s.sys with pwr := .off, cause := 2 } } : State).stsLfo.aonCheck

/-! ## Supplies -/

/-- The level a supply has reached. -/
def supOf (hi : Bool) : SupSt := if hi then .above else .below

def State.supply (s : State) : Supply → SupSt
  | .vmain => s.sup.vmain | .vdrvA => s.sup.vdrvA | .vdrvB => s.sup.vdrvB | .vio => s.sup.vio | .vconnin => s.sup.vconnin
  | .vhb => s.sup.vhb | .vbat => s.sup.vbat | .vpp => s.sup.vpp | .vdcore => s.sup.vdcore | .vdaon => s.sup.vdaon

def State.setSupply (s : State) (v : SupSt) : Supply → State
  | .vmain => { s with sup.vmain := v } | .vdrvA => { s with sup.vdrvA := v } | .vdrvB => { s with sup.vdrvB := v }
  | .vio => { s with sup.vio := v } | .vconnin => { s with sup.vconnin := v } | .vhb => { s with sup.vhb := v }
  | .vbat => { s with sup.vbat := v } | .vpp => { s with sup.vpp := v } | .vdcore => { s with sup.vdcore := v }
  | .vdaon => { s with sup.vdaon := v }

/-- An excursion of a supply other than VMAIN and the internal ones: watched only with SAFECFG bit 4 set (Table 15.3); one that
stands already is no new one, and one past the other threshold is. With CORE on, it sets its SAFEEVT bit and posts its record, and `f` acts. -/
def State.excursion (s : State) (su : Supply) (bit : Nat) (hi : Bool) (f : State → State) : State :=
  if s.supply su == supOf hi then s
  else if !s.coreOn then s.setSupply (supOf hi) su
  else if !s.safeOn 4 then s
  else f ((s.setSupply (supOf hi) su).postSupply bit hi)

/-- The supply of a die's drivers. -/
def drvOf : Die → Supply
  | .a => .vdrvA
  | .b => .vdrvB

/-- The wait of Table 3.1 before a die's attached ports enter ErrorRecovery. -/
def State.vdrvWait (s : State) : Die → Bool
  | .a => s.sup.waitA
  | .b => s.sup.waitB

def State.setVdrvWait (s : State) (v : Bool) : Die → State
  | .a => { s with sup.waitA := v }
  | .b => { s with sup.waitB := v }

/-- VDRV of a die is out of range: its converters stop and its switches open, which reads OPEN; with VBUS goes VCONN (R17, R127,
Table 7.10). -/
def State.vdrvOut (s : State) (d : Die) : State :=
  s.eachPort fun s p =>
    if dieOf p == d then
      (s.openSwitch p).modSw p fun w => { w with
        st := if w.st == .discharge then .opn else w.st, sinkOn := false, owed := w.owed || w.st == .discharge }
    else s

/-- VDRV is within range: a switch it had opened enters DISCHARGE where VBUS is above vSafe0V, a HOLDOFF to follow it; one of a
withdrawn port reads WITHDRAWN otherwise (Table 7.10, R232, R236, R246). -/
def State.vdrvIn (s : State) (d : Die) : State :=
  s.eachPort fun s p =>
    let x := s.port p
    if dieOf p == d && x.sw.owed then
      s.modSw p fun w => if (w.st == .opn || w.st == .withdrawn || w.st == .holdoff) && 700 < x.tc.vbusMv then
          { w with st := .discharge, sinkOn := true, owed := false, holdNext := w.holdNext || w.st == .holdoff }
        else { w with owed := false, st := if x.tc.held && w.st == .opn then .withdrawn else w.st }
    else s

/-- VCONN is sourced again where the attach's conditions hold: by a source, or after a VCONN_Swap (R127). -/
def State.vconnIn (s : State) : State :=
  s.eachPort fun s p =>
    let x := s.port p
    if ((x.tc.state == .attachedSrc && x.tc.vconnMine) || x.tc.vconnSwap) && s.vconnOk p &&
        (x.sw.st == .closed || x.sw.st == .softstart) then
      s.modTc p fun t => { t with vconnOn := true }
    else s

/-! ## Clocks (R69 to R71) -/

/-- A clock is lost: with the clock monitors off nothing is seen of it (Table 15.3).
DEDUCED, unsafe: log entry 16. -/
def State.clockLost (s : State) (c : ClockId) (bit : Nat) (f : State → State) : State :=
  if s.safeOn 3 && s.coreOn then f ((s.safeEvt bit).postSafety 4 (Config.clockCode c).toNat 0) else s

/-- STS runs on HFO, REFCLK or the PLL being lost (Table 3.3, R498). -/
def State.stsDegraded (s : State) : State := { s with sys.stsStat := setBit s.sys.stsStat 0 }

/-- CORE starts without REFCLK or its PLL, which was lost while CORE was off: the loss is seen now (R70, R498).
DEDUCED, unsafe: log entry 16. -/
def State.clocksFound (s : State) : State :=
  if s.clk.refclk then s.clockLost .refclk 4 fun s => { s with clk.pll := true }.stsDegraded
  else if s.clk.pll then s.clockLost .pll 4 State.stsDegraded else s

end Sys2Proof.Machine
end

