-- ==== Sys2Proof/Machine/TypeC.lean ====
section
/-!
DEFINITION. The Type-C events: terminations, toggling, debounces, Try paths, ErrorRecovery, Rp changes, VCONN
overcurrent and detach (chapter 4). An event whose precondition does not hold changes nothing.
-/
namespace Sys2Proof.Machine

/-- The state presents Rp (Table 4.6). -/
def TcState.presentsRp : TcState → Bool
  | .unattachedSrc | .attachWaitSrc | .attachedSrc | .trySrc | .tryWaitSrc | .audioAccessory | .debugAccSrc
  | .unsupportedAcc => true
  | _ => false

/-- The state presents Rd (Table 4.6). -/
def TcState.presentsRd : TcState → Bool
  | .unattachedSnk | .attachWaitSnk | .attachedSnk | .tryWaitSnk | .trySnk | .debugAccSnk => true
  | _ => false

/-- The class a port gives a termination by what it presents: an S-port reads Ra as Open, a source reads Rp as Open, a
sink reads all but Rp as Open (R101, R102). -/
def classify (e : Bool) (st : TcState) (c : CcTerm) : CcTerm :=
  if st.presentsRp then (match c with
    | .rd => .rd
    | .ra => if e then .ra else .opn
    | _ => .opn)
  else if st.presentsRd then (if isRp c then c else .opn)
  else .opn

/-- Exactly one pin reads Rd. -/
def TcPort.oneRd (t : TcPort) : Bool := (t.cc1 == .rd) != (t.cc2 == .rd)

/-- Exactly one pin reads Rp. -/
def TcPort.oneRp (t : TcPort) : Bool := isRp t.cc1 != isRp t.cc2

/-- The classes can begin an attach in the phase (R111): Rd on either pin or Ra on both for a source, Rp for a sink. -/
def TcPort.begins (t : TcPort) : Bool :=
  if t.state.presentsRp then t.cc1 == .rd || t.cc2 == .rd || (t.cc1 == .ra && t.cc2 == .ra)
  else isRp t.cc1 || isRp t.cc2

/-- Moves to a state whose presented termination differs: the classes are those of the next sample. -/
def State.tcGo (s : State) (p : PortId) (st : TcState) : State :=
  s.modTc p fun t => { t with
    state := st, cc1 := .opn, cc2 := .opn, rpAdv := if st.presentsRp then .dflt else .none, tryDone := false,
    ccHeld := false }

/-- Returns to Unattached from a debounce: the state left for a DRP, the role's own for the others (R99). -/
def State.backTo (s : State) (p : PortId) (st : TcState) : State :=
  let x := s.port p
  s.enterUnattached p (if cfgRole (x.cfgPend.getD x.cfg) == 2 then st else x.restState)

/-- The port presents dead-battery Rd: its group is not powered yet, DBOFF is low, and it is not known to be fused off (R2, R50,
R51). -/
def State.deadRd (s : State) (p : PortId) : Bool :=
  s.sys.boot < 6 && !(s.port p).tc.ready && !s.sys.dboff && (s.sys.boot < 4 || s.porten p)

/-- The CC termination of an Rp level. -/
def rpTerm : RpLvl → CcTerm
  | .dflt => .rpDef | .a15 => .rp15 | .a30 => .rp30 | .none => .opn

/-- In a power role swap the port already presents the termination of its new role: an old source Rd from the end of its discharge or
its FR_Swap (step 6 of Table 6.2, R192), a new source Rp from the partner's PS_RDY (step 6 of Table 6.3). -/
def Port.swapTurned (x : Port) : Bool :=
  x.swap.power && ((x.srcAtt && !x.swap.toSrc && (x.swap.stage == .psRdy || x.swap.stage == .closing)) ||
    (x.snkAtt && x.swap.toSrc && x.swap.stage == .closing))

/-- The port presents Rp, or Rd (Tables 4.2, 4.6). -/
def Port.showsRp (x : Port) : Bool := if x.swapTurned then x.swap.toSrc else x.tc.state.presentsRp
def Port.showsRd (x : Port) : Bool := if x.swapTurned then !x.swap.toSrc else x.tc.state.presentsRd

/-- What a port presents on its CC pins: dead-battery Rd before its group is powered, what its state presents once it is READY, in
SLEEP as its watch termination, and nothing otherwise (R2, R51, Tables 2.10, 4.6). -/
def State.presented (s : State) (p : PortId) : CcTerm :=
  let t := (s.port p).tc
  if s.deadRd p then .rd
  else if !s.portReady p then .opn
  else if (s.port p).showsRp then rpTerm t.rpAdv
  else if (s.port p).showsRd then .rd else .opn

/-- A debounce of an attach runs in the state. -/
def TcState.debounces : TcState → Bool
  | .attachWaitSrc | .attachWaitSnk | .trySrc | .trySnk | .tryWaitSrc | .tryWaitSnk => true
  | _ => false

/-- A sample gives the pins' classes: from Unattached, AttachWait (R111, R114). -/
def TcPort.sample (e : Bool) (t : TcPort) (cc1 cc2 : CcTerm) : TcPort :=
  let n1 := classify e t.state cc1
  let n2 := classify e t.state cc2
  let t := { t with cc1 := n1, cc2 := n2, ccHeld := t.ccHeld && t.cc1 == n1 && t.cc2 == n2 }
  if !t.begins then t
  else match t.state with
    | .unattachedSrc => { t with state := .attachWaitSrc }
    | .unattachedSnk => { t with state := .attachWaitSnk }
    | _ => t

/-- TERMINATION_SEEN (R101, R102, R111, R114): the pins' classes; a debounce restarts where one of them has changed (R107). Before the
ports are powered dead-battery Rd shows an Rp on a pin, which the boot reads (R50, R123).
DESIGN CHOICE, unsafe: log entry 87. -/
def execTerminationSeen (p : PortId) (cc1 cc2 : CcTerm) (s : State) : Out :=
  let s := s.when (s.sys.boot < 6 && !(s.port p).tc.ready) fun s => s.modTc p fun t => { t with
    cc1 := if isRp cc1 && s.deadRd p then cc1 else .opn, cc2 := if isRp cc2 && s.deadRd p then cc2 else .opn }
  .next (s.when (s.portReady p && s.sys.pwr != .sleep) fun s =>
    let t := (s.port p).tc
    let u := t.sample (isE p) cc1 cc2
    let s := if t.state.debounces && (u.cc1 != t.cc1 || u.cc2 != t.cc2) then s.count p.val 0x13 1 else s
    s.modTc p fun _ => u)

/-- DRP_TOGGLE (R111): the next phase, with the configuration that awaited a CC sample. -/
def execDrpToggle (p : PortId) (s : State) : Out :=
  .next (s.when (s.portReady p && cfgRole (s.port p).cfg == 2) fun s =>
    match (s.port p).tc.state with
    | .unattachedSrc => s.backTo p .unattachedSnk
    | .unattachedSnk => s.backTo p .unattachedSrc
    | _ => s)

/-- An accessory or Unsupported.Accessory state entered by a source-role port: no demand, no VBUS (R115, R119).
DEDUCED, unsafe: log entry 24. -/
def State.accessory (s : State) (p : PortId) (st : TcState) : State :=
  let s := s.attach p st false false true
  if st == .unsupportedAcc then s.portEvt p 3 else s

/-- SOURCE_ATTACH_DEBOUNCE (R114, Table 4.9, Table 4.7). -/
def execSourceAttachDebounce (p : PortId) (s : State) : Out :=
  .next (s.when (s.portReady p && (s.port p).tc.state == .attachWaitSrc) fun s =>
    let x := s.port p
    let t := x.tc
    let ra := t.cc1 == .ra || t.cc2 == .ra
    if t.oneRd then
      if cfgTry x.cfg == 2 && cfgRole x.cfg == 2 && !s.early then s.tcGo p .trySnk
      else s.attachSource p .attachedSrc (t.cc2 == .rd) true ra
    else if t.cc1 == .rd then
      if cfgDbgAcc x.cfg then s.attachSource p .debugAccSrc false false false else s.accessory p .unsupportedAcc
    else if t.cc1 == .ra && t.cc2 == .ra then
      s.accessory p (if cfgAudAcc x.cfg then .audioAccessory else .unsupportedAcc)
    else s.backTo p .unattachedSrc)

/-- Attaches as sink, raising DBATT at an attach under R123 (R125). -/
def State.sinkAttached (s : State) (p : PortId) (st : TcState) (orient oriented : Bool) : State :=
  let s := (s.attachSink p st orient oriented).emberNote p 5
  if (s.port p).tc.dbAttach then s.portEvt p 5 else s

/-- The pins' classes have held as sink: for tCCDebounce in AttachWait.SNK and TryWait.SNK, and for tTryCCDebounce in Try.SNK after
tDRPTry (R120, Table 4.10, Table 4.7). With VBUS absent the port stays there until VBUS comes. -/
def State.sinkDebounced (s : State) (p : PortId) : State :=
  let x := s.port p
  let t := x.tc
  let none := !isRp t.cc1 && !isRp t.cc2
  let held := fun (s : State) => s.modTc p fun t => { t with ccHeld := true }
  match t.state with
  | .attachWaitSnk =>
    if none then s.backTo p .unattachedSnk
    else if !t.vbusPres then held s
    else if t.oneRp then
      if cfgTry x.cfg == 1 && cfgRole x.cfg == 2 && !t.dbAttach && !s.early then s.tcGo p .trySrc
      else s.sinkAttached p .attachedSnk (isRp t.cc2) true
    else if cfgDbgAcc x.cfg then
      s.sinkAttached p .debugAccSnk (rpCode (ccRp t.cc1) < rpCode (ccRp t.cc2)) (t.cc1 != t.cc2)
    else s.portEvt p 3
  | .tryWaitSnk =>
    if none then s.backTo p .unattachedSnk
    else if !t.vbusPres then held s
    else if t.oneRp then s.sinkAttached p .attachedSnk (isRp t.cc2) true
    else s
  | .trySnk =>
    if t.tryDone && t.oneRp then (if t.vbusPres then s.sinkAttached p .attachedSnk (isRp t.cc2) true else held s) else s
  | _ => s

/-- SINK_ATTACH_DEBOUNCE. -/
def execSinkAttachDebounce (p : PortId) (s : State) : Out :=
  .next (s.when (s.portReady p && (s.port p).tc.state != .trySnk) fun s => s.sinkDebounced p)

/-- TRY_DEBOUNCE_COMPLETE (Table 4.7): Try.SRC, Try.SNK after tDRPTry, and TryWait.SRC. -/
def execTryDebounceComplete (p : PortId) (s : State) : Out :=
  .next (s.when (s.portReady p) fun s =>
    let t := (s.port p).tc
    match t.state with
    | .trySrc | .tryWaitSrc =>
      if t.oneRd then s.attachSource p .attachedSrc (t.cc2 == .rd) true (t.cc1 == .ra || t.cc2 == .ra) else s
    | .trySnk => s.sinkDebounced p
    | _ => s)

/-- DRP_TRY_EXPIRY (Table 4.7): tDRPTry, or with `wait` tDRPTryWait. -/
def execDrpTryExpiry (p : PortId) (wait : Bool) (s : State) : Out :=
  .next (s.when (s.portReady p) fun s =>
    match (s.port p).tc.state with
    | .trySrc => if wait then s else (s.tcGo p .tryWaitSnk).portEvt p 7
    | .trySnk => if wait then (s.tcGo p .tryWaitSrc).portEvt p 7 else s.modTc p fun t => { t with tryDone := true }
    | _ => s)

/-- TRY_TIMEOUT (Table 4.7). -/
def execTryTimeout (p : PortId) (s : State) : Out :=
  .next (s.when (s.portReady p && (s.port p).tc.state == .tryWaitSrc) fun s => s.backTo p .unattachedSnk)

/-- A port leaves ErrorRecovery (R109, R228, R229, R517): one whose monitors still disagree, or whose trip-wire lines still agree (a
free value: no event tells it), is withdrawn, one that came from Disabled returns there, and a third protective
opening is followed by HOLDOFF, once a discharge has ended.
DEDUCED, unsafe: log entry 22. DESIGN CHOICE, safe: log entry 31. DEDUCED, unsafe: log entry 92. -/
def State.recovered (s : State) (p : PortId) : State :=
  let x := s.port p
  let agree := x.sw.tripWire && s.freeNat % 2 == 1
  let s := (s.when x.sw.tripWire State.drawn).modSw p fun w => { w with tripWire := agree }
  if x.sw.monDis || agree then s.withdraw p 0xFFFF false
  else if x.tc.erBack then (s.modTc p fun t => { t with state := .disabled, erBack := false }).prunDone p [2] 0
  else
    let s := s.toUnattached p
    s.when (x.sw.holdNext && x.sw.st != .discharge) fun s => s.modSw p fun w => { w with st := .holdoff, holdNext := false }

/-- ERROR_RECOVERY_END (R109). -/
def execErrorRecoveryEnd (p : PortId) (s : State) : Out :=
  .next (s.when (s.portReady p && (s.port p).tc.state == .errorRecovery) fun s => s.recovered p)

/-- RP_VALUE_CHANGE (R121): RPSEEN, and with no contract RPCHG and the input limit. -/
def execRpValueChange (p : PortId) (l : RpLvl) (s : State) : Out :=
  .next (s.when (s.portReady p && (s.port p).snkAtt && l != .none) fun s =>
    let x := s.port p
    let s := s.modTc p fun t => { t with rpSeen := l }
    if x.pd.hasContract then s
    else (if x.tc.rpSeen != l then s.portEvt p 2 else s).setIlim p)

/-- VCONN_OVERCURRENT (R129): the cable is treated as not discovered; an EPR source sends Hard Reset (R169). -/
def execVconnOvercurrent (p : PortId) (s : State) : Out :=
  .next (s.when (s.portReady p && (s.port p).tc.vconnOn) fun s =>
    let s := ((s.modTc p fun t => { t with vconnOn := false, vconnTrip := true }).portEvt p 4).modPd p fun d => { d with
      cableOk := false, cable5A := false, cableEpr := false, cableV := 0 }
    s.when ((s.port p).pd.epr && (s.port p).pdSrc) fun s => s.hardReset p)

/-- The level below which a sink's VBUS qualifies a detach, in mV, for a contract voltage in 10 mV (Table 4.12). The table names no
PPS or AVS contract at exactly 5.00 V: it is taken as 5 V fixed.
DESIGN CHOICE, unsafe: log entry 105. -/
def detachLevel (ctype : BitVec 2) (v : Nat) : Nat :=
  if ctype = 3 then 3670 else if v < 500 then v * 15 / 2 else if v = 500 then 3670 else 4750

/-- VBUS qualifies a detach (R130, R131): the level of the contract; in a rising transition the old contract's until the
slew has begun, then the lower of the new contract's and the old voltage less 0.25 V; none in a planned lowering or in
a Hard Reset. -/
def Port.vbusDetach (x : Port) : Bool :=
  if !x.snkAtt || x.pd.hr != .none then false
  else match x.pd.contract, x.pd.nxt with
    | .transition, some t =>
      if x.pd.oldV < t.v then
        if x.pd.sinkSlew then decide (x.tc.vbusMv < min (detachLevel t.ctype t.v) (x.pd.oldV * 10 - 250))
        else decide (x.tc.vbusMv < detachLevel x.pd.terms.ctype x.pd.oldV)
      else if t.v < x.pd.oldV then false
      else decide (x.tc.vbusMv < detachLevel t.ctype t.v)
    | .explicit, _ => decide (x.tc.vbusMv < detachLevel x.pd.terms.ctype x.pd.terms.v)
    | _, _ => decide (x.tc.vbusMv < 3670)

/-- The TRANSITION_DETACH record (R288, Table 17.9). -/
def State.postTransitionDetach (s : State) (p : PortId) (byVbus : Bool) (us : Nat) : State :=
  let x := s.port p
  let t := x.pd.nxt.getD x.pd.terms
  (s.cvEvt p 3).postRec 0x06 ([byteOf p.val 0,
      byteOf (x.snkAtt.toNat + t.ctype.toNat * 2 + x.pd.sinkSlew.toNat * 8 + byVbus.toNat * 16) 0] ++
    leBytes 2 x.pd.oldV ++ leBytes 2 t.v ++ leBytes 4 (if x.pd.sinkSlew then us else 0))

/-- A detach qualifies: the pin that must read Open does, or VBUS lies below its level; not while a power role swap runs (R130, R187). -/
def State.detaches (s : State) (p : PortId) (byVbus : Bool) : Bool :=
  let x := s.port p
  s.portReady p && x.tc.state.attached && !x.tc.leaving && !x.swap.running && (!byVbus || x.vbusDetach)

/-- A detach (R130, R132, R287). In a state with no orientation, in which either pin may have opened, both then read Open.
DESIGN CHOICE, unsafe: log entry 106. -/
def State.gotDetach (s : State) (p : PortId) (byVbus : Bool) (us : Nat) : State :=
  s.when (s.detaches p byVbus) fun s =>
    let x := s.port p
    let s := if byVbus then s else s.modTc p fun t => { t with
      cc1 := if t.oriented && t.orient then t.cc1 else .opn, cc2 := if t.oriented && !t.orient then t.cc2 else .opn }
    let s := s.when (x.pd.contract == .transition) fun s => s.postTransitionDetach p byVbus us
    let s := ((s.leaveAttach p).portEvt p 1).count p.val 0x09 1
    (s.modTc p fun t => { t with leaving := true }).finishLeaving p

/-- DBOFF_CHANGE (R50): dead-battery Rd is off while DBOFF is high, and an Rp seen through it is seen no longer. -/
def execDboffChange (high : Bool) (s : State) : Out :=
  let t := s.when high fun s => s.eachPort fun s p =>
    s.when (s.deadRd p) fun s => s.modTc p fun t => { t with cc1 := .opn, cc2 := .opn }
  .next { t with sys.dboff := high }

end Sys2Proof.Machine
end

