-- ==== Sys2Proof/Machine/Ember.lean ====
section
/-!
DEFINITION. The Ember start: its conditions, the choice of a donor, its later steps, abandonment and retry (R86 to R98), and
what abandons it: the loss of HFO, the donor's Reject, Hard Reset or detach, and its partner's time limits.
-/
namespace Sys2Proof.Machine

/-! ## Conditions and the donor (Table 3.4, R88) -/

/-- EMBERPOL (Table 3.8). -/
def State.emberPol (s : State) : Nat := s.custField 0x0C0 5 4

/-- Ember start is forbidden by the strap, by EMBERPOL, or by EMBER_CFG (R86, R98, Table 13.13). -/
def State.emberForbidden (s : State) : Bool := !s.sys.emberen || s.emberPol == 3 || s.ember.forbid

/-- A start input carries at least 4.5 V: VHB, or VBUS of an enabled port. -/
def State.startInput (s : State) : Bool :=
  4500 ≤ s.sup.vhbMv || allPorts.any fun p => s.porten p && Nat.ble 4500 (s.port p).tc.vbusMv

/-- A port qualifies as donor: Rp on exactly one CC pin, allowed by EMBERPOL, EMBERMASK and DONORMASK, and not abandoned before
(R88, R95). -/
def State.donorOk (s : State) (p : PortId) : Bool :=
  let t := (s.port p).tc
  s.porten p && 4500 ≤ t.vbusMv && (isRp t.cc1 != isRp t.cc2) && s.ember.mask.getLsbD p.val &&
  (s.emberPol != 2 || s.custField 0x0C1 p.val p.val == 1) && !s.ember.excluded.contains p

/-- The donor's ceiling in coins: the lower of EMBERPWR and PWRMAX (Table 3.8, Table 13.13). -/
def State.emberCoins (s : State) : Nat := 150 * (min (s.custField 0x0C0 9 8) s.ember.pwrMax.toNat + 1)

/-- Step 4: the lowest-numbered qualified port is the donor, and its CC debounce begins. With the E-ports numbered lowest, every
EMBERPOL gives this order. It acts on the Ember account's grant (R89).
DEDUCED, unsafe: log entry 19. -/
def State.emberChoose (s : State) : State :=
  match allPorts.find? s.donorOk with
  | none => s
  | some p =>
    let s := { s with ember := { s.ember with step := 4, donor := some p } }
    (s.modTc p fun t => { t with ready := true, state := .attachWaitSnk }).modLg p fun l => { l with
      grant := s.emberCoins, sink := true }

/-- The local-bus target of EMBERBUS in volts (Table 3.8).
DEDUCED, unsafe: log entry 20. -/
def emberBus (v : Nat) : Nat := if v = 0 then 24 else if v = 1 then 18 else if v = 2 then 36 else 48

/-- Steps 2 to 4 of Table 3.9: the start regulator powers AON, the straps are sampled where they are due, and CORE starts. A house bus
at 18 V or more is the donor (R87), else a port is chosen. A start that is forbidden leaves the regulator off again, and AON without
a source loses what it holds (R98, R18). The forming target becomes the EMBERBUS voltage (R278).
DEDUCED, unsafe: log entry 13. DEDUCED, unsafe: log entry 19. -/
def State.emberBegin (s : State) : State :=
  let s' := s.sampleStraps.seedRng
  let t := s'.coreStart
  if !t.startInput then s
  else if t.emberForbidden then ({ s' with ember.stopped := true, ember.reg := false, sys.resetLow := false } : State).aonCheck
  else
    let t := { t with
      sys := { t.sys with
        pwr := .ember, boot := 4, cause := 4, resetLow := false, mainenLow := true, drvenLow := true },
      sup := { t.sup with vdrvA := .below, vdrvB := .below },
      ember := { t.ember with step := 3, donor := none, reg := true }, ledger.vform := emberBus (t.custField 0x0C0 7 6) }.stsLfo
    if 18000 ≤ t.sup.vhbMv then { t with ember.step := 12, sys.mainenLow := false } else t.emberChoose

/-- In OFF without VMAIN, and not stopped, an Ember start may begin (R86, R95). -/
def State.emberMayBegin (s : State) : Bool := s.sys.pwr == .off && s.sup.vmain != .ok && !s.ember.stopped

/-- EMBER_START (R86, R87, R97, R98), or the choice alone where no port qualified before.
DEDUCED, unsafe: log entry 19. -/
def execEmberStart (s : State) : Out :=
  .next (
    if s.sys.pwr == .ember && s.ember.step == 3 && s.ember.donor.isNone then s.emberChoose
    else if s.emberMayBegin && s.ember.abandoned == 0 then s.emberBegin
    else s)

/-! ## Its later steps -/

/-- EMBER_ISOLATION_DWELL: step 11, and the donor's converter starts forming (R91). -/
def execEmberIsolationDwell (s : State) : Out :=
  .next (match s.ember.donor with
    | some p =>
      s.when (s.sys.pwr == .ember && s.ember.step == 10) fun s =>
        let s := { s with ember.step := 11 }
        ((s.convStart p 3 (s.ledger.vform * 50)).modCv p fun c => { c with ember := c.dir == 3 }).setIlim p
    | none => s)

/-- EMBER_VMAIN_VALID: step 15, with or without islanding (R96). The start regulator goes off once the donor's gate drive has moved to
VDRV, and the abandonments before a start that completes count no longer (R95). A KILL that awaits VMAIN runs before the boot goes
on (R543). -/
def execEmberVmainValid (s : State) : Out :=
  .next (s.when (s.onStart && s.sup.vmain == .ok) fun s =>
    ({ s with
      ember := { s.ember with
        step := 15, excluded := [], abandoned := 0,
        reg := s.ember.donor.any fun (p : PortId) => s.vdrv (dieOf p) != .ok },
      sys := { s.sys with boot := 5, mainenLow := false, drvenLow := false } } : State).clocksFound)

/-! ## Abandonment (R94, R95) -/

/-- The code of a cause in the EMBER record. -/
def emberCode : EmberCause → Byte
  | .stepLimit => 1
  | .donorDetached => 2
  | .hfoLost => 3
  | .rejectOrHardReset => 4

/-- The start is abandoned: the device enters OFF with the start regulator running, the donor's port in ErrorRecovery; the third
abandonment stops the regulator (R72, R94, R95).
DEDUCED, unsafe: log entry 19. -/
def State.emberAbandon (s : State) (c : EmberCause) : State :=
  let e := s.ember
  if s.onStart && (e.donor.isSome || 12 ≤ e.step || (s.sys.mainenLow && (c == .stepLimit || c == .hfoLost))) then
    let n := e.abandoned + 1
    let t := ({ s with ember := { e with
      abandoned := n, stopped := 3 ≤ n, reg := n < 3, excluded := e.excluded ++ e.donor.toList,
      latched := some (emberCode c, (e.donor.map fun (p : PortId) => byteOf p.val 0).getD 0xFF, byteOf e.step 0, byteOf n 0)
      } } : State).goOff
    match e.donor with
    | some p => t.modTc p fun x => { x with state := .errorRecovery }
    | none => t
  else s

/-- EMBER_ABANDON. -/
def execEmberAbandon (c : EmberCause) (s : State) : Out := .next (s.emberAbandon c)

/-- EMBER_RETRY: 1 s after an abandonment the device enters EMBER and chooses again (R95).
DEDUCED, unsafe: log entry 19. -/
def execEmberRetry (s : State) : Out :=
  .next (s.when (s.emberMayBegin && 0 < s.ember.abandoned) State.emberBegin)

/-- START_INPUTS_FALL: every start input is below 4.0 V: the start regulator has lost its source, with it a start under way and an AON
that nothing else powers, and a stopped one may run again (R18, R95).
DEDUCED, unsafe: log entry 19. -/
def execStartInputsFall (s : State) : Out :=
  .next (s.when (s.sup.vhbMv < 4000 && allPorts.all fun p => Nat.blt (s.port p).tc.vbusMv 4000) fun s =>
    let s := if s.onStart && s.sup.vmain != .ok then s.goOff else s
    ({ s with ember := { s.ember with stopped := false, reg := false, excluded := [], abandoned := 0 } } : State).aonCheck)

/-! ## HFO (Table 3.3) -/

/-- HFO_LOSS: the port engines run from the backup clock; an Ember start has none and is abandoned.
DEDUCED, unsafe: log entry 16. -/
def execHfoLoss (s : State) : Out :=
  .next (s.when (!s.clk.hfo) fun s =>
    ({ s with clk.hfo := true } : State).clockLost .hfo 4 fun s => s.emberAbandon .hfoLost)

/-! ## What the donor's partner does (R94) -/

/-- The port is the donor of an Ember start. -/
def State.donorOnStart (s : State) (p : PortId) : Bool := s.onStart && s.ember.donor == some p

/-- REJECT (Table 5.2); the donor's abandons an Ember start. -/
def execReject (p : PortId) (h : RxHdr) (s : State) : Out :=
  .next ((s.gotReject p h).when (s.donorOnStart p && h.sop == .sop && s.receives p h.sop && s.fresh p h) fun t =>
    t.emberAbandon .rejectOrHardReset)

/-- HARD_RESET received (R175); the donor's abandons an Ember start. -/
def execHardReset (p : PortId) (s : State) : Out :=
  .next ((s.gotHardReset p).when (s.donorOnStart p && s.hrLive p) fun t => t.emberAbandon .rejectOrHardReset)

/-- DETACH (R130, R132, R287); the donor's abandons an Ember start. -/
def execDetach (p : PortId) (byVbus : Bool) (us : Nat) (s : State) : Out :=
  .next ((s.gotDetach p byVbus us).when (s.donorOnStart p && s.detaches p byVbus) fun t => t.emberAbandon .donorDetached)

/-! ## The donor's time limits (steps 8 and 9 of Table 3.9) -/

/-- SENDER_RESPONSE_TIMEOUT; at the donor step 8 has exceeded its limit (R94). -/
def execSenderResponseTimeout (p : PortId) (s : State) : Out :=
  .next (s.noResponse p |>.when (s.donorOnStart p && s.pdLive p && (s.port p).pd.tx.isNone && (s.port p).requested) fun t => t.emberAbandon .stepLimit)

/-- PS_TRANSITION_TIMEOUT; at the donor step 9 has exceeded its limit (R94). -/
def execPsTransitionTimeout (p : PortId) (s : State) : Out :=
  .next (s.noPsRdy p |>.when (s.donorOnStart p && s.awaitsPsRdy p) fun t =>
    t.emberAbandon .stepLimit)

end Sys2Proof.Machine
end

