-- ==== Sys2Proof/Machine/Boot.lean ====
section
/-!
DEFINITION. The cold boot of Table 3.6: the fuse read, safe defaults and baseline, the saved configuration, and the blocks'
READY bits (R79 to R83, R123, R241, R401, R435, R537, R544, R547, R572).
DEDUCED, unsafe: log entry 9.
-/
namespace Sys2Proof.Machine

/-! ## Steps 1 to 5 -/

/-- The straps are sampled where they are due (R48); an AON that kept its supply keeps them. With VMAIN valid the start regulator is
off (R18). A KILL that was pending is programmed before step 5 (R543). -/
def State.bootStart (s : State) (e : BootEnv) : State :=
  let s := { s with sys := { s.sys with straps := e.straps } }.sampleStraps
  let s := { s with
    ember.reg := false, sys := { s.sys with pwr := .run, boot := 5, resetLow := false, emberBoot := false } }.coreStart.seedRng.clocksFound
  if s.alarm.killPend then s.killProgram else s

/-! ## Steps 6 and 7 -/

/-- One port's safe default (R83), or an attach from a dead battery (R123); its READY bit sets. The Ember donor runs under its own
sequence.
DEDUCED, unsafe: log entry 20. -/
def State.bootPort (s : State) (p : PortId) : State :=
  if !s.porten p || s.ember.donor == some p then s
  else
    let r := s.saferole p
    s.modTc p fun t =>
      let db := r != 3 && 4000 ≤ t.vbusMv && t.oneRp
      { t with
        ready := true, dbAttach := db, cc1 := if db then t.cc1 else .opn, cc2 := if db then t.cc2 else .opn,
        state := if db then .attachWaitSnk else if r == 3 then .disabled else if r == 0 then .unattachedSrc else .unattachedSnk,
        rpAdv := if !db && r == 0 then .dflt else .none }

/-- What the baseline found on a port (R241, R242): failed groups go out of service, but only where phases B and C were run (R238),
and a shorted FET or too many of them hold the port (R82, R246). -/
def State.bootFault (s : State) (f : BaseFault) : State :=
  let p := f.port
  if !s.porten p || s.ember.donor == some p then s
  else
    let out := if s.auditAll p then f.groups.map (·.val) else []
    let s := s.modSw p fun w => { w with
      outGroups := (w.outGroups ++ out).eraseDups, shorted := w.shorted || f.shorted.isSome }
    let s := s.when (!out.isEmpty) fun s => s.swEvt p 4
    let s := s.when f.shorted.isSome fun s => s.swEvt p 5
    let s := s.modSw p fun w => { w with auditPos := w.nextCell 32768 w.auditPos }
    let h := (s.port p).sw.health
    if h == 2 || h == 3 then s.withdraw p ((f.shorted.map fun (g : Fin 128) => g.val * 256).getD 0xFFFF) true else s

/-- Steps 6 and 7, a port whose trip-wire lines agree entering ErrorRecovery (R517); for an Ember start a pending KILL has VMAIN only now.
DEDUCED, unsafe: log entry 10. -/
def State.bootPorts (s : State) (e : BootEnv) : State :=
  let s := if s.alarm.killPend then s.killProgram else s
  let s := e.faults.foldl State.bootFault (s.eachPort State.bootPort)
  let s := s.eachPort fun s p => s.when ((s.port p).sw.tripWire && s.portReady p) fun s => s.errorRecovery p
  { s with sys.boot := 7 }

/-! ## Step 8 -/

/-- A saved ALARM_CFG entry is merged with what AON holds (R547). -/
def AlmCfg.merge (c : AlmCfg) (pl : List Byte) : AlmCfg :=
  let lim := nth pl 3
  { action := if c.action.toNat < (nth pl 1).toNat then (nth pl 1).truncate 2 else c.action,
    lock := c.lock || (nth pl 2).getLsbD 0,
    limit := if c.limit = 0 then lim else if lim = 0 then c.limit else if lim < c.limit then lim else c.limit }

/-- One saved entry is loaded as though its command had been received (R435).
DEDUCED, unsafe: log entry 12. -/
def State.loadEntry (s : State) (e : Saved) : State :=
  if e.op == 0x11 then
    (match portOf (byteOf e.sel 0) with
     | some p => if nth e.payload 0 == 1 then (s.portEnable p).1 else s.portDisable p
     | none => s)
  else if e.op == 0x79 then
    { s with alarm.cfg := s.alarm.cfg.mapIdx fun j c => if j == e.sel then c.merge e.payload else c }
  else
    let target := if portOps.contains e.op.toNat then byteOf e.sel 0 else 0xFF
    { (s.runBody (cmdPacket ⟨0, 0, target, 0⟩ e.op e.payload)).1 with store := s.store }

/-- The opcodes of saved entries in the order of loading: for a port PORT_CFG, its tables, then its enable state. -/
def loadOrder : List Byte :=
  [0x10, 0x20, 0x21, 0x11, 0x30, 0x31, 0x41, 0x48, 0x50, 0x51, 0x52, 0x53, 0x60, 0x79, 0x80, 0x82, 0x91]

/-- The entries marked by DEVICE_STATUS go (R438), and the rest are loaded. A port that is not READY takes its entries as
well, but is not enabled.
DEDUCED, unsafe: log entry 12. -/
def State.loadConfig (s : State) : State :=
  let st := s.store
  let kept := st.entries.filter fun e => !st.erase.contains (e.op, e.sel)
  let s := { s with store := ⟨kept, []⟩ }
  let able := fun (s : State) (e : Saved) => e.op != 0x11 || (match portOf (byteOf e.sel 0) with
    | some p => s.portReady p
    | none => false)
  loadOrder.foldl (fun s op =>
    (kept.filter fun (e : Saved) => e.op == op).foldl (fun s e => if able s e then s.loadEntry e else s) s) s

/-- The patch is applied where its signature is good (R80), but for an interpreter held on ROM firmware (R516). -/
def State.bootPatch (s : State) : State :=
  let f := s.fw
  if f.image.isEmpty || s.safety.romOnly then s
  else if Config.fwSigOk f.image then { s with fw := { f with active := Config.fwVersion f.image, lastRes := 1 } }
  else { s with fw := { f with lastRes := 2 } }.postFw 3 0 (Config.fwVersion f.image)

/-- Step 8: the interpreter is READY. After an Ember start the device is then in RUN (step 17 of Table 3.9).
DEDUCED, unsafe: log entry 10. -/
def State.bootInterp (s : State) : State :=
  let s := s.loadConfig.bootPatch
  let em := s.sys.pwr == .ember
  let s := { s with
    ember.step := if em then 17 else s.ember.step,
    sys := { s.sys with
      boot := 8, interp := true, interpSeen := true, emberBoot := em, pwr := if em then .run else s.sys.pwr } }
  s.drain

/-! ## Step 12: the Strongbox (R572) -/

/-- A slot holds a committed record with a sequence number. -/
def Sbox.holds (b : Sbox) (slot : Nat) (q : Word) : Bool := committed (b.slot slot) && recSeq (b.slot slot) == q

/-- Records committed after the header was written are found. -/
def Sbox.advance : Nat → Sbox → Sbox
  | 0, b => b
  | n + 1, b =>
    if b.pinned < 256 && b.holds b.pinned b.nextSeq then
      Sbox.advance n { b with pinned := b.pinned + 1, nextSeq := seqNext b.nextSeq }
    else if b.holds b.jnext b.nextSeq then Sbox.advance n { b with jnext := jNext b.jnext, nextSeq := seqNext b.nextSeq }
    else b

/-- The later of two header copies, and whether the other is invalid or older. -/
def pickHdr : Option Hdr → Option Hdr → Option (Hdr × Bool)
  | none, none => none
  | some a, none => some (a, true)
  | none, some b => some (b, true)
  | some a, some b => if b.gen < a.gen then some (a, true) else if a.gen < b.gen then some (b, true) else some (a, false)

/-- The newest of some records with their slots, in serial order. -/
def newestOf : List (Nat × List Byte) → Option (Nat × Word)
  | [] => none
  | (i, r) :: l => match newestOf l with
    | none => some (i, recSeq r)
    | some (j, q) => if seqLe q (recSeq r) then some (i, recSeq r) else some (j, q)

/-- Every slot is scanned, neither header being valid. -/
def Sbox.fullScanned (b : Sbox) : Sbox :=
  let l := (b.listed.map fun i => (i, b.slot i)).filter fun x => committed x.2
  { b with
    fullScan := true, hdrRepair := false, gen := 0,
    nextSeq := match newestOf l with
      | some (_, q) => seqNext q
      | none => 1,
    pinned := (l.filter fun x => x.1 < 256).length,
    jnext := match newestOf (l.filter fun x => 256 ≤ x.1) with
      | some (i, _) => jNext i
      | none => 256 }

/-- The scan of the headers. -/
def Sbox.scan (b : Sbox) : Sbox :=
  match pickHdr b.hdrA b.hdrB with
  | none => b.fullScanned
  | some (h, fix) =>
    Sbox.advance 8193 { b with
      fullScan := false, hdrRepair := fix, hdrA := some h, hdrB := some h, gen := h.gen, nextSeq := h.nextSeq,
      pinned := h.pinned, jnext := h.jnext }

/-- SEQ of the newest record, 0 when there is none (SBSEQ). -/
def Sbox.seqNow (b : Sbox) : Word :=
  if b.records.isEmpty then 0 else if b.nextSeq = 1 then 0xFFFFFFFF else b.nextSeq - 1

/-! ## Steps 10 to 12 -/

/-- SEALED_INCOMPLETE of FACTORY, IDENTITY and CUSTOMER. -/
def State.sealedBits (s : State) : Byte :=
  byteOf (flag s.fuse.sealedF 0 + flag s.fuse.sealedI 1 + flag s.fuse.sealedC 2) 0

/-- The BOOT record (Table 17.9). -/
def State.postBoot (s : State) : State :=
  s.postRec 0x01 (leBytes 8 s.sys.sts.toNat ++ [s.sys.cause] ++ leBytes 4 s.fw.active.toNat ++
    leBytes 2 s.fuse.marginal.length ++ [byteOf s.fuse.mapped.length 0, s.sealedBits, byteOf s.attState 0])

/-- The FUSE_BOOT record, where a word was marginal or a region SEALED_INCOMPLETE. -/
def State.postFuseBoot (s : State) : State :=
  let m := s.fuse.marginal
  if m.isEmpty && s.sealedBits == 0 then s
  else
    let adr := (m.take 16).flatMap (leBytes 2)
    s.postRec 0x0C (leBytes 2 m.length ++ [s.sealedBits, byteOf s.fuse.mapBad 0] ++ adr ++ List.replicate (32 - adr.length) 0)

/-- What AON latched while no record could be posted (R64, R94, R544).
DESIGN CHOICE, unsafe: log entry 11. -/
def State.postLatched (s : State) : State :=
  let a := s.alarm
  let s := if a.latched.isEmpty then s
    else
      let s := a.latched.foldl (fun s (x : Byte × Byte × BitVec 64) =>
        s.postRec 0x0A (x.1 :: x.2.1 :: 1 :: leBytes 8 x.2.2.toNat)) s
      { s.postRec 0x0B (leBytes 4 a.beyond) with alarm.latched := [], alarm.beyond := 0 }.almEvt 8
  match s.safety.supLatch with
  | some (bit, hi) => ({ s with safety.supLatch := none }.safeEvt bit).postRec 0x02 [byteOf bit 0, if hi then 3 else 2]
  | none => s

/-- The EMBER record of an abandonment. -/
def State.postEmber (s : State) : State :=
  match s.ember.latched with
  | some (c, d, k, n) => { s.postRec 0x11 [c, d, k, n] with ember.latched := none }
  | none => s

/-- Step 12: the Strongbox is READY (R572). -/
def State.sboxBoot (s : State) : State :=
  let b := s.sbox.scan
  { s with sbox := { b with newest := b.seqNow }, sys.sboxReady := true, sys.boot := 12 }

/-- Steps 9 to 12, and Ridgeline listens (step 13): the Ledger's first decision cycle comes first (R79). A bus whose clear runs is
READY at its end (R401).
DEDUCED, unsafe: log entry 10. DESIGN CHOICE, unsafe: log entry 11. -/
def State.bootFull (s : State) : State :=
  let s := if s.ledger.ready || s.ledger.stuck then s else s.cycleAgreed
  let s := { s with
    sys.perfReady := true, pbus := s.pbus.map fun (b : Pbus) => { b with ready := b.ready || !b.clearing } }
  let s := s.vaultBoot.sboxBoot
  let s := s.postLatched.postFuseBoot.postBoot.postEmber
  if s.ring.link = 0 then s.ringListen else s

/-- COLD_BOOT: as far as the stage says, from wherever an earlier event of this boot has come. -/
def execColdBoot (e : BootEnv) (s : State) : Out :=
  .next (
    let ember := s.sys.pwr == .ember
    let able := if ember then 15 ≤ s.ember.step && s.sup.vdrvA == .ok && s.sup.vdrvB == .ok
      else s.sup.vmain == .ok && s.sup.vdcore == .ok && s.sup.vdaon == .ok
    s.when (able && s.sys.boot < 12) fun s =>
      let s := if s.sys.boot < 5 then s.bootStart e else s
      let s := if s.sys.boot < 7 then s.bootPorts e else s
      let s := if e.stage != .ports && s.sys.boot < 8 then s.bootInterp else s
      if e.stage == .full && s.sys.boot < 12 then s.bootFull else s)

end Sys2Proof.Machine
end

