-- ==== Sys2Proof/Machine/Commands.lean ====
section
/-!
DEFINITION. The command rows: each hands a packet of its opcode over (R382, R415), and the interpreter does the rest; and the
ends of the long operations (R422, R423).
DEDUCED, unsafe: log entry 89.
-/
namespace Sys2Proof.Machine

/-! ## The commands of Table 13.1 -/

/-- HELLO (R418). -/
def execHello (h : CmdHdr) (pl : List Byte) (s : State) : Out := .next (s.submit (cmdPacket h 0x00 pl))

/-- ABORT (R427). -/
def execAbort (h : CmdHdr) (pl : List Byte) (s : State) : Out := .next (s.submit (cmdPacket h 0x01 pl))

/-- ECHO (R437). -/
def execEcho (h : CmdHdr) (pl : List Byte) (s : State) : Out := .next (s.submit (cmdPacket h 0x02 pl))

/-- DEVICE_STATUS (R438). -/
def execDeviceStatus (h : CmdHdr) (pl : List Byte) (s : State) : Out := .next (s.submit (cmdPacket h 0x03 pl))

/-- PORT_CFG (R439). -/
def execPortCfg (h : CmdHdr) (pl : List Byte) (s : State) : Out := .next (s.submit (cmdPacket h 0x10 pl))

/-- PORT_ENABLE (R440). -/
def execPortEnable (h : CmdHdr) (pl : List Byte) (s : State) : Out := .next (s.submit (cmdPacket h 0x11 pl))

/-- PORT_DISABLE (R440). -/
def execPortDisable (h : CmdHdr) (pl : List Byte) (s : State) : Out := .next (s.submit (cmdPacket h 0x12 pl))

/-- PORT_STATUS (R441). -/
def execPortStatus (h : CmdHdr) (pl : List Byte) (s : State) : Out := .next (s.submit (cmdPacket h 0x13 pl))

/-- PORT_RESET (R442). -/
def execPortReset (h : CmdHdr) (pl : List Byte) (s : State) : Out := .next (s.submit (cmdPacket h 0x14 pl))

/-- PDO_SET (R443). -/
def execPdoSet (h : CmdHdr) (pl : List Byte) (s : State) : Out := .next (s.submit (cmdPacket h 0x20 pl))

/-- SINK_PREF_SET (R444). -/
def execSinkPrefSet (h : CmdHdr) (pl : List Byte) (s : State) : Out := .next (s.submit (cmdPacket h 0x21 pl))

/-- VDM_SEND (R446). -/
def execVdmSend (h : CmdHdr) (pl : List Byte) (s : State) : Out := .next (s.submit (cmdPacket h 0x22 pl))

/-- SWAP_REQ (R447). -/
def execSwapReq (h : CmdHdr) (pl : List Byte) (s : State) : Out := .next (s.submit (cmdPacket h 0x23 pl))

/-- LEDGER_CFG (R448). -/
def execLedgerCfg (h : CmdHdr) (pl : List Byte) (s : State) : Out := .next (s.submit (cmdPacket h 0x30 pl))

/-- LEDGER_CLASS (R449). -/
def execLedgerClass (h : CmdHdr) (pl : List Byte) (s : State) : Out := .next (s.submit (cmdPacket h 0x31 pl))

/-- LEDGER_QUERY (R450). -/
def execLedgerQuery (h : CmdHdr) (pl : List Byte) (s : State) : Out := .next (s.submit (cmdPacket h 0x32 pl))

/-- LEDGER_RELEASE (R451). -/
def execLedgerRelease (h : CmdHdr) (pl : List Byte) (s : State) : Out := .next (s.submit (cmdPacket h 0x33 pl))

/-- BRIDGE_SET (R452). -/
def execBridgeSet (h : CmdHdr) (pl : List Byte) (s : State) : Out := .next (s.submit (cmdPacket h 0x40 pl))

/-- EMBER_CFG (R453). -/
def execEmberCfg (h : CmdHdr) (pl : List Byte) (s : State) : Out := .next (s.submit (cmdPacket h 0x41 pl))

/-- ISLAND_SET (R454). -/
def execIslandSet (h : CmdHdr) (pl : List Byte) (s : State) : Out := .next (s.submit (cmdPacket h 0x42 pl))

/-- RING_CFG (R455). -/
def execRingCfg (h : CmdHdr) (pl : List Byte) (s : State) : Out := .next (s.submit (cmdPacket h 0x48 pl))

/-- RING_STATUS (R456). -/
def execRingStatus (h : CmdHdr) (pl : List Byte) (s : State) : Out := .next (s.submit (cmdPacket h 0x49 pl))

/-- RING_BYPASS (R457). -/
def execRingBypass (h : CmdHdr) (pl : List Byte) (s : State) : Out := .next (s.submit (cmdPacket h 0x4A pl))

/-- TMR_CFG (R458). -/
def execTmrCfg (h : CmdHdr) (pl : List Byte) (s : State) : Out := .next (s.submit (cmdPacket h 0x50 pl))

/-- TMR_CMP (R459). -/
def execTmrCmp (h : CmdHdr) (pl : List Byte) (s : State) : Out := .next (s.submit (cmdPacket h 0x51 pl))

/-- TMR_LINK (R460). -/
def execTmrLink (h : CmdHdr) (pl : List Byte) (s : State) : Out := .next (s.submit (cmdPacket h 0x52 pl))

/-- CMP_CFG (R461). -/
def execCmpCfg (h : CmdHdr) (pl : List Byte) (s : State) : Out := .next (s.submit (cmdPacket h 0x53 pl))

/-- PBUS_CFG (R462). -/
def execPbusCfg (h : CmdHdr) (pl : List Byte) (s : State) : Out := .next (s.submit (cmdPacket h 0x60 pl))

/-- PBUS_XFER (R463). -/
def execPbusXfer (h : CmdHdr) (pl : List Byte) (s : State) : Out := .next (s.submit (cmdPacket h 0x61 pl))

/-- PBUS_CLEAR (R464). -/
def execPbusClear (h : CmdHdr) (pl : List Byte) (s : State) : Out := .next (s.submit (cmdPacket h 0x62 pl))

/-- FUSE_READ (R465). -/
def execFuseRead (h : CmdHdr) (pl : List Byte) (s : State) : Out := .next (s.submit (cmdPacket h 0x68 pl))

/-- FUSE_PROG (R466). -/
def execFuseProg (h : CmdHdr) (pl : List Byte) (s : State) : Out := .next (s.submit (cmdPacket h 0x69 pl))

/-- FUSE_LOCK (R467). -/
def execFuseLock (h : CmdHdr) (pl : List Byte) (s : State) : Out := .next (s.submit (cmdPacket h 0x6A pl))

/-- FUSE_SPARE (R468). -/
def execFuseSpare (h : CmdHdr) (pl : List Byte) (s : State) : Out := .next (s.submit (cmdPacket h 0x6B pl))

/-- SBOX_READ (R469). -/
def execSboxRead (h : CmdHdr) (pl : List Byte) (s : State) : Out := .next (s.submit (cmdPacket h 0x70 pl))

/-- SBOX_MARK (R470). -/
def execSboxMark (h : CmdHdr) (pl : List Byte) (s : State) : Out := .next (s.submit (cmdPacket h 0x71 pl))

/-- VAULT_CFG (R471). -/
def execVaultCfg (h : CmdHdr) (pl : List Byte) (s : State) : Out := .next (s.submit (cmdPacket h 0x78 pl))

/-- ALARM_CFG (R472). -/
def execAlarmCfg (h : CmdHdr) (pl : List Byte) (s : State) : Out := .next (s.submit (cmdPacket h 0x79 pl))

/-- LANTERN_UNLOCK (R473). -/
def execLanternUnlock (h : CmdHdr) (pl : List Byte) (s : State) : Out := .next (s.submit (cmdPacket h 0x7A pl))

/-- PERF_CFG (R474). -/
def execPerfCfg (h : CmdHdr) (pl : List Byte) (s : State) : Out := .next (s.submit (cmdPacket h 0x80 pl))

/-- PERF_FREEZE (R475). -/
def execPerfFreeze (h : CmdHdr) (pl : List Byte) (s : State) : Out := .next (s.submit (cmdPacket h 0x81 pl))

/-- TRACE_CFG (R476). -/
def execTraceCfg (h : CmdHdr) (pl : List Byte) (s : State) : Out := .next (s.submit (cmdPacket h 0x82 pl))

/-- TRACE_READ (R477). -/
def execTraceRead (h : CmdHdr) (pl : List Byte) (s : State) : Out := .next (s.submit (cmdPacket h 0x83 pl))

/-- FW_STAGE (R478). -/
def execFwStage (h : CmdHdr) (pl : List Byte) (s : State) : Out := .next (s.submit (cmdPacket h 0x88 pl))

/-- FW_COMMIT (R479). -/
def execFwCommit (h : CmdHdr) (pl : List Byte) (s : State) : Out := .next (s.submit (cmdPacket h 0x89 pl))

/-- FW_STATUS (R480). -/
def execFwStatus (h : CmdHdr) (pl : List Byte) (s : State) : Out := .next (s.submit (cmdPacket h 0x8A pl))

/-- SELFTEST (R481). -/
def execSelftest (h : CmdHdr) (pl : List Byte) (s : State) : Out := .next (s.submit (cmdPacket h 0x90 pl))

/-- SAFECFG (R482). -/
def execSafecfg (h : CmdHdr) (pl : List Byte) (s : State) : Out := .next (s.submit (cmdPacket h 0x91 pl))

/-! ## Parts (R423) -/

/-- The parts that follow, with the tag's own removed from the list. -/
def State.nextPart (s : State) (t : BitVec 6) : State :=
  match s.mb.parts.find? fun x => x.1.tag == t with
  | none => s
  | some (k, st, l) =>
    let s := { s with mb.parts := s.mb.parts.filter fun (y : Packet × Byte × List (List Byte)) => y.1.tag != t }
    s.emitPart k st (if k.opcode == 0x70 then s.sbox.part (l.headD []) else l)

/-- REPLY_PART: the next part of a tag's reply, as reply-queue space allows. -/
def execReplyPart (tag : BitVec 6) (s : State) : Out := .next (if s.canServe then s.nextPart tag else s)

/-! ## Ends of long operations (R422) -/

/-- The first finished PORT_RESET of a port. -/
def State.portResetComplete (s : State) (p : PortId) : State :=
  match (s.port p).prun.find? fun r => r.result.isSome with
  | none => s
  | some r =>
    let s := s.modPort p fun x => { x with prun := x.prun.filter fun q => q.tag != r.tag }
    match s.flight fun k => k.opcode == 0x14 && k.tag == r.tag with
    | some k => s.complete k 0 [r.result.getD 0]
    | none => s

/-- PORT_RESET_COMPLETE (R442). -/
def execPortResetComplete (p : PortId) (s : State) : Out := .next (s.portResetComplete p)

/-- VDM_SEND_COMPLETE (R446). -/
def execVdmSendComplete (p : PortId) (s : State) : Out := .next (s.vdmComplete p)

/-- SWAP_REQ_COMPLETE (R197). -/
def execSwapReqComplete (p : PortId) (s : State) : Out := .next (s.swapComplete p)

/-- PBUS_XFER_COMPLETE (R397): a transfer runs, and ends with a RESULT of Table 11.7 that its target brought about. -/
def execPbusXferComplete (b : BusId) (r : Byte) (wack : Nat) (rd : List Byte) (s : State) : Out :=
  .next (match (s.pb b).xfer && r ≤ 3, (s.pb b).queue with
    | true, k :: _ => (s.complete k 0 (xferReply k r wack rd)).pbusEnd b
    | _, _ => s)

/-- BUS_CLEAR_COMPLETE (R400, R401): only a clear that PBUS_CLEAR asked for answers it, and lifts STUCK. READY sets with the end of a
clear from boot step 10 on. -/
def execBusClearComplete (b : BusId) (ok : Bool) (s : State) : Out :=
  .next (let x := s.pb b
    if x.clearing then
      let s := s.modPb b fun y => { y with
        stuck := if ok then y.stuck && !y.forHost else true, clearing := false, forHost := false,
        ready := y.ready || Nat.ble 10 s.sys.boot, needClear := y.needClear || !ok }
      let s := match x.forHost, x.clears with
        | true, k :: r => (s.modPb b fun y => { y with clears := r }).complete k (if ok then 0 else 0x51) []
        | _, _ => s
      s.pbusNext b
    else s)

/-- PBUS_STUCK (R398): a target held SCL low for 25 ms. -/
def execPbusStuck (b : BusId) (s : State) : Out :=
  .next (match (s.pb b).xfer, (s.pb b).queue with
    | true, k :: _ => ((s.modPb b fun y => { y with stuck := true }).complete k 0x51 []).pbusEnd b
    | _, _ => s)

/-- FUSE_PROG_COMPLETE (R562). -/
def execFuseProgComplete (fail : Word) (s : State) : Out := .next (s.fuseEnd 0x69 fail State.fuseProgEnd)

/-- FUSE_LOCK_COMPLETE (R567). -/
def execFuseLockComplete (fail : Word) (s : State) : Out := .next (s.fuseEnd 0x6A fail State.fuseLockEnd)

/-- FUSE_SPARE_COMPLETE (R565). -/
def execFuseSpareComplete (fail : Word) (s : State) : Out := .next (s.fuseEnd 0x6B fail State.fuseSpareEnd)

/-- FW_COMMIT_COMPLETE (R479, R526, R528): after a failed verification; after a commit the interpreter's return has completed it. -/
def execFwCommitComplete (s : State) : Out :=
  .next (if s.sys.interp then
      match s.fw.runs.find? FwRun.over with
      | some r => s.fwComplete r
      | none => s
    else s)

/-- The tests that a SELFTEST runs.
DEDUCED, unsafe: log entry 90. -/
def testsOf (t : Byte) : Word := if t == 0 then 0x7E else BitVec.twoPow 32 t.toNat

/-- A failing test acts as the real fault would: of a port's test, run for one port or by TEST 0x00 for every unattached one, on each
port where it failed.
DEDUCED, unsafe: log entry 90. -/
def State.selfTestFailed (s : State) (t : Nat) (ports : List PortId) : State :=
  if (t == 3 || t == 4) && !ports.isEmpty then ports.foldl (fun s p => s.testFailed t (some p)) s else s.testFailed t none

/-- The ports that a port's test of a SELFTEST may fail on: its own, or with TEST 0x00 those named that are ready and unattached (R521).
DEDUCED, unsafe: log entry 90. -/
def State.testPorts (s : State) (k : Packet) (ports : Word) : List PortId :=
  match k.port with
  | some p => [p]
  | none => allPorts.filter fun p => ports.getLsbD p.val && s.portReady p && (s.port p).unattached

/-- SELFTEST_COMPLETE (R481): the failing tests among those that ran act as the real fault would. -/
def execSelftestComplete (x : SelfTestEnd) (s : State) : Out :=
  .next (match s.flight fun k => k.opcode == 0x90 with
    | none => s
    | some k =>
      let ran := testsOf (nth k.payload 0)
      let ports := s.testPorts k x.ports
      let portless := k.port.isNone && ports.isEmpty
      let bad := x.fail &&& ran &&& (if portless then 0x66 else 0x7E)
      let s := (List.range 7).foldl (fun s t =>
        if bad.getLsbD t then s.selfTestFailed t ports else if ran.getLsbD t then s.testPassed t else s) s
      s.complete k 0 (leBytes 4 bad.toNat))

end Sys2Proof.Machine
end

