-- ==== Sys2Proof/Machine/Faults.lean ====
section
/-!
DEFINITION. The faults that the device finds in itself, its self-tests, and the interpreter's return (chapter 15).
DEDUCED, unsafe: log entry 91. DEDUCED, safe: log entry 95.
-/
namespace Sys2Proof.Machine

/-! ## Port-engine pairs (R514, R524) -/

/-- PAIR_MISMATCH: not acted on with SAFECFG bit 0 clear (Table 15.3), nor while the port's group is off. A pair that is in reset already
is only recorded (Table 15.7a), and one of a port that the boot has not reached; a held port is reset as it stands.
DEDUCED, unsafe: log entry 22. -/
def execPairMismatch (p : PortId) (s : State) : Out :=
  .next (s.when (s.safeOn 0 && s.porten p && s.monitorsOn p && s.memOn) fun s =>
    let s := { s with safety.portEvt := setBit s.safety.portEvt p.val }.postSafety 2 p.val 0
    let t := (s.port p).tc
    if t.inReset then s
    else if t.held then s.modTc p fun t => { t with inReset := true }
    else if t.ready then s.pairReset p none else s)

/-- PAIR_OUT_OF_RESET: READY sets again, and a PORT_RESET of KIND 0x03 has its result. -/
def execPairOutOfReset (p : PortId) (s : State) : Out :=
  .next (s.when (s.port p).tc.inReset fun s =>
    (s.modTc p fun t => { t with inReset := false, ready := !t.held }).prunDone p [3] 0)

/-! ## The interpreter (R516) -/

/-- LOCKSTEP_MISMATCH. -/
def execLockstepMismatch (s : State) : Out := .next (s.interpFault 1 0 0)

/-- WATCHDOG_EXPIRY. -/
def execWatchdogExpiry (s : State) : Out := .next (s.interpFault 8 1 0)

/-- INTERPRETER_RETURN (R526). -/
def execInterpreterReturn (s : State) : Out := .next s.interpReturn

/-! ## Memory (R515) -/

/-- The words marked, with one more, ascending and each once. -/
def insertMark (a : Word) : List Word → List Word
  | [] => [a]
  | b :: l => if a = b then b :: l else if a < b then a :: b :: l else b :: insertMark a l

/-- DOUBLE_BIT_ERROR: an interpreter access resets it, the scrub marks the word and records it, and a tally-reader access spoils the snapshot
being gathered. -/
def execDoubleBitError (w : EccSite) (addr : Word) (s : State) : Out :=
  .next (s.when (s.memOn && (w != .scrub || s.safeOn 5)) fun s =>
    let s := ({ s with safety.eccDbe := satAdd s.safety.eccDbe 1 } : State).count 36 0x03 1
    match w with
    | .interp => s.interpFault 3 3 addr.toNat
    | .scrub => ({ s with safety.marked := insertMark addr s.safety.marked }.safeEvt 3).postSafety 3 0xFF addr.toNat
    | .tally => ((s.safeEvt 3).postSafety 3 0xFF addr.toNat).snapDone true)

/-- SINGLE_BIT_ERROR: corrected and written back. -/
def execSingleBitError (_addr : Word) (s : State) : Out :=
  .next (s.when s.memOn fun s =>
    (({ s with safety.eccSbe := satAdd s.safety.eccSbe 1 } : State).safeEvt 2).count 36 0x02 1)

/-! ## Self-tests (R518, R521, R522) -/

/-- PERIODIC_SELF_TEST: a port's tests run only while it is unattached. -/
def execPeriodicSelfTest (t : Fin 7) (p : PortId) (fail : Bool) (s : State) : Out :=
  .next (
    let forPort := t == 3 || t == 4
    s.when (s.memOn && s.safeOn 6 && t != 0 && (!forPort || (s.portReady p && (s.port p).unattached))) fun s =>
      if fail then s.testFailed t.val (if forPort then some p else none) else s.testPassed t.val)

/-- SELF_TEST_REPEAT: a test of lockstep or of the monitors that fails again leaves SAFEOK at 0 until RESET_N. -/
def execSelfTestRepeat (t : Fin 7) (fail : Bool) (s : State) : Out :=
  .next (s.when (s.memOn && s.safety.repeatDue.getLsbD t.val) fun s =>
    let s := { s with safety.repeatDue := clrBit s.safety.repeatDue t.val }
    if fail then { s.testNoted t.val none with safety.stuck := true } else s.testPassed t.val)

/-- A demand answered QUEUED with reason 0x08 is posted to be decided again. -/
def State.repost (s : State) (p : PortId) : State :=
  let l := (s.port p).lg
  if l.standing && l.outcome = 3 && l.reason == 8 then s.post (.demand p l.demand l.kind (s.port p).snkAtt l.upgrade) else s

/-- FREEZE_RECOVERY_TEST (R518): the lane injection test of a frozen Ledger, and the rebuild. -/
def execFreezeRecoveryTest (pass agree : Bool) (s : State) : Out :=
  .next (s.when (s.ledger.frozen && !s.ledger.stuck && s.memOn) fun s =>
    let body := fun (k : Byte) => k :: (leBytes 2 s.ledger.granted ++ [byteOf s.waitLen 0])
    let t := if pass then s.testPassed 5 else s.testFailed 5 none
    if pass && agree then
      ({ t with ledger.frozen := false, ledger.frozenRel := 0, ledger.pubStat := t.ledger.pubStat &&& 0xFFFE }.postRec 0x08 (body 2)).eachPort State.repost
    else { t with ledger.stuck := true, ledger.ready := false }.postRec 0x08 (body 3))

end Sys2Proof.Machine
end

