-- ==== Sys2Proof/Machine/Fuses.lean ====
section
/-!
DEFINITION. What the fuse array and the Strongbox do on their own: the background re-read, the end of KILL programming, and the
drain of the record queue (R542, R560, R571 to R574).
-/
namespace Sys2Proof.Machine

/-! ## The background re-read (R560) -/

/-- FUSE_REREAD_PASS: the array as it now reads. A KILL abandons the pass, which is rerun after it (Table 16.6). -/
def execFuseRereadPass (drift : List FuseDrift) (s : State) : Out :=
  .next (s.when (s.coreOn && 4 ≤ s.sys.boot && s.sys.pwr != .sleep) fun s =>
    let s := drift.foldl (fun (s : State) (d : FuseDrift) =>
      if d.word < 0x420 then
        { s with fuse := { s.fuse with
          normal := s.fuse.normal.setWord d.word d.normal, strict := s.fuse.strict.setWord d.word d.strict } }
      else s) s
    if s.alarm.killPend then { s with fuse.rerun := true } else s.reread)

/-- KILL_PROGRAMMING_COMPLETE (R542, R543). -/
def execKillProgrammingComplete (s : State) : Out :=
  .next (s.when s.killRuns State.killProgram)

/-! ## The drain of the record queue (R571 to R574) -/

/-- Slots that fail their read-back twice are left with COMMIT 0.
DEDUCED, unsafe: log entry 80. -/
def Sbox.skip (pin : Bool) (bytes : List Byte) : Nat → Sbox → Sbox
  | 0, b => b
  | n + 1, b =>
    let (i, b) := b.take pin
    Sbox.skip pin bytes n { b with
      mram := (b.mram.writeBytes (64 * i) bytes).writeBytes (64 * i + 60) (leBytes 4 0), evt := setBit b.evt 2 }

/-- Writes one record after `fails` failed read-backs, two to a slot, and rewrites both headers (R571, R572).
DEDUCED, unsafe: log entry 80. -/
def Sbox.write (b : Sbox) (r : Rec) (fails : Nat) : Sbox :=
  let bytes := recBytes b.nextSeq r
  let pin := pinnedType r.ty
  let (i, b) := (Sbox.skip pin bytes (fails / 2) b).take pin
  let b := { b with
    mram := b.mram.writeBytes (64 * i) (bytes ++ leBytes 4 (crcWordOf (crc16 bytes)).toNat),
    evt := if i == 255 then setBit b.evt 0 else b.evt, newest := b.nextSeq, nextSeq := seqNext b.nextSeq, gen := b.gen + 1 }
  let h : Hdr := ⟨b.gen, b.nextSeq, b.pinned, b.jnext⟩
  { b with hdrA := some h, hdrB := some h }

/-- RECORD_WRITE: the head record, or first a LOST record (R30). An EMBER record sets SYSEVT EMBER (R611). -/
def execRecordWrite (fails : Nat) (s : State) : Out :=
  .next (s.when (s.sys.interp && s.sys.sboxReady) fun s =>
    match s.sbox.head (s.sys.sts.truncate 48) with
    | some (r, b) =>
      let s := { s with
        sbox := b.write r fails, sys.evt := if r.ty == 0x11 then setBit s.sys.evt 1 else s.sys.evt }
      ((s.count 35 0x05 1).count 36 0x05 (17 * (fails + 1) + fails / 2 + 16)).count 36 0x06 fails
    | none => s)

end Sys2Proof.Machine
end

