-- ==== Sys2Proof/Machine/Lantern.lean ====
section
/-!
DEFINITION. The freeze trigger, the snapshot, counter wraps, and Lantern's lines (chapter 18, R535, R536, R587 to R603). A line
of output stands without its CR LF.
-/
namespace Sys2Proof.Machine

/-! ## Counters (R581, R587 to R590) -/

/-- FREEZE_TRIGGER: an edge on the TIN pin that the trigger is armed on fires it; a timer's event fires one armed on it by itself
(R587). -/
def execFreezeTrigger (s : State) : Out := .next (s.perfTrigger isTin)

/-- SNAPSHOT_COMPLETE. -/
def execSnapshotComplete (err : Bool) (s : State) : Out := .next (s.snapDone err)

/-- The events that count clocks, cycles, accesses or microseconds, which no other event brings about (Tables 18.2, 18.3). -/
def clockEvent (b ev : Nat) : Bool :=
  if b < 32 then ev == 1 || ev == 0x0D || ev == 0x0E || ev == 0x0F || ev == 0x10
  else if b == 33 then ev == 5 else if b == 34 then ev == 7 else if b == 35 then ev == 1 || ev == 7
  else b == 36 && (ev == 1 || ev == 4)

/-- PERF_COUNTER_WRAP: a counter of such an event has counted on to 0xFFFFFFFF and wraps. -/
def execPerfCounterWrap (b : Fin 38) (c : Fin 4) (s : State) : Out :=
  .next (
    let i := 4 * b.val + c.val
    match s.perf.ctrs[i]? with
    | some k =>
      s.when (k.enable && clockEvent b.val k.event.toNat && s.perf.ownEvent i && !s.perf.frozen) fun s =>
        { s with perf := s.perf.add i (2 ^ 32 - k.val.toNat) }
    | none => s)

/-! ## Lines -/

/-- Lantern sends lines, the last of them what ends the command. -/
def State.say (s : State) (l : List String) (e : String) : State :=
  s.ltxSend (l ++ [e])

/-- A line that comes while Lantern is locked: an empty one asks for the banner, any other fires source 0x05 (R601, R538). -/
def State.lockedLine (s : State) (empty : Bool) : State :=
  if empty then s.quiet.ltxSend [s.banner] else s.quiet.alarmFire [5]

/-- The characters of a line, LF being ignored (R600). -/
def lineChars (l : List Byte) : List Byte := l.filter (· != 0x0A)

/-- LANTERN_LOCKED_LINE. -/
def execLanternLockedLine (line : List Byte) (s : State) : Out :=
  .next (s.when (s.lanternen && s.memOn && !s.lantern.unlocked) fun s => s.lockedLine (lineChars line).isEmpty)

/-! ## What is printed (Table 18.7) -/

/-- Bytes in groups of 8 digits in the order of their addresses. -/
def byteGroups (w : String) (n : Nat) (b : List Byte) : String :=
  (List.range n).foldl (fun t i =>
    t ++ " " ++ (List.range 4).foldl (fun u j => u ++ hexStr 2 (nth b (4 * i + j)).toNat) "") w

/-- LANTERN_VER. -/
def State.lanternVer (s : State) : State :=
  s.say [groups "V" [(8, Config.romVersion.toNat), (8, s.fw.active.toNat), (8, idcode), (2, s.variant.toNat)]] "OK"

/-- LANTERN_BAUD: one of the rates of R599, in force once the OK line is out. -/
def State.lanternBaud (rate : Nat) (s : State) : State :=
  if [115200, 230400, 460800, 921600, 1500000, 3000000].contains rate then
    let t := s.say [] "OK"
    { t with lantern.bauds := t.lantern.bauds ++ [(rate, t.lantern.fill)] }
  else s.say [] "E RANGE"

/-- LANTERN_PORT. -/
def State.lanternPort (n : Nat) (s : State) : State :=
  if h : n < 32 then
    let p : PortId := ⟨n, h⟩
    let x := s.port p
    if s.porten p then
      s.say [groups "P" [(2, n), (8, x.tc.status.toNat), (8, x.pdStatus.toNat), (8, (s.swStatus p).toNat),
        (4, (s.convStat p).toNat), (4, x.pd.terms.v), (4, x.pd.terms.i)]] "OK"
    else s.say [] "E LOCKED"
  else s.say [] "E RANGE"

/-- LANTERN_LEDGER. -/
def State.lanternLedger (s : State) : State :=
  let l := s.ledger
  s.say [groups "L" [(4, l.cap), (4, l.granted), (4, s.lgrFree.toNat), (4, l.pubBorrow), (4, l.pubLent), (4, s.lgrStat.toNat)]] "OK"

/-- LANTERN_RING: refused where Ridgeline is fused off. -/
def State.lanternRing (s : State) : State :=
  if s.ridgeen then s.say [groups "R" [(8, s.rgStat), (8, s.rgTime)]] "OK" else s.say [] "E LOCKED"

/-- LANTERN_PERF: the live counters, whatever PERMMASK holds (R593). -/
def State.lanternPerf (b : Nat) (s : State) : State :=
  if 37 < b then s.say [] "E RANGE"
  else s.say [groups "C" ((2, b) :: ((s.perf.live.drop (4 * b)).take 4).map fun w => (8, w.toNat))] "OK"

/-- LANTERN_SBOX: records by sequence, each without those absent. -/
def State.lanternSbox (sq count : Nat) (s : State) : State :=
  if count == 0 || 64 < count then s.say [] "E RANGE"
  else
    let o := (bySeq s.sbox.newest s.sbox.records count (BitVec.ofNat 32 sq)).1
    s.say ((List.range (o.length / 64)).map fun i => byteGroups "S" 16 ((o.drop (64 * i)).take 64)) "OK"

/-- LANTERN_FUSE: the latched words of a region; a region that does not exist makes no command of the line. -/
def State.lanternFuse (region : Nat) (s : State) : State :=
  if 4 < region then s.say [] "E SYNTAX"
  else if s.rlocked region then s.say [] "E LOCKED"
  else
    let one := fun (i : Nat) =>
      let w := regBase region + i
      groups "F" [(3, w), (8, (s.fuseWord w).toNat)] ++ (if s.fuse.marginal.contains w then " M" else "")
    s.say ((List.range (regLock region + 1 - regBase region)).map one) "OK"

/-- LANTERN_TRACE. -/
def State.lanternTrace (first count : Nat) (s : State) : State :=
  if count == 0 || 256 < count then s.say [] "E RANGE"
  else s.say (((s.trace.ring.drop first).take count).map fun r => byteGroups "T" 4 r.bytes) "OK"

/-- LANTERN_WATCH: from ON, each change of a DIGEST bit is told. -/
def State.lanternWatch (on : Bool) (s : State) : State :=
  ({ s with lantern.watch := on, lantern.seen := BitVec.ofNat 128 s.digest } : State).say [] "OK"

/-! ## The certificate chain (R535) -/

/-- CHAIN: 1 to 48 bytes are staged at an offset. -/
def State.chain (off : Nat) (bytes : List Byte) (s : State) : State :=
  if bytes.isEmpty || 48 < bytes.length then s.say [] "E SYNTAX"
  else if 4096 < off + bytes.length then s.say [] "E RANGE"
  else
    ({ s with
      lantern.stage := s.lantern.stage.writeBytes off bytes,
      lantern.staged := max s.lantern.staged (off + bytes.length) } : State).say [] "OK"

/-- CHAIN_END: the staged chain replaces the stored one. -/
def State.chainEnd (len : Nat) (s : State) : State :=
  if 4096 < len || s.lantern.staged < len then s.say [] "E RANGE"
  else ({ s with lantern.chain := s.lantern.stage.readBytes 0 len } : State).say [] "OK"

/-! ## Key generation (R535, R536) -/

/-- Key generation is refused: a WRAPKEY bit or a KEYKILL bit is programmed, or IDENTITY is write-locked.
DEDUCED, unsafe: log entry 84. -/
def State.keygenRefused (s : State) : Bool :=
  s.wlockNow 1 || s.killed || (((List.range 10).map (0x081 + ·)) ++ (List.range 6).map (0x3D8 + ·)).any fun w =>
    let (a, b) := s.readNow w
    a != 0 || b != 0

/-- The 32 bytes of a coordinate, most significant first. -/
def coordLine (w : String) (b : List Byte) : String := byteGroups w 8 b

/-- A private key made of random bytes is wrapped and WRAPKEY programmed; with `fail` a bit does not verify, and which words were programmed before it is
open.
DEDUCED, unsafe: log entry 84. -/
def State.keygenRun (s : State) (fail : Bool) : State :=
  if s.keygenRefused then s.say [] "E REFUSED"
  else
    let key := beBytes 32 (p256Scalar (s.random 32))
    let s := s.stirred
    let w := wrapKey kek key
    let work := (List.range 10).map fun i => (physOf s.fuse.mapped (0x081 + i), BitVec.ofNat 32 (field w (4 * i) 4))
    if fail then
      let n := s.freeNat
      let s := s.drawn
      let fl := BitVec.ofNat 32 s.freeNat
      let s := s.drawn
      let s := (State.progList 0 (work.take (n % 10)) s).1
      let s := (State.progList fl ((work.drop (n % 10)).take 1) s).1
      (s.fuseEvt 1).say [] "E REFUSED"
    else
      let s := (State.progList 0 work s).1
      let pub := publicKey key
      s.say [coordLine "K X" pub, coordLine "K Y" (pub.drop 32)] "OK"

/-- KEYGEN takes its turn at the OTP controller (Table 18.8). -/
def State.keygen (fail : Bool) (s : State) : State :=
  if s.fuseBusy then { s with lantern.keygen := some (fail, s.fuse.queue.length) } else s.keygenRun fail

/-! ## A command's turn (R600, R602) -/

/-- What a command does: LANTERN_LOCK and a line that is no command among them. -/
def State.lanternDo (s : State) : LanternCmd → State
  | .ver => s.lanternVer
  | .baud rate => s.lanternBaud rate
  | .port n => s.lanternPort n
  | .ledger => s.lanternLedger
  | .ring => s.lanternRing
  | .perf b => s.lanternPerf b
  | .sbox sq count => s.lanternSbox sq count
  | .fuse region => s.lanternFuse region
  | .trace first count => s.lanternTrace first count
  | .watch on => s.lanternWatch on
  | .keygen fail => s.keygen fail
  | .chain off bytes => s.chain off bytes
  | .chainEnd len => s.chainEnd len
  | .lock => s.lanternLock.say [] "OK"
  | .bad line => s.say [] (if 128 < (lineChars line).length then "E LONG" else "E SYNTAX")

/-- The output of a step from one state to another has room, or the buffer was empty (R600).
DEDUCED, unsafe: log entry 86. -/
def State.fits (s t : State) : Bool := s.lantern.fill == 0 || Nat.ble t.lantern.fill bufferSize

/-- A command waits until its output fits, and behind one that waits (R600).
DEDUCED, unsafe: log entry 86. -/
def State.lanternTurn (s : State) (i : LanternCmd) : State :=
  let t := s.lanternDo i
  if s.lantern.keygen.isNone && s.lantern.wait.isEmpty && s.fits t then t
  else { s with lantern.wait := s.lantern.wait ++ [i] }

/-- A line has come: nothing is taken without LANTERNEN or with CORE off; the interpreter serves an unlocked Lantern (R602), and without
it only a line that is too long is not answered BUSY (R600). -/
def State.lanternLine (s : State) (i : LanternCmd) (long : Bool) : State :=
  if !s.lanternen || !s.memOn then s
  else if !s.lantern.unlocked then s.lockedLine false
  else if !s.sys.interp then s.quiet.say [] (if long then "E LONG" else "E BUSY")
  else s.quiet.leaveDoze.watchNote.lanternTurn i

/-- A KEYGEN that waited has its turn.
DEDUCED, unsafe: log entry 84. -/
def State.keygenUs (s : State) : State :=
  match s.lantern.keygen with
  | some (fail, _) =>
    if s.keygenTurn then
      let t := ({ s with lantern.keygen := none } : State).keygenRun fail
      if s.fits t then t.fuseGo else s
    else s
  | none => s

/-- The first command that waits has its turn. -/
def State.waitUs (s : State) : State :=
  match s.lantern.keygen, s.lantern.wait with
  | none, i :: r =>
    let t := ({ s with lantern.wait := r } : State).lanternDo i
    if s.fits t then t else s
  | _, _ => s

/-- One microsecond of Lantern: characters leave the buffer, D LOST and WATCH's lines are sent, and what waits has its turn (R600, Table 18.7).
DEDUCED, unsafe: log entry 86. -/
def State.lanternUs (s : State) : State :=
  let s := { s with lantern := s.lantern.drain }
  let m := s.lantern
  if !m.unlocked || !s.sys.interp || (!m.watch && m.dropped == 0 && m.keygen.isNone && m.wait.isEmpty) then s
  else
    let s := s.quiet
    ({ s with lantern := s.lantern.tellLost } : State).watchNote.keygenUs.waitUs

/-! ## The rows -/

/-- LANTERN_VER (Table 18.7). -/
def execLanternVer (s : State) : Out := .next (s.lanternLine .ver false)

/-- LANTERN_BAUD (Table 18.7). -/
def execLanternBaud (rate : Nat) (s : State) : Out := .next (s.lanternLine (.baud rate) false)

/-- LANTERN_PORT (Table 18.7). -/
def execLanternPort (n : Nat) (s : State) : Out := .next (s.lanternLine (.port n) false)

/-- LANTERN_LEDGER (Table 18.7). -/
def execLanternLedger (s : State) : Out := .next (s.lanternLine .ledger false)

/-- LANTERN_RING (Table 18.7). -/
def execLanternRing (s : State) : Out := .next (s.lanternLine .ring false)

/-- LANTERN_PERF (Table 18.7). -/
def execLanternPerf (b : Nat) (s : State) : Out := .next (s.lanternLine (.perf b) false)

/-- LANTERN_SBOX (Table 18.7). -/
def execLanternSbox (sq count : Nat) (s : State) : Out := .next (s.lanternLine (.sbox sq count) false)

/-- LANTERN_FUSE (Table 18.7). -/
def execLanternFuse (region : Nat) (s : State) : Out := .next (s.lanternLine (.fuse region) false)

/-- LANTERN_TRACE (Table 18.7). -/
def execLanternTrace (first count : Nat) (s : State) : Out := .next (s.lanternLine (.trace first count) false)

/-- LANTERN_WATCH (Table 18.7). -/
def execLanternWatch (on : Bool) (s : State) : Out := .next (s.lanternLine (.watch on) false)

/-- KEYGEN (Table 18.7). -/
def execKeygen (fail : Bool) (s : State) : Out := .next (s.lanternLine (.keygen fail) false)

/-- CHAIN (Table 18.7). -/
def execChain (off : Nat) (bytes : List Byte) (s : State) : Out := .next (s.lanternLine (.chain off bytes) false)

/-- CHAIN_END (Table 18.7). -/
def execChainEnd (len : Nat) (s : State) : Out := .next (s.lanternLine (.chainEnd len) false)

/-- LANTERN_LOCK (Table 18.7). -/
def execLanternLock (s : State) : Out := .next (s.lanternLine .lock false)

/-- LANTERN_BAD_LINE (R600 to R602): an empty one that comes while Lantern is locked asks for the banner. -/
def execLanternBadLine (line : List Byte) (s : State) : Out :=
  .next (
    if (lineChars line).isEmpty && !s.lantern.unlocked then s.when (s.lanternen && s.memOn) fun s => s.lockedLine true
    else s.lanternLine (.bad line) (128 < (lineChars line).length))

end Sys2Proof.Machine
end

