-- ==== Sys2Proof/Machine/Power.lean ====
section
/-!
DEFINITION. The power path and the converter: soft-start, protections, discharge, audit, thermal levels, links, references
and forming (chapters 7 and 8).
DEDUCED, unsafe: log entry 29.
-/
namespace Sys2Proof.Machine

/-! ## Soft-start (R219 to R221) -/

/-- The slew of a profile in mV per µs (Table 7.4). -/
def ssSlew (prof : Nat) : Nat := if prof == 1 then 1 else if prof == 2 then 20 else 5

/-- The inrush limit of a profile and class in mA (Table 7.4). -/
def ssInrush (e : Bool) (prof : Nat) : Nat :=
  if prof == 1 then (if e then 750 else 500) else if prof == 2 then (if e then 3000 else 2000) else (if e then 1500 else 1000)

/-- The enable steps: 1 to 256 cells of group 0, then groups 1 to 127. -/
def ssSteps : Nat := 9 + 127

/-- The cells enabled after some steps. -/
def ssCells (n : Nat) : Nat := if n == 0 then 0 else if n ≤ 9 then 2 ^ (n - 1) else 256 * (n - 8)

/-- One 1 µs decision: the ramp rises, and the next step is taken while the far side lags it and the switch current is below the
inrush limit. -/
def SwPort.ssDecide (e : Bool) (w : SwPort) (farMv : Nat) (ma : Int) : SwPort :=
  let r := w.ramp + ssSlew w.ssProf
  let go := farMv < r && ma.natAbs < ssInrush e w.ssProf
  { w with ramp := r, steps := if go then min ssSteps (w.steps + 1) else w.steps }

/-- The decisions of a ramp stage, to its end within 0.20 V of the near side: the current at which it has ended. -/
def SwPort.ssRamp (e : Bool) (near : Nat) : SwPort → List (Nat × Int) → SwPort × Option Int
  | w, [] => (w, none)
  | w, (v, i) :: r =>
    let w := w.ssDecide e v i
    if near ≤ v + 200 then (w, some i) else w.ssRamp e near r

/-- The fill stage has ended: every in-service cell is on, SWSTATE reads CLOSED, and SWCEIL takes the present thermal level
(R219, R249). -/
def SwPort.filled (w : SwPort) : SwPort := { w with st := .closed, steps := ssSteps, thermCeil := w.therm }

/-- The drop correction in mV (R266): the switch current times the resistance of the cells in service at the port's temperature,
at most 200 mV. -/
def Port.dropMv (x : Port) (e : Bool) (ma : Int) : Int :=
  min 200 (ma * (if e then 10 else 18) * 32768 * (1000 + 4 * (x.sw.temp - 25)) / ((32768 - x.sw.cellsOut : Nat) * 1000000))

/-- The switch has closed at a switch current: a source's VBUS stands at vSafe5V, its rail above it by the drop correction (R266),
and PD starts; a Hard Reset or a swap that waited for it goes on; a sink's converter starts. -/
def State.switchClosed (s : State) (p : PortId) (ma : Int) : State :=
  let x := s.port p
  if x.sw.sinkDir then
    let s := s.modTc p fun t => { t with prailMv := t.vbusMv }
    (if x.swap.stage == .closing then s.prComplete p else s).startReverse p
  else
    let mv := x.cv.vref * 20
    let drop := x.dropMv (isE p) ma
    let s := (s.modTc p fun t => { t with vbusMv := mv, prailMv := (mv + drop).toNat }).modCv p fun c =>
      { c with prebias := false, drop := drop }
    if x.swap.stage == .closing then (s.sendCtl p .psRdy).prComplete p
    else
      let s := if x.pd.hr == .srcRestore then (s.modPd p fun d => { d with hr := .none }).prunDone p [1] 0 else s
      s.startPd p

/-- SOFTSTART_COMPLETE (R219): the ramp stage's decisions, each the far side's voltage in mV and the switch current in mA; where
they end it, the fill stage follows and the switch reads CLOSED. -/
def execSoftstartComplete (r : RampRun) (s : State) : Out :=
  let p := r.port
  .next (s.when ((s.port p).sw.st == .softstart) fun s =>
    let x := s.port p
    let (w, done) := x.sw.ssRamp (isE p) (if x.sw.sinkDir then x.tc.vbusMv else x.tc.prailMv) r.reads
    match done with
    | some ma => (s.modSw p fun _ => w.filled).switchClosed p ma
    | none => s.modSw p fun _ => w)

/-- SOFTSTART_FAIL (R221). -/
def execSoftstartFail (p : PortId) (ma : Int) (s : State) : Out :=
  .next (s.when ((s.port p).sw.st == .softstart) fun s => s.protectiveOpen p [9] 1 ma)

/-! ## Protections (R224 to R226, Table 7.5) -/

/-- ILIM in mA: the converter's limit written for the contract, and with none the current of the Rp level. A bridge's feeding sink
end, whose limit follows a measured power, has its contract's. -/
def State.ilimMa (s : State) (p : PortId) : Nat :=
  let x := s.port p
  if x.pd.hasContract && !(x.cv.dir == 2 && s.bridged p) then 50 * x.cv.ilim else 50 * ilimCode (s.curLimit p)

/-- OCMARGIN in hundredths (Table 7.3). -/
def ocPercent (m : Nat) : Nat := if m == 1 then 110 else if m == 2 then 150 else 125

/-- The overcurrent threshold in mA. -/
def State.ocLevel (s : State) (p : PortId) : Nat :=
  let i := s.ilimMa p
  let m := ocPercent (cfgOcMargin (s.port p).cfg)
  min (max (ceilDiv (i * m) 5000) (ceilDiv (i + 500) 50) * 50) (if isE p then 6500 else 4000)

/-- The short-circuit threshold in mA. -/
def scLevel (e : Bool) : Nat := if e then 15000 else 9000

/-- The reverse-current threshold in mA. -/
def rcLevel (e : Bool) : Nat := if e then 500 else 300

/-- The voltage in 10 mV that the overvoltage threshold follows: in a transition the higher of old and new, until VBUS has been
inside the new voltage's window (R225). -/
def Port.ovVolts (x : Port) : Nat :=
  if x.sw.ovBase != 0 then x.sw.ovBase
  else match x.pd.contract, x.pd.nxt with
    | .transition, some t => t.v
    | _, _ => x.pd.terms.v

/-- The overvoltage threshold in mV. -/
def State.ovLevel (s : State) (p : PortId) : Nat :=
  let x := s.port p
  if x.pd.hasContract then min (x.ovVolts * 11 + 500) (if isE p then 54000 else 24000) else 6000

/-- Whether a sample lies beyond the threshold of a protection, by its SWEVT bit: 0 overcurrent, 1 short circuit, 2 overvoltage,
3 reverse current. Current in the contract direction runs from PRAIL on a source port, and toward it on a sink port (R213). -/
def State.beyond (s : State) (p : PortId) (x : ProtSample) (bit : Nat) : Bool :=
  let y := s.port p
  let fwd := if y.sw.sinkDir then -x.ma else x.ma
  match bit with
  | 0 => decide ((s.ocLevel p : Int) < fwd)
  | 1 => decide (scLevel (isE p) < x.ma.natAbs)
  | 2 => decide (s.ovLevel p < x.mv)
  | 3 => !y.sw.blank && decide ((rcLevel (isE p) : Int) < -fwd)
  | _ => false

/-- The protections that one sample qualifies: every one whose threshold it lies beyond (R249), but beside a short circuit, which
qualifies within 0.1 µs, neither overcurrent nor reverse current, which take longer (Table 7.5). -/
def State.qualified (s : State) (p : PortId) (x : ProtSample) (bit : Nat) : List Nat :=
  ((List.range 4).filter fun b => s.beyond p x b).filter fun b => bit != 1 || (b != 0 && b != 3)

/-- The Status flags of Table 5.3 for some SWEVT bits: overcurrent, overvoltage. -/
def tripFlags (bits : List Nat) : BitVec 3 :=
  (if bits.any fun b => b != 2 then 1 else 0) ||| (if bits.contains 2 then 2 else 0)

/-- A protection qualifies: one opening with the bit of each that the sample qualifies. An overcurrent or a short circuit under a
contract makes its Alert due after the Hard Reset (Table 5.4).
DEDUCED, unsafe: log entry 110. -/
def State.protect (s : State) (p : PortId) (x : ProtSample) (bit : Nat) : State :=
  let y := s.port p
  s.when (s.beyond p x bit && (y.sw.st == .softstart || y.sw.st == .closed)) fun s =>
    let bits := s.qualified p x bit
    let alert := y.pd.hasContract && bits.any fun b => b == 0 || b == 1
    (s.modPd p fun d => { d with alertDue := d.alertDue || alert }).protectiveOpen p bits (tripFlags bits) x.ma

/-- OVERCURRENT (R224).
DEDUCED, unsafe: log entry 110. -/
def execOvercurrent (p : PortId) (x : ProtSample) (s : State) : Out := .next (s.protect p x 0)

/-- SHORT_CIRCUIT (R224). -/
def execShortCircuit (p : PortId) (x : ProtSample) (s : State) : Out := .next (s.protect p x 1)

/-- OVERVOLTAGE (R224, R225). -/
def execOvervoltage (p : PortId) (x : ProtSample) (s : State) : Out := .next (s.protect p x 2)

/-- REVERSE_CURRENT (R224), blanked during a Fast Role Swap (R226). -/
def execReverseCurrent (p : PortId) (x : ProtSample) (s : State) : Out := .next (s.protect p x 3)

/-! ## Temperature (R248, R249) -/

/-- A power die measures: it is powered, and RESET_N is high (Table 1.2). -/
def State.dieMeasures (s : State) (d : Die) : Bool := s.dieOn d && !s.sys.resetLow

/-- Sets THERM, with THERMCHG on a change; SWCEIL follows, but in a soft-start only once the switch has closed; entering derating is
told a Revision 3.x partner (Tables 7.9, 7.10, 5.4).
DEDUCED, unsafe: log entry 33. -/
def State.setTherm (s : State) (p : PortId) (l : BitVec 2) : State :=
  let x := s.port p
  if x.sw.therm = l then s
  else
    let s := (s.modSw p fun w => { w with therm := l, thermCeil := if w.st == .softstart then w.thermCeil else l }).swEvt p 6
    s.when (x.sw.therm = 0 && x.pdSrc && x.pd.hasContract && x.pd.rev3) fun s => s.trigger p .alertOtp

/-- THERMAL_SHUTDOWN (R224, R248): closing is refused until the port has cooled below 100 °C.
DEDUCED, unsafe: log entry 110. -/
def execThermalShutdown (p : PortId) (temp : Int) (x : PathReading) (s : State) : Out :=
  .next (s.when (135 ≤ temp && s.dieMeasures (dieOf p)) fun s =>
    let bits := s.qualified p ⟨x.ma, x.mv, temp⟩ 4
    let s := (s.modSw p fun w => { w with temp := temp, hot := true }).setTherm p 3
    s.protectiveOpen p bits (4 ||| tripFlags bits) x.ma)

/-- The level at a temperature: a level is entered at its temperature and left below the temperature 10 °C under it, at which it
still stands (R248).
DESIGN CHOICE, unsafe: log entry 107. -/
def thermNext (cur : BitVec 2) (t : Int) : BitVec 2 :=
  let up : Nat := if 120 ≤ t then 2 else if 110 ≤ t then 1 else 0
  let keep : Nat := if cur = 3 && 125 ≤ t then 3 else if 2 ≤ cur.toNat && 110 ≤ t then 2
    else if 1 ≤ cur.toNat && 100 ≤ t then 1 else 0
  BitVec.ofNat 2 (max up keep)

/-- A port whose switch waits may close now.
DEDUCED, unsafe: log entry 33. -/
def State.retryClose (s : State) (p : PortId) : State := if (s.port p).srcAtt then s.applyVbus p else s.tryClose p

/-- THERMAL_LEVEL_CHANGE (R248): the reading of a powered die, and the level; shutdown at 135 °C is its own event. -/
def execThermalLevelChange (p : PortId) (t : Int) (s : State) : Out :=
  .next (s.when (s.dieMeasures (dieOf p)) fun s =>
    let x := s.port p
    let s := (s.modSw p fun w => { w with temp := t, hot := w.hot && decide (100 ≤ t) }).setTherm p (thermNext x.sw.therm t)
    s.when (x.sw.hot && t < 100) fun s => s.retryClose p)

/-- PROTECTIVE_RECLOSE (R227): a port with no contract may close again. -/
def execProtectiveReclose (p : PortId) (s : State) : Out :=
  .next (s.when (s.portReady p && (s.port p).sw.reclose) fun s =>
    (s.modSw p fun w => { w with reclose := false }).retryClose p)

/-- TRIPCNT_RESET (R228): 60 s have passed with no protective opening, in whatever state the switch is. -/
def execTripcntReset (p : PortId) (s : State) : Out := .next (s.modSw p fun w => { w with tripCnt := 0 })

/-- HOLDOFF_END (R228). -/
def execHoldoffEnd (p : PortId) (s : State) : Out :=
  .next (s.when ((s.port p).sw.st == .holdoff) fun s =>
    (s.modSw p fun w => { w with st := .opn, tripCnt := 0 }).retryClose p)

/-- What the switch of a port carries, in mA: nothing while it is open, else a measured value.
DEDUCED, unsafe: log entry 110. -/
def State.switchMa (s : State) (p : PortId) : Int :=
  if (s.port p).sw.st == .softstart || (s.port p).sw.st == .closed then (BitVec.ofNat 16 s.freeNat).toInt * 10 else 0

/-- MONITOR_DISAGREEMENT (R229): seen while both monitors are powered (R506), on a port READY or not; not counted in TRIPCNT; not acted
on with SAFECFG bit 1 clear (Table 15.3). -/
def execMonitorDisagreement (p : PortId) (s : State) : Out :=
  .next (s.when (s.porten p && s.monitorsOn p && s.safeOn 1) fun s =>
    let s := ((s.swEvt p 8).postTrip p 256 (s.switchMa p)).drawn
    (s.modSw p fun w => { w with monDis := true }).faultRecovery p)

/-- TRIP_WIRE_FAULT (R517), on a port READY or not. -/
def execTripWireFault (p : PortId) (s : State) : Out :=
  .next (s.when (s.porten p && s.monitorsOn p) fun s =>
    (((s.safeEvt 17).postSafety 0x06 p.val 0).modSw p fun w => { w with tripWire := true }).faultRecovery p)

/-! ## Discharge -/

/-- What the discharge sink draws in mA: 100, or 50 from 120 °C, until VBUS falls to 1.0 V, and then as 200 Ω (R230). -/
def Port.sinkMa (x : Port) : Nat :=
  if !x.sw.sinkOn then 0
  else if 1000 < x.tc.vbusMv then (if 120 ≤ x.sw.temp then 50 else 100) else x.tc.vbusMv / 200

/-- DISCHARGE_COMPLETE (R231, R236): both monitors read VBUS ≤ 0.70 V, and so agree. A swap's old source presents Rd and sends
PS_RDY (step 6 of Table 6.2). -/
def execDischargeComplete (p : PortId) (mv : Nat) (s : State) : Out :=
  .next (s.when ((s.port p).sw.st == .discharge && mv ≤ 700) fun s =>
    let x := s.port p
    let s := s.modTc p fun t => { t with vbusMv := mv }
    let hold := x.sw.holdNext && x.tc.state != .errorRecovery
    let s := s.modSw p fun w => { w with
      st := if x.tc.held then .withdrawn else if hold then .holdoff else .opn, sinkOn := false,
      monDis := false, holdNext := w.holdNext && !hold }
    let s := s.finishLeaving p
    if x.swap.kind == .pr && x.swap.stage == .standby then
      ((s.modTc p fun t => { t with rpAdv := .none }).modSwap p fun w => { w with stage := .psRdy }).sendCtl p .psRdy
    else if x.tc.leaving then s
    else s.retryClose p)

/-- DISCHARGE_TIMEOUT (R232): the sink is switched off, and SWSTATE stays DISCHARGE. -/
def execDischargeTimeout (p : PortId) (s : State) : Out :=
  .next (s.when ((s.port p).sw.st == .discharge && (s.port p).sw.sinkOn) fun s =>
    (s.swEvt p 7).modSw p fun w => { w with sinkOn := false })

/-- HELD_ENABLE (R233): 5 ms after the discharge the port, in whatever state it is, enters Unattached. An attach ends as by a detach, and
ErrorRecovery is left as at its own end.
DEDUCED, unsafe: log entry 108. -/
def execHeldEnable (p : PortId) (s : State) : Out :=
  .next (s.when (s.portReady p && (s.port p).tc.enHeld && (s.port p).sw.st != .discharge) fun s =>
    let s := if (s.port p).tc.state == .errorRecovery then s.recovered p
      else (if (s.port p).tc.state.attached then s.leaveAttach p else s).toUnattached p
    s.modTc p fun t => { t with enHeld := false })

/-! ## Audit -/

/-- CELL_AUDIT (R237, R242): the test of the cell at AUDITPOS ends; with phase A alone it cannot find an open FET (R238). -/
def execCellAudit (p : PortId) (r : AuditRes) (s : State) : Out :=
  .next (s.when (s.auditOn p && s.porten p) fun s =>
    let c := (s.port p).sw.auditPos
    let s := s.count p.val 0x0C 1
    let s := match r with
      | .pass => s
      | .openFet => s.when (s.auditAll p) fun s =>
          ((s.modSw p fun w => { w with outCells := w.outCells ++ [c] }).swEvt p 4).count p.val 0x0B 1
      | .shorted => (s.modSw p fun w => { w with shorted := true }).swEvt p 5
    let s := s.modSw p fun w => { w with auditPos := w.nextCell 32768 (c + 1) }
    let h := (s.port p).sw.health
    s.when (h == 2 || h == 3) fun s => s.withdraw p (if r == .shorted then c else 0xFFFF) false)

/-! ## Links to the power dies (R15) -/

/-- HEARTBEAT_LOSS (R15, Table 15.1): the ports of the die, which is powered, enter ErrorRecovery. -/
def execHeartbeatLoss (d : Die) (s : State) : Out :=
  .next (s.when (s.dieMeasures d) fun s =>
    let s := match d with
      | .a => { s with sys.linkA := true }
      | .b => { s with sys.linkB := true }
    ((s.safeEvt 15).postSafety 0x05 (Config.dieCode d).toNat 0).eachPort fun s p =>
      s.when (dieOf p == d && s.portReady p && (s.port p).tc.state != .disabled) fun s => s.errorRecovery p)

/-- LINK_HEALTHY (R15): the link has been healthy for 1 ms and the port engines re-arm their ports. -/
def execLinkHealthy (d : Die) (s : State) : Out :=
  .next (
    let s := match d with
      | .a => { s with sys.linkA := false }
      | .b => { s with sys.linkB := false }
    s.eachPort fun s p => s.when (dieOf p == d && s.portReady p) fun s => s.retryClose p)

/-! ## Voltages and references -/

/-- A sink's slew has begun: VBUS is more than 0.25 V from the old contract voltage (R131, R288). -/
def PdPort.slewSeen (d : PdPort) (mv : Nat) : Bool :=
  d.contract == .transition && (match d.nxt with
    | some t => (d.oldV < t.v && decide (d.oldV * 10 + 250 < mv)) || (t.v < d.oldV && decide (mv + 250 < d.oldV * 10))
    | none => false)

/-- VBUS stands within ±5 % of the voltage of a sink's new contract (R225). The 1 ms for which it must have stood there is not
modelled.
DEDUCED, unsafe: log entry 109. -/
def Port.inWindow (x : Port) (mv : Nat) : Bool :=
  let v := (match x.pd.nxt with
    | some t => t.v
    | none => x.pd.terms.v) * 10
  v * 95 ≤ mv * 100 && mv * 100 ≤ v * 105

/-- What the rail stands above VBUS by, in mV, through a closed switch: the drop correction of a forward converter (R266). -/
def Port.railDrop (x : Port) : Int := if x.cv.dir = 1 && !x.sw.sinkDir then x.cv.drop else 0

/-- VBUS_LEVEL_CHANGE: the level of VBUS, which both monitors of a powered port group read. A disagreement is over; the rail behind a closed switch follows, and with
it the region; diode emulation ends below 5.00 V (R271); a sink's slew begins, and its overvoltage threshold moves (R131, R225);
a closing, an attach or a leaving that waited goes on, and a sink's soft-start ends when VBUS is lost (R217, R120). -/
def execVbusLevelChange (p : PortId) (mv : Nat) (s : State) : Out :=
  .next (
    let x := s.port p
    let s := s.modTc p fun t => { t with vbusMv := mv, prailMv := if x.sw.st == .closed then (mv + x.railDrop).toNat else t.prailMv }
    let s := s.modSw p fun w => { w with
      monDis := w.monDis && !s.monitorsOn p, ovBase := if x.snkAtt && x.inWindow mv then 0 else w.ovBase }
    let s := (s.modCv p fun c => if c.diode && mv < 5000 then { c with diode := false, atTarget := false } else c).convRegion p
    let s := s.modPd p fun d => { d with
      sinkSlew := d.sinkSlew || (x.snkAtt && d.slewSeen mv), hr := if d.hr.isSink && mv < 4000 then .sink true else d.hr }
    let s := s.when (x.sw.st == .softstart && x.sw.sinkDir && mv < 4000) fun s => s.openSwitch p
    s.when (s.portReady p && s.monitorsOn p) fun s =>
      let s := s.finishLeaving p
      if (s.port p).tc.ccHeld && 4000 ≤ mv then s.sinkDebounced p else s.tryClose p)

/-- A converter reports at target: one that forms, or whose reference has reached its value; not while the slew waits for
tSrcTransition, nor in diode emulation with the rail elsewhere (R267, R268, R271). -/
def Port.mayTarget (x : Port) : Bool :=
  x.cv.dir != 0 && (x.cv.dir = 3 || x.cv.slewing || !x.cv.atTarget) && !x.cv.slewDue &&
  (!x.cv.diode || (4900 ≤ x.tc.prailMv && x.tc.prailMv ≤ 5100))

/-- AT_TARGET (R267): the reference ramp has ended and the rail, or the local bus, stands at it; through a closed switch of a
source, which carries its current, the rail stands above VREF by the drop correction (R266). A source's transition sends PS_RDY, and a grant lowered in the slew is acted on (Table 8.10). Recovery
to 5.00 V has ended (R272); the overvoltage threshold moves to the new voltage, and the blanking of a Fast Role Swap ends (R225,
R226), their times not modelled.
DEDUCED, unsafe: log entry 109. -/
def execAtTarget (a : AtTarget) (s : State) : Out :=
  let p := a.port
  .next (s.when (s.port p).mayTarget fun s =>
    let x := s.port p
    let s := s.modCv p fun c => { c with slewing := false, atTarget := true, recover := false }
    if x.cv.dir = 3 then s.formed p
    else if x.cv.diode then s
    else
      let mv := x.cv.vref * 20
      let out := x.sw.st == .closed && !x.sw.sinkDir
      let s := s.modTc p fun t => { t with
        prailMv := if out then (mv + x.dropMv (isE p) a.ma).toNat else mv, vbusMv := if out then mv else t.vbusMv }
      let s := s.modCv p fun c => { c with drop := if out then x.dropMv (isE p) a.ma else 0 }
      let s := (s.modSw p fun w => { w with ovBase := 0, blank := false }).convRegion p
      let s := if x.pdSrc && x.pd.contract == .transition then (s.sendCtl p .psRdy).sourceGrant p false else s
      s.tryClose p)

/-- ILIMHIT (R264): the average-current loop begins or ends limiting; a PPS source shows it as PPSCL (R170). -/
def execIlimhit (p : PortId) (on : Bool) (s : State) : Out :=
  .next (s.when ((s.port p).cv.dir != 0) fun s =>
    let x := s.port p
    let s := if on && !x.cv.ilimAct then s.cvEvt p 4 else s
    s.modCv p fun c => { c with ilimAct := on })

/-- PKLIM (R263): the converter stops and the port enters ErrorRecovery. -/
def execPklim (p : PortId) (s : State) : Out :=
  .next (s.when (s.portReady p && (s.port p).cv.dir != 0) fun s => (s.cvEvt p 7).errorRecovery p)

/-- SYNC_LOCK (R273): the timer that SYNCSRC names runs, and its overflow is in the window; the Ember donor runs on its own
oscillator (R274). -/
def execSyncLock (p : PortId) (s : State) : Out :=
  .next (
    let x := s.port p
    s.when (x.cv.dir != 0 && 8 ≤ cfgSyncSrc x.cfg && !x.cv.ember && s.inSyncWindow (cfgSyncSrc x.cfg - 8) (cfgFsw x.cfg))
      fun s => s.modCv p fun c => { c with synced := true })

/-- SYNCLOST (R274): lock lost, or not achieved in time. -/
def execSynclost (p : PortId) (s : State) : Out :=
  .next (
    let x := s.port p
    s.when (x.cv.dir != 0 && cfgSyncSrc x.cfg != 0 && !x.cv.ember) fun s =>
      (s.cvEvt p 0).modCv p fun c => { c with synced := false })

/-- PRAIL_RECOVERY_COMPLETE (R272): PRAILn ≤ 0.70 V. -/
def execPrailRecoveryComplete (p : PortId) (s : State) : Out :=
  .next (s.when ((s.port p).cv.recover && (s.port p).cv.dir = 0) fun s =>
    let s := (s.modTc p fun t => { t with prailMv := min t.prailMv 700 }).modCv p fun c => { c with recover := false }
    s.when (s.portReady p) fun s => s.retryClose p)

/-! ## Forming (R279, R282) -/

/-- FORMING_DWELL (R279, R281): the dwell has passed and a forming source that is not converting starts to form. -/
def execFormingDwell (p : PortId) (s : State) : Out :=
  .next (
    let x := s.port p
    s.when (s.portReady p && s.sys.hbisoLow && !s.ledger.joining && s.mayForm p && x.sw.st == .closed &&
      x.sw.sinkDir && x.cv.dir = 0) fun s =>
      (s.convStart p 3 (s.ledger.vform * 50)).setIlim p)

/-- FORMFAIL (R279). -/
def execFormfail (p : PortId) (s : State) : Out :=
  .next (s.when ((s.port p).cv.dir = 3 && !(s.port p).cv.atTarget) fun s => s.cvEvt p 6)

/-- JOIN_RELEASE (R282): HBISO_N is released 1 ms after ISLAND_SET JOIN. -/
def execJoinRelease (s : State) : Out :=
  .next (s.when s.ledger.joining fun s => ({ s with
    sys.hbisoLow := false, ledger.joining := false,
    ledger.islChg := s.ledger.islChg || s.sys.hbisoLow } : State).flagChange s.unconstrained)

end Sys2Proof.Machine
end

