-- ==== Sys2Proof/Machine/Ring.lean ====
section
/-!
DEFINITION. The Ridgeline commands' events: slots, the master's cycle, frames received, the status channel, joining, loss
and re-forming (chapter 10).
DEDUCED, unsafe: log entry 64.
-/
namespace Sys2Proof.Machine

/-- RING_SLOT (R347): the EOT reaches the node. The master strips it and has its train time, a measured value; any other node
sends its control frame, at most one data frame and an EOT, or where its bypass only waits to close the EOT alone. A node whose
frame was LEAVE closes its bypass in the next ring gap (R358).
DESIGN CHOICE, safe: log entry 63. DESIGN CHOICE, unsafe: log entry 122. -/
def execRingSlot (s : State) : Out :=
  .next (s.when (s.ringHears && s.ring.wsync) fun s =>
    let s := s.slotPassed
    if s.ring.link = 3 then
      s.when s.ring.trainOut fun s =>
        (({ s with ring := { s.ring with trainOut := false, ttMeas := s.freeNat % 65536 } } : State).sendEast []).drawn
    else if s.ring.gapClose then s.sendEast eot
    else s.when s.ring.isOpen fun s =>
      let leaving := s.ring.leaveDue
      let joining := !leaving && s.ring.joinDue
      let (s, own) := s.ownFrame
      let (s, info) := s.infoFrame s.ring.passed
      let s := s.sendEast (frameSyms own ++ info.flatMap frameSyms ++ eot)
      { s with ring := { s.ring with
        joinDue := s.ring.joinDue && !joining, joinSent := s.ring.joinSent || joining, gapClose := leaving } })

/-- MASTER_CYCLE_START (R347, R351, R357): the ring gap ends. A master that has left closes its bypass; one that has named a successor
gives way; the successor takes over. -/
def execMasterCycleStart (s : State) : Out :=
  .next (
    let r := s.ring
    if r.link = 3 && r.gapClose then s.ringGap
    else if r.link = 3 && r.handover != 0 && !r.ringDown then
      { s with ring := { r with link := 2, trainOut := false } }.setMaster r.handover
    else if r.link = 3 && (!r.trainOut || r.ringDown) then s.ringGap.masterCycle
    else if r.link = 2 && r.handover == r.node then
      let t := s.ringGap
      t.when (t.ring.link = 2) fun t =>
        (({ t with ring := { t.ring with link := 3, handover := 0, ownCyc := true } }).setMaster r.node).masterCycle
    else s)

/-- CYCLE (R347, R359, R361). -/
def execCycle (f : List Byte) (s : State) : Out := .next (s.onFrame f)

/-- NODE (R362, R363). -/
def execNode (f : List Byte) (s : State) : Out := .next (s.onFrame f)

/-- JOIN (R355). -/
def execJoin (f : List Byte) (s : State) : Out := .next (s.onFrame f)

/-- LEAVE (R358). -/
def execLeave (f : List Byte) (s : State) : Out := .next (s.onFrame f)

/-- PANEL_INFO (R350). -/
def execPanelInfo (f : List Byte) (s : State) : Out := .next (s.onFrame f)

/-- OFFER_TAKEBACK (R324): offers to a node that no acknowledgement met within 3 ring cycles return to the panel account. A balance
with the node stays on the books, so that both sides come to state it (R363). -/
def execOfferTakeback (n : Node) (s : State) : Out :=
  .next (s.when (s.ring.offers.any fun o => o.node == n && 3 ≤ o.age) fun s =>
    { s with ring := { s.ring with
      offers := s.ring.offers.filter fun o => !(o.node == n && 3 ≤ o.age),
      lentTo := setLoan s.ring.lentTo n (loanOf s.ring.lentTo n) } }.bookLoans)

/-- How many ports the panel's shrink will trim.
DEDUCED, unsafe: log entry 52. -/
def State.trimCount (s : State) : Nat := (s.shrinkAcct .panel).lowered s

/-- LOAN_WITHDRAW (R327): the loans with a node that is gone are withdrawn; the next decision cycle trims with reason 0x06. -/
def execLoanWithdraw (n : Node) (s : State) : Out :=
  .next (s.when (s.ring.lostNodes.contains n) fun s =>
    let r := s.ring
    let lent := loanOf r.lentTo n + sumLoans (r.offers.filter fun o => o.node == n)
    let bor := loanOf r.borrowedFrom n
    let s := { s with ring := { r with
      lostNodes := r.lostNodes.filter (· != n), lentTo := r.lentTo.filter fun l => l.node != n,
      borrowedFrom := r.borrowedFrom.filter fun l => l.node != n, offers := r.offers.filter fun o => o.node != n,
      recalls := r.recalls.filter fun l => l.node != n, lentDue := r.lentDue.filter fun l => l.node != n, differ := r.differ.filter fun x => x.1 != n,
      toAck := r.toAck.filter fun l => l.node != n } }.bookLoans
    s.when (lent + bor != 0) fun s =>
      let s := { s with ledger.shrinkRsn := if bor == 0 then s.ledger.shrinkRsn else 6 }.lgEvt 4
      s.postRec 0x09 ([n] ++ leBytes 2 lent ++ leBytes 2 bor ++ [byteOf s.trimCount 0]))

/-- CYCLE_OVERRUN (R352): the next CYCLE waits for the EOT. -/
def execCycleOverrun (s : State) : Out :=
  .next (s.when (s.ring.link = 3 && s.ring.trainOut) fun s => (s.rgEvt 9).count 33 0x0A 1)

/-- ECHO_REQUEST (R340), received in sync on RGE_RX: answered on RGE_TX where the transmitters are on.
DESIGN CHOICE, unsafe: log entry 120. -/
def execEchoRequest (n : Node) (sq : Byte) (s : State) : Out :=
  .next (s.when (s.ring.isOpen && s.ring.esync && n != 0) fun s => s.sendEast (orderedSet 0x03 s.ring.node sq))

/-- ECHO_REPLY (R360), received in sync on RGW_RX: (round trip − 0.40 µs) ÷ 2, among the last 16. -/
def execEchoReply (n : Node) (rtt : Nat) (s : State) : Out :=
  .next (s.when (s.ring.isOpen && s.ring.wsync && n != 0) fun s => { s with ring.west := ((rtt - 400) / 2 :: s.ring.west).take 16 })

/-- LINK_STATUS (R340): the east neighbour's status shows that the link lives; nothing else follows from it. -/
def execLinkStatus (_n : Node) (_sq : Byte) (s : State) : Out := .next s

/-- SYNC_ACQUIRED (R338): a receiver of RLPHY, powered (Table 1.2). -/
def execSyncAcquired (east : Bool) (s : State) : Out :=
  .next (s.when s.ringHears fun s =>
    if east then { s with ring.esync := true } else { s with ring.wsync := true })

/-- SYNC_LOSS (R338). -/
def execSyncLoss (east : Bool) (s : State) : Out :=
  .next ((if east then { s with ring.esync := false } else { s with ring.wsync := false }).count 33 0x06 1)

/-- RING_JOIN (R354): steps 1 to 5 of Table 10.5 have ended. The bypass opens, and JOIN goes out in the node's next slot; the
CYCLE after it sets JOINED and READY.
DEDUCED, unsafe: log entry 57. -/
def execRingJoin (s : State) : Out :=
  .next (s.when (s.sys.interp && s.ring.link = 1 && !s.ring.isOpen && s.ring.node != 0 && s.ring.wsync && s.ring.clean == 3 &&
      !s.ring.present s.ring.node) fun s => { s.ringTake with ring.joinDue := true })

/-- MASTER_OF_RING_OF_ONE (R354): no CYCLE in step 3, whatever was heard before it; READY follows once the node's own frames
return. -/
def execMasterOfRingOfOne (s : State) : Out :=
  .next (s.when (s.sys.interp && s.ring.link = 1 && !s.ring.isOpen && s.ring.node != 0) fun s =>
    let s := s.ringTake
    ({ s with ring := { s.ring with upRun := 0, clean := 0, ownCyc := false, link := 3, peers := [], trainOut := false, handover := 0 } }).setMaster s.ring.node)

/-- NODELOST (R365). -/
def execNodelost (n : Node) (s : State) : Out :=
  .next (s.when (2 ≤ s.ring.link.toNat) fun s => s.dropNode n)

/-- RINGDOWN (R366): every other node is lost to a node with an open bypass, joined or still joining; without a CYCLE the node becomes
master. -/
def execRingdown (noCycle : Bool) (s : State) : Out :=
  .next (s.when s.ring.isOpen fun s =>
    let s := s.dropAll.rgEvt 6
    let s := { s with ring := { s.ring with ringDown := true, upRun := if noCycle then 0 else s.ring.upRun } }
    s.when noCycle fun s =>
      ({ s with ring := { s.ring with
        link := 3, trainOut := false, handover := 0, joinDue := false, joinSent := false } }).setMaster s.ring.node)

/-- LOWER_MASTER_CYCLE (R367). -/
def execLowerMasterCycle (n : Node) (s : State) : Out :=
  .next (s.when (s.ring.link = 3 && n != 0 && n < s.ring.node && s.ring.handover != n) fun s => s.lowerMaster n)

end Sys2Proof.Machine
end

