-- ==== Sys2Proof/Machine/Window.lean ====
section
/-!
DEFINITION. The host two-wire target: address match, register-window and mailbox transactions, the group address, and
abandoned bytes (R371 to R393, R411).
-/
namespace Sys2Proof.Machine

/-! ## Address match (R371 to R374) -/

/-- What an address reaches: the mailbox or the window, with its role, and whether by a mask match. -/
structure HostHit where
  mailbox : Bool
  role : Nat
  masked : Bool
  deriving DecidableEq, Repr

/-- The match of an address. -/
def State.hostMatch (s : State) (a : HostAddr) : Option HostHit :=
  let x : Byte := a.zeroExtend 8
  let strap : Byte := s.sys.addr.zeroExtend 8
  let d := x ^^^ s.bus.haddrBase
  if !s.hostUp then none
  else if x == 0x50 + strap then some ⟨false, 0, false⟩
  else if x == 0x58 + strap then some ⟨true, 0, false⟩
  else if s.bus.haddrCfg.getLsbD 0 && d &&& ~~~ s.bus.haddrMask &&& 0x7F == 0 && 8 ≤ x && x < 0x78 && x != 0x0C then
    some ⟨x.getLsbD 3, (d &&& 7).toNat, true⟩
  else none

/-- How a transaction ends: by a STOP or a repeated START, by SCLH low for 35 ms (R392), or cut off by VIO (R393). -/
inductive HostEnd where
  | stop | sclh | cut
  deriving DecidableEq, Repr

/-! ## The register window (R376 to R381) -/

/-- The data bytes of a write that reached the window.
DEDUCED, unsafe: log entry 66. -/
def State.winBytes (s : State) (bytes : List Byte) (fin : HostEnd) : State :=
  ({ s.count 34 0x01 1 with bus.acks := bytes.length } : State).winTx (fin != .cut) bytes

/-- A read that reached the window: the bytes sent are kept as the last read. -/
def State.winRead (s : State) (role n : Nat) : State :=
  let (s, out) := State.readLoop role n [] (s.count 34 0x01 1) []
  { s with bus.out := out }

/-- RA (Table 11.1). -/
def State.ra (s : State) : HostAddr := 0x50 + s.sys.addr.zeroExtend 7

/-! ## The mailbox (R382 to R386, R411) -/

/-- A packet read from its bytes. -/
def packetOf (b : List Byte) : Packet :=
  ⟨(nth b 0).extractLsb' 4 4, (nth b 0).extractLsb' 0 4, nth b 1, (nth b 2).extractLsb' 6 2, (nth b 2).extractLsb' 0 6,
    nth b 3, field b 4 2, nth b 6, b.drop 8, false, 0, 0, 0, false, 0, false⟩

/-- A packet is discarded. -/
def State.discard (s : State) : State := { s with bus.hdrErr := satAdd s.bus.hdrErr 1 }.count 34 0x05 1

/-- Check 1 of Table 12.4. -/
def headerOk (b : List Byte) : Bool := 8 ≤ b.length && crc8 (b.take 7) == nth b 7

/-- The data bytes of a write that reached the mailbox, which does not acknowledge the address while it is full: a packet that no STOP
hands over is discarded (R382 to R384, R392, R393).
DEDUCED, unsafe: log entry 67. -/
def State.mbBytes (s : State) (a : HostAddr) (masked : Bool) (bytes : List Byte) (fin : HostEnd) : State :=
  if 16 ≤ s.mb.inbox.length then s.wakeUp.hostNack.count 34 0x04 1
  else
    let b := bytes.take 1032
    let s := (s.hostAck a masked).ackBytes b.length
    if fin == .stop && headerOk b then s.handOver (packetOf b) else s.discard

/-- The head reply has been read whole: it leaves, frees its tag where it is final (R420), and room comes (R425). -/
def State.replyOut (s : State) : State :=
  match s.mb.replies with
  | [] => s
  | r :: l =>
    let s := { s with mb.replies := l, mb.tags := if r.owns then s.mb.tags.filter (· != r.tag) else s.mb.tags }
    (s.count 34 0x03 1).flushHeld.drain

/-- A read that reached the mailbox; a reply read whole leaves at its end (R385, R386). -/
def State.mbRead (s : State) (n : Nat) (fin : HostEnd) : State :=
  let b := match s.mb.replies with
    | r :: _ => r.bytes
    | [] => []
  let s := { s with bus.out := b.take n ++ List.replicate (n - b.length) 0xFF }
  if fin != .cut && !b.isEmpty && b.length ≤ n then s.replyOut else s

/-! ## Transactions -/

/-- A write transaction to the group address (R387): of its bytes only a first GCODE 0x01 or 0x02 is acknowledged, and acts at the
end; it is ignored while the performance block is not READY.
DEDUCED, unsafe: log entry 67. -/
def State.gaBytes (s : State) (codes : List Byte) (fin : HostEnd) : State :=
  if s.hostUp then
    let s := s.hostAck 0x0C false
    let c := codes.headD 0
    if c == 1 || c == 2 then
      let s := (s.ackBytes 1).count 34 0x09 1
      if fin == .cut || !s.sys.perfReady then s else if c == 1 then s.perfStop else s.perfGo
    else s
  else s.hostNack

/-- A write transaction goes where its address leads (Table 11.1). -/
def State.txWrite (s : State) (a : HostAddr) (bytes : List Byte) (fin : HostEnd) : State :=
  match s.hostMatch a with
  | some ⟨false, _, m⟩ => State.watched (fun s => (s.hostAck a m).winBytes bytes fin) s
  | some ⟨true, _, m⟩ => s.mbBytes a m bytes fin
  | none => if a == 0x0C then s.gaBytes bytes fin else s.hostNack

/-- A read transaction goes where its address leads; the group address is not acknowledged. -/
def State.txRead (s : State) (a : HostAddr) (n : Nat) (fin : HostEnd) : State :=
  match s.hostMatch a with
  | some ⟨false, role, m⟩ => State.watched (fun s => (s.hostAck a m).winRead role n) s
  | some ⟨true, _, m⟩ => State.watched (fun s => (s.hostAck a m).mbRead n fin) s
  | none => s.hostNack

/-- The host's whole access to a register: PAGE, the pointer, and the read.
DEDUCED, unsafe: log entry 66. -/
def State.regRead (s : State) (a : HostAddr) (r : CorReg) : State :=
  let (pg, off, n) := r.place
  ((s.txWrite a [0xFF, byteOf pg 0] .stop).txWrite a [byteOf off 0] .stop).txRead a n .stop

/-! ## The rows -/

/-- MAILBOX_WRITE (R382). -/
def execMailboxWrite (a : HostAddr) (bytes : List Byte) (s : State) : Out := .next (s.txWrite a bytes .stop)

/-- MAILBOX_READ (R385, R386). -/
def execMailboxRead (a : HostAddr) (n : Nat) (s : State) : Out := .next (s.txRead a n .stop)

/-- REGISTER_WINDOW_WRITE (R376). -/
def execRegisterWindowWrite (a : HostAddr) (bytes : List Byte) (s : State) : Out := .next (s.txWrite a bytes .stop)

/-- PAGE_WRITE (R378). -/
def execPageWrite (a : HostAddr) (page : Byte) (s : State) : Out := .next (s.txWrite a [0xFF, page] .stop)

/-- The offset of a host-address register on page 0x00. -/
def haddrOff : HaddrReg → Byte
  | .cfg => 0x0C
  | .base => 0x0D
  | .mask => 0x0E

/-- HADDR_WRITE (R372): page 0x00 is selected, and the register written.
DEDUCED, unsafe: log entry 66. -/
def execHaddrWrite (a : HostAddr) (r : HaddrReg) (v : Byte) (s : State) : Out :=
  .next ((s.txWrite a [0xFF, 0] .stop).txWrite a [haddrOff r, v] .stop)

/-- GA_FREEZE. -/
def execGaFreeze (s : State) : Out := .next (s.txWrite 0x0C [1] .stop)

/-- GA_RELEASE. -/
def execGaRelease (s : State) : Out := .next (s.txWrite 0x0C [2] .stop)

/-- HDRERRCNT_READ (R380, R411). -/
def execHdrerrcntRead (a : HostAddr) (s : State) : Out := .next (s.regRead a .hdrErr)

/-- RGCRC_READ (R370). -/
def execRgcrcRead (a : HostAddr) (s : State) : Out := .next (s.regRead a .rgCrc)

/-- ECCSBECNT_READ (R532). -/
def execEccsbecntRead (a : HostAddr) (s : State) : Out := .next (s.regRead a .eccSbe)

/-- ECCDBECNT_READ (R532). -/
def execEccdbecntRead (a : HostAddr) (s : State) : Out := .next (s.regRead a .eccDbe)

/-- TRLOST_READ (R594). -/
def execTrlostRead (a : HostAddr) (s : State) : Out := .next (s.regRead a .trLost)

/-- A transaction with the bytes completed in it, and its end. -/
def State.transact (s : State) (fin : HostEnd) : HostXfer → State
  | .winWrite a b => s.txWrite a b fin
  | .winRead a n => s.txRead a n .stop
  | .mbWrite a b => s.txWrite a b fin
  | .mbRead a n => s.txRead a n fin
  | .gaWrite c => s.txWrite 0x0C c fin

/-- BYTE_ABANDON (R391): the byte in progress has no effect, and what came before it stands. -/
def execByteAbandon (x : HostXfer) (s : State) : Out := .next ((s.transact .stop x).count 34 0x08 1)

/-- SCLH_LOW_TIMEOUT (R392): as at a STOP, but for a mailbox packet, which is discarded. -/
def execSclhLowTimeout (x : HostXfer) (s : State) : Out := .next ((s.transact .sclh x).count 34 0x08 1)

end Sys2Proof.Machine
end

