-- ==== Sys2Proof/Machine/Supply.lean ====
section
/-!
DEFINITION. Reset, the power states, the supplies and the clocks (R51, R64 to R76, R275, R276).
-/
namespace Sys2Proof.Machine

/-! ## RESET_N and the power states -/

/-- RESET_N_LOW (R51, R97, R393): the host transaction in progress is abandoned, with all that waits for its STOP; CORE and the port groups are held in reset until COLD_BOOT or EMBER_START releases them, which sample
the straps; AON keeps what it holds, but for the unlock nonce (Table 16.1).
DEDUCED, unsafe: log entry 18. -/
def execResetNLow (s : State) : Out :=
  let s := s.coreReset
  let t : State := { s with
    vault := { s.vault with nonce := none },
    sys := { s.sys with resetLow := true, cause := 3, strapDue := true, pwr := if s.sup.vmain == .ok then .run else .off },
    ember := { s.ember with
      step := 0, donor := none, stopped := false, reg := s.ember.reg && s.sup.vmain != .ok, excluded := [], abandoned := 0 } }
  .next (t.when (t.sys.pwr == .off) State.stsLfo)

/-- The interpreter has nothing to do. -/
def State.workless (s : State) : Bool :=
  s.mb.inbox.isEmpty && s.mb.lanes.isEmpty && s.mb.parts.isEmpty && s.mb.held.isEmpty && s.mb.late.isEmpty && s.sbox.queue.isEmpty &&
  !s.fw.verifying

/-- DOZE_ENTRY (R72). -/
def execDozeEntry (s : State) : Out :=
  .next (s.when (s.sys.pwr == .run && s.sys.dozeEn && s.sys.interp && !s.sys.resetLow && s.workless) fun s =>
    { s with sys.pwr := .doze })

/-- Neither attached nor in an attach debounce.
DEDUCED, unsafe: log entry 17. -/
def TcState.idle (t : TcState) : Bool :=
  t == .disabled || t == .unattachedSnk || t == .unattachedSrc || t == .errorRecovery

/-- The converter is idle and its recovery of PRAILn does not switch: below 3.0 V, without drivers, with VHB out of range or at
58.0 V the bleed acts alone (R272). -/
def State.convQuiet (s : State) (p : PortId) : Bool :=
  let x := s.port p
  x.cv.dir == 0 && !(x.cv.recover && Nat.ble 3001 x.tc.prailMv && s.armed p && s.sup.vhb == .ok && Nat.blt s.sup.vhbMv 58000)

/-- The conditions of R73.
DEDUCED, unsafe: log entry 17. -/
def State.sleepOk (s : State) : Bool :=
  s.sys.sleepEn && (allPorts.all fun p => (s.port p).tc.state.idle && s.convQuiet p) &&
  (!s.ridgeen || !s.ring.enable) && s.workless && s.mb.replies.isEmpty && !s.fuseBusy &&
  (s.pbus.toList.all fun b => !b.xfer && !b.clearing && b.queue.isEmpty) && s.tmrs.toList.all fun t => !t.run

/-- SLEEP_ENTRY (R73): STS runs on the LFO, HBISO_N is released, and the comparators' filters stop (Tables 2.10, 14.8, R504, R505). -/
def execSleepEntry (s : State) : Out :=
  .next (s.when (s.sys.pwr == .doze && s.sleepOk) fun s =>
    let s := s.hbisoRelease
    { s with
      gwcs := s.gwcs.map fun (x : Gwc) => { x with hist := [] },
      sys := { s.sys with pwr := .sleep } }.stsLfo)

/-- SLEEP_WAKE (R74): a CC change on a watched port, a host address, an alarm source or RESET_N.
DEDUCED, unsafe: log entry 17. -/
def execSleepWake (w : WakeSrc) (s : State) : Out :=
  .next (match w with
    | .cc p => s.when (s.portReady p) State.wakeUp
    | .hostMatch => s.when s.hostUp State.wakeUp
    | .alarm => s.wakeUp
    | .resetN => s.wakeUp)

/-- VIO_MODE_SELECT (R65): the mode is selected once, and held. -/
def execVioModeSelect (mv : Nat) (s : State) : Out :=
  .next (s.when (!s.sys.vioHeld) fun s => { s with sys.vioSel := !Nat.blt mv 2400, sys.vioHeld := true })

/-! ## Excursions (Table 3.1) -/

/-- VMAIN_EXCURSION: over-range is not acted on with SAFECFG bit 4 clear (Table 15.3). In an Ember start, or in OFF, nothing runs
from VMAIN. -/
def execVmainExcursion (hi : Bool) (s : State) : Out :=
  .next (
    if s.sup.vmain == supOf hi then s
    else if s.onStart then { s with sup.vmain := supOf hi }
    else if s.sys.pwr == .off then ({ s with sup.vmain := supOf hi } : State).aonCheck
    else if hi && !s.safeOn 4 then s
    else ({ s with sup.vmain := supOf hi } : State).mainLost 6 hi)

/-- VDRV_EXCURSION. With the supply monitors off an undervoltage is not detected, but the power die holds its cells open and its
gates low for want of VDRV all the same (R17, Table 15.3). -/
def execVdrvExcursion (d : Die) (hi : Bool) (s : State) : Out :=
  .next (if s.onStart then s.setSupply (supOf hi) (drvOf d)
    else if s.coreOn && !s.safeOn 4 then (if hi || s.supply (drvOf d) != .ok then s else (s.setSupply .below (drvOf d)).vdrvOut d)
    else s.excursion (drvOf d) (if d == .a then 7 else 8) hi fun s => (s.setVdrvWait true d).vdrvOut d)

/-- VDRV_RETURN: within range for 1 ms, the die's attached ports enter ErrorRecovery. -/
def execVdrvReturn (d : Die) (s : State) : Out :=
  .next (
    if !s.coreOn || s.onStart then s.setSupply .ok (drvOf d)
    else
      let wait := s.vdrvWait d
      let s := if s.supply (drvOf d) == .ok then s else ((s.setSupply .ok (drvOf d)).vdrvIn d).donorMoved
      s.when wait fun s => (s.setVdrvWait false d).eachPort fun s p =>
        s.when (dieOf p == d && s.portReady p && (s.port p).tc.state.attached) fun s => s.errorRecovery p)

/-- VIO_EXCURSION (R393): the host transaction in progress, with the bytes completed in it, and the transfers on every PBUS are
abandoned; ports are unaffected. Below 1.0 V the VIO mode is held no longer (R65).
DEDUCED, unsafe: log entry 67. -/
def execVioExcursion (v : SupplyLevel) (s : State) : Out :=
  let s := s.when (!v.above && v.mv < 1000) fun s => { s with sys.vioHeld := false }
  let s := s.when (s.sup.vio != supOf v.above && s.coreOn && s.safeOn 4) fun s =>
    match v.xfer with
    | some x => s.transact .cut x
    | none => s.hostNack
  .next (s.excursion .vio 9 v.above State.pbusVio)

/-- VCONNIN_EXCURSION: VCONN switches open; contracts are kept. -/
def execVconninExcursion (hi : Bool) (s : State) : Out :=
  .next (s.excursion .vconnin 10 hi fun s => s.eachPort fun s p => s.modTc p fun t => { t with vconnOn := false })

/-- VHB_EXCURSION (R275); the level is what VHB then reads. -/
def execVhbExcursion (hi : Bool) (mv : Nat) (s : State) : Out :=
  .next (if !s.coreOn then
      { s with sup.vhbMv := mv, sup.vhb := if mv < 16500 then .below else if 62000 < mv then .above else .ok }
    else if s.safeOn 4 then (s.vhbRead mv).excursion .vhb 11 hi fun t => (t.vhbOut hi).flagChange s.unconstrained
    else s.vhbRead mv)

/-- VHB_RETURN (R275). -/
def execVhbReturn (mv : Nat) (s : State) : Out :=
  .next (if s.vhbReleased mv then s.vhbBack mv else s.vhbRead mv)

/-- RIDEFAIL (R275): 20 ms have passed. -/
def execRidefail (s : State) : Out :=
  .next (s.when (s.sup.vhb != .ok && s.coreOn) fun s =>
    s.eachPort fun s p =>
      let x := s.port p
      s.when (s.portReady p && x.srcAtt && !(x.swap.kind == .fr && x.swap.engaged)) fun s =>
        (s.cvEvt p 2).errorRecovery p)

/-- REVERSE_RESTART (R276): VHB has been at or below 60.0 V for 100 ms. -/
def execReverseRestart (s : State) : Out :=
  .next (s.when (s.sup.vhb == .ok) fun s =>
    s.eachPort fun s p => if (s.port p).cv.stopped = 2 then s.restartOne p else s)

/-- VBAT_EXCURSION (R18): an AON that nothing else powers is then lost. With the supply monitors off nothing is told, but the level is what it is. -/
def execVbatExcursion (hi : Bool) (s : State) : Out :=
  .next (
    let t := (s.excursion .vbat 12 hi id).setSupply (supOf hi) .vbat
    t.aonCheck)

/-- A pulse from external VPP is stopped: its bit is reported as failed unless it verifies (R64), and the bits above it get no pulse while VPP
is out of range, which is checked before each (Table 17.5).
DESIGN CHOICE, safe: log entry 78. -/
def State.pulseStop (s : State) (bit : Fin 32) (ok : Bool) : State :=
  { s with fuse.run := s.fuse.run.map fun r =>
      if r.pump then r
      else { r with
        stopped := if ok then r.stopped else r.stopped ||| BitVec.twoPow 32 bit.val,
        unpowered := r.unpowered ||| ~~~ lowBits (bit.val + 1) } }

/-- VPP is within its range again: the bits not yet come to get their pulses, and how many had been passed over is not stated.
DESIGN CHOICE, safe: log entry 78. -/
def State.pulseOn (s : State) : State :=
  match s.fuse.run with
  | some r =>
    if r.unpowered = 0 then s
    else { s with fuse.run := some { r with unpowered := r.unpowered &&& lowBits (s.freeNat % 33) } }.drawn
  | none => s

/-- VPP_EXCURSION: a pulse in progress, of the bit named, is stopped. -/
def execVppExcursion (v : VppCut) (s : State) : Out :=
  .next (s.excursion .vpp 13 v.above fun s => s.pulseStop v.bit v.ok)

/-- VDINT_EXCURSION: an excursion of VDCORE acts as one of VMAIN, and one of VDAON resets AON. Both act whatever SAFECFG bit 4
reads. -/
def execVdintExcursion (core : Bool) (hi : Bool) (s : State) : Out :=
  .next (
    if core then
      (if s.sup.vdcore != .ok || s.sys.pwr == .off then s
       else ({ s with sup.vdcore := supOf hi } : State).mainLost 14 hi)
    else if s.sup.vdaon != .ok then s
    else
      let s := { s with sup.vdaon := supOf hi }
      (if s.coreOn then s.postSupply 14 hi else s).aonReset)

/-- SUPPLY_BACK_IN_RANGE (R64): the excursion and its action are over. VDRV's ports wait for VDRV_RETURN, and a boot for
COLD_BOOT. In an Ember start the regulators' supplies carry it on (steps 13 and 14 of Table 3.9). -/
def execSupplyBackInRange (su : Supply) (s : State) : Out :=
  .next (match su with
    | .vmain =>
      let s := { s with
        sup.vmain := .ok, ember.stopped := false, ember.excluded := if s.onStart then s.ember.excluded else [],
        ember.abandoned := if s.onStart then s.ember.abandoned else 0 }
      if s.onStart && s.ember.step == 12 then { s with ember.step := 13, sys.drvenLow := false } else s
    | .vdrvA | .vdrvB =>
      let d := if su == .vdrvA then Die.a else Die.b
      if s.supply su == .ok then s
      else
        let s := s.setSupply .ok su
        let s := if s.coreOn && !s.onStart then s.vdrvIn d else s
        let s := s.donorMoved
        if s.onStart && s.ember.step == 13 && s.sup.vdrvA == .ok && s.sup.vdrvB == .ok then { s with ember.step := 14 } else s
    | .vio => allBuses.foldl State.pbusNext { s with sup.vio := .ok }
    | .vconnin => ({ s with sup.vconnin := .ok } : State).vconnIn
    | .vhb => if s.sup.vhb == .ok then s else s.vhbBack (if s.sup.vhb == .below then 17500 else 60000)
    | .vbat => s.aonBack { s with sup.vbat := .ok }
    | .vpp => ({ s with sup.vpp := .ok } : State).pulseOn
    | .vdcore => { s with sup.vdcore := .ok }
    | .vdaon => s.aonBack { s with sup.vdaon := .ok })

/-! ## Clocks (Table 3.3) -/

/-- LFO_CRYSTAL_LOSS: only where the LFO runs on the crystal (Table 3.2).
DEDUCED, unsafe: log entry 16. -/
def execLfoCrystalLoss (s : State) : Out :=
  .next (s.when (s.custField 0x0C0 10 10 == 1 && !s.clk.lfoXtal) fun s =>
    ({ s with clk.lfoXtal := true } : State).clockLost .lfoCrystal 5 id)

/-- REFCLK_LOSS: STS continues from HFO, SYSCLK falls back, and Ridgeline leaves the ring. With the clock monitors off nothing falls
back, and what REFCLK feeds stops (Table 15.3).
DEDUCED, unsafe: log entry 16. -/
def execRefclkLoss (s : State) : Out :=
  .next (s.when (!s.clk.refclk) fun s =>
    let s := ({ s with clk.refclk := true } : State).clockLost .refclk 4 fun s =>
      { s with clk.pll := true }.stsDegraded
    s.when s.coreOn State.ringLeave)

/-- PLL_LOCK_LOSS: as for REFCLK, SYSCLK running from HFO and STSDEG set; Ridgeline keeps its place (Table 3.3).
DEDUCED, unsafe: log entry 16. -/
def execPllLockLoss (s : State) : Out :=
  .next (s.when (!s.clk.pll) fun s => ({ s with clk.pll := true } : State).clockLost .pll 4 State.stsDegraded)

/-- CLOCK_RETURN (R71): the device switches back; the status bits stay.
DEDUCED, unsafe: log entry 16. -/
def execClockReturn (c : ClockId) (s : State) : Out :=
  .next (match c with
    | .lfoCrystal => { s with clk.lfoXtal := false }
    | .hfo => { s with clk.hfo := false }
    | .refclk =>
      let s := { s with clk.refclk := false }
      if s.ring.link = 0 then s.ringListen else s
    | .pll => { s with clk.pll := false })

end Sys2Proof.Machine
end

