-- ==== Sys2Proof/Machine/Swaps.lean ====
section
/-!
DEFINITION. Swap requests received, Fast Role Swap and the swap timers (R182 to R198).
-/
namespace Sys2Proof.Machine

/-- PR_SWAP (R184, R185, R187, Table 6.1): one that meets an own swap is settled first (R196), then come the
refusals, the policy, and a swap probe whose answer the Ledger gives. R184
does not refuse it to a port attached from dead battery, and the model does not either.
DESIGN CHOICE, unsafe: log entry 103. -/
def execPrSwap (p : PortId) (h : RxHdr) (s : State) : Out :=
  .next (s.onMsg p h fun s => s.serve p fun s =>
    let x := s.port p
    s.meetSwap p fun s =>
      if x.pd.contract != .explicit || s.bridged p then s.reply p .reject [] []
      else if !s.ledger.ready then s.reply p .wait [] []
      else if (cfgPrSwap x.cfg).testBit (if x.pdSnk then 0 else 1) then
        ((s.frDisarm p).modPd p fun d => { d with ams := .partner }).startProbe p false
      else s.reply p .reject [] [])

/-- SWAP_PS_RDY_TIMEOUT (R187). -/
def execSwapPsRdyTimeout (p : PortId) (s : State) : Out :=
  .next (s.when (s.portReady p && (s.port p).swap.running && (s.port p).swap.stage == .psRdy) fun s => s.errorRecovery p)

/-- DR_SWAP (R184, R193): Hard Reset in Ledger mode; otherwise by DRSWAP, the role changing at the GoodCRC of the Accept. -/
def execDrSwap (p : PortId) (h : RxHdr) (s : State) : Out :=
  .next (s.onMsg p h fun s =>
    let x := s.port p
    if x.lm.mode then s.hardReset p
    else s.serve p fun s => s.meetSwap p fun s =>
      if x.pd.contract != .explicit then s.reply p .reject [] []
      else if (cfgDrSwap x.cfg).testBit (if x.tc.dfp then 1 else 0) then
        (s.modSwap p fun w => { w with kind := .dr, stage := .standby, toSrc := !x.tc.dfp, own := false, won := false }).reply
          p .accept [] []
      else s.reply p .reject [] [])

/-- A VCONN_Swap that the source needs for an EPR entry comes within the sink's own AMS (R166, R167). -/
def State.serveVconn (s : State) (p : PortId) (f : State → State) : State :=
  if (s.port p).pdSnk && (s.port p).pd.ams == .eprEntry then f s else s.serve p f

/-- VCONN_SWAP (R184, R194): unsupported on an S-port; an EPR source does not give VCONN up. -/
def execVconnSwap (p : PortId) (h : RxHdr) (s : State) : Out :=
  .next (s.onMsg p h fun s =>
    let x := s.port p
    if !isE p then s.unsupported p
    else s.serveVconn p fun s => s.meetSwap p fun s =>
      if x.pd.contract != .explicit || (x.pdSrc && x.pd.epr && x.tc.vconnOn) then s.reply p .reject [] []
      else if cfgVcSwap x.cfg && (x.tc.vconnOn || s.vconnOk p) then
        let s := s.modSwap p fun w => { w with
          kind := .vconn, stage := .psRdy, toSrc := !x.tc.vconnOn, own := false, won := false }
        (s.reply p .accept [] []).vconnAccepted p
      else s.reply p .reject [] [])

/-- VCONN_SOURCE_TIMEOUT (R194). -/
def execVconnSourceTimeout (p : PortId) (s : State) : Out :=
  .next (s.when (s.pdLive p && (s.port p).swap.kind == .vconn && (s.port p).swap.stage == .psRdy) fun s => s.hardReset p)

/-- FR_SWAP (R192): a port that has signalled accepts, presents Rd, sends PS_RDY and awaits the partner's. Its switch, which must
close again while the new source holds VBUS up, leaves the discharge. -/
def execFrSwap (p : PortId) (h : RxHdr) (s : State) : Out :=
  .next (s.onMsg p h fun s => s.only3 p fun s =>
    let w := (s.port p).swap
    if w.kind == .fr && w.stage == .standby && !w.toSrc then
      let s := (s.reply p .accept [] []).modTc p fun t => { t with rpAdv := .none }
      let s := s.modSw p fun k => { k with st := if k.st == .discharge then .opn else k.st, sinkOn := false }
      (s.modSwap p fun w => { w with stage := .psRdy }).sendCtl p .psRdy
    else s.protocolError p)

/-- The forward loop of a Fast Role Swap: it runs at 5.00 V, with diode emulation until VBUS falls below 5.00 V, and is not at target
before the rail stands there (R267, R271). While VHB is out of range it waits as one R275 stopped. Reverse-current protection is
blanked (R226).
DESIGN CHOICE, unsafe: log entry 118. -/
def State.frForward (s : State) (p : PortId) : State :=
  let s := s.modCv p fun c => { c with
    dir := if s.sup.vhb == .ok then 1 else 0, stopped := if s.sup.vhb == .ok then 0 else 1,
    region := if s.sup.vhb == .ok then (if c.dir = 0 then regionStart 5000 s.sup.vhbMv else c.region) else 3, vref := 250, refBus := false, slewing := false, atTarget := false,
    prebias := false, standby := false, diode := !decide ((s.port p).tc.vbusMv < 5000), slewDue := false, recover := false,
    drop := 0, ilim := ilimCode (rpCur .a30) }
  (s.modSw p fun w => { w with sinkDir := false, blank := true }).convRegion p

/-- FAST_ROLE_SWAP_SIGNAL (R191, R271, Table 6.4): an armed sink reverses its converter at once and sends FR_Swap; its switch
stays closed. Without parameters the converter does not start, and PARAMERR is set (R259).
DESIGN CHOICE, unsafe: log entry 125. -/
def execFastRoleSwapSignal (p : PortId) (s : State) : Out :=
  .next (
    let x := s.port p
    s.when (s.pdLive p && x.swap.frArmed && x.pdSnk && !x.swap.engaged && x.sw.st == .closed && s.armed p) fun s =>
    if !s.paramOk p then s.cvEvt p 8
    else
      let s := if x.swap.stage == .none then s else s.swapDone p 0x52 0x07 false
      let s := ((s.cutAms p).frForward p).modSwap p fun w => { w with
        kind := .fr, stage := .sent, toSrc := true, own := false, won := false, frArmed := false, frAsked := false }
      (s.modPd p fun d => { d with ams := .swap }).sendCtl p .frSwap)

/-- SWAP_SOURCE_START_EXPIRY (R198, Tables 6.3, 6.4): the new source may send its capabilities. -/
def execSwapSourceStartExpiry (p : PortId) (s : State) : Out :=
  .next (s.when (s.pdLive p && (s.port p).pdSrc && (s.port p).pd.startDue) fun s =>
    (s.modPd p fun d => { d with startDue := false }).trigger p .negotiation)

end Sys2Proof.Machine
end

