-- ==== Sys2Proof/Machine/Timers.lean ====
section
/-!
DEFINITION. The timers' and comparators' events (chapter 14).
-/
namespace Sys2Proof.Machine

/-- A counter clock can come: the timer runs, and its gate is not closed (R493). -/
def State.clocks (s : State) (k : TmrId) : Bool := (s.tmr k).run && s.counts (s.tmr k)

/-- RELOAD_TICK (R487): the counter clock after the count that equals RELOAD. -/
def execReloadTick (k : TmrId) (s : State) : Out :=
  .next (s.when (s.clocks k && (s.tmr k).count == (s.tmr k).reload) fun s => s.reload k)

/-- COMPARE_MATCH (R492): the counter clock whose new count equals the register, or that takes a written value already passed; a value
above RELOAD never matches, and one of 0 matches on the reload tick. -/
def execCompareMatch (k : TmrId) (isB : Bool) (s : State) : Out :=
  .next (
    let t := s.tmr k
    let due := if isB then t.lateB || t.nextB == t.count + 1 else t.lateA || t.nextA == t.count + 1
    s.when (s.clocks k && t.count != t.reload && due) fun s => s.tmrClock k)

/-- CAPTURE (R491, R508): an edge on a TIN pin captures a timer whose CAPPIN and CAPEDGE select it; the counter clock after the edge gives
its count, 0 on the reload tick.
DEDUCED, unsafe: log entry 75. -/
def execCapture (e : TinEdge) (count : Word) (s : State) : Out :=
  .next (
    let k := e.tmr
    let t := s.tmr k
    let back := t.count == t.reload
    let mine := t.capPin == e.pin && (t.capEdge = 2 || t.capEdge = (if e.rise then 0 else 1))
    s.when (s.clocks k && t.mode = 4 && mine && count == (if back then 0 else t.count + 1)) fun s =>
      let s := if back then s.reload k else s.tmrClock k
      let had := (s.tmr k).flag.getLsbD 3
      let s := (s.modTmr k fun t => { t with cmpb := t.cmpa, cmpa := count }).tmrFlag k 3
      s.when had fun s => s.modTmr k fun t => { t with flag := setBit t.flag 6 })

/-- LINK_TRIGGER (R493, Table 14.3): the trigger of a slave's link acts. A gated slave with a TIN pin sees the pin's
level change; a timer without a link that counts a TIN pin's edges counts one.
DESIGN CHOICE, unsafe: log entry 74. -/
def execLinkTrigger (k : TmrId) (s : State) : Out :=
  .next (
    let t := s.tmr k
    if t.smode = 1 then
      let s := s.modTmr k fun t => { t with gate := !t.gate }
      if s.counts (s.tmr k) then s else s.modTmr k fun t => { t with owed := min t.owed 0 }
    else if t.smode = 2 then s.when (t.mode != 0 && (t.run || t.mode = 1 || t.mode = 2)) fun s => s.tmrRestart k
    else s.when (t.smode = 3 || isTin t.clkSrc) fun s => s.modTmr k fun t => t.sourceTicks true 1)

/-- A sample of a comparator's input: entry into another state is an event where its EVT bit is set (R505). -/
def State.gwcSample (s : State) (g : Fin 16) (v : Nat) : State :=
  let x := s.gwc g
  let y := x.sample v
  let hit := y.st != x.st && (match gwcBit y.st with
    | some i => x.evtMask.getLsbD i
    | none => false)
  let s := s.setGwc g y
  if hit then { s with gwcEvt := setBit s.gwcEvt g.val } else s

/-- GWC_STATE_CHANGE (R502 to R505): the WIN pin's code at each tick of the filter clock. -/
def execGwcStateChange (g : Fin 16) (w : List Nat) (s : State) : Out :=
  .next (s.when ((s.gwc g).mode != 0 && (s.sys.pwr == .run || s.sys.pwr == .doze)) fun s =>
    w.foldl (fun s v => s.gwcSample g v) s)

end Sys2Proof.Machine
end

