-- ==== Sys2Proof/Machine/Vault.lean ====
section
/-!
DEFINITION. The security alarm's detections, the unlock nonce's expiry, and the Type-C Authentication responder (R210, R211,
R473, R538 to R544). The codes and layouts of the authentication messages are those of USB Type-C Authentication 1.0.
PRESUMED, unsafe: log entry 34.
-/
namespace Sys2Proof.Machine

/-! ## The alarm (R538 to R544) -/

/-- The triggers of some sources hold. -/
def Alarm.seen (a : Alarm) (srcs : BitVec 7) : Alarm :=
  { a with
    present := a.present ||| (srcs &&& 0x1F), away := (List.range 7).map fun i => if srcs.getLsbD i then 0 else a.away.getD i 0 }

/-- ALARM_DETECTION: the physical sources 0x00 to 0x04. A source does not fire again before its condition has been absent for 1 ms
(R540). The event wakes the device from SLEEP.
DEDUCED, unsafe: log entry 83. -/
def execAlarmDetection (srcs : BitVec 7) (s : State) : Out :=
  .next (s.when s.aonOn fun s =>
    let l := (List.range 5).filter fun i => srcs.getLsbD i && !s.alarm.present.getLsbD i
    let s := { s with alarm := s.alarm.seen srcs }
    if l.isEmpty then s else s.wakeUp.alarmFire l)

/-- NONCE_EXPIRY (R473). -/
def execNonceExpiry (s : State) : Out := .next { s with vault.nonce := none }

/-! ## Authentication (R210, R211, Table 6.16) -/

/-- The digest of the slot 0 chain. -/
def State.chainDigest (s : State) : List Byte := sha256 s.lantern.chain

/-- CHALLENGE_AUTH: the chain's digest, a salt and the context hash, signed over the nonce and the response's fields. The salt
and the context hash are not stated.
PRESUMED, unsafe: log entry 35. -/
def State.challengeAuth (s : State) (nonce : List Byte) : State × List Byte :=
  let rand := s.random 64
  let s := s.stirred
  let ctx := s.freeBytes 32
  let s := s.drawn
  let m := authMsg 0x03 0 1 ([0x10, 0x10, 1, 0] ++ s.chainDigest ++ rand.take 32 ++ ctx)
  let sig := ecdsaSign (s.vault.priv.getD []) (p256Scalar (rand.drop 32)) (nonce ++ m)
  (s.count 37 0x01 1, m ++ sig)

/-- The answer to a request.
PRESUMED, unsafe: log entry 35. -/
def State.authAnswer (s : State) (d : List Byte) : State × List Byte :=
  let slot := nth d 2
  if !s.sys.vaultReady then (s, authError 3)
  else if !s.attOk then (s, authError 4)
  else if nth d 0 != 0x10 then (s, authError 2)
  else if nth d 1 == 0x81 then (s, authMsg 0x01 1 1 s.chainDigest)
  else if nth d 1 == 0x82 then
    let off := field d 4 2
    if slot != 0 || d.length < 8 || s.lantern.chain.length ≤ off then (s, authError 1)
    else (s, authMsg 0x02 0 0 ((s.lantern.chain.drop off).take (min (field d 6 2) 256)))
  else if nth d 1 == 0x83 then
    if slot != 0 || d.length < 36 then (s, authError 1) else s.challengeAuth ((d.drop 4).take 32)
  else (s, authError 2)

/-- Sends an answer, chunked where it is longer than one chunk (R143). -/
def State.sendAuth (s : State) (p : PortId) (b : List Byte) : State :=
  let s := if nth b 1 == 0x7F then s.count 37 0x03 1 else s
  (s.modPd p fun x => { x with chunk := none }).replyExt p .securityResponse b

/-- SECURITY_REQUEST: `d` is the message, or its last chunk after those gathered. While another request is being answered the
answer is ERROR, Busy. -/
def execSecurityRequest (p : PortId) (h : RxHdr) (d : List Byte) (s : State) : Out :=
  .next (s.onMsg p h fun s => s.only3 p fun s =>
    let x := s.port p
    let d := match x.pd.chunk with
      | some (b, _, false) => b ++ d
      | _ => d
    if h.sop != .sop then s
    else if !s.authen || 260 < d.length then s.unsupported p
    else s.serve p fun s =>
      let s := s.count 37 0x02 1
      if x.pd.answering then (s.count 37 0x03 1).reply p .securityResponse [] (authError 3)
      else s.modPd p fun y => { y with
        auth := some d, chunk := none, ams := if y.ams == .none then .partner else y.ams })

/-- SECURITY_RESPONSE: the responder has built its answer. -/
def execSecurityResponse (p : PortId) (s : State) : Out :=
  .next (s.when (s.pdLive p) fun s =>
    match (s.port p).pd.auth with
    | some d =>
      let (t, b) := s.authAnswer d
      (t.modPd p fun x => { x with auth := none }).sendAuth p b
    | none => s)

end Sys2Proof.Machine
end

