-- ==== Sys2Proof/Machine/Vdm.lean ====
section
/-!
DEFINITION. Structured VDMs received, Ledger mode's commands, and Type-C Authentication (R199 to R211). The first word of a
VDM is its header.
DEDUCED, unsafe: log entry 47.
-/
namespace Sys2Proof.Machine

/-- DISCOVER_IDENTITY (R200, Table 6.9). -/
def execDiscoverIdentity (p : PortId) (h : RxHdr) (v : List Word) (s : State) : Out :=
  .next (s.onVdm p h v fun s w =>
    let x := s.port p
    if !x.pd.rev3 && x.tc.dfp then s else s.serve p fun s => s.answerVdm p w 1 (s.identityVdos p))

/-- DISCOVER_SVIDS (Table 6.9). -/
def execDiscoverSvids (p : PortId) (h : RxHdr) (v : List Word) (s : State) : Out :=
  .next (s.serveVdm p h v fun s w =>
    if s.ledgermodeen then s.answerVdm p w 1 [0x3A8C0000] else s.answerVdm p w 2 [])

/-- DISCOVER_MODES (R203, Table 6.9). -/
def execDiscoverModes (p : PortId) (h : RxHdr) (v : List Word) (s : State) : Out :=
  .next (s.serveVdm p h v fun s w =>
    if s.ledgermodeen && vdmSvid w == ledgerSvid then s.answerVdm p w 1 [modeVdo p] else s.answerVdm p w 2 [])

/-- Enter Mode is accepted (R201). -/
def State.mayEnter (s : State) (p : PortId) : Bool :=
  let x := s.port p
  s.ledgermodeen && cfgLmEn x.cfg && x.pd.hasContract && x.pd.rev3 && !x.tc.dfp

/-- ENTER_MODE (R201, Table 6.9). -/
def execEnterMode (p : PortId) (h : RxHdr) (v : List Word) (s : State) : Out :=
  .next (s.serveVdm p h v fun s w =>
    if vdmSvid w == ledgerSvid && vdmPos w == 1 && s.mayEnter p then
      (s.modLm p fun l => { l with grantor := false }).lmEnter p |>.answerVdm p w 1 []
    else s.answerVdm p w 2 [])

/-- EXIT_MODE (R208, Table 6.9). -/
def execExitMode (p : PortId) (h : RxHdr) (v : List Word) (s : State) : Out :=
  .next (s.serveVdm p h v fun s w =>
    if vdmSvid w == ledgerSvid && (s.port p).lm.mode then (s.lmEnd p).answerVdm p w 1 []
    else (if vdmSvid w == ledgerSvid then s.modLm p fun l => { l with failed := false } else s).answerVdm p w 2 [])

/-- The answer belongs to the VDM_SEND in progress. -/
def runMatches (r : VdmRun) (k : Sop) (w : Word) : Bool :=
  r.sent && r.sop == k &&
    (if r.op = 0 then (match r.vdos with
      | q :: _ => vdmCmd q == vdmCmd w && vdmSvid q == vdmSvid w
      | [] => false)
    else if r.op = 2 then vdmCmd w == 5
    else vdmCmd w == (if r.step == 5 then 0x10 else r.step))

/-- STRUCTURED_VDM_ANSWER (R201, R202, R206): an ACK, NAK or BUSY to the device's own request. -/
def execStructuredVdmAnswer (p : PortId) (h : RxHdr) (v : List Word) (s : State) : Out :=
  .next (s.onMsg p h fun s =>
    let x := s.port p
    match v with
    | [] => s
    | w :: _ =>
      let ack := vdmType w == 1
      let s := if h.sop == .sop then s.modLm p fun l => { l with vdmVer := some (l.vdmVer.getD (vdmVerOf w)) } else s
      match x.pd.ams with
      | .vdm => match x.lm.run with
        | some r =>
          if !runMatches r h.sop w then s.protocolError p
          else if ack then s.vdmAcked p r v
          else s.vdmRefused p r (if vdmType w == 2 then 1 else 2) v
        | none => s.protocolError p
      | .notice =>
        if vdmCmd w != 0x11 then s.protocolError p
        else if ack then
          (s.modLm p fun l => { l with waiting := false, noAck := false, noAckRun := 0 }).amsEnd p
        else (s.noticeFailed p).amsEnd p
      | .lmVersion =>
        if vdmCmd w != 0x10 then s.protocolError p
        else if ack && bitsOf (v.getD 1 0).toNat 31 28 == 1 then (s.lmVersionOk p (v.getD 1 0)).amsEnd p
        else (s.lmVersionFail p).amsEnd p
      | .exitMode => (s.lmEnd p).amsEnd p
      | _ => s.protocolError p)

/-- VDM_SENDER_RESPONSE_TIMEOUT (R198, R206, Table 13.8). -/
def execVdmSenderResponseTimeout (p : PortId) (s : State) : Out :=
  .next (s.when (s.pdLive p && (s.port p).pd.tx.isNone && !(s.port p).pd.sinkTxWait) fun s =>
    let x := s.port p
    match x.pd.ams with
    | .vdm => match x.lm.run with
      | some r => if r.sent then s.vdmRefused p r 3 [] else s
      | none => s.amsEnd p
    | .notice => (s.noticeFailed p).amsEnd p
    | .lmVersion => (s.lmVersionFail p).amsEnd p
    | .exitMode => (s.lmEnd p).amsEnd p
    | .discoverCable => s.cableUnanswered p
    | .eprEntry => if x.pdSrc then s.eprFail p 1 else s
    | _ => s)

/-! ## Ledger-mode commands (Table 6.12) -/

/-- A Ledger-mode command past LM_VERSION: NAK while Ledger mode is not entered or LM_VERSION has not succeeded (R202). One whose
object position is not 1 is served as one at position 1.
DEDUCED, unsafe: log entry 40. DESIGN CHOICE, unsafe: log entry 101. -/
def State.onLm (s : State) (p : PortId) (h : RxHdr) (v : List Word) (f : State → Word → State) : State :=
  s.serveVdm p h v fun s w =>
    if (s.port p).lm.mode && (s.port p).lm.verOk && vdmSvid w == ledgerSvid then f s w else s.answerVdm p w 2 []

/-- LM_VERSION (R202). -/
def execLmVersion (p : PortId) (h : RxHdr) (v : List Word) (s : State) : Out :=
  .next (s.serveVdm p h v fun s w =>
    if (s.port p).lm.mode && vdmSvid w == ledgerSvid then
      if bitsOf (v.getD 1 0).toNat 31 28 == 1 then
        (s.answerVdm p w 1 [versionVdo]).lmVersionOk p (v.getD 1 0)
      else (s.answerVdm p w 2 []).lmVersionFail p
    else s.answerVdm p w 2 [])

/-- LM_VERSION_TIMER (R202): a UFP that has had no LM_VERSION sends its own. -/
def execLmVersionTimer (p : PortId) (s : State) : Out :=
  .next (
    let x := s.port p
    s.when (s.pdLive p && x.lm.mode && !x.lm.verOk && !x.tc.dfp) fun s => s.trigger p .lmVersion)

/-- LM_OUTCOME (Table 6.12): from a grantor partner it is acknowledged and stored. A UFP, which reads no Mode VDO, knows a
grantor by its sending one.
DESIGN CHOICE, unsafe: log entry 126. -/
def execLmOutcome (p : PortId) (h : RxHdr) (v : List Word) (s : State) : Out :=
  .next (s.onLm p h v fun s w =>
    let x := s.port p
    if x.tc.dfp && !x.lm.grantor then s.answerVdm p w 2 []
    else (s.modLm p fun l => { l with grantor := true, peer := v.getD 1 0 }).answerVdm p w 1 [])

/-- LM_OUTCOME_NOTICE (R206): 100 ms have passed since the last notice, and what it would say differs. -/
def execLmOutcomeNotice (p : PortId) (s : State) : Out :=
  .next (s.when (s.pdLive p && s.noticeDue p) fun s => s.trigger p .notice)

/-- LM_QUERY (R206, Table 6.12): notices go on. -/
def execLmQuery (p : PortId) (h : RxHdr) (v : List Word) (s : State) : Out :=
  .next (s.onLm p h v fun s w =>
    (s.modLm p fun l => { l with muted := false, noAckRun := 0 }).answerVdm p w 1 [s.outcomeVdo p, s.demandVdo p])

/-- LM_NEED (R207, Table 6.12): the stated need, and an upgrade demand where it exceeds the grant.
DESIGN CHOICE, unsafe: log entry 127. -/
def execLmNeed (p : PortId) (h : RxHdr) (v : List Word) (s : State) : Out :=
  .next (s.onLm p h v fun s w =>
    let n := (v.getD 1 0).toNat
    let op := bitsOf n 31 16
    let mx := bitsOf n 15 0
    if mx < op || mx == 0 || portMaxPower p < mx then s.answerVdm p w 2 []
    else
      let s := (s.modLm p fun l => { l with need := v.getD 1 0, needHeld := true }).answerVdm p w 1 []
      let x := s.port p
      let cap := x.topV false * min (x.sw.ceil (isE p)) (s.cableCur p) / 1000
      if x.pdSrc && x.lg.grant < op && !s.early then
        s.postDemand p (max (min op cap) x.lg.grant) .need false false
      else s)

/-- LM_ENERGY (Table 6.12). -/
def execLmEnergy (p : PortId) (h : RxHdr) (v : List Word) (s : State) : Out :=
  .next (s.onLm p h v fun s w =>
    s.answerVdm p w 1 [energyVdo (s.port p).cv.energyOut, energyVdo (s.port p).cv.energyIn])

/-- LM_IDENT (Table 6.12). -/
def execLmIdent (p : PortId) (h : RxHdr) (v : List Word) (s : State) : Out :=
  .next (s.onLm p h v fun s w => s.answerVdm p w 1 [s.identVdo p])

/-- ATTENTION and every structured VDM Table 6.9 does not name: Attention is ignored, the others are answered NAK. -/
def execAttention (p : PortId) (h : RxHdr) (v : List Word) (s : State) : Out :=
  .next (s.onVdm p h v fun s w => s.otherVdm p w)

end Sys2Proof.Machine
end

