-- ==== Sys2Proof/Machine/Dispatch.lean ====
section
/-!
DEFINITION. The arm of each constructor of Instr: one call of its meaning.
DEDUCED, unsafe: log entry 3.
-/
namespace Sys2Proof.Machine

/-- A command's or event's effect on everything but the queue. -/
def exec (i : Instr) (s : State) : Host.Outcome State Fault Refusal :=
  match i with
  | .hello h pl => Sys2Proof.Machine.execHello h pl s
  | .abort h pl => Sys2Proof.Machine.execAbort h pl s
  | .echo h pl => Sys2Proof.Machine.execEcho h pl s
  | .deviceStatus h pl => Sys2Proof.Machine.execDeviceStatus h pl s
  | .portCfg h pl => Sys2Proof.Machine.execPortCfg h pl s
  | .portEnable h pl => Sys2Proof.Machine.execPortEnable h pl s
  | .portDisable h pl => Sys2Proof.Machine.execPortDisable h pl s
  | .portStatus h pl => Sys2Proof.Machine.execPortStatus h pl s
  | .portReset h pl => Sys2Proof.Machine.execPortReset h pl s
  | .portResetComplete p => Sys2Proof.Machine.execPortResetComplete p s
  | .pdoSet h pl => Sys2Proof.Machine.execPdoSet h pl s
  | .sinkPrefSet h pl => Sys2Proof.Machine.execSinkPrefSet h pl s
  | .vdmSend h pl => Sys2Proof.Machine.execVdmSend h pl s
  | .vdmSendComplete p => Sys2Proof.Machine.execVdmSendComplete p s
  | .swapReq h pl => Sys2Proof.Machine.execSwapReq h pl s
  | .swapReqComplete p => Sys2Proof.Machine.execSwapReqComplete p s
  | .ledgerCfg h pl => Sys2Proof.Machine.execLedgerCfg h pl s
  | .ledgerClass h pl => Sys2Proof.Machine.execLedgerClass h pl s
  | .ledgerQuery h pl => Sys2Proof.Machine.execLedgerQuery h pl s
  | .ledgerRelease h pl => Sys2Proof.Machine.execLedgerRelease h pl s
  | .bridgeSet h pl => Sys2Proof.Machine.execBridgeSet h pl s
  | .emberCfg h pl => Sys2Proof.Machine.execEmberCfg h pl s
  | .islandSet h pl => Sys2Proof.Machine.execIslandSet h pl s
  | .ringCfg h pl => Sys2Proof.Machine.execRingCfg h pl s
  | .ringStatus h pl => Sys2Proof.Machine.execRingStatus h pl s
  | .ringBypass h pl => Sys2Proof.Machine.execRingBypass h pl s
  | .tmrCfg h pl => Sys2Proof.Machine.execTmrCfg h pl s
  | .tmrCmp h pl => Sys2Proof.Machine.execTmrCmp h pl s
  | .tmrLink h pl => Sys2Proof.Machine.execTmrLink h pl s
  | .cmpCfg h pl => Sys2Proof.Machine.execCmpCfg h pl s
  | .pbusCfg h pl => Sys2Proof.Machine.execPbusCfg h pl s
  | .pbusXfer h pl => Sys2Proof.Machine.execPbusXfer h pl s
  | .pbusXferComplete b r wack rd => Sys2Proof.Machine.execPbusXferComplete b r wack rd s
  | .pbusClear h pl => Sys2Proof.Machine.execPbusClear h pl s
  | .busClearComplete b ok => Sys2Proof.Machine.execBusClearComplete b ok s
  | .fuseRead h pl => Sys2Proof.Machine.execFuseRead h pl s
  | .fuseProg h pl => Sys2Proof.Machine.execFuseProg h pl s
  | .fuseProgComplete fail => Sys2Proof.Machine.execFuseProgComplete fail s
  | .fuseLock h pl => Sys2Proof.Machine.execFuseLock h pl s
  | .fuseLockComplete fail => Sys2Proof.Machine.execFuseLockComplete fail s
  | .fuseSpare h pl => Sys2Proof.Machine.execFuseSpare h pl s
  | .fuseSpareComplete fail => Sys2Proof.Machine.execFuseSpareComplete fail s
  | .sboxRead h pl => Sys2Proof.Machine.execSboxRead h pl s
  | .sboxMark h pl => Sys2Proof.Machine.execSboxMark h pl s
  | .vaultCfg h pl => Sys2Proof.Machine.execVaultCfg h pl s
  | .alarmCfg h pl => Sys2Proof.Machine.execAlarmCfg h pl s
  | .lanternUnlock h pl => Sys2Proof.Machine.execLanternUnlock h pl s
  | .perfCfg h pl => Sys2Proof.Machine.execPerfCfg h pl s
  | .perfFreeze h pl => Sys2Proof.Machine.execPerfFreeze h pl s
  | .traceCfg h pl => Sys2Proof.Machine.execTraceCfg h pl s
  | .traceRead h pl => Sys2Proof.Machine.execTraceRead h pl s
  | .fwStage h pl => Sys2Proof.Machine.execFwStage h pl s
  | .fwCommit h pl => Sys2Proof.Machine.execFwCommit h pl s
  | .fwCommitComplete => Sys2Proof.Machine.execFwCommitComplete s
  | .fwStatus h pl => Sys2Proof.Machine.execFwStatus h pl s
  | .selftest h pl => Sys2Proof.Machine.execSelftest h pl s
  | .selftestComplete fail => Sys2Proof.Machine.execSelftestComplete fail s
  | .safecfg h pl => Sys2Proof.Machine.execSafecfg h pl s
  | .replyPart tag => Sys2Proof.Machine.execReplyPart tag s
  | .mailboxWrite a bytes => Sys2Proof.Machine.execMailboxWrite a bytes s
  | .mailboxRead a n => Sys2Proof.Machine.execMailboxRead a n s
  | .registerWindowWrite a bytes => Sys2Proof.Machine.execRegisterWindowWrite a bytes s
  | .pageWrite a page => Sys2Proof.Machine.execPageWrite a page s
  | .haddrWrite a r v => Sys2Proof.Machine.execHaddrWrite a r v s
  | .gaFreeze => Sys2Proof.Machine.execGaFreeze s
  | .gaRelease => Sys2Proof.Machine.execGaRelease s
  | .hdrerrcntRead a => Sys2Proof.Machine.execHdrerrcntRead a s
  | .rgcrcRead a => Sys2Proof.Machine.execRgcrcRead a s
  | .eccsbecntRead a => Sys2Proof.Machine.execEccsbecntRead a s
  | .eccdbecntRead a => Sys2Proof.Machine.execEccdbecntRead a s
  | .trlostRead a => Sys2Proof.Machine.execTrlostRead a s
  | .byteAbandon x => Sys2Proof.Machine.execByteAbandon x s
  | .sclhLowTimeout x => Sys2Proof.Machine.execSclhLowTimeout x s
  | .coldBoot e => Sys2Proof.Machine.execColdBoot e s
  | .resetNLow => Sys2Proof.Machine.execResetNLow s
  | .dozeEntry => Sys2Proof.Machine.execDozeEntry s
  | .sleepEntry => Sys2Proof.Machine.execSleepEntry s
  | .sleepWake w => Sys2Proof.Machine.execSleepWake w s
  | .vioModeSelect mv => Sys2Proof.Machine.execVioModeSelect mv s
  | .vmainExcursion hi => Sys2Proof.Machine.execVmainExcursion hi s
  | .vdrvExcursion d hi => Sys2Proof.Machine.execVdrvExcursion d hi s
  | .vdrvReturn d => Sys2Proof.Machine.execVdrvReturn d s
  | .vioExcursion v => Sys2Proof.Machine.execVioExcursion v s
  | .vconninExcursion hi => Sys2Proof.Machine.execVconninExcursion hi s
  | .vhbExcursion hi mv => Sys2Proof.Machine.execVhbExcursion hi mv s
  | .vhbReturn mv => Sys2Proof.Machine.execVhbReturn mv s
  | .ridefail => Sys2Proof.Machine.execRidefail s
  | .reverseRestart => Sys2Proof.Machine.execReverseRestart s
  | .vbatExcursion hi => Sys2Proof.Machine.execVbatExcursion hi s
  | .vppExcursion v => Sys2Proof.Machine.execVppExcursion v s
  | .vdintExcursion core hi => Sys2Proof.Machine.execVdintExcursion core hi s
  | .lfoCrystalLoss => Sys2Proof.Machine.execLfoCrystalLoss s
  | .hfoLoss => Sys2Proof.Machine.execHfoLoss s
  | .refclkLoss => Sys2Proof.Machine.execRefclkLoss s
  | .pllLockLoss => Sys2Proof.Machine.execPllLockLoss s
  | .clockReturn c => Sys2Proof.Machine.execClockReturn c s
  | .emberStart => Sys2Proof.Machine.execEmberStart s
  | .emberIsolationDwell => Sys2Proof.Machine.execEmberIsolationDwell s
  | .emberAbandon c => Sys2Proof.Machine.execEmberAbandon c s
  | .emberRetry => Sys2Proof.Machine.execEmberRetry s
  | .emberVmainValid => Sys2Proof.Machine.execEmberVmainValid s
  | .terminationSeen p cc1 cc2 => Sys2Proof.Machine.execTerminationSeen p cc1 cc2 s
  | .drpToggle p => Sys2Proof.Machine.execDrpToggle p s
  | .sourceAttachDebounce p => Sys2Proof.Machine.execSourceAttachDebounce p s
  | .sinkAttachDebounce p => Sys2Proof.Machine.execSinkAttachDebounce p s
  | .tryDebounceComplete p => Sys2Proof.Machine.execTryDebounceComplete p s
  | .drpTryExpiry p wait => Sys2Proof.Machine.execDrpTryExpiry p wait s
  | .tryTimeout p => Sys2Proof.Machine.execTryTimeout p s
  | .errorRecoveryEnd p => Sys2Proof.Machine.execErrorRecoveryEnd p s
  | .rpValueChange p l => Sys2Proof.Machine.execRpValueChange p l s
  | .detach p byVbus us => Sys2Proof.Machine.execDetach p byVbus us s
  | .vconnOvercurrent p => Sys2Proof.Machine.execVconnOvercurrent p s
  | .fastRoleSwapSignal p => Sys2Proof.Machine.execFastRoleSwapSignal p s
  | .goodcrc p k id => Sys2Proof.Machine.execGoodcrc p k id s
  | .receiveTimeout p => Sys2Proof.Machine.execReceiveTimeout p s
  | .sourceCapabilities p h epr v => Sys2Proof.Machine.execSourceCapabilities p h epr v s
  | .request p h epr rdo => Sys2Proof.Machine.execRequest p h epr rdo s
  | .accept p h => Sys2Proof.Machine.execAccept p h s
  | .reject p h => Sys2Proof.Machine.execReject p h s
  | .wait p h => Sys2Proof.Machine.execWait p h s
  | .psRdy p h => Sys2Proof.Machine.execPsRdy p h s
  | .getSourceCap p h => Sys2Proof.Machine.execGetSourceCap p h s
  | .getSinkCap p h => Sys2Proof.Machine.execGetSinkCap p h s
  | .sinkCapabilities p h epr v => Sys2Proof.Machine.execSinkCapabilities p h epr v s
  | .softReset p h => Sys2Proof.Machine.execSoftReset p h s
  | .hardReset p => Sys2Proof.Machine.execHardReset p s
  | .psHardResetExpiry p => Sys2Proof.Machine.execPsHardResetExpiry p s
  | .srcRecoverExpiry p => Sys2Proof.Machine.execSrcRecoverExpiry p s
  | .vsafe5vReturn p => Sys2Proof.Machine.execVsafe5vReturn p s
  | .hardResetDetachTimeout p => Sys2Proof.Machine.execHardResetDetachTimeout p s
  | .notSupported p h => Sys2Proof.Machine.execNotSupported p h s
  | .unsupportedMessage p h k => Sys2Proof.Machine.execUnsupportedMessage p h k s
  | .getRevision p h => Sys2Proof.Machine.execGetRevision p h s
  | .revision p h rmdo => Sys2Proof.Machine.execRevision p h rmdo s
  | .getStatus p h => Sys2Proof.Machine.execGetStatus p h s
  | .getPpsStatus p h => Sys2Proof.Machine.execGetPpsStatus p h s
  | .getSourceInfo p h => Sys2Proof.Machine.execGetSourceInfo p h s
  | .getSourceCapExtended p h => Sys2Proof.Machine.execGetSourceCapExtended p h s
  | .getSinkCapExtended p h => Sys2Proof.Machine.execGetSinkCapExtended p h s
  | .getManufacturerInfo p h => Sys2Proof.Machine.execGetManufacturerInfo p h s
  | .extendedAnswer p h k d => Sys2Proof.Machine.execExtendedAnswer p h k d s
  | .batteryStatus p h cap d => Sys2Proof.Machine.execBatteryStatus p h cap d s
  | .alert p h ado => Sys2Proof.Machine.execAlert p h ado s
  | .bist p h bdo => Sys2Proof.Machine.execBist p h bdo s
  | .bistContModeExpiry p => Sys2Proof.Machine.execBistContModeExpiry p s
  | .eprMode p h act data => Sys2Proof.Machine.execEprMode p h act data s
  | .eprGetSourceCap p h sink => Sys2Proof.Machine.execEprGetSourceCap p h sink s
  | .eprKeepalive p h => Sys2Proof.Machine.execEprKeepalive p h s
  | .sinkEprKeepalive p => Sys2Proof.Machine.execSinkEprKeepalive p s
  | .sourceEprKeepaliveTimeout p => Sys2Proof.Machine.execSourceEprKeepaliveTimeout p s
  | .enterEprTimeout p => Sys2Proof.Machine.execEnterEprTimeout p s
  | .senderResponseTimeout p => Sys2Proof.Machine.execSenderResponseTimeout p s
  | .psTransitionTimeout p => Sys2Proof.Machine.execPsTransitionTimeout p s
  | .sinkWaitCapTimeout p => Sys2Proof.Machine.execSinkWaitCapTimeout p s
  | .noResponseTimeout p => Sys2Proof.Machine.execNoResponseTimeout p s
  | .capsCountExhausted p => Sys2Proof.Machine.execCapsCountExhausted p s
  | .typecSendSourceCapExpiry p => Sys2Proof.Machine.execTypecSendSourceCapExpiry p s
  | .sinkRequestExpiry p => Sys2Proof.Machine.execSinkRequestExpiry p s
  | .ppsTimeout p => Sys2Proof.Machine.execPpsTimeout p s
  | .ppsRequestExpiry p => Sys2Proof.Machine.execPpsRequestExpiry p s
  | .ppsUndervoltageTimeout p => Sys2Proof.Machine.execPpsUndervoltageTimeout p s
  | .srcTransitionExpiry p => Sys2Proof.Machine.execSrcTransitionExpiry p s
  | .sinkTxExpiry p => Sys2Proof.Machine.execSinkTxExpiry p s
  | .amsStart p => Sys2Proof.Machine.execAmsStart p s
  | .discoverIdentityTimer p => Sys2Proof.Machine.execDiscoverIdentityTimer p s
  | .cableIdentityAnswer p h v => Sys2Proof.Machine.execCableIdentityAnswer p h v s
  | .prSwap p h => Sys2Proof.Machine.execPrSwap p h s
  | .swapPsRdyTimeout p => Sys2Proof.Machine.execSwapPsRdyTimeout p s
  | .drSwap p h => Sys2Proof.Machine.execDrSwap p h s
  | .vconnSwap p h => Sys2Proof.Machine.execVconnSwap p h s
  | .vconnSourceTimeout p => Sys2Proof.Machine.execVconnSourceTimeout p s
  | .frSwap p h => Sys2Proof.Machine.execFrSwap p h s
  | .discoverIdentity p h v => Sys2Proof.Machine.execDiscoverIdentity p h v s
  | .discoverSvids p h v => Sys2Proof.Machine.execDiscoverSvids p h v s
  | .discoverModes p h v => Sys2Proof.Machine.execDiscoverModes p h v s
  | .enterMode p h v => Sys2Proof.Machine.execEnterMode p h v s
  | .exitMode p h v => Sys2Proof.Machine.execExitMode p h v s
  | .structuredVdmAnswer p h v => Sys2Proof.Machine.execStructuredVdmAnswer p h v s
  | .vdmSenderResponseTimeout p => Sys2Proof.Machine.execVdmSenderResponseTimeout p s
  | .lmVersion p h v => Sys2Proof.Machine.execLmVersion p h v s
  | .lmVersionTimer p => Sys2Proof.Machine.execLmVersionTimer p s
  | .lmOutcome p h v => Sys2Proof.Machine.execLmOutcome p h v s
  | .lmOutcomeNotice p => Sys2Proof.Machine.execLmOutcomeNotice p s
  | .lmQuery p h v => Sys2Proof.Machine.execLmQuery p h v s
  | .lmNeed p h v => Sys2Proof.Machine.execLmNeed p h v s
  | .lmEnergy p h v => Sys2Proof.Machine.execLmEnergy p h v s
  | .lmIdent p h v => Sys2Proof.Machine.execLmIdent p h v s
  | .securityRequest p h d => Sys2Proof.Machine.execSecurityRequest p h d s
  | .softstartComplete r => Sys2Proof.Machine.execSoftstartComplete r s
  | .softstartFail p ma => Sys2Proof.Machine.execSoftstartFail p ma s
  | .overcurrent p x => Sys2Proof.Machine.execOvercurrent p x s
  | .shortCircuit p x => Sys2Proof.Machine.execShortCircuit p x s
  | .overvoltage p x => Sys2Proof.Machine.execOvervoltage p x s
  | .reverseCurrent p x => Sys2Proof.Machine.execReverseCurrent p x s
  | .thermalShutdown p temp x => Sys2Proof.Machine.execThermalShutdown p temp x s
  | .protectiveReclose p => Sys2Proof.Machine.execProtectiveReclose p s
  | .tripcntReset p => Sys2Proof.Machine.execTripcntReset p s
  | .holdoffEnd p => Sys2Proof.Machine.execHoldoffEnd p s
  | .thermalLevelChange p t => Sys2Proof.Machine.execThermalLevelChange p t s
  | .monitorDisagreement p => Sys2Proof.Machine.execMonitorDisagreement p s
  | .dischargeComplete p mv => Sys2Proof.Machine.execDischargeComplete p mv s
  | .dischargeTimeout p => Sys2Proof.Machine.execDischargeTimeout p s
  | .heldEnable p => Sys2Proof.Machine.execHeldEnable p s
  | .cellAudit p r => Sys2Proof.Machine.execCellAudit p r s
  | .tripWireFault p => Sys2Proof.Machine.execTripWireFault p s
  | .heartbeatLoss d => Sys2Proof.Machine.execHeartbeatLoss d s
  | .linkHealthy d => Sys2Proof.Machine.execLinkHealthy d s
  | .atTarget a => Sys2Proof.Machine.execAtTarget a s
  | .pklim p => Sys2Proof.Machine.execPklim p s
  | .syncLock p => Sys2Proof.Machine.execSyncLock p s
  | .synclost p => Sys2Proof.Machine.execSynclost p s
  | .formingDwell p => Sys2Proof.Machine.execFormingDwell p s
  | .formfail p => Sys2Proof.Machine.execFormfail p s
  | .joinRelease => Sys2Proof.Machine.execJoinRelease s
  | .decisionCycle laneMis => Sys2Proof.Machine.execDecisionCycle laneMis s
  | .freezeRecoveryTest pass agree => Sys2Proof.Machine.execFreezeRecoveryTest pass agree s
  | .ringSlot => Sys2Proof.Machine.execRingSlot s
  | .masterCycleStart => Sys2Proof.Machine.execMasterCycleStart s
  | .cycle f => Sys2Proof.Machine.execCycle f s
  | .node f => Sys2Proof.Machine.execNode f s
  | .join f => Sys2Proof.Machine.execJoin f s
  | .leave f => Sys2Proof.Machine.execLeave f s
  | .panelInfo f => Sys2Proof.Machine.execPanelInfo f s
  | .offerTakeback n => Sys2Proof.Machine.execOfferTakeback n s
  | .loanWithdraw n => Sys2Proof.Machine.execLoanWithdraw n s
  | .cycleOverrun => Sys2Proof.Machine.execCycleOverrun s
  | .echoRequest n sq => Sys2Proof.Machine.execEchoRequest n sq s
  | .echoReply n rtt => Sys2Proof.Machine.execEchoReply n rtt s
  | .linkStatus n sq => Sys2Proof.Machine.execLinkStatus n sq s
  | .syncAcquired east => Sys2Proof.Machine.execSyncAcquired east s
  | .syncLoss east => Sys2Proof.Machine.execSyncLoss east s
  | .ringJoin => Sys2Proof.Machine.execRingJoin s
  | .nodelost n => Sys2Proof.Machine.execNodelost n s
  | .ringdown noCycle => Sys2Proof.Machine.execRingdown noCycle s
  | .lowerMasterCycle n => Sys2Proof.Machine.execLowerMasterCycle n s
  | .reloadTick k => Sys2Proof.Machine.execReloadTick k s
  | .compareMatch k isB => Sys2Proof.Machine.execCompareMatch k isB s
  | .capture e count => Sys2Proof.Machine.execCapture e count s
  | .linkTrigger k => Sys2Proof.Machine.execLinkTrigger k s
  | .gwcStateChange g st => Sys2Proof.Machine.execGwcStateChange g st s
  | .pbusStuck b => Sys2Proof.Machine.execPbusStuck b s
  | .fuseRereadPass drift => Sys2Proof.Machine.execFuseRereadPass drift s
  | .killProgrammingComplete => Sys2Proof.Machine.execKillProgrammingComplete s
  | .recordWrite fails => Sys2Proof.Machine.execRecordWrite fails s
  | .alarmDetection srcs => Sys2Proof.Machine.execAlarmDetection srcs s
  | .nonceExpiry => Sys2Proof.Machine.execNonceExpiry s
  | .lockstepMismatch => Sys2Proof.Machine.execLockstepMismatch s
  | .watchdogExpiry => Sys2Proof.Machine.execWatchdogExpiry s
  | .interpreterReturn => Sys2Proof.Machine.execInterpreterReturn s
  | .pairMismatch p => Sys2Proof.Machine.execPairMismatch p s
  | .doubleBitError w addr => Sys2Proof.Machine.execDoubleBitError w addr s
  | .periodicSelfTest t p fail => Sys2Proof.Machine.execPeriodicSelfTest t p fail s
  | .selfTestRepeat t fail => Sys2Proof.Machine.execSelfTestRepeat t fail s
  | .freezeTrigger => Sys2Proof.Machine.execFreezeTrigger s
  | .snapshotComplete err => Sys2Proof.Machine.execSnapshotComplete err s
  | .lanternLockedLine line => Sys2Proof.Machine.execLanternLockedLine line s
  | .lanternVer => Sys2Proof.Machine.execLanternVer s
  | .lanternBaud rate => Sys2Proof.Machine.execLanternBaud rate s
  | .lanternPort n => Sys2Proof.Machine.execLanternPort n s
  | .lanternLedger => Sys2Proof.Machine.execLanternLedger s
  | .lanternRing => Sys2Proof.Machine.execLanternRing s
  | .lanternPerf b => Sys2Proof.Machine.execLanternPerf b s
  | .lanternSbox sq count => Sys2Proof.Machine.execLanternSbox sq count s
  | .lanternFuse region => Sys2Proof.Machine.execLanternFuse region s
  | .lanternTrace first count => Sys2Proof.Machine.execLanternTrace first count s
  | .lanternWatch on => Sys2Proof.Machine.execLanternWatch on s
  | .keygen fail => Sys2Proof.Machine.execKeygen fail s
  | .chain off bytes => Sys2Proof.Machine.execChain off bytes s
  | .chainEnd len => Sys2Proof.Machine.execChainEnd len s
  | .lanternLock => Sys2Proof.Machine.execLanternLock s
  | .supplyBackInRange su => Sys2Proof.Machine.execSupplyBackInRange su s
  | .startInputsFall => Sys2Proof.Machine.execStartInputsFall s
  | .vbusLevelChange p mv => Sys2Proof.Machine.execVbusLevelChange p mv s
  | .ilimhit p on => Sys2Proof.Machine.execIlimhit p on s
  | .prailRecoveryComplete p => Sys2Proof.Machine.execPrailRecoveryComplete p s
  | .swapSourceStartExpiry p => Sys2Proof.Machine.execSwapSourceStartExpiry p s
  | .pairOutOfReset p => Sys2Proof.Machine.execPairOutOfReset p s
  | .singleBitError addr => Sys2Proof.Machine.execSingleBitError addr s
  | .perfCounterWrap b c => Sys2Proof.Machine.execPerfCounterWrap b c s
  | .masterOfRingOfOne => Sys2Proof.Machine.execMasterOfRingOfOne s
  | .lanternBadLine line => Sys2Proof.Machine.execLanternBadLine line s
  | .securityResponse p => Sys2Proof.Machine.execSecurityResponse p s
  | .chunkRequest p h req num d => Sys2Proof.Machine.execChunkRequest p h req num d s
  | .chunkTimeout p => Sys2Proof.Machine.execChunkTimeout p s
  | .attention p h v => Sys2Proof.Machine.execAttention p h v s
  | .dboffChange high => Sys2Proof.Machine.execDboffChange high s

end Sys2Proof.Machine
end

