-- ==== Sys2Proof/Machine/Tick.lean ====
section
/-!
DEFINITION. What one microsecond of idling does: STS, the timers, the counters that count clocks or microseconds, the energy
counts, and Lantern's WATCH lines. What a quantity measures is a free value.
-/
namespace Sys2Proof.Machine

/-- The whole periods of a frequency in units of 10 kHz that end in the next microsecond. -/
def State.periods (s : State) (f : Nat) : Nat := (s.sys.tick + 1) * f / 100 - s.sys.tick * f / 100

/-- The port events of Table 18.2 that run with time, `us` being the STS ticks of the microsecond, on each of which an event marked "µs"
counts (R582). The Ember donor switches at 250 kHz (R91, R274); how many of the cycles IPK ends is not stated.
DESIGN CHOICE, unsafe: log entry 87. -/
def State.countPort (us : Nat) (s : State) (p : PortId) : State :=
  let x := s.port p
  if !s.porten p then s
  else
    let s := if s.groupOn p && s.engineClk then s.count p.val 0x01 12 else s
    let s := if x.cv.dir = 0 then s
      else
        let n := s.periods (if x.cv.ember then 25 else cfgFsw x.cfg)
        ((s.count p.val 0x0D n).count p.val 0x0E (s.freeNat % (n + 1))).drawn
    let s := if x.cv.ilimAct then s.count p.val 0x0F us else s
    if x.sw.st == .closed then s.count p.val 0x10 us else s

/-- The device events of Table 18.3 that run with time: how many memory accesses, scrubbed words, stretched microseconds and
errors among the ten characters that the two ring receivers take were is not stated. Without SAFECFG bit 5 no word is scrubbed
(Table 15.3).
DESIGN CHOICE, unsafe: log entry 87. -/
def State.countUs (us : Nat) (s : State) : State :=
  if s.perf.frozen || s.sysMhz = 0 then s
  else
    let s := s.eachPort (State.countPort us)
    let s := if s.sys.interp && s.sys.pwr == .run then s.count 35 0x01 s.sysMhz else s
    let s := if s.sys.pwr == .doze then s.count 35 0x07 us else s
    let s := (s.count 34 0x07 (s.freeNat % (us + 1))).drawn
    let s := (s.count 33 0x05 (s.freeNat % 11)).drawn
    let s := (s.count 36 0x01 (s.freeNat % 2 ^ 32)).drawn
    if s.safeOn 5 then (s.count 36 0x04 (s.freeNat % 2 ^ 32)).drawn else s

/-- Energy measured at VBUS of a port whose switch is closed, in mJ (R286). -/
def State.meterUs (s : State) : State :=
  s.eachPort fun s p =>
    let x := s.port p
    if x.sw.st == .closed then
      let e := BitVec.ofNat 48 s.freeNat
      (s.modCv p fun c => if x.sw.sinkDir then { c with energyIn := satAdd c.energyIn e.toNat }
        else { c with energyOut := satAdd c.energyOut e.toNat }).drawn
    else s

/-- A microsecond of the alarm sources that have fired: whether a trigger holds in it is outside the device, and one absent for 1 ms is
over (R540).
DEDUCED, unsafe: log entry 83. -/
def State.presentUs (s : State) : State :=
  let a := s.alarm
  if a.present = 0 then s
  else
    let gone := (List.range 7).map fun i => if a.present.getLsbD i && s.freeNat.testBit i then a.away.getD i 0 + 1 else 0
    let past := fun (i : Nat) => Nat.ble 1000 (gone.getD i 0)
    ({ s with alarm := { a with
        present := a.present &&& BitVec.ofNat 7 (bitsWord 7 fun i => !past i),
        away := gone.map fun n => if Nat.ble 1000 n then 0 else n } } : State).drawn

/-- A microsecond of STS. On the LFO each period adds 30.517578125 µs through the fractional accumulator (Table 14.8); else it counts one,
one more or less where the trim of a joined node's rate has gathered one (R361). With the clock monitors off a lost REFCLK stops it
(Table 15.3).
DESIGN CHOICE, safe: log entry 62. -/
def State.stsUs (s : State) : State :=
  if s.stsOnLfo then
    let a := s.sys.stsAcc + 15625 * s.lfoTicks
    { s with sys := { s.sys with sts := s.sys.sts + BitVec.ofNat 64 (a / 512), stsAcc := a % 512 } }
  else if s.memOn && s.clk.refclk && !s.safeOn 3 then s
  else if s.ring.link = 2 then
    let a := s.ring.stsFrac + s.ring.trim
    if 1000000 ≤ a then { s with sys.sts := s.sys.sts + 2, ring.stsFrac := a - 1000000 }
    else if a ≤ -1000000 then { s with ring.stsFrac := a + 1000000 }
    else { s with sys.sts := s.sys.sts + 1, ring.stsFrac := a }
  else { s with sys.sts := s.sys.sts + 1 }

/-- One microsecond. Without AON nothing runs; with CORE off or in SLEEP only AON does.
DESIGN CHOICE, unsafe: log entry 1. -/
def State.idle (s : State) : State :=
  if !s.aonOn then s
  else
    let core := s.memOn
    let s := if core then s.timersUs else s
    let t := s.stsUs.presentUs
    let us := (t.sys.sts - s.sys.sts).toNat
    let s := if core then (t.countUs us).meterUs.lanternUs.linksUs else t
    let s := { s with sys.tick := s.sys.tick + 1 }
    if s.fw.verifying && s.sys.interp && core then s.fwVerified else s

end Sys2Proof.Machine
end

