-- ==== Sys2Proof/Machine/Step.lean ====
section
/-!
DEFINITION. One step: the command at the front of the queue runs with the queue's rest; on an empty queue one microsecond
passes.
-/
namespace Sys2Proof.Machine

/-- One step of the block.
DESIGN CHOICE, unsafe: log entry 1. -/
def step (s : State) : Host.Outcome State Fault Refusal :=
  match s.pending with
  | c :: rest => exec c { s with pending := rest }
  | [] => .next (State.idle s)

/-- The command a word spells, put in front of the queue; the table gives no row any bits, so no word spells one.
DEDUCED, unsafe: log entry 9. -/
def State.withFetchWord (s : State) (nbits w : Nat) : State :=
  match decodeTableWord nbits w with
  | some c => { s with pending := c :: s.pending }
  | none => s

end Sys2Proof.Machine
end

