-- ==== Sys2Proof/WellFormed.lean ====
section
/-!
DEFINITION. Which commands and events the hardware can be given: operands that its packets, messages, frames and lines can carry.
The machine is total without it; a term it refuses is one that no host, partner or cable can send.
-/
namespace Sys2Proof

/-- A payload's length fits the LENGTH field (Table 12.1); the device itself answers one over 1,024 bytes (R420). -/
def cmdOk (pl : List Byte) : Bool := pl.length.blt 65536

/-- Source or sink capabilities: one to seven data objects, in EPR mode up to eleven (R157, R166). -/
def capsOk (epr : Bool) (v : List Word) : Bool := Nat.ble 1 v.length && v.length.ble (if epr then 11 else 7)

/-- A Vendor_Defined message: its header and at most six VDOs (R199). -/
def vdmOk (v : List Word) : Bool := Nat.ble 1 v.length && v.length.ble 7

/-- An extended message's data: at most 260 bytes (R143). -/
def extOk (d : List Byte) : Bool := d.length.ble 260

/-- A chunk: its number has four bits, and it carries at most 26 bytes (R143). -/
def chunkOk (num : Nat) (d : List Byte) : Bool := num.blt 16 && d.length.ble 26

/-- A ring frame: 32 bytes (R341). -/
def frameOk (f : List Byte) : Bool := f.length == 32

/-- A Lantern line: ASCII, with no CR, which would end it (R600). -/
def lineOk (l : List Byte) : Bool := l.all fun b => b.toNat.blt 128 && b != 0x0D

/-- A CHAIN line stages 1 to 48 bytes (R602). -/
def chainOk (bytes : List Byte) : Bool := Nat.ble 1 bytes.length && bytes.length.ble 48

/-- The words a background pass reads: the 1,024 of the array and the 32 spares (R552, R560). -/
def driftOk (l : List FuseDrift) : Bool := l.all fun d => d.word.blt 0x420

/-- The baseline finds each group once on a port (R241). -/
def bootOk (e : BootEnv) : Bool :=
  (e.faults.all fun f => decide f.groups.Nodup) && decide (e.faults.map (·.port)).Nodup

/-- A completion's own RESULT (Table 11.7), and byte counts within a transfer (R463). -/
def xferOk (r : Byte) (wack : Nat) (rd : List Byte) : Bool := r.toNat.ble 3 && wack.ble 256 && rd.length.ble 256

/-- At least one of the physical sources 0x00 to 0x04; those above come with their own rows (Table 16.3). -/
def alarmOk (srcs : BitVec 7) : Bool := srcs != 0 && srcs.toNat.blt 32

/-- A command or event that the device can be given. -/
def Instr.wf : Instr → Bool
  | .hello _ pl => cmdOk pl
  | .abort _ pl => cmdOk pl
  | .echo _ pl => cmdOk pl
  | .deviceStatus _ pl => cmdOk pl
  | .portCfg _ pl => cmdOk pl
  | .portEnable _ pl => cmdOk pl
  | .portDisable _ pl => cmdOk pl
  | .portStatus _ pl => cmdOk pl
  | .portReset _ pl => cmdOk pl
  | .portResetComplete _ => true
  | .pdoSet _ pl => cmdOk pl
  | .sinkPrefSet _ pl => cmdOk pl
  | .vdmSend _ pl => cmdOk pl
  | .vdmSendComplete _ => true
  | .swapReq _ pl => cmdOk pl
  | .swapReqComplete _ => true
  | .ledgerCfg _ pl => cmdOk pl
  | .ledgerClass _ pl => cmdOk pl
  | .ledgerQuery _ pl => cmdOk pl
  | .ledgerRelease _ pl => cmdOk pl
  | .bridgeSet _ pl => cmdOk pl
  | .emberCfg _ pl => cmdOk pl
  | .islandSet _ pl => cmdOk pl
  | .ringCfg _ pl => cmdOk pl
  | .ringStatus _ pl => cmdOk pl
  | .ringBypass _ pl => cmdOk pl
  | .tmrCfg _ pl => cmdOk pl
  | .tmrCmp _ pl => cmdOk pl
  | .tmrLink _ pl => cmdOk pl
  | .cmpCfg _ pl => cmdOk pl
  | .pbusCfg _ pl => cmdOk pl
  | .pbusXfer _ pl => cmdOk pl
  | .pbusXferComplete _ r wack rd => xferOk r wack rd
  | .pbusClear _ pl => cmdOk pl
  | .busClearComplete _ _ => true
  | .fuseRead _ pl => cmdOk pl
  | .fuseProg _ pl => cmdOk pl
  | .fuseProgComplete _ => true
  | .fuseLock _ pl => cmdOk pl
  | .fuseLockComplete _ => true
  | .fuseSpare _ pl => cmdOk pl
  | .fuseSpareComplete _ => true
  | .sboxRead _ pl => cmdOk pl
  | .sboxMark _ pl => cmdOk pl
  | .vaultCfg _ pl => cmdOk pl
  | .alarmCfg _ pl => cmdOk pl
  | .lanternUnlock _ pl => cmdOk pl
  | .perfCfg _ pl => cmdOk pl
  | .perfFreeze _ pl => cmdOk pl
  | .traceCfg _ pl => cmdOk pl
  | .traceRead _ pl => cmdOk pl
  | .fwStage _ pl => cmdOk pl
  | .fwCommit _ pl => cmdOk pl
  | .fwCommitComplete => true
  | .fwStatus _ pl => cmdOk pl
  | .selftest _ pl => cmdOk pl
  | .selftestComplete _ => true
  | .safecfg _ pl => cmdOk pl
  | .replyPart _ => true
  | .mailboxWrite _ _ => true
  | .mailboxRead _ _ => true
  | .registerWindowWrite _ _ => true
  | .pageWrite _ _ => true
  | .haddrWrite _ _ _ => true
  | .gaFreeze => true
  | .gaRelease => true
  | .hdrerrcntRead _ => true
  | .rgcrcRead _ => true
  | .eccsbecntRead _ => true
  | .eccdbecntRead _ => true
  | .trlostRead _ => true
  | .byteAbandon _ => true
  | .sclhLowTimeout _ => true
  | .coldBoot e => bootOk e
  | .resetNLow => true
  | .dozeEntry => true
  | .sleepEntry => true
  | .sleepWake _ => true
  | .vioModeSelect _ => true
  | .vmainExcursion _ => true
  | .vdrvExcursion _ _ => true
  | .vdrvReturn _ => true
  | .vioExcursion _ => true
  | .vconninExcursion _ => true
  | .vhbExcursion _ _ => true
  | .vhbReturn _ => true
  | .ridefail => true
  | .reverseRestart => true
  | .vbatExcursion _ => true
  | .vppExcursion _ => true
  | .vdintExcursion _ _ => true
  | .lfoCrystalLoss => true
  | .hfoLoss => true
  | .refclkLoss => true
  | .pllLockLoss => true
  | .clockReturn _ => true
  | .emberStart => true
  | .emberIsolationDwell => true
  | .emberAbandon _ => true
  | .emberRetry => true
  | .emberVmainValid => true
  | .terminationSeen _ _ _ => true
  | .drpToggle _ => true
  | .sourceAttachDebounce _ => true
  | .sinkAttachDebounce _ => true
  | .tryDebounceComplete _ => true
  | .drpTryExpiry _ _ => true
  | .tryTimeout _ => true
  | .errorRecoveryEnd _ => true
  | .rpValueChange _ _ => true
  | .detach _ _ _ => true
  | .vconnOvercurrent _ => true
  | .fastRoleSwapSignal _ => true
  | .goodcrc _ _ _ => true
  | .receiveTimeout _ => true
  | .sourceCapabilities _ _ epr v => capsOk epr v
  | .request _ _ _ _ => true
  | .accept _ _ => true
  | .reject _ _ => true
  | .wait _ _ => true
  | .psRdy _ _ => true
  | .getSourceCap _ _ => true
  | .getSinkCap _ _ => true
  | .sinkCapabilities _ _ epr v => capsOk epr v
  | .softReset _ _ => true
  | .hardReset _ => true
  | .psHardResetExpiry _ => true
  | .srcRecoverExpiry _ => true
  | .vsafe5vReturn _ => true
  | .hardResetDetachTimeout _ => true
  | .notSupported _ _ => true
  | .unsupportedMessage _ _ _ => true
  | .getRevision _ _ => true
  | .revision _ _ _ => true
  | .getStatus _ _ => true
  | .getPpsStatus _ _ => true
  | .getSourceInfo _ _ => true
  | .getSourceCapExtended _ _ => true
  | .getSinkCapExtended _ _ => true
  | .getManufacturerInfo _ _ => true
  | .extendedAnswer _ _ _ d => extOk d
  | .batteryStatus _ _ _ d => extOk d
  | .alert _ _ _ => true
  | .bist _ _ _ => true
  | .bistContModeExpiry _ => true
  | .eprMode _ _ _ _ => true
  | .eprGetSourceCap _ _ _ => true
  | .eprKeepalive _ _ => true
  | .sinkEprKeepalive _ => true
  | .sourceEprKeepaliveTimeout _ => true
  | .enterEprTimeout _ => true
  | .senderResponseTimeout _ => true
  | .psTransitionTimeout _ => true
  | .sinkWaitCapTimeout _ => true
  | .noResponseTimeout _ => true
  | .capsCountExhausted _ => true
  | .typecSendSourceCapExpiry _ => true
  | .sinkRequestExpiry _ => true
  | .ppsTimeout _ => true
  | .ppsRequestExpiry _ => true
  | .ppsUndervoltageTimeout _ => true
  | .srcTransitionExpiry _ => true
  | .sinkTxExpiry _ => true
  | .amsStart _ => true
  | .discoverIdentityTimer _ => true
  | .cableIdentityAnswer _ _ v => vdmOk v
  | .prSwap _ _ => true
  | .swapPsRdyTimeout _ => true
  | .drSwap _ _ => true
  | .vconnSwap _ _ => true
  | .vconnSourceTimeout _ => true
  | .frSwap _ _ => true
  | .discoverIdentity _ _ v => vdmOk v
  | .discoverSvids _ _ v => vdmOk v
  | .discoverModes _ _ v => vdmOk v
  | .enterMode _ _ v => vdmOk v
  | .exitMode _ _ v => vdmOk v
  | .structuredVdmAnswer _ _ v => vdmOk v
  | .vdmSenderResponseTimeout _ => true
  | .lmVersion _ _ v => vdmOk v
  | .lmVersionTimer _ => true
  | .lmOutcome _ _ v => vdmOk v
  | .lmOutcomeNotice _ => true
  | .lmQuery _ _ v => vdmOk v
  | .lmNeed _ _ v => vdmOk v
  | .lmEnergy _ _ v => vdmOk v
  | .lmIdent _ _ v => vdmOk v
  | .securityRequest _ _ d => extOk d
  | .softstartComplete _ => true
  | .softstartFail _ _ => true
  | .overcurrent _ _ => true
  | .shortCircuit _ _ => true
  | .overvoltage _ _ => true
  | .reverseCurrent _ _ => true
  | .thermalShutdown _ _ _ => true
  | .protectiveReclose _ => true
  | .tripcntReset _ => true
  | .holdoffEnd _ => true
  | .thermalLevelChange _ _ => true
  | .monitorDisagreement _ => true
  | .dischargeComplete _ _ => true
  | .dischargeTimeout _ => true
  | .heldEnable _ => true
  | .cellAudit _ _ => true
  | .tripWireFault _ => true
  | .heartbeatLoss _ => true
  | .linkHealthy _ => true
  | .atTarget _ => true
  | .pklim _ => true
  | .syncLock _ => true
  | .synclost _ => true
  | .formingDwell _ => true
  | .formfail _ => true
  | .joinRelease => true
  | .decisionCycle _ => true
  | .freezeRecoveryTest _ _ => true
  | .ringSlot => true
  | .masterCycleStart => true
  | .cycle f => frameOk f
  | .node f => frameOk f
  | .join f => frameOk f
  | .leave f => frameOk f
  | .panelInfo f => frameOk f
  | .offerTakeback _ => true
  | .loanWithdraw _ => true
  | .cycleOverrun => true
  | .echoRequest _ _ => true
  | .echoReply _ _ => true
  | .linkStatus _ _ => true
  | .syncAcquired _ => true
  | .syncLoss _ => true
  | .ringJoin => true
  | .nodelost _ => true
  | .ringdown _ => true
  | .lowerMasterCycle _ => true
  | .reloadTick _ => true
  | .compareMatch _ _ => true
  | .capture _ _ => true
  | .linkTrigger _ => true
  | .gwcStateChange _ _ => true
  | .pbusStuck _ => true
  | .fuseRereadPass drift => driftOk drift
  | .killProgrammingComplete => true
  | .recordWrite _ => true
  | .alarmDetection srcs => alarmOk srcs
  | .nonceExpiry => true
  | .lockstepMismatch => true
  | .watchdogExpiry => true
  | .interpreterReturn => true
  | .pairMismatch _ => true
  | .doubleBitError _ _ => true
  | .periodicSelfTest _ _ _ => true
  | .selfTestRepeat _ _ => true
  | .freezeTrigger => true
  | .snapshotComplete _ => true
  | .lanternLockedLine line => lineOk line
  | .lanternVer => true
  | .lanternBaud _ => true
  | .lanternPort _ => true
  | .lanternLedger => true
  | .lanternRing => true
  | .lanternPerf _ => true
  | .lanternSbox _ _ => true
  | .lanternFuse _ => true
  | .lanternTrace _ _ => true
  | .lanternWatch _ => true
  | .keygen _ => true
  | .chain _ bytes => chainOk bytes
  | .chainEnd _ => true
  | .lanternLock => true
  | .supplyBackInRange _ => true
  | .startInputsFall => true
  | .vbusLevelChange _ _ => true
  | .ilimhit _ _ => true
  | .prailRecoveryComplete _ => true
  | .swapSourceStartExpiry _ => true
  | .pairOutOfReset _ => true
  | .singleBitError _ => true
  | .perfCounterWrap _ _ => true
  | .masterOfRingOfOne => true
  | .lanternBadLine line => lineOk line
  | .securityResponse _ => true
  | .chunkRequest _ _ _ num d => chunkOk num d
  | .chunkTimeout _ => true
  | .attention _ _ v => vdmOk v
  | .dboffChange _ => true

end Sys2Proof
end

