-- ==== Sys2Proof/Safety.lean ====
section
/-!
DEFINITION. The terms in which claims about the device are stated: what a command or event yields, which parts of the device it
leaves alone, and the invariants that every step keeps.
-/
namespace Sys2Proof.Safety

open Sys2Proof.Machine

/-! ## What a command yields -/

/-- The command or event completes in a next state that has the property. -/
def Yields (c : Instr) (s : State) (P : State → Prop) : Prop := ∃ t, exec c s = .next t ∧ P t

/-! ## What a command leaves alone -/

/-- Every port but `p` is as it was. -/
def OthersSame (p : PortId) (s t : State) : Prop := ∀ q, q ≠ p → t.port q = s.port q

/-- Nothing but port `p` has changed. -/
def PortOnly (p : PortId) (s t : State) : Prop := t = { s with ports := t.ports } ∧ OthersSame p s t

/-- Nothing but port `p`, the performance counters, what is posted to the Ledger, which port is the Ember donor and how many free
values have been drawn has changed. -/
def EngineOnly (p : PortId) (s t : State) : Prop :=
  t = { s with
    ports := t.ports, perf := t.perf, ledger := { s.ledger with posts := t.ledger.posts },
    ember := { s.ember with donor := t.ember.donor }, free := t.free } ∧ OthersSame p s t

/-- As `EngineOnly`, but a record may have been queued or counted as lost, which may end DOZE, and SAFEEVT may have changed. -/
def EngineRecorded (p : PortId) (s t : State) : Prop :=
  t = { s with
    ports := t.ports, perf := t.perf, ledger := { s.ledger with posts := t.ledger.posts },
    ember := { s.ember with donor := t.ember.donor }, free := t.free,
    sbox := { s.sbox with queue := t.sbox.queue, lost := t.sbox.lost, evt := t.sbox.evt },
    safety := { s.safety with evt := t.safety.evt }, sys := { s.sys with pwr := t.sys.pwr } } ∧ OthersSame p s t

/-- Every port is as it was. -/
def PortsSame (s t : State) : Prop := t.ports = s.ports

/-- Every byte of every store reads as it did: the fuse array, its latched image, the MRAM and the staged chain. -/
def StoresSame (s t : State) : Prop :=
  ∀ a, t.fuse.normal.read a = s.fuse.normal.read a ∧ t.fuse.strict.read a = s.fuse.strict.read a ∧
    t.fuse.latched.read a = s.fuse.latched.read a ∧ t.sbox.mram.read a = s.sbox.mram.read a ∧
    t.lantern.stage.read a = s.lantern.stage.read a

/-- Nothing but the mailbox, what the host target shows of the transaction (its acknowledgement, the bytes it sent and LASTADDR), the
command interpreter's counters and trace, the free values drawn and the power state (which the
end of the last work takes to DOZE) has changed. -/
def HostOnly (s t : State) : Prop :=
  t = { s with
    mb := t.mb, perf := t.perf, trace := t.trace, free := t.free, sys := { s.sys with pwr := t.sys.pwr },
    bus := { s.bus with acked := t.bus.acked, out := t.bus.out, acks := t.bus.acks, lastAddr := t.bus.lastAddr } }

/-! ## What the host sees of a command -/

/-- The interpreter, which is clocked, waits with nothing before it, and command `k` passes every check that comes before its
own (Table 12.2). -/
def Serves (s : State) (k : Packet) : Prop :=
  s.hostUp = true ∧ s.sys.interp = true ∧ s.sys.interpSeen = true ∧ s.sysMhz ≠ 0 ∧
  s.mb.inbox = [] ∧ s.mb.lanes = [] ∧ s.mb.held = [] ∧ s.mb.late = [] ∧
  s.mb.room 1024 = true ∧ s.checks k = none

/-- Command `k` has been accepted by the mailbox and answered at once with one reply, which is its last. -/
def Answered (s : State) (k : Packet) (st : Byte) (pl : List Byte) (t : State) : Prop :=
  t.mb = { s.mb with
    replies := s.mb.replies ++ [k.reply st pl false false true], tags := k.tag :: s.mb.tags, acc := s.mb.acc + 1 }

/-- Command `k` has been answered ACCEPTED and is in flight. -/
def Accepted (s : State) (k : Packet) (t : State) : Prop :=
  t.mb = { s.mb with
    replies := s.mb.replies ++ [k.reply 1 [] false false false], tags := k.tag :: s.mb.tags, acc := s.mb.acc + 1,
    flights := insertOrd { (s.traceCount k).2 with minor := s.sys.minor, ord := s.mb.acc, sts := s.sys.sts } s.mb.flights }

/-- Command `k`, which was in flight, has its completion among the replies. -/
def Completed (s : State) (k : Packet) (st : Byte) (pl : List Byte) (t : State) : Prop :=
  t.mb = { s.mb with
    flights := s.mb.flights.filter fun j => j.tag != k.tag, replies := s.mb.replies ++ [k.reply st pl true false true] }

/-! ## What Ridgeline sends -/

/-- The 32 bytes of the `i`-th frame among the characters of a ring link, each frame behind its K28.1 (R337, R341). -/
def sentFrame (l : List RingSym) (i : Nat) : List Byte :=
  ((l.drop (33 * i + 1)).take 32).map fun x => match x with
    | .k c => c
    | .d b => b

/-! ## Invariants -/

/-- Every byte store is in its canonical form, and the record queue holds no more than its 32 records (R29). -/
structure Kept (s : State) : Prop where
  normal : s.fuse.normal.wf = true
  strict : s.fuse.strict.wf = true
  latched : s.fuse.latched.wf = true
  added : s.fuse.added.wf = true
  failed : s.fuse.failed.wf = true
  mram : s.sbox.mram.wf = true
  stage : s.lantern.stage.wf = true
  queue : s.sbox.queue.length ≤ 32

end Sys2Proof.Safety
end

