-- ==== Sys2Proof/Certificates/Slice0/Obligations.lean ====
section
/-!
DEFINITION. The statements of this model. Each holds for every state that meets its hypotheses, reachable or not. A statement
about a command says that it completes, what it changes, and what it leaves alone; a statement that covers several commands is the
conjunction of what it says of each.
-/
open Sys2Proof Sys2Proof.Machine Sys2Proof.Safety


/-- A termination seen begins an attach; a dual-role port toggles, and its Try paths expire. In an Unattached state, Rd on CC1 takes
a source to AttachWait.SRC and an Rp on CC2 takes a sink to AttachWait.SNK; nothing but the port changes. DRP_TOGGLE takes
Unattached.SRC to Unattached.SNK with no Rp and back with the Default one; tDRPTry takes Try.SRC to TryWait.SNK and tDRPTryWait
takes Try.SNK to TryWait.SRC, each with its event; tTryTimeout ends TryWait.SRC in Unattached.SNK. Rests on R111, R101, R102,
R113. -/
def Obligations.TerminationsTogglesAndTries : Prop :=
  (∀ (s : State) (p : PortId) (other : CcTerm),
      s.portReady p = true → 6 ≤ s.sys.boot → s.sys.pwr = .run → (s.port p).tc.state = .unattachedSrc →
      Yields (.terminationSeen p .rd other) s fun t =>
        (t.port p).tc.state = .attachWaitSrc ∧ (t.port p).tc.cc1 = .rd ∧ PortOnly p s t) ∧
  (∀ (s : State) (p : PortId) (other : CcTerm),
      s.portReady p = true → 6 ≤ s.sys.boot → s.sys.pwr = .run → (s.port p).tc.state = .unattachedSnk →
      Yields (.terminationSeen p other .rp30) s fun t =>
        (t.port p).tc.state = .attachWaitSnk ∧ (t.port p).tc.cc2 = .rp30 ∧ PortOnly p s t) ∧
  (∀ (s : State) (p : PortId),
      s.portReady p = true → cfgRole (s.port p).cfg = 2 → (s.port p).cfgPend = none → (s.port p).tc.state = .unattachedSrc →
      Yields (.drpToggle p) s fun t =>
        (t.port p).tc.state = .unattachedSnk ∧ (t.port p).tc.rpAdv = .none ∧ PortOnly p s t) ∧
  (∀ (s : State) (p : PortId),
      s.portReady p = true → cfgRole (s.port p).cfg = 2 → (s.port p).cfgPend = none → (s.port p).tc.state = .unattachedSnk →
      Yields (.drpToggle p) s fun t =>
        (t.port p).tc.state = .unattachedSrc ∧ (t.port p).tc.rpAdv = .dflt ∧ PortOnly p s t) ∧
  (∀ (s : State) (p : PortId),
      s.portReady p = true → cfgRole (s.port p).cfg = 2 → (s.port p).cfgPend = none → (s.port p).tc.state = .trySrc →
      Yields (.drpTryExpiry p false) s fun t =>
        (t.port p).tc.state = .tryWaitSnk ∧ (t.port p).tc.evt = setBit (s.port p).tc.evt 7 ∧ PortOnly p s t) ∧
  (∀ (s : State) (p : PortId),
      s.portReady p = true → cfgRole (s.port p).cfg = 2 → (s.port p).cfgPend = none → (s.port p).tc.state = .trySnk →
      Yields (.drpTryExpiry p true) s fun t =>
        (t.port p).tc.state = .tryWaitSrc ∧ (t.port p).tc.evt = setBit (s.port p).tc.evt 7 ∧ PortOnly p s t) ∧
  (∀ (s : State) (p : PortId),
      s.portReady p = true → cfgRole (s.port p).cfg = 2 → (s.port p).cfgPend = none → (s.port p).tc.state = .tryWaitSrc →
      Yields (.tryTimeout p) s fun t =>
        (t.port p).tc.state = .unattachedSnk ∧ PortOnly p s t)

/-- A debounced termination attaches, and its demand is posted. With no Try configured, a debounced Rd takes a source to
Attached.SRC and a debounced Rp with VBUS present takes a sink to Attached.SNK, orientation by the pin that read it; Try.SRC
attaches on its Rd. ATTACH is raised and the attach demand of the role is posted to the Ledger. Rests on R114, R116, R120, R126. -/
def Obligations.DebouncedTerminationsAttach : Prop :=
  (∀ (s : State) (p : PortId),
      s.portReady p = true → s.ledger.ready = true → cfgTry (s.port p).cfg = 0 → s.sys.pwr = .run → (s.port p).tc.state =
      .attachWaitSrc → (s.port p).tc.cc1 = .opn → (s.port p).tc.cc2 = .rd →
      Yields (.sourceAttachDebounce p) s fun t =>
        (t.port p).tc.state = .attachedSrc ∧ (t.port p).tc.orient = true ∧ (t.port p).tc.evt = setBit (s.port p).tc.evt 0 ∧
        t.ledger.posts = s.ledger.posts ++ [.demand p ((s.port p).attachDemand false) .attach false false] ∧ EngineOnly p s
        t) ∧
  (∀ (s : State) (p : PortId),
      s.portReady p = true → s.ledger.ready = true → cfgTry (s.port p).cfg = 0 → s.sys.pwr = .run → (s.port p).tc.state =
      .attachWaitSnk → (s.port p).tc.cc1 = .rp15 → (s.port p).tc.cc2 = .opn → (s.port p).tc.vbusPres = true → (s.port
      p).tc.dbAttach = false →
      Yields (.sinkAttachDebounce p) s fun t =>
        (t.port p).tc.state = .attachedSnk ∧ (t.port p).tc.orient = false ∧ (t.port p).tc.rpSeen = .a15 ∧ (t.port p).tc.evt
        = setBit (s.port p).tc.evt 0 ∧ t.ledger.posts = s.ledger.posts ++ [.demand p ((s.port p).attachDemand true) .attach
        true false] ∧ EngineOnly p s t) ∧
  (∀ (s : State) (p : PortId),
      s.portReady p = true → s.ledger.ready = true → cfgTry (s.port p).cfg = 0 → s.sys.pwr = .run → (s.port p).tc.state =
      .trySrc → (s.port p).tc.cc1 = .rd → (s.port p).tc.cc2 = .opn →
      Yields (.tryDebounceComplete p) s fun t =>
        (t.port p).tc.state = .attachedSrc ∧ (t.port p).tc.orient = false ∧ (t.port p).tc.evt = setBit (s.port p).tc.evt 0 ∧
        t.ledger.posts = s.ledger.posts ++ [.demand p ((s.port p).attachDemand false) .attach false false] ∧ EngineOnly p s
        t)

/-- Detach, ErrorRecovery, a changed Rp, a tripped VCONN and the DBOFF ball. A qualified detach raises DETACH, releases the demand
and waits for vSafe0V; the end of ErrorRecovery takes the port to the Unattached state of its role, and one that came from
Disabled back there; a changed Rp with no contract is seen and raises RPCHG; a VCONN overcurrent removes VCONN, forgets the
cable and raises its event; a DBOFF that goes high opens the CC pins of every port that shows dead-battery Rd, and one that goes
low is only taken. Rests on R3, R50, R51, R109, R110, R121, R129, R130, R132. The model's own choices in it: log entries 22, 27. -/
def Obligations.AttachesEndAndRecover : Prop :=
  (∀ (s : State) (p : PortId),
      s.portReady p = true → s.sys.pwr = .run → (s.port p).tc.state = .errorRecovery → (s.port p).tc.erBack = false → (s.port
      p).sw.tripWire = false → (s.port p).sw.monDis = false → (s.port p).sw.holdNext = false →
      Yields (.errorRecoveryEnd p) s fun t =>
        (t.port p).tc.state = (s.port p).restState ∧ (t.port p).sw.st = (s.port p).sw.st ∧ PortOnly p s t) ∧
  (∀ (s : State) (p : PortId),
      s.portReady p = true → s.sys.pwr = .run → (s.port p).tc.state = .errorRecovery → (s.port p).tc.erBack = true → (s.port
      p).sw.tripWire = false → (s.port p).sw.monDis = false →
      Yields (.errorRecoveryEnd p) s fun t =>
        (t.port p).tc.state = .disabled ∧ (t.port p).tc.erBack = false ∧ (t.port p).sw = (s.port p).sw ∧ PortOnly p s t) ∧
  (∀ (s : State) (p : PortId),
      s.portReady p = true → s.sys.pwr = .run → (s.port p).tc.state = .attachedSnk → (s.port p).tc.rpSeen = .dflt → (s.port
      p).pd.contract = .none →
      Yields (.rpValueChange p .a30) s fun t =>
        (t.port p).tc.rpSeen = .a30 ∧ (t.port p).tc.evt = setBit (s.port p).tc.evt 2 ∧ PortOnly p s t) ∧
  (∀ (s : State) (p : PortId) (us : Nat),
      s.portReady p = true → s.sys.pwr = .run → (s.port p).tc.state = .attachedSnk → (s.port p).tc.leaving = false → (s.port
      p).swap = SwapPort.reset → (s.port p).pd.contract ≠ .transition → (s.port p).tc.vbusMv = 5000 →
      Yields (.detach p false us) s fun t =>
        (t.port p).tc.leaving = true ∧ (t.port p).tc.evt = setBit (s.port p).tc.evt 1 ∧ t.ledger.posts = s.ledger.posts ++
        [.release p] ∧ (t.port p).pd.contract = .none ∧ EngineOnly p s t) ∧
  (∀ (s : State) (p : PortId),
      s.portReady p = true → s.sys.pwr = .run → (s.port p).tc.vconnOn = true → (s.port p).pd.epr = false →
      Yields (.vconnOvercurrent p) s fun t =>
        (t.port p).tc.vconnOn = false ∧ (t.port p).pd.cableOk = false ∧ (t.port p).tc.evt = setBit (s.port p).tc.evt 4 ∧
        PortOnly p s t) ∧
  (∀ (s : State) (p : PortId),
      s.portReady p = true → s.sys.pwr = .run →
      Yields (.dboffChange false) s fun t =>
        t = { s with sys.dboff := false }) ∧
  (∀ (s : State) (p : PortId),
      s.portReady p = true → s.sys.pwr = .run →
      Yields (.dboffChange true) s fun t =>
        (∀ q, t.port q = if s.deadRd q then { s.port q with tc := { (s.port q).tc with cc1 := .opn, cc2 := .opn } } else
        s.port q) ∧ t = { s with ports := t.ports, sys.dboff := true })

/-- A protection that trips opens the switch; with a contract it sends Hard Reset; the third time it enters ErrorRecovery. A
protective trip of a port with no contract opens the switch into DISCHARGE over the trip wire, counts the opening, sets its
SWEVT bit, queues one PATH_TRIP record and lets the port close again later; each event acts on a sample beyond its threshold of
Table 7.5, in the contract direction and against it; two that qualify in one sample open once with both bits; a thermal shutdown
instead sets THERM to its highest level. An overvoltage sample beyond the threshold of R224 that opens the switch of a source
under an explicit contract sends Hard Reset, which ends the contract; an opening that is the third takes the port to
ErrorRecovery with HOLDOFF to follow. Rests on R222, R224, R226, R227, R228, R248, R249, R175. The model's own choices in it:
log entry 30. -/
def Obligations.ProtectionsOpenTheSwitch : Prop :=
  (∀ (s : State) (p : PortId) (x : ProtSample),
      (s.port p).sw.tripCnt = 0 → (s.port p).pd.contract = .none → s.gateOk p = true → s.sbox.queue.length < 32 → (s.port
      p).sw.st = .closed → (s.ocLevel p : Int) < (if (s.port p).sw.sinkDir then -x.ma else x.ma) → x.ma.natAbs ≤ (if isE p
      then 15000 else 9000) → x.mv ≤ 6000 →
      Yields (.overcurrent p x) s fun t =>
        (t.port p).sw.st = .discharge ∧ (t.port p).sw.tripCnt = 1 ∧ (t.port p).sw.evt = setBit (s.port p).sw.evt 0 ∧ (t.port
        p).sw.reclose = true ∧ t.sbox.queue.length = s.sbox.queue.length + 1 ∧ EngineRecorded p s t) ∧
  (∀ (s : State) (p : PortId) (x : ProtSample),
      (s.port p).sw.tripCnt = 0 → (s.port p).pd.contract = .none → s.gateOk p = true → s.sbox.queue.length < 32 → (s.port
      p).sw.st = .closed → (if isE p then 15000 else 9000) < x.ma.natAbs → x.mv ≤ 6000 →
      Yields (.shortCircuit p x) s fun t =>
        (t.port p).sw.st = .discharge ∧ (t.port p).sw.tripCnt = 1 ∧ (t.port p).sw.evt = setBit (s.port p).sw.evt 1 ∧ (t.port
        p).sw.reclose = true ∧ t.sbox.queue.length = s.sbox.queue.length + 1 ∧ EngineRecorded p s t) ∧
  (∀ (s : State) (p : PortId) (x : ProtSample),
      (s.port p).sw.tripCnt = 0 → (s.port p).pd.contract = .none → s.gateOk p = true → s.sbox.queue.length < 32 → (s.port
      p).sw.st = .closed → 6000 < x.mv → x.ma = 0 →
      Yields (.overvoltage p x) s fun t =>
        (t.port p).sw.st = .discharge ∧ (t.port p).sw.tripCnt = 1 ∧ (t.port p).sw.evt = setBit (s.port p).sw.evt 2 ∧ (t.port
        p).sw.reclose = true ∧ t.sbox.queue.length = s.sbox.queue.length + 1 ∧ EngineRecorded p s t) ∧
  (∀ (s : State) (p : PortId) (x : ProtSample),
      (s.port p).sw.tripCnt = 0 → (s.port p).pd.contract = .none → s.gateOk p = true → s.sbox.queue.length < 32 → (s.port
      p).sw.st = .closed → (s.port p).sw.blank = false → (if isE p then 500 else 300) < -(if (s.port p).sw.sinkDir then -x.ma
      else x.ma) → x.ma.natAbs ≤ (if isE p then 15000 else 9000) → x.mv ≤ 6000 →
      Yields (.reverseCurrent p x) s fun t =>
        (t.port p).sw.st = .discharge ∧ (t.port p).sw.tripCnt = 1 ∧ (t.port p).sw.evt = setBit (s.port p).sw.evt 3 ∧ (t.port
        p).sw.reclose = true ∧ t.sbox.queue.length = s.sbox.queue.length + 1 ∧ EngineRecorded p s t) ∧
  (∀ (s : State) (p : PortId) (ma : Int),
      (s.port p).sw.tripCnt = 0 → (s.port p).pd.contract = .none → s.gateOk p = true → s.sbox.queue.length < 32 → (s.port
      p).sw.st = .softstart →
      Yields (.softstartFail p ma) s fun t =>
        (t.port p).sw.st = .discharge ∧ (t.port p).sw.tripCnt = 1 ∧ (t.port p).sw.evt = setBit (s.port p).sw.evt 9 ∧ (t.port
        p).sw.reclose = true ∧ t.sbox.queue.length = s.sbox.queue.length + 1 ∧ EngineRecorded p s t) ∧
  (∀ (s : State) (p : PortId) (temp : Int) (mv : Nat),
      (s.port p).sw.tripCnt = 0 → (s.port p).pd.contract = .none → s.gateOk p = true → s.sbox.queue.length < 32 → 135 ≤ temp →
      s.dieMeasures (dieOf p) = true → mv ≤ 6000 → (s.port p).sw.st = .closed → (s.port p).sw.therm = 0 →
      Yields (.thermalShutdown p temp ⟨0, mv⟩) s fun t =>
        (t.port p).sw.st = .discharge ∧ (t.port p).sw.tripCnt = 1 ∧ (t.port p).sw.therm = 3 ∧ (t.port p).sw.hot = true ∧
        (t.port p).sw.evt = setBit (s.port p).sw.evt 6 ∧ t.sbox = s.sbox ∧ EngineOnly p s t) ∧
  (∀ (s : State) (p : PortId) (x : ProtSample),
      (s.port p).sw.tripCnt = 0 → (s.port p).pd.contract = .none → s.gateOk p = true → s.sbox.queue.length < 32 → (s.port
      p).sw.st = .closed → (if isE p then 15000 else 9000) < x.ma.natAbs → 6000 < x.mv →
      Yields (.shortCircuit p x) s fun t =>
        (t.port p).sw.evt = setBit (setBit (s.port p).sw.evt 1) 2 ∧ (t.port p).sw.tripCnt = 1 ∧ t.sbox.queue.length =
        s.sbox.queue.length + 1 ∧ EngineRecorded p s t) ∧
  (∀ (s : State) (p : PortId) (x : ProtSample),
      (s.port p).sw.st = .closed → s.gateOk p = true → s.sbox.queue.length < 32 → (s.port p).tc.state = .attachedSrc →
      s.beyond p x 2 = true → (s.port p).sw.tripCnt = 0 → (s.port p).pd.contract = .explicit → (s.port p).pd.epr = false →
      (s.port p).tc.attachSrc = true →
      Yields (.overvoltage p x) s fun t =>
        (t.port p).pd.contract = .none ∧ (t.port p).pd.hr = .srcWait ∧ (t.port p).pd.evt = setBit (s.port p).pd.evt 1 ∧
        (t.port p).sw.st = .discharge ∧ EngineRecorded p s t) ∧
  (∀ (s : State) (p : PortId) (x : ProtSample),
      (s.port p).sw.st = .closed → s.gateOk p = true → s.sbox.queue.length < 32 → (s.port p).tc.state = .attachedSrc →
      s.beyond p x 2 = true → (s.port p).sw.tripCnt = 2 →
      Yields (.overvoltage p x) s fun t =>
        (t.port p).tc.state = .errorRecovery ∧ (t.port p).sw.holdNext = true ∧ (t.port p).sw.tripCnt = 3 ∧ EngineRecorded p
        s t)

/-- Soft-start, discharge, HOLDOFF and the trip count. Soft-start ends in CLOSED; a discharge that reaches vSafe0V ends in OPEN with
the sink off, and one that takes too long only switches the sink off with its event; HOLDOFF ends in OPEN and 60 s without an
opening clear TRIPCNT; a held enable takes the port to the Unattached state of its role; a port with no contract whose reclose
has come clears it. Rests on R219, R227, R228, R231, R232, R233. The model's own choices in it: log entry 33. -/
def Obligations.SwitchStatesGoOn : Prop :=
  (∀ (s : State) (p : PortId) (d : List (Nat × Int)) (ma : Int),
      s.portReady p = true → s.sys.pwr = .run → (s.port p).sw.st = .softstart → (s.port p).sw.sinkDir = false → (s.port
      p).swap.stage = .none → ((s.port p).sw.ssRamp (isE p) (s.port p).tc.prailMv d).2 = some ma →
      Yields (.softstartComplete ⟨p, d⟩) s fun t =>
        (t.port p).sw.st = .closed ∧ (t.port p).tc.vbusMv = (s.port p).cv.vref * 20 ∧ (t.port p).cv.drop = (s.port p).dropMv
        (isE p) ma ∧ (t.port p).cv.prebias = false ∧ EngineOnly p s t) ∧
  (∀ (s : State) (p : PortId),
      s.portReady p = true → s.sys.pwr = .run → (s.port p).sw.st = .discharge → (s.port p).tc.state = .errorRecovery → (s.port
      p).tc.held = false → (s.port p).tc.leaving = false → (s.port p).swap.stage = .none →
      Yields (.dischargeComplete p 700) s fun t =>
        (t.port p).sw.st = .opn ∧ (t.port p).sw.sinkOn = false ∧ (t.port p).tc.vbusMv = 700 ∧ EngineOnly p s t) ∧
  (∀ (s : State) (p : PortId),
      s.portReady p = true → s.sys.pwr = .run → (s.port p).sw.st = .discharge → (s.port p).sw.sinkOn = true →
      Yields (.dischargeTimeout p) s fun t =>
        (t.port p).sw.st = .discharge ∧ (t.port p).sw.sinkOn = false ∧ (t.port p).sw.evt = setBit (s.port p).sw.evt 7 ∧
        PortOnly p s t) ∧
  (∀ (s : State) (p : PortId),
      s.portReady p = true → s.sys.pwr = .run → (s.port p).sw.st = .holdoff → (s.port p).tc.state = .unattachedSnk →
      Yields (.holdoffEnd p) s fun t =>
        (t.port p).sw.st = .opn ∧ (t.port p).sw.tripCnt = 0 ∧ PortOnly p s t) ∧
  (∀ (s : State) (p : PortId),
      s.portReady p = true → s.sys.pwr = .run → (s.port p).sw.st = .opn → (s.port p).sw.holdNext = false →
      Yields (.tripcntReset p) s fun t =>
        (t.port p).sw.tripCnt = 0 ∧ (t.port p).sw.st = (s.port p).sw.st ∧ PortOnly p s t) ∧
  (∀ (s : State) (p : PortId),
      s.portReady p = true → s.sys.pwr = .run → (s.port p).tc.enHeld = true → (s.port p).tc.state = .disabled → (s.port
      p).sw.st = .opn →
      Yields (.heldEnable p) s fun t =>
        (t.port p).tc.state = (s.port p).restState ∧ (t.port p).tc.enHeld = false ∧ PortOnly p s t) ∧
  (∀ (s : State) (p : PortId),
      s.portReady p = true → s.sys.pwr = .run → (s.port p).sw.reclose = true →
      Yields (.protectiveReclose p) s fun t =>
        (t.port p).sw.reclose = false ∧ PortOnly p s t)

/-- Monitor disagreement, trip wires, the cell audit, thermal levels and the links to the power dies. Disagreeing monitors and a
trip-wire fault take the port to ErrorRecovery with their events and a record; a cell that passes its test leaves it in service
and the next one due; one found open goes out of service; a temperature of 110 °C is THERM level 1 with THERMCHG; a lost
heartbeat raises SAFEEVT and a recovered link clears it. Rests on R15, R229, R239, R242, R248, R517. The model's own choices in
it: log entries 32, 15. -/
def Obligations.MonitorsAuditAndLinks : Prop :=
  (∀ (s : State) (p : PortId),
      s.portReady p = true → s.sys.pwr = .run → s.sbox.queue.length < 32 → s.safeOn 1 = true → s.monitorsOn p = true → (s.port
      p).tc.state = .attachedSrc →
      Yields (.monitorDisagreement p) s fun t =>
        (t.port p).tc.state = .errorRecovery ∧ (t.port p).sw.monDis = true ∧ (t.port p).sw.evt = setBit (s.port p).sw.evt 8
        ∧ (t.port p).sw.tripCnt = (s.port p).sw.tripCnt ∧ t.sbox.queue.length = s.sbox.queue.length + 1 ∧ EngineRecorded p s
        t) ∧
  (∀ (s : State) (p : PortId),
      s.portReady p = true → s.sys.pwr = .run → s.sbox.queue.length < 32 → s.monitorsOn p = true → (s.port p).tc.state =
      .attachedSrc →
      Yields (.tripWireFault p) s fun t =>
        (t.port p).tc.state = .errorRecovery ∧ (t.port p).sw.tripWire = true ∧ t.safety.evt = setBit s.safety.evt 17 ∧
        t.sbox.queue.length = s.sbox.queue.length + 1 ∧ EngineRecorded p s t) ∧
  (∀ (s : State) (p : PortId),
      s.portReady p = true → s.sys.pwr = .run → s.sbox.queue.length < 32 → s.auditOn p = true → (s.port p).sw =
      { SwPort.reset with auditPos := 32767 } →
      Yields (.cellAudit p .pass) s fun t =>
        (t.port p).sw.auditPos = 0 ∧ (t.port p).sw.outCells = [] ∧ EngineOnly p s t) ∧
  (∀ (s : State) (p : PortId),
      s.portReady p = true → s.sys.pwr = .run → s.sbox.queue.length < 32 → s.auditOn p = true → s.auditAll p = true → (s.port
      p).sw = { SwPort.reset with auditPos := 32767 } →
      Yields (.cellAudit p .openFet) s fun t =>
        (t.port p).sw.outCells = [32767] ∧ (t.port p).sw.auditPos = 0 ∧ (t.port p).sw.evt = setBit (s.port p).sw.evt 4 ∧
        EngineOnly p s t) ∧
  (∀ (s : State) (p : PortId),
      s.portReady p = true → s.sys.pwr = .run → s.sbox.queue.length < 32 → s.dieMeasures (dieOf p) = true → (s.port
      p).sw.therm = 0 →
      Yields (.thermalLevelChange p 110) s fun t =>
        (t.port p).sw.therm = 1 ∧ (t.port p).sw.temp = 110 ∧ (t.port p).sw.evt = setBit (s.port p).sw.evt 6 ∧ PortOnly p s t) ∧
  (∀ (s : State) (p : PortId),
      s.portReady p = true → s.sys.pwr = .run → s.sbox.queue.length < 32 → s.dieMeasures .b = true →
      Yields (.heartbeatLoss .b) s fun t =>
        t.sys.linkB = true ∧ t.safety.evt = setBit s.safety.evt 15 ∧ t.sbox.queue.length = s.sbox.queue.length + 1 ∧ (dieOf
        p = .b → (s.port p).tc.state ≠ .disabled → (t.port p).tc.state = .errorRecovery) ∧ (dieOf p = .a → t.port p = s.port
        p)) ∧
  (∀ (s : State) (p : PortId),
      s.portReady p = true → s.sys.pwr = .run → s.sbox.queue.length < 32 →
      Yields (.linkHealthy .b) s fun t =>
        t.sys.linkB = false ∧ t.sys.linkA = s.sys.linkA ∧ (dieOf p = .a → t.port p = s.port p))

/-- The converter reaches its target, limits, locks and loses its clock; the local bus is formed and left. A source converter that
reaches its target sets PRAIL to the reference; current limiting and its end show in CONVSTAT, its start in CONVEVT; PKLIM takes
the port to ErrorRecovery; lock and its loss show as synchronised, the loss as an event; PRAIL recovery ends; a level that both
monitors read alike is taken as VBUS and is no disagreement. A forming source whose dwell has passed starts its converter toward
VFORM on the local bus; one that has not reached it in time raises FORMFAIL; one millisecond after a join HBISO_N is released,
and that the release sets ISLCHG, as the isolation does, is the model's choice. Rests on R229, R263, R264, R267, R272, R273,
R274, R293, R506, R279, R282. The model's own choices in it: log entries 55, 118. -/
def Obligations.ConverterAndLocalBusEvents : Prop :=
  (∀ (s : State) (p : PortId) (ma : Int),
      s.portReady p = true → s.sys.pwr = .run → (s.port p).cv.dir = 1 → (s.port p).cv.slewing = true → (s.port p).cv.slewDue =
      false → (s.port p).cv.diode = false → (s.port p).sw.st = .opn → (s.port p).pd.contract = .none →
      Yields (.atTarget ⟨p, ma⟩) s fun t =>
        (t.port p).cv.atTarget = true ∧ (t.port p).cv.slewing = false ∧ (t.port p).tc.prailMv = (s.port p).cv.vref * 20 ∧
        EngineOnly p s t) ∧
  (∀ (s : State) (p : PortId),
      s.portReady p = true → s.sys.pwr = .run → (s.port p).cv.dir = 1 → (s.port p).cv.ilimAct = false →
      Yields (.ilimhit p true) s fun t =>
        (t.port p).cv.ilimAct = true ∧ (t.port p).cv.evt = setBit (s.port p).cv.evt 4 ∧ PortOnly p s t) ∧
  (∀ (s : State) (p : PortId),
      s.portReady p = true → s.sys.pwr = .run → (s.port p).cv.dir = 1 →
      Yields (.ilimhit p false) s fun t =>
        (t.port p).cv.ilimAct = false ∧ (t.port p).cv.evt = (s.port p).cv.evt ∧ PortOnly p s t) ∧
  (∀ (s : State) (p : PortId),
      s.portReady p = true → s.sys.pwr = .run → (s.port p).cv.dir = 1 →
      Yields (.pklim p) s fun t =>
        (t.port p).tc.state = .errorRecovery ∧ (t.port p).cv.dir = 0 ∧ (t.port p).cv.evt = setBit (s.port p).cv.evt 7 ∧
        EngineOnly p s t) ∧
  (∀ (s : State) (p : PortId),
      s.portReady p = true → s.sys.pwr = .run → (s.port p).cv.dir = 1 → 8 ≤ cfgSyncSrc (s.port p).cfg → s.inSyncWindow
      (cfgSyncSrc (s.port p).cfg - 8) (cfgFsw (s.port p).cfg) = true → (s.port p).cv.ember = false →
      Yields (.syncLock p) s fun t =>
        (t.port p).cv.synced = true ∧ (t.port p).cv.evt = (s.port p).cv.evt ∧ PortOnly p s t) ∧
  (∀ (s : State) (p : PortId),
      s.portReady p = true → s.sys.pwr = .run → (s.port p).cv.dir = 1 → cfgSyncSrc (s.port p).cfg ≠ 0 → (s.port p).cv.ember =
      false →
      Yields (.synclost p) s fun t =>
        (t.port p).cv.synced = false ∧ (t.port p).cv.evt = setBit (s.port p).cv.evt 0 ∧ PortOnly p s t) ∧
  (∀ (s : State) (p : PortId),
      s.portReady p = true → s.sys.pwr = .run → (s.port p).cv.recover = true → (s.port p).cv.dir = 0 →
      Yields (.prailRecoveryComplete p) s fun t =>
        (t.port p).cv.recover = false ∧ (t.port p).tc.prailMv ≤ 700 ∧ PortOnly p s t) ∧
  (∀ (s : State) (p : PortId) (mv : Nat),
      s.portReady p = true → s.sys.pwr = .run → s.monitorsOn p = true → (s.port p).tc.leaving = false → (s.port p).tc.ccHeld =
      false →
      Yields (.vbusLevelChange p mv) s fun t =>
        (t.port p).tc.vbusMv = mv ∧ (t.port p).sw.monDis = false ∧ PortOnly p s t) ∧
  (∀ (s : State) (p : PortId),
      s.portReady p = true → s.sys.pwr = .run → s.sys.hbisoLow = true → s.mayForm p = true → s.ledger.joining = false →
      (s.port p).sw.st = .closed → (s.port p).sw.sinkDir = true → (s.port p).cv.dir = 0 → s.paramOk p = true → s.armed p =
      true →
      Yields (.formingDwell p) s fun t =>
        (t.port p).cv.dir = 3 ∧ (t.port p).cv.vref = s.ledger.vform * 50 ∧ (t.port p).cv.refBus = true ∧ PortOnly p s t) ∧
  (∀ (s : State) (p : PortId),
      s.portReady p = true → s.sys.pwr = .run → (s.port p).cv.dir = 3 → (s.port p).cv.atTarget = false →
      Yields (.formfail p) s fun t =>
        (t.port p).cv.evt = setBit (s.port p).cv.evt 6 ∧ (t.port p).cv.dir = 3 ∧ PortOnly p s t) ∧
  (∀ (s : State) (p : PortId),
      s.portReady p = true → s.sys.pwr = .run → s.ledger.joining = true → s.sys.hbisoLow = true →
      Yields (.joinRelease) s fun t =>
        t.sys.hbisoLow = false ∧ t.ledger.joining = false ∧ t.ledger.islChg = true ∧ t.fuse = s.fuse ∧ t.sbox = s.sbox)

/-- A GoodCRC or its absence ends a transmission; an AMS begins, at SinkTxNG under a Revision 3.x contract. A GoodCRC with the SOP
type and MessageID of the message on the line clears it and advances the MessageID; for capabilities the wait for a Request
begins; with none, the message is retransmitted, two times toward a Revision 3.x partner, and then a Soft_Reset is sent. A
waiting trigger of a source under a Revision 3.x explicit contract first changes its Rp to 1.5 A; after tSinkTx the first
message goes out; a trigger of a source with no contract sends its first message at once. Rests on R142, R173, R144, R154. The
model's own choices in it: log entries 36, 41. -/
def Obligations.TransmissionsAndSequencesBegin : Prop :=
  (∀ (s : State) (p : PortId) (id : BitVec 3),
      s.pdLive p = true → (s.port p).tc.state = .attachedSrc → s.sys.pwr = .run → (s.port p).pd.tx = some ⟨.sop, .sourceCaps,
      [], [], 2, id⟩ → (s.port p).pd.txQ = [] → (s.port p).pd.chunk = none → (s.port p).pd.ams = .negotiation →
      Yields (.goodcrc p .sop id) s fun t =>
        (t.port p).pd.tx = none ∧ (t.port p).pd.txId = (s.port p).pd.txId + 1 ∧ (t.port p).pd.capsSent = true ∧ (t.port
        p).pd.heard = true ∧ PortOnly p s t) ∧
  (∀ (s : State) (p : PortId) (id : BitVec 3),
      s.pdLive p = true → (s.port p).tc.state = .attachedSrc → s.sys.pwr = .run → (s.port p).pd.tx = some ⟨.sop, .sourceCaps,
      [], [], 2, id⟩ → (s.port p).pd.tries = 1 → (s.port p).pd.txRev = 2 →
      Yields (.receiveTimeout p) s fun t =>
        (t.port p).pd.tries = (s.port p).pd.tries + 1 ∧ (t.port p).pd.tx = (s.port p).pd.tx ∧ EngineOnly p s t) ∧
  (∀ (s : State) (p : PortId) (id : BitVec 3),
      s.pdLive p = true → (s.port p).tc.state = .attachedSrc → s.sys.pwr = .run → (s.port p).pd.tx = some ⟨.sop, .getSinkCap,
      [], [], 2, id⟩ → (s.port p).pd.ng = true → (s.port p).pd.tries = 2 → (s.port p).pd.txRev = 2 → (s.port p).pd.contract =
      .explicit → (s.port p).pd.srAccept = false → (s.port p).swap = SwapPort.reset → (s.port p).lm.run = none →
      Yields (.receiveTimeout p) s fun t =>
        (t.port p).pd.tx.map (·.ty) = some .softReset ∧ (t.port p).pd.ams = .softReset ∧ (t.port p).pd.txId = 0 ∧ EngineOnly
        p s t) ∧
  (∀ (s : State) (p : PortId),
      s.pdLive p = true → (s.port p).tc.state = .attachedSrc → s.sys.pwr = .run → (s.port p).pd.tx = none → (s.port p).pd.trig
      = [.getSinkCap] → (s.port p).pd.ams = .none → (s.port p).pd.contract = .explicit → (s.port p).pd.txRev = 2 → (s.port
      p).pd.ng = false → (s.port p).pd.hr = .none → (s.port p).pd.bist = 0 →
      Yields (.amsStart p) s fun t =>
        (t.port p).pd.sinkTxWait = true ∧ (t.port p).pd.ams = .getSinkCap ∧ (t.port p).tc.rpAdv = .a15 ∧ (t.port p).pd.trig
        = [] ∧ PortOnly p s t) ∧
  (∀ (s : State) (p : PortId),
      s.pdLive p = true → (s.port p).tc.state = .attachedSrc → s.sys.pwr = .run → (s.port p).pd.tx = none → (s.port
      p).pd.sinkTxWait = true → (s.port p).pd.ams = .getSinkCap →
      Yields (.sinkTxExpiry p) s fun t =>
        (t.port p).pd.tx.map (·.ty) = some .getSinkCap ∧ (t.port p).pd.sinkTxWait = false ∧ (t.port p).pd.ams = .getSinkCap
        ∧ EngineOnly p s t) ∧
  (∀ (s : State) (p : PortId),
      s.pdLive p = true → (s.port p).tc.state = .attachedSrc → s.sys.pwr = .run → (s.port p).pd.tx = none → (s.port p).pd.trig
      = [.getRevision, .negotiation] → (s.port p).pd.ams = .none → (s.port p).pd.contract = .none → (s.port p).pd.hr = .none →
      (s.port p).pd.bist = 0 →
      Yields (.amsStart p) s fun t =>
        (t.port p).pd.tx.map (·.ty) = some .getRevision ∧ (t.port p).pd.ams = .getRevision ∧ (t.port p).tc.rpAdv = (s.port
        p).tc.rpAdv ∧ EngineOnly p s t)

/-- Capabilities, a Request, Accept and PS_RDY make a contract. A sink answers Source_Capabilities with a Request; a source accepts
a Request within its grant and enters the transition with its reference at the voltage asked for; at the sink Accept begins the
transition and PS_RDY makes the contract explicit with the terms requested. Rests on R158, R163, R268. The model's own choices
in it: log entry 34. -/
def Obligations.NegotiationFormsAContract : Prop :=
  (∀ (s : State) (p : PortId) (id : BitVec 3) (rev : BitVec 2) (caps : Word),
      s.pdLive p = true → s.sys.pwr = .run → (s.port p).pd.tx = none → (s.port p).pd.rxId ≠ some id → (s.port p).swap =
      SwapPort.reset → (s.port p).tc.state = .attachedSnk → s.engineClk = true → (s.port p).ownRuns = false → (s.port
      p).pd.contract = .none → (s.port p).pd.epr = false → s.engineClk = true → (s.port p).pd.bist = 0 →
      Yields (.sourceCapabilities p ⟨.sop, id, rev⟩ false [caps]) s fun t =>
        (t.port p).pd.tx.map (·.ty) = some .request ∧ (t.port p).pd.ams = .request ∧ (t.port p).pd.srcCaps = [caps] ∧
        (t.port p).pd.nxt.isSome = true ∧ EngineOnly p s t) ∧
  (∀ (s : State) (p : PortId) (id : BitVec 3) (rev : BitVec 2),
      s.pdLive p = true → s.sys.pwr = .run → (s.port p).pd.tx = none → (s.port p).pd.rxId ≠ some id → (s.port p).swap =
      SwapPort.reset → (s.port p).tc.state = .attachedSrc → (s.port p).pd.contract = .explicit → (s.port p).pd.epr = false →
      (s.port p).pd.asked = none → (s.port p).ownRuns = false → (s.port p).pd.offered = [⟨1, ⟨1, 500, 500, 90⟩, 90⟩] →
      s.ledger.ready = true → (s.port p).lg.grant = 45 → s.engineClk = true → (s.port p).pd.bist = 0 →
      Yields (.request p ⟨.sop, id, rev⟩ false 0x1001685A) s fun t =>
        (t.port p).pd.contract = .transition ∧ (t.port p).pd.nxt = some ⟨0, 1, 500, 90, false⟩ ∧ (t.port p).pd.tx.map (·.ty)
        = some .accept ∧ (t.port p).cv.vref = 250 ∧ (t.port p).cv.ilim = 18 ∧ EngineOnly p s t) ∧
  (∀ (s : State) (p : PortId) (id : BitVec 3) (rev : BitVec 2),
      s.pdLive p = true → s.sys.pwr = .run → (s.port p).pd.tx = none → (s.port p).pd.rxId ≠ some id → (s.port p).swap =
      SwapPort.reset → (s.port p).tc.state = .attachedSnk → (s.port p).pd.ams = .request → (s.port p).pd.nxt.isSome = true →
      (s.port p).pd.contract = .explicit → (s.port p).pd.sinkTxWait = false → s.engineClk = true → (s.port p).pd.bist = 0 →
      Yields (.accept p ⟨.sop, id, rev⟩) s fun t =>
        (t.port p).pd.contract = .transition ∧ (t.port p).pd.nxt = (s.port p).pd.nxt ∧ (t.port p).cv.standby = true ∧
        EngineOnly p s t) ∧
  (∀ (s : State) (p : PortId) (id : BitVec 3) (rev : BitVec 2),
      s.pdLive p = true → s.sys.pwr = .run → (s.port p).pd.tx = none → (s.port p).pd.rxId ≠ some id → (s.port p).swap =
      SwapPort.reset → (s.port p).tc.state = .attachedSnk → (s.port p).pd.ams ≠ .softReset → (s.port p).pd.contract =
      .transition → (s.port p).pd.nxt.isSome = true → s.engineClk = true → (s.port p).pd.bist = 0 →
      Yields (.psRdy p ⟨.sop, id, rev⟩) s fun t =>
        (t.port p).pd.contract = .explicit ∧ some (t.port p).pd.terms = (s.port p).pd.nxt ∧ (t.port p).pd.hrCount = 0 ∧
        (t.port p).cv.standby = false ∧ EngineOnly p s t) ∧
  (∀ (s : State) (p : PortId) (id : BitVec 3) (rev : BitVec 2),
      s.pdLive p = true → s.sys.pwr = .run → (s.port p).pd.tx = none → (s.port p).pd.rxId ≠ some id → (s.port p).swap =
      SwapPort.reset → (s.port p).tc.state = .attachedSnk → (s.port p).pd.ams = .request → (s.port p).pd.contract = .explicit
      → (s.port p).pd.sinkTxWait = false → s.engineClk = true → (s.port p).pd.bist = 0 →
      Yields (.reject p ⟨.sop, id, rev⟩) s fun t =>
        (t.port p).pd.nxt = none ∧ (t.port p).pd.ams = .none ∧ (t.port p).pd.contract = .explicit ∧ EngineOnly p s t) ∧
  (∀ (s : State) (p : PortId) (id : BitVec 3) (rev : BitVec 2),
      s.pdLive p = true → s.sys.pwr = .run → (s.port p).pd.tx = none → (s.port p).pd.rxId ≠ some id → (s.port p).swap =
      SwapPort.reset → (s.port p).tc.state = .attachedSnk → (s.port p).pd.ams = .request → (s.port p).pd.contract = .explicit
      → (s.port p).pd.sinkTxWait = false → s.engineClk = true → (s.port p).pd.bist = 0 →
      Yields (.wait p ⟨.sop, id, rev⟩) s fun t =>
        (t.port p).pd.nxt = none ∧ (t.port p).pd.ams = .none ∧ (t.port p).pd.contract = .explicit ∧ EngineOnly p s t)

/-- The timers of a negotiation, its transition and its contract. tSrcTransition starts the source's slew; a missing Request, a
missing PS_RDY, missing capabilities and an expired PPS timer send Hard Reset; a source with no answer to 50 capabilities stops
PD; the timers that ask again trigger their Request or send the capabilities again, which tTypeCSendSourceCap does, by the
model's choice, while VBUS is off too. Rests on R172, R174, R176, R177, R268. The model's own choices in it: log entry 42. -/
def Obligations.NegotiationTimersEnd : Prop :=
  (∀ (s : State) (p : PortId),
      s.pdLive p = true → s.sys.pwr = .run → (s.port p).pd.tx = none → (s.port p).swap = SwapPort.reset → (s.port p).pd.hr =
      .none → (s.port p).tc.state = .attachedSrc → (s.port p).pd.contract = .transition → (s.port p).cv.slewDue = true →
      (s.port p).cv.dir = 1 →
      Yields (.srcTransitionExpiry p) s fun t =>
        (t.port p).cv.slewing = true ∧ (t.port p).cv.atTarget = false ∧ (t.port p).cv.vref = (s.port p).cv.vref ∧ PortOnly p
        s t) ∧
  (∀ (s : State) (p : PortId),
      s.pdLive p = true → s.sys.pwr = .run → (s.port p).pd.tx = none → (s.port p).swap = SwapPort.reset → (s.port p).pd.hr =
      .none → (s.port p).tc.state = .attachedSrc → (s.port p).pd.epr = false → (s.port p).pd.capsSent = true →
      Yields (.senderResponseTimeout p) s fun t =>
        (t.port p).pd.evt = setBit (s.port p).pd.evt 1 ∧ (t.port p).pd.contract = .none ∧ (t.port p).pd.hr ≠ .none ∧
        EngineOnly p s t) ∧
  (∀ (s : State) (p : PortId),
      s.pdLive p = true → s.sys.pwr = .run → (s.port p).pd.tx = none → (s.port p).swap = SwapPort.reset → (s.port p).pd.hr =
      .none → (s.port p).tc.state = .attachedSnk → (s.port p).pd.epr = false → (s.port p).pd.contract = .transition →
      Yields (.psTransitionTimeout p) s fun t =>
        (t.port p).pd.evt = setBit (s.port p).pd.evt 1 ∧ (t.port p).pd.contract = .none ∧ (t.port p).pd.hr ≠ .none ∧
        EngineOnly p s t) ∧
  (∀ (s : State) (p : PortId),
      s.pdLive p = true → s.sys.pwr = .run → (s.port p).pd.tx = none → (s.port p).swap = SwapPort.reset → (s.port p).pd.hr =
      .none → (s.port p).tc.state = .attachedSnk → (s.port p).pd.epr = false → (s.port p).pd.contract = .none → (s.port
      p).pd.srcCaps = [] → (s.port p).sw.st = .closed →
      Yields (.sinkWaitCapTimeout p) s fun t =>
        (t.port p).pd.evt = setBit (s.port p).pd.evt 1 ∧ (t.port p).pd.contract = .none ∧ (t.port p).pd.hr ≠ .none ∧
        EngineOnly p s t) ∧
  (∀ (s : State) (p : PortId),
      s.pdLive p = true → s.sys.pwr = .run → (s.port p).pd.tx = none → (s.port p).swap = SwapPort.reset → (s.port p).pd.hr =
      .none → (s.port p).tc.state = .attachedSrc → (s.port p).pd.contract = .none → (s.port p).pd.hrCount = 2 → (s.port
      p).pd.heard = false →
      Yields (.noResponseTimeout p) s fun t =>
        (t.port p).pd.contract = .stopped ∧ (t.port p).pd.evt = setBit (s.port p).pd.evt 4 ∧ EngineOnly p s t) ∧
  (∀ (s : State) (p : PortId),
      s.pdLive p = true → s.sys.pwr = .run → (s.port p).pd.tx = none → (s.port p).swap = SwapPort.reset → (s.port p).pd.hr =
      .none → (s.port p).tc.state = .attachedSrc → (s.port p).pd.epr = false → (s.port p).pd.contract = .none → (s.port
      p).pd.hrCount = 1 →
      Yields (.noResponseTimeout p) s fun t =>
        (t.port p).pd.evt = setBit (s.port p).pd.evt 1 ∧ (t.port p).pd.contract = .none ∧ (t.port p).pd.hr ≠ .none ∧
        EngineOnly p s t) ∧
  (∀ (s : State) (p : PortId),
      s.pdLive p = true → s.sys.pwr = .run → (s.port p).pd.tx = none → (s.port p).swap = SwapPort.reset → (s.port p).pd.hr =
      .none → (s.port p).tc.state = .attachedSrc → (s.port p).pd.contract = .none → (s.port p).pd.capsCount = 50 →
      Yields (.capsCountExhausted p) s fun t =>
        (t.port p).pd.contract = .stopped ∧ (t.port p).pd.evt = setBit (s.port p).pd.evt 4 ∧ (t.port p).pd.capsCount = 0 ∧
        EngineOnly p s t) ∧
  (∀ (s : State) (p : PortId),
      s.pdLive p = true → s.sys.pwr = .run → (s.port p).pd.tx = none → (s.port p).swap = SwapPort.reset → (s.port p).pd.hr =
      .none → (s.port p).tc.state = .attachedSrc → (s.port p).pd.epr = false → (s.port p).pd.contract = .none → (s.port
      p).pd.ams = .none → (s.port p).pd.capsCount = 49 → 45 ≤ s.grantOf p →
      Yields (.typecSendSourceCapExpiry p) s fun t =>
        (t.port p).pd.tx.map (·.ty) = some .sourceCaps ∧ (t.port p).pd.capsCount = 50 ∧ (t.port p).pd.ams = .negotiation ∧
        EngineOnly p s t) ∧
  (∀ (s : State) (p : PortId),
      s.pdLive p = true → s.sys.pwr = .run → (s.port p).pd.tx = none → (s.port p).swap = SwapPort.reset → (s.port p).pd.hr =
      .none → (s.port p).tc.state = .attachedSnk → (s.port p).pd.waitRx = true → (s.port p).pd.trig = [] → (s.port
      p).pd.sinkTxWait = false →
      Yields (.sinkRequestExpiry p) s fun t =>
        (t.port p).pd.trig = [.request] ∧ (t.port p).pd.waitRx = false ∧ PortOnly p s t) ∧
  (∀ (s : State) (p : PortId),
      s.pdLive p = true → s.sys.pwr = .run → (s.port p).pd.tx = none → (s.port p).swap = SwapPort.reset → (s.port p).pd.hr =
      .none → (s.port p).tc.state = .attachedSrc → (s.port p).pd.epr = false → (s.port p).pd.pps = true →
      Yields (.ppsTimeout p) s fun t =>
        (t.port p).pd.evt = setBit (s.port p).pd.evt 1 ∧ (t.port p).pd.contract = .none ∧ (t.port p).pd.hr ≠ .none ∧
        EngineOnly p s t) ∧
  (∀ (s : State) (p : PortId),
      s.pdLive p = true → s.sys.pwr = .run → (s.port p).pd.tx = none → (s.port p).swap = SwapPort.reset → (s.port p).pd.hr =
      .none → (s.port p).tc.state = .attachedSnk → (s.port p).pd.pps = true → (s.port p).pd.trig = [] → (s.port
      p).pd.sinkTxWait = false →
      Yields (.ppsRequestExpiry p) s fun t =>
        (t.port p).pd.trig = [.request] ∧ PortOnly p s t) ∧
  (∀ (s : State) (p : PortId),
      s.pdLive p = true → s.sys.pwr = .run → (s.port p).pd.tx = none → (s.port p).swap = SwapPort.reset → (s.port p).pd.hr =
      .none → (s.port p).tc.state = .attachedSrc → (s.port p).pd.epr = false → (s.port p).pd.pps = true → (s.port p).pd.obj =
      some ⟨2, ⟨2, 330, 1100, 300⟩, 300⟩ → (s.port p).tc.vbusMv = 3299 →
      Yields (.ppsUndervoltageTimeout p) s fun t =>
        (t.port p).pd.evt = setBit (s.port p).pd.evt 1 ∧ (t.port p).pd.contract = .none ∧ (t.port p).pd.hr ≠ .none ∧
        EngineOnly p s t)

/-- Soft_Reset and the Hard Reset sequence. A received Soft_Reset is answered with Accept from a fresh MessageID counter; a received
Hard Reset ends the contract in both roles; a source then removes VBUS at tPSHardReset and restores vSafe5V at tSrcRecover; a
sink waits for vSafe5V, and a wait that takes too long is a detach. That a Soft_Reset is taken whatever its MessageID, and one
that crosses the device's own too, is the model's choice. Rests on R141, R173, R175. The model's own choices in it: log entries
112, 46. -/
def Obligations.ResetsRun : Prop :=
  (∀ (s : State) (p : PortId) (id : BitVec 3) (rev : BitVec 2),
      s.portReady p = true → s.sys.pwr = .run → (s.port p).tc.state = .attachedSrc → s.engineClk = true → (s.port
      p).pd.contract ≠ .stopped → (s.port p).tc.leaving = false → (s.port p).swap = SwapPort.reset → (s.port p).lm.run = none
      → s.engineClk = true → (s.port p).pd.bist = 0 →
      Yields (.softReset p ⟨.sop, id, rev⟩) s fun t =>
        (t.port p).pd.tx.map (·.ty) = some .accept ∧ (t.port p).pd.tx.map (·.id) = some 0 ∧ (t.port p).pd.rxId = none ∧
        (t.port p).pd.srAccept = true ∧ (t.port p).pd.evt = setBit (s.port p).pd.evt 2 ∧ EngineOnly p s t) ∧
  (∀ (s : State) (p : PortId),
      s.portReady p = true → s.sys.pwr = .run → (s.port p).tc.state = .attachedSrc → s.pdLive p = true → (s.port
      p).tc.attachSrc = true →
      Yields (.hardReset p) s fun t =>
        (t.port p).pd.contract = .none ∧ (t.port p).pd.hr = .srcWait ∧ (t.port p).tc.state = .attachedSrc ∧ (t.port
        p).pd.txId = 0 ∧ EngineOnly p s t) ∧
  (∀ (s : State) (p : PortId),
      s.portReady p = true → s.sys.pwr = .run → (s.port p).tc.state = .attachedSnk → s.pdLive p = true → (s.port
      p).tc.attachSrc = false → (s.port p).tc.vbusMv = 4000 →
      Yields (.hardReset p) s fun t =>
        (t.port p).pd.contract = .none ∧ (t.port p).pd.hr = .sink false ∧ (t.port p).sw.st ≠ .closed ∧ EngineOnly p s t) ∧
  (∀ (s : State) (p : PortId),
      s.portReady p = true → s.sys.pwr = .run → (s.port p).tc.state = .attachedSrc → (s.port p).pd.hr = .srcWait → (s.port
      p).sw.st = .closed →
      Yields (.psHardResetExpiry p) s fun t =>
        (t.port p).pd.hr = .srcOff ∧ (t.port p).sw.st ≠ .closed ∧ (t.port p).tc.vconnOn = false ∧ EngineOnly p s t) ∧
  (∀ (s : State) (p : PortId),
      s.portReady p = true → s.sys.pwr = .run → (s.port p).tc.state = .attachedSrc → (s.port p).pd.hr = .srcOff →
      Yields (.srcRecoverExpiry p) s fun t =>
        (t.port p).pd.hr = .srcRestore ∧ PortOnly p s t) ∧
  (∀ (s : State) (p : PortId),
      s.portReady p = true → s.sys.pwr = .run → (s.port p).tc.state = .attachedSnk → (s.port p).pd.hr = .sink true → (s.port
      p).tc.vbusMv = 4750 →
      Yields (.vsafe5vReturn p) s fun t =>
        (t.port p).pd.hr = .none ∧ PortOnly p s t) ∧
  (∀ (s : State) (p : PortId),
      s.portReady p = true → s.sys.pwr = .run → (s.port p).tc.state = .attachedSnk → (s.port p).pd.hr = .sink true → (s.port
      p).tc.leaving = false → (s.port p).tc.vbusMv = 5000 → (s.port p).swap = SwapPort.reset →
      Yields (.hardResetDetachTimeout p) s fun t =>
        (t.port p).tc.leaving = true ∧ (t.port p).tc.evt = setBit (s.port p).tc.evt 1 ∧ t.ledger.posts = s.ledger.posts ++
        [.release p] ∧ EngineOnly p s t)

/-- A partner asks for capabilities, and a cable is discovered. A source answers Get_Source_Cap with its capabilities when its grant
is at least 45 coins; a sink answers Get_Sink_Cap with those of its preference table; Sink_Capabilities that answer the device's
Get_Sink_Cap are stored and end the AMS. After a contract an E-port that sources VCONN asks its cable again; an ACK gives the
cable's current, voltage and EPR capability and leads to power negotiation. Rests on R150, R159, R160, R148, R153. The model's
own choices in it: log entry 34. -/
def Obligations.CapabilitiesAndCablesAreAsked : Prop :=
  (∀ (s : State) (p : PortId) (id : BitVec 3) (rev : BitVec 2),
      s.pdLive p = true → s.sys.pwr = .run → (s.port p).pd.tx = none → (s.port p).pd.rxId ≠ some id → (s.port p).swap =
      SwapPort.reset → (s.port p).tc.state = .attachedSrc → (s.port p).pd.epr = false → (s.port p).pd.ams.own = false →
      (s.port p).pd.contract = .explicit → 45 ≤ s.grantOf p → s.engineClk = true → (s.port p).pd.bist = 0 →
      Yields (.getSourceCap p ⟨.sop, id, rev⟩) s fun t =>
        (t.port p).pd.tx.map (·.ty) = some .sourceCaps ∧ (t.port p).pd.ams = .negotiation ∧ (t.port p).pd.capsSent = false ∧
        EngineOnly p s t) ∧
  (∀ (s : State) (p : PortId) (id : BitVec 3) (rev : BitVec 2),
      s.pdLive p = true → s.sys.pwr = .run → (s.port p).pd.tx = none → (s.port p).pd.rxId ≠ some id → (s.port p).swap =
      SwapPort.reset → (s.port p).tc.state = .attachedSnk → (s.port p).pd.ams.own = false → (s.port p).pd.contract ≠
      .transition → s.engineClk = true → (s.port p).pd.bist = 0 →
      Yields (.getSinkCap p ⟨.sop, id, rev⟩) s fun t =>
        (t.port p).pd.tx.map (·.ty) = some .sinkCaps ∧ (t.port p).pd.tx.map (·.objs) = some ((s.takeTables p).sinkCapWords p
        false) ∧ EngineOnly p s t) ∧
  (∀ (s : State) (p : PortId) (id : BitVec 3) (rev : BitVec 2),
      s.pdLive p = true → s.sys.pwr = .run → (s.port p).pd.tx = none → (s.port p).pd.rxId ≠ some id → (s.port p).swap =
      SwapPort.reset → (s.port p).tc.state = .attachedSnk → (s.port p).pd.ams.own = false → (s.port p).pd.contract ≠
      .transition → cfgRole (s.port p).cfg = 2 → (s.port p).srcPend = none → (s.port p).snkPend = none → s.engineClk = true →
      (s.port p).pd.bist = 0 →
      Yields (.getSourceCap p ⟨.sop, id, rev⟩) s fun t =>
        (t.port p).pd.tx.map (·.ty) = some .sourceCaps ∧ (t.port p).pd.ams = .partner ∧ (t.port p).pd.offered = (s.port
        p).pd.offered ∧ (t.port p).pd.tx.map (·.objs) = some (s.capWords p false false (s.informative p)) ∧ EngineOnly p s t) ∧
  (∀ (s : State) (p : PortId) (id : BitVec 3) (rev : BitVec 2) (v : List Word),
      s.pdLive p = true → s.sys.pwr = .run → (s.port p).pd.tx = none → (s.port p).pd.rxId ≠ some id → (s.port p).swap =
      SwapPort.reset → (s.port p).tc.state = .attachedSrc → (s.port p).pd.ams = .getSinkCap → (s.port p).pd.sinkTxWait = false
      → s.engineClk = true → (s.port p).pd.bist = 0 →
      Yields (.sinkCapabilities p ⟨.sop, id, rev⟩ false v) s fun t =>
        (t.port p).pd.sinkCaps = v ∧ (t.port p).pd.ams = .none ∧ EngineOnly p s t) ∧
  (∀ (s : State) (p : PortId),
      s.pdLive p = true → (s.port p).tc.state = .attachedSrc → s.sys.pwr = .run → (s.port p).pd.tx = none → (s.port
      p).tc.vconnOn = true → (s.port p).pd.cableOk = false → (s.port p).pd.discTries = 19 → (s.port p).pd.contract = .explicit
      → (s.port p).pd.trig = [] → (s.port p).pd.sinkTxWait = false →
      Yields (.discoverIdentityTimer p) s fun t =>
        (t.port p).pd.trig = [.discoverCable] ∧ PortOnly p s t) ∧
  (∀ (s : State) (p : PortId) (id : BitVec 3) (rev : BitVec 2),
      s.pdLive p = true → (s.port p).tc.state = .attachedSrc → s.sys.pwr = .run → (s.port p).pd.tx = none → isE p = true →
      (s.port p).tc.vconnOn = true → (s.port p).pd.ams = .discoverCable → (s.port p).pd.trig = [] → (s.port p).pd.sinkTxWait =
      false → (s.port p).pd.rxId1 ≠ some id → s.engineClk = true → (s.port p).pd.bist = 0 →
      Yields (.cableIdentityAnswer p ⟨.sop1, id, rev⟩ [0xFF008041, 0x18000000, 0, 0, 0x00020640]) s fun t =>
        (t.port p).pd.cableOk = true ∧ (t.port p).pd.cable5A = true ∧ (t.port p).pd.cableEpr = true ∧ (t.port p).pd.cableV =
        3 ∧ (t.port p).pd.trig = [.negotiation] ∧ EngineOnly p s t)

/-- Unsupported and unexpected messages. An unsupported message is answered Not_Supported toward a Revision 3.x partner and Reject
toward a Revision 2.0 one; an unexpected one causes Soft_Reset, which a source under a Revision 3.x contract sends only after
SinkTxNG and tSinkTx, but Hard Reset between Accept and PS_RDY of a transition; a Ping is taken and not answered; Not_Supported
ends the AMS with its event. That GotoMin is unexpected from a partner of either revision is the model's choice. Rests on R144,
R150, R151, R174. The model's own choices in it: log entry 43. -/
def Obligations.UnsupportedAndUnexpectedMessages : Prop :=
  (∀ (s : State) (p : PortId) (id : BitVec 3) (rev : BitVec 2),
      s.pdLive p = true → s.sys.pwr = .run → (s.port p).pd.tx = none → (s.port p).pd.rxId ≠ some id → (s.port p).swap =
      SwapPort.reset → (s.port p).pd.txRev = 2 → (s.port p).pd.ams.own = false → s.engineClk = true → (s.port p).pd.bist = 0 →
      Yields (.unsupportedMessage p ⟨.sop, id, rev⟩ .unrecognised) s fun t =>
        (t.port p).pd.tx.map (·.ty) = some .notSupported ∧ (t.port p).pd.contract = (s.port p).pd.contract ∧ EngineOnly p s
        t) ∧
  (∀ (s : State) (p : PortId) (id : BitVec 3) (rev : BitVec 2),
      s.pdLive p = true → s.sys.pwr = .run → (s.port p).pd.tx = none → (s.port p).pd.rxId ≠ some id → (s.port p).swap =
      SwapPort.reset → (s.port p).pd.txRev = 1 → (s.port p).pd.ams.own = false → s.engineClk = true → (s.port p).pd.bist = 0 →
      Yields (.unsupportedMessage p ⟨.sop, id, rev⟩ .unrecognised) s fun t =>
        (t.port p).pd.tx.map (·.ty) = some .reject ∧ (t.port p).pd.contract = (s.port p).pd.contract ∧ EngineOnly p s t) ∧
  (∀ (s : State) (p : PortId) (id : BitVec 3) (rev : BitVec 2),
      s.pdLive p = true → s.sys.pwr = .run → (s.port p).pd.tx = none → (s.port p).pd.rxId ≠ some id → (s.port p).swap =
      SwapPort.reset → (s.port p).tc.state = .attachedSrc → (s.port p).pd.ams.own = false → (s.port p).pd.contract = .none →
      s.engineClk = true → (s.port p).pd.bist = 0 →
      Yields (.unsupportedMessage p ⟨.sop, id, rev⟩ .gotoMin) s fun t =>
        (t.port p).pd.tx.map (·.ty) = some .softReset ∧ (t.port p).pd.ams = .softReset ∧ (t.port p).pd.evt = setBit (s.port
        p).pd.evt 2 ∧ EngineOnly p s t) ∧
  (∀ (s : State) (p : PortId) (id : BitVec 3) (rev : BitVec 2),
      s.pdLive p = true → s.sys.pwr = .run → (s.port p).pd.tx = none → (s.port p).pd.rxId ≠ some id → (s.port p).swap =
      SwapPort.reset → (s.port p).tc.state = .attachedSnk → (s.port p).pd.ams.own = false → (s.port p).pd.contract = .explicit
      → (s.port p).tc.rpSeen = .a30 → s.engineClk = true → (s.port p).pd.bist = 0 →
      Yields (.unsupportedMessage p ⟨.sop, id, rev⟩ .gotoMin) s fun t =>
        (t.port p).pd.tx.map (·.ty) = some .softReset ∧ (t.port p).pd.ams = .softReset ∧ (t.port p).pd.evt = setBit (s.port
        p).pd.evt 2 ∧ EngineOnly p s t) ∧
  (∀ (s : State) (p : PortId) (id : BitVec 3) (rev : BitVec 2),
      s.pdLive p = true → s.sys.pwr = .run → (s.port p).pd.tx = none → (s.port p).pd.rxId ≠ some id → (s.port p).swap =
      SwapPort.reset → (s.port p).tc.state = .attachedSrc → (s.port p).pd.ams.own = false → (s.port p).pd.txRev = 2 → (s.port
      p).pd.contract = .explicit → (s.port p).pd.ng = false → s.engineClk = true → (s.port p).pd.bist = 0 →
      Yields (.unsupportedMessage p ⟨.sop, id, rev⟩ .gotoMin) s fun t =>
        (t.port p).pd.tx = none ∧ (t.port p).pd.ams = .softReset ∧ (t.port p).pd.sinkTxWait = true ∧ (t.port p).tc.rpAdv =
        .a15 ∧ EngineOnly p s t) ∧
  (∀ (s : State) (p : PortId) (id : BitVec 3) (rev : BitVec 2),
      s.pdLive p = true → s.sys.pwr = .run → (s.port p).pd.tx = none → (s.port p).pd.rxId ≠ some id → (s.port p).swap =
      SwapPort.reset → (s.port p).pd.ams.own = false → (s.port p).pd.contract = .transition → (s.port p).pd.epr = false →
      s.engineClk = true → (s.port p).pd.bist = 0 →
      Yields (.unsupportedMessage p ⟨.sop, id, rev⟩ .gotoMin) s fun t =>
        (t.port p).pd.contract = .none ∧ (t.port p).pd.evt = setBit (s.port p).pd.evt 1 ∧ EngineOnly p s t) ∧
  (∀ (s : State) (p : PortId) (id : BitVec 3) (rev : BitVec 2),
      s.pdLive p = true → s.sys.pwr = .run → (s.port p).pd.tx = none → (s.port p).pd.rxId ≠ some id → (s.port p).swap =
      SwapPort.reset → (s.port p).pd.sinkTxWait = false → s.engineClk = true → (s.port p).pd.bist = 0 →
      Yields (.unsupportedMessage p ⟨.sop, id, rev⟩ .ping) s fun t =>
        (t.port p).pd.tx = none ∧ (t.port p).pd.ack = some (.sop, id) ∧ (t.port p).pd.ams = (s.port p).pd.ams ∧ EngineOnly p
        s t) ∧
  (∀ (s : State) (p : PortId) (id : BitVec 3) (rev : BitVec 2),
      s.pdLive p = true → s.sys.pwr = .run → (s.port p).pd.tx = none → (s.port p).pd.rxId ≠ some id → (s.port p).swap =
      SwapPort.reset → (s.port p).pd.txRev = 2 → (s.port p).pd.ams = .getSinkCap → (s.port p).pd.contract = .explicit →
      (s.port p).pd.sinkTxWait = false → s.engineClk = true → (s.port p).pd.bist = 0 →
      Yields (.notSupported p ⟨.sop, id, rev⟩) s fun t =>
        (t.port p).pd.ams = .none ∧ (t.port p).pd.evt = setBit (s.port p).pd.evt 6 ∧ EngineOnly p s t)

/-- Requests for information are answered with their contents. Toward a Revision 3.x partner Get_Revision is answered with Revision
3.2, Version 1.0; Get_Status with the seven bytes of Status, whose event flags then start anew; Get_Source_Info,
Get_Manufacturer_Info, Get_PPS_Status and the two extended capabilities with the contents of Table 5.3. Rests on R149, R150,
R152. The model's own choices in it: log entries 34, 38. -/
def Obligations.InformationIsAnswered : Prop :=
  (∀ (s : State) (p : PortId) (id : BitVec 3) (rev : BitVec 2),
      s.pdLive p = true → (s.port p).tc.state = .attachedSrc → s.sys.pwr = .run → (s.port p).pd.tx = none → (s.port p).pd.rxId
      ≠ some id → (s.port p).pd.txRev = 2 → (s.port p).swap = SwapPort.reset → (s.port p).pd.ams.own = false → (s.port
      p).pd.contract ≠ .transition → s.engineClk = true → (s.port p).pd.bist = 0 →
      Yields (.getRevision p ⟨.sop, id, rev⟩) s fun t =>
        (t.port p).pd.tx.map (·.ty) = some .revision ∧ (t.port p).pd.tx.map (·.objs) = some ([0x32100000]) ∧ EngineOnly p s
        t) ∧
  (∀ (s : State) (p : PortId) (id : BitVec 3) (rev : BitVec 2),
      s.pdLive p = true → (s.port p).tc.state = .attachedSrc → s.sys.pwr = .run → (s.port p).pd.tx = none → (s.port p).pd.rxId
      ≠ some id → (s.port p).pd.txRev = 2 → (s.port p).swap = SwapPort.reset → (s.port p).pd.ams.own = false → (s.port
      p).pd.contract ≠ .transition → s.engineClk = true → (s.port p).pd.bist = 0 →
      Yields (.getStatus p ⟨.sop, id, rev⟩) s fun t =>
        (t.port p).pd.tx.map (·.ty) = some .status ∧ (t.port p).pd.tx.map (·.ext) = some (s.statusBytes p) ∧ (t.port
        p).pd.stFlags = 0 ∧ EngineOnly p s t) ∧
  (∀ (s : State) (p : PortId) (id : BitVec 3) (rev : BitVec 2),
      s.pdLive p = true → (s.port p).tc.state = .attachedSrc → s.sys.pwr = .run → (s.port p).pd.tx = none → (s.port p).pd.rxId
      ≠ some id → (s.port p).pd.txRev = 2 → (s.port p).swap = SwapPort.reset → (s.port p).pd.ams.own = false → (s.port
      p).pd.contract ≠ .transition → s.engineClk = true → (s.port p).pd.bist = 0 →
      Yields (.getSourceInfo p ⟨.sop, id, rev⟩) s fun t =>
        (t.port p).pd.tx.map (·.ty) = some .sourceInfo ∧ (t.port p).pd.tx.map (·.objs) = some ([BitVec.ofNat 32 ((s.port
        p).pdpMax (isE p) (fun _ => true) * 2 ^ 16 + min (s.grantOf p / 10) ((s.port p).pdpMax (isE p) fun _ => true) * 2 ^
        8 + (s.port p).pd.reported / 10 % 256)]) ∧ EngineOnly p s t) ∧
  (∀ (s : State) (p : PortId) (id : BitVec 3) (rev : BitVec 2),
      s.pdLive p = true → (s.port p).tc.state = .attachedSrc → s.sys.pwr = .run → (s.port p).pd.tx = none → (s.port p).pd.rxId
      ≠ some id → (s.port p).pd.txRev = 2 → (s.port p).swap = SwapPort.reset → (s.port p).pd.ams.own = false → (s.port
      p).pd.contract ≠ .transition → s.engineClk = true → (s.port p).pd.bist = 0 →
      Yields (.getManufacturerInfo p ⟨.sop, id, rev⟩) s fun t =>
        (t.port p).pd.tx.map (·.ty) = some .manufacturerInfo ∧ (t.port p).pd.tx.map (·.ext) = some (s.vidPid ++ asciiBytes
        ("AXIRUO " ++ s.partNumber)) ∧ EngineOnly p s t) ∧
  (∀ (s : State) (p : PortId) (id : BitVec 3) (rev : BitVec 2),
      s.pdLive p = true → (s.port p).tc.state = .attachedSrc → s.sys.pwr = .run → (s.port p).pd.tx = none → (s.port p).pd.rxId
      ≠ some id → (s.port p).pd.txRev = 2 → (s.port p).swap = SwapPort.reset → (s.port p).pd.ams.own = false → (s.port
      p).pd.contract ≠ .transition → (s.port p).pd.contract = .explicit → (s.port p).pd.terms.ctype = 1 → s.engineClk = true →
      (s.port p).pd.bist = 0 →
      Yields (.getPpsStatus p ⟨.sop, id, rev⟩) s fun t =>
        (t.port p).pd.tx.map (·.ty) = some .ppsStatus ∧ (t.port p).pd.tx.map (·.ext) = some (leBytes 2 ((s.port p).tc.vbusMv
        / 20) ++ [byteOf s.freeNat 0, byteOf (tempStatus (s.port p).sw.therm * 2 + (if (s.port p).ppsLimit then 8 else 0))
        0]) ∧ t.free = s.free + 1 ∧ EngineOnly p s t) ∧
  (∀ (s : State) (p : PortId) (id : BitVec 3) (rev : BitVec 2),
      s.pdLive p = true → (s.port p).tc.state = .attachedSrc → s.sys.pwr = .run → (s.port p).pd.tx = none → (s.port p).pd.rxId
      ≠ some id → (s.port p).pd.txRev = 2 → (s.port p).swap = SwapPort.reset → (s.port p).pd.ams.own = false → (s.port
      p).pd.contract ≠ .transition → s.engineClk = true → (s.port p).pd.bist = 0 →
      Yields (.getSourceCapExtended p ⟨.sop, id, rev⟩) s fun t =>
        (t.port p).pd.tx.map (·.ty) = some .sourceCapsExt ∧ (t.port p).pd.tx.map (fun m => m.ext.take 4) = some s.vidPid ∧
        (t.port p).pd.tx.map (fun m => m.ext.length) = some 25 ∧ t.free = s.free + 1 ∧ EngineOnly p s t) ∧
  (∀ (s : State) (p : PortId) (id : BitVec 3) (rev : BitVec 2),
      s.pdLive p = true → (s.port p).tc.state = .attachedSrc → s.sys.pwr = .run → (s.port p).pd.tx = none → (s.port p).pd.rxId
      ≠ some id → (s.port p).pd.txRev = 2 → (s.port p).swap = SwapPort.reset → (s.port p).pd.ams.own = false → (s.port
      p).pd.contract ≠ .transition → cfgRole (s.port p).cfg = 2 → s.engineClk = true → (s.port p).pd.bist = 0 →
      Yields (.getSinkCapExtended p ⟨.sop, id, rev⟩) s fun t =>
        (t.port p).pd.tx.map (·.ty) = some .sinkCapsExt ∧ (t.port p).pd.tx.map (fun m => m.ext.length) = some 24 ∧ t.free =
        s.free + 1 ∧ EngineOnly p s t)

/-- Answers, alerts and BIST are taken in. A Revision message is stored and fixes the partner's revision; a Status and battery
messages are stored, the latter with BATTRX; an Alert raises ALERTRX and asks for the Status; BIST Test Data in a vSafe5V
contract is honoured, and Carrier Mode ends with tBISTContMode. Rests on R149, R150, R152. The model's own choices in it: log
entry 34. -/
def Obligations.InformationIsTakenIn : Prop :=
  (∀ (s : State) (p : PortId) (id : BitVec 3) (rev : BitVec 2),
      s.pdLive p = true → s.sys.pwr = .run → (s.port p).pd.tx = none → (s.port p).pd.rxId ≠ some id → (s.port p).pd.txRev = 2
      → (s.port p).pd.contract = .explicit → (s.port p).pd.sinkTxWait = false → (s.port p).tc.state = .attachedSrc → (s.port
      p).pd.ams = .getRevision → s.engineClk = true → (s.port p).pd.bist = 0 →
      Yields (.revision p ⟨.sop, id, rev⟩ 0x31000000) s fun t =>
        (t.port p).pd.revision = 0x31000000 ∧ (t.port p).pd.rev = 3 ∧ (t.port p).pd.ams = .none ∧ EngineOnly p s t) ∧
  (∀ (s : State) (p : PortId) (id : BitVec 3) (rev : BitVec 2) (d : List Byte),
      s.pdLive p = true → s.sys.pwr = .run → (s.port p).pd.tx = none → (s.port p).pd.rxId ≠ some id → (s.port p).pd.txRev = 2
      → (s.port p).pd.contract = .explicit → (s.port p).pd.sinkTxWait = false → (s.port p).tc.state = .attachedSrc → (s.port
      p).pd.ams = .getStatus → s.engineClk = true → (s.port p).pd.bist = 0 →
      Yields (.extendedAnswer p ⟨.sop, id, rev⟩ .status d) s fun t =>
        (t.port p).pd.statusRx = d ∧ (t.port p).pd.ams = .none ∧ EngineOnly p s t) ∧
  (∀ (s : State) (p : PortId) (id : BitVec 3) (rev : BitVec 2),
      s.pdLive p = true → s.sys.pwr = .run → (s.port p).pd.tx = none → (s.port p).pd.rxId ≠ some id → (s.port p).pd.txRev = 2
      → (s.port p).pd.contract = .explicit → (s.port p).pd.sinkTxWait = false → (s.port p).tc.state = .attachedSnk → (s.port
      p).pd.ams = .none → s.engineClk = true → (s.port p).pd.bist = 0 →
      Yields (.batteryStatus p ⟨.sop, id, rev⟩ false [1, 2, 3, 4]) s fun t =>
        (t.port p).pd.battStat = 0x04030201 ∧ (t.port p).pd.evt = setBit (s.port p).pd.evt 7 ∧ EngineOnly p s t) ∧
  (∀ (s : State) (p : PortId) (id : BitVec 3) (rev : BitVec 2) (ado : Word),
      s.pdLive p = true → s.sys.pwr = .run → (s.port p).pd.tx = none → (s.port p).pd.rxId ≠ some id → (s.port p).pd.txRev = 2
      → (s.port p).pd.contract = .explicit → (s.port p).pd.sinkTxWait = false → (s.port p).tc.state = .attachedSrc → (s.port
      p).swap = SwapPort.reset → (s.port p).pd.ams.own = false → (s.port p).pd.trig = [] → s.engineClk = true → (s.port
      p).pd.bist = 0 →
      Yields (.alert p ⟨.sop, id, rev⟩ ado) s fun t =>
        (t.port p).pd.evt = setBit (s.port p).pd.evt 3 ∧ (t.port p).pd.trig = [.getStatus] ∧ EngineOnly p s t) ∧
  (∀ (s : State) (p : PortId) (id : BitVec 3) (rev : BitVec 2),
      s.pdLive p = true → s.sys.pwr = .run → (s.port p).pd.tx = none → (s.port p).pd.rxId ≠ some id → (s.port p).pd.txRev = 2
      → (s.port p).pd.contract = .explicit → (s.port p).pd.sinkTxWait = false → (s.port p).tc.state = .attachedSrc → (s.port
      p).pd.ams ≠ .softReset → (s.port p).pd.terms.v = 500 → s.engineClk = true → (s.port p).pd.bist = 0 →
      Yields (.bist p ⟨.sop, id, rev⟩ 0x80000000) s fun t =>
        (t.port p).pd.bist = 2 ∧ (t.port p).pd.contract = .explicit ∧ EngineOnly p s t) ∧
  (∀ (s : State) (p : PortId) (id : BitVec 3),
      s.pdLive p = true → s.sys.pwr = .run → (s.port p).pd.tx = none → (s.port p).pd.rxId ≠ some id → (s.port p).pd.txRev = 2
      → (s.port p).pd.contract = .explicit → (s.port p).pd.sinkTxWait = false → (s.port p).tc.state = .attachedSrc → (s.port
      p).pd.bist = 1 →
      Yields (.bistContModeExpiry p) s fun t =>
        (t.port p).pd.bist = 0 ∧ PortOnly p s t)

/-- EPR mode: entry, capabilities, keep-alive and its timers. A sink that receives Enter Succeeded in its own entry is in EPR mode
with its event; Exit leaves it at 20 V or below; EPR_KeepAlive is acknowledged by an EPR source and its timer sends Hard Reset;
the sink's keep-alive timer asks for one; an entry that takes too long ends; EPR_Get_Source_Cap is answered in SPR mode with EPR
capabilities. Rests on R166, R167, R168, R169. The model's own choices in it: log entries 44, 34. -/
def Obligations.EprModeRuns : Prop :=
  (∀ (s : State) (p : PortId) (id : BitVec 3) (rev : BitVec 2),
      s.pdLive p = true → s.sys.pwr = .run → (s.port p).pd.tx = none → (s.port p).pd.rxId ≠ some id → (s.port p).pd.txRev = 2
      → (s.port p).pd.sinkTxWait = false → isE p = true → (s.port p).pd.contract = .explicit → (s.port p).tc.state =
      .attachedSnk → (s.port p).pd.ams = .eprEntry → s.engineClk = true → (s.port p).pd.bist = 0 →
      Yields (.eprMode p ⟨.sop, id, rev⟩ 3 0) s fun t =>
        (t.port p).pd.epr = true ∧ (t.port p).pd.ams = .none ∧ (t.port p).pd.evt = setBit (s.port p).pd.evt 5 ∧ EngineOnly p
        s t) ∧
  (∀ (s : State) (p : PortId) (id : BitVec 3) (rev : BitVec 2),
      s.pdLive p = true → s.sys.pwr = .run → (s.port p).pd.tx = none → (s.port p).pd.rxId ≠ some id → (s.port p).pd.txRev = 2
      → (s.port p).pd.sinkTxWait = false → isE p = true → (s.port p).pd.contract = .explicit → (s.port p).tc.state =
      .attachedSnk → (s.port p).swap = SwapPort.reset → (s.port p).pd.ams.own = false → (s.port p).pd.epr = true → (s.port
      p).pd.terms.v = 2000 → s.engineClk = true → (s.port p).pd.bist = 0 →
      Yields (.eprMode p ⟨.sop, id, rev⟩ 5 0) s fun t =>
        (t.port p).pd.epr = false ∧ (t.port p).pd.evt = setBit (s.port p).pd.evt 5 ∧ EngineOnly p s t) ∧
  (∀ (s : State) (p : PortId) (id : BitVec 3) (rev : BitVec 2),
      s.pdLive p = true → s.sys.pwr = .run → (s.port p).pd.tx = none → (s.port p).pd.rxId ≠ some id → (s.port p).pd.txRev = 2
      → (s.port p).pd.sinkTxWait = false → isE p = true → (s.port p).pd.contract = .explicit → (s.port p).tc.state =
      .attachedSrc → (s.port p).swap = SwapPort.reset → (s.port p).pd.ams.own = false → (s.port p).pd.epr = true → s.engineClk
      = true → (s.port p).pd.bist = 0 →
      Yields (.eprKeepalive p ⟨.sop, id, rev⟩) s fun t =>
        (t.port p).pd.tx.map (·.ty) = some .eprKeepAliveAck ∧ (t.port p).pd.epr = true ∧ EngineOnly p s t) ∧
  (∀ (s : State) (p : PortId) (id : BitVec 3) (rev : BitVec 2),
      s.pdLive p = true → s.sys.pwr = .run → (s.port p).pd.tx = none → (s.port p).pd.rxId ≠ some id → (s.port p).pd.txRev = 2
      → (s.port p).pd.sinkTxWait = false → isE p = true → (s.port p).pd.contract = .explicit → (s.port p).tc.state =
      .attachedSrc → (s.port p).swap = SwapPort.reset → (s.port p).pd.ams.own = false → (s.port p).pd.epr = false → 45 ≤
      s.grantOf p → s.engineClk = true → (s.port p).pd.bist = 0 →
      Yields (.eprGetSourceCap p ⟨.sop, id, rev⟩ false) s fun t =>
        (t.port p).pd.tx.map (·.ty) = some .eprSourceCaps ∧ (t.port p).pd.epr = false ∧ EngineOnly p s t) ∧
  (∀ (s : State) (p : PortId) (id : BitVec 3),
      s.pdLive p = true → s.sys.pwr = .run → (s.port p).pd.tx = none → (s.port p).pd.rxId ≠ some id → (s.port p).pd.txRev = 2
      → (s.port p).pd.sinkTxWait = false → isE p = true → (s.port p).pd.contract = .explicit → (s.port p).tc.state =
      .attachedSnk → (s.port p).pd.epr = true → (s.port p).pd.trig = [] →
      Yields (.sinkEprKeepalive p) s fun t =>
        (t.port p).pd.trig = [.eprKeepAlive] ∧ PortOnly p s t) ∧
  (∀ (s : State) (p : PortId) (id : BitVec 3),
      s.pdLive p = true → s.sys.pwr = .run → (s.port p).pd.tx = none → (s.port p).pd.rxId ≠ some id → (s.port p).pd.txRev = 2
      → (s.port p).pd.sinkTxWait = false → isE p = true → (s.port p).pd.contract = .explicit → (s.port p).tc.state =
      .attachedSrc → (s.port p).pd.epr = true →
      Yields (.sourceEprKeepaliveTimeout p) s fun t =>
        (t.port p).pd.contract = .none ∧ (t.port p).pd.epr = false ∧ (t.port p).pd.hr ≠ .none ∧ EngineOnly p s t) ∧
  (∀ (s : State) (p : PortId) (id : BitVec 3),
      s.pdLive p = true → s.sys.pwr = .run → (s.port p).pd.tx = none → (s.port p).pd.rxId ≠ some id → (s.port p).pd.txRev = 2
      → (s.port p).pd.sinkTxWait = false → isE p = true → (s.port p).pd.contract = .explicit → (s.port p).tc.state =
      .attachedSnk → (s.port p).pd.ams = .eprEntry →
      Yields (.enterEprTimeout p) s fun t =>
        (t.port p).pd.ams = .none ∧ (t.port p).pd.contract = .explicit ∧ EngineOnly p s t)

/-- Extended messages go in chunks; authentication requests are taken and answered. The first chunk of a longer message is kept and
the next one asked for; a partner that asks for a chunk of the device's message is sent its 26 bytes; an exchange that takes too
long is dropped. With AUTHEN programmed, a Security_Request is kept as the request being answered, and a second meanwhile is
answered at once with an error; the response is sent and the request is over. Rests on R143, R178, R210, R211. The model's own
choices in it: log entries 35, 34. -/
def Obligations.ChunksAndAuthentication : Prop :=
  (∀ (s : State) (p : PortId) (id : BitVec 3) (rev : BitVec 2) (d : List Byte),
      s.pdLive p = true → s.sys.pwr = .run → (s.port p).pd.tx = none → (s.port p).pd.rxId ≠ some id → (s.port p).pd.txRev = 2
      → (s.port p).swap = SwapPort.reset → (s.port p).pd.ams.own = false → (s.port p).pd.contract ≠ .transition → (s.port
      p).pd.chunk = none → (s.port p).pd.auth = none → s.engineClk = true → (s.port p).pd.bist = 0 →
      Yields (.chunkRequest p ⟨.sop, id, rev⟩ false 0 d) s fun t =>
        (t.port p).pd.chunk = some (d, 1, false) ∧ (t.port p).pd.tx.map (·.ty) = some .chunkRequest ∧ (t.port p).pd.tx.map
        (·.ext) = some ([1]) ∧ EngineOnly p s t) ∧
  (∀ (s : State) (p : PortId) (id : BitVec 3) (rev : BitVec 2) (b : List Byte),
      s.pdLive p = true → s.sys.pwr = .run → (s.port p).pd.tx = none → (s.port p).pd.rxId ≠ some id → (s.port p).pd.txRev = 2
      → (s.port p).pd.ams.own = false → (s.port p).pd.chunk = some (b, 1, true) → 52 < b.length → s.engineClk = true → (s.port
      p).pd.bist = 0 →
      Yields (.chunkRequest p ⟨.sop, id, rev⟩ true 1 []) s fun t =>
        (t.port p).pd.tx.map (·.ty) = some (s.port p).pd.chunkTy ∧ (t.port p).pd.tx.map (·.ext) = some ((b.drop 26).take 26)
        ∧ (t.port p).pd.chunk = some (b, 2, true) ∧ EngineOnly p s t) ∧
  (∀ (s : State) (p : PortId) (id : BitVec 3) (b : List Byte),
      s.pdLive p = true → s.sys.pwr = .run → (s.port p).pd.tx = none → (s.port p).pd.rxId ≠ some id → (s.port p).pd.txRev = 2
      → (s.port p).pd.chunk = some (b, 1, true) →
      Yields (.chunkTimeout p) s fun t =>
        (t.port p).pd.chunk = none ∧ (t.port p).pd.auth = none ∧ (t.port p).pd.ams = .none ∧ EngineOnly p s t) ∧
  (∀ (s : State) (p : PortId) (id : BitVec 3) (rev : BitVec 2) (q : List Byte),
      s.pdLive p = true → (s.port p).tc.state = .attachedSrc → s.sys.pwr = .run → (s.port p).pd.tx = none → (s.port
      p).pd.txRev = 2 → (s.port p).swap = SwapPort.reset → (s.port p).pd.ams.own = false → (s.port p).pd.contract ≠
      .transition → (s.port p).pd.rxId ≠ some id → s.authen = true → q.length ≤ 260 → (s.port p).pd.auth = none → (s.port
      p).pd.chunk = none → s.engineClk = true → (s.port p).pd.bist = 0 →
      Yields (.securityRequest p ⟨.sop, id, rev⟩ q) s fun t =>
        (t.port p).pd.auth = some q ∧ (t.port p).pd.tx = none ∧ EngineOnly p s t) ∧
  (∀ (s : State) (p : PortId) (id : BitVec 3) (rev : BitVec 2) (q : List Byte) (r : List Byte),
      s.pdLive p = true → (s.port p).tc.state = .attachedSrc → s.sys.pwr = .run → (s.port p).pd.tx = none → (s.port
      p).pd.txRev = 2 → (s.port p).swap = SwapPort.reset → (s.port p).pd.ams.own = false → (s.port p).pd.contract ≠
      .transition → (s.port p).pd.rxId ≠ some id → s.authen = true → q.length ≤ 260 → (s.port p).pd.auth = some r → (s.port
      p).pd.chunk = none → s.engineClk = true → (s.port p).pd.bist = 0 →
      Yields (.securityRequest p ⟨.sop, id, rev⟩ q) s fun t =>
        (t.port p).pd.tx.map (·.ty) = some .securityResponse ∧ (t.port p).pd.tx.map (·.ext) = some (authError 3) ∧ (t.port
        p).pd.auth = some r ∧ EngineOnly p s t) ∧
  (∀ (s : State) (p : PortId) (q : List Byte),
      s.pdLive p = true → (s.port p).tc.state = .attachedSrc → s.sys.pwr = .run → (s.port p).pd.tx = none → (s.port
      p).pd.txRev = 2 → (s.port p).pd.auth = some q → s.sys.vaultReady = false →
      Yields (.securityResponse p) s fun t =>
        (t.port p).pd.tx.map (·.ty) = some .securityResponse ∧ (t.port p).pd.tx.map (·.ext) = some (authError 3) ∧ (t.port
        p).pd.auth = none ∧ EngineOnly p s t)

/-- Swap requests are served by the port's policy. A PR_Swap that PRSWAP permits asks the Ledger for the other role, one it does not
permit is answered Reject, and one while the port is an end of a bridge too; a DR_Swap or VCONN_Swap that is permitted is
accepted and begins; without the Ledger a PR_Swap is told to wait. That a port attached from dead battery is served as any other
is the model's choice. Rests on R184, R185, R193, R194. The model's own choices in it: log entries 48, 103. -/
def Obligations.SwapsAreServed : Prop :=
  (∀ (s : State) (p : PortId) (id : BitVec 3) (rev : BitVec 2),
      s.pdLive p = true → s.sys.pwr = .run → (s.port p).pd.tx = none → (s.port p).pd.rxId ≠ some id → (s.port p).pd.txRev = 2
      → (s.port p).swap = SwapPort.reset → (s.port p).pd.ams.own = false → (s.port p).pd.contract = .explicit → (s.port
      p).tc.state = .attachedSnk → s.bridged p = false → s.ledger.ready = true → (cfgPrSwap (s.port p).cfg).testBit 0 = true →
      s.engineClk = true → (s.port p).pd.bist = 0 →
      Yields (.prSwap p ⟨.sop, id, rev⟩) s fun t =>
        (t.port p).swap.stage = .rxProbe ∧ (t.port p).swap.toSrc = true ∧ t.ledger.posts = s.ledger.posts ++ [.probe p
        ((s.port p).attachDemand false) false 0] ∧ EngineOnly p s t) ∧
  (∀ (s : State) (p : PortId) (id : BitVec 3) (rev : BitVec 2),
      s.pdLive p = true → s.sys.pwr = .run → (s.port p).pd.tx = none → (s.port p).pd.rxId ≠ some id → (s.port p).pd.txRev = 2
      → (s.port p).swap = SwapPort.reset → (s.port p).pd.ams.own = false → (s.port p).pd.contract = .explicit → (s.port
      p).tc.state = .attachedSnk → s.bridged p = false → s.ledger.ready = true → (cfgPrSwap (s.port p).cfg).testBit 0 = false
      → s.engineClk = true → (s.port p).pd.bist = 0 →
      Yields (.prSwap p ⟨.sop, id, rev⟩) s fun t =>
        (t.port p).pd.tx.map (·.ty) = some .reject ∧ (t.port p).swap = SwapPort.reset ∧ EngineOnly p s t) ∧
  (∀ (s : State) (p : PortId) (id : BitVec 3) (rev : BitVec 2),
      s.pdLive p = true → s.sys.pwr = .run → (s.port p).pd.tx = none → (s.port p).pd.rxId ≠ some id → (s.port p).pd.txRev = 2
      → (s.port p).swap = SwapPort.reset → (s.port p).pd.ams.own = false → (s.port p).pd.contract = .explicit → (s.port
      p).tc.state = .attachedSnk → s.bridged p = false → s.ledger.ready = false → s.engineClk = true → (s.port p).pd.bist = 0
      →
      Yields (.prSwap p ⟨.sop, id, rev⟩) s fun t =>
        (t.port p).pd.tx.map (·.ty) = some .wait ∧ (t.port p).swap = SwapPort.reset ∧ EngineOnly p s t) ∧
  (∀ (s : State) (p : PortId) (id : BitVec 3) (rev : BitVec 2),
      s.pdLive p = true → s.sys.pwr = .run → (s.port p).pd.tx = none → (s.port p).pd.rxId ≠ some id → (s.port p).pd.txRev = 2
      → (s.port p).swap = SwapPort.reset → (s.port p).pd.ams.own = false → (s.port p).pd.contract = .explicit → s.bridged p =
      true → s.engineClk = true → (s.port p).pd.bist = 0 →
      Yields (.prSwap p ⟨.sop, id, rev⟩) s fun t =>
        (t.port p).pd.tx.map (·.ty) = some .reject ∧ (t.port p).swap = SwapPort.reset ∧ (t.port p).tc = (s.port p).tc ∧
        EngineOnly p s t) ∧
  (∀ (s : State) (p : PortId) (id : BitVec 3) (rev : BitVec 2),
      s.pdLive p = true → s.sys.pwr = .run → (s.port p).pd.tx = none → (s.port p).pd.rxId ≠ some id → (s.port p).pd.txRev = 2
      → (s.port p).swap = SwapPort.reset → (s.port p).pd.ams.own = false → (s.port p).pd.contract = .explicit → (s.port
      p).tc.state = .attachedSrc → (s.port p).lm.mode = false → (cfgDrSwap (s.port p).cfg).testBit (if (s.port p).tc.dfp then
      1 else 0) = true → s.engineClk = true → (s.port p).pd.bist = 0 →
      Yields (.drSwap p ⟨.sop, id, rev⟩) s fun t =>
        (t.port p).pd.tx.map (·.ty) = some .accept ∧ (t.port p).swap.kind = .dr ∧ (t.port p).swap.stage = .standby ∧
        EngineOnly p s t) ∧
  (∀ (s : State) (p : PortId) (id : BitVec 3) (rev : BitVec 2),
      s.pdLive p = true → s.sys.pwr = .run → (s.port p).pd.tx = none → (s.port p).pd.rxId ≠ some id → (s.port p).pd.txRev = 2
      → (s.port p).swap = SwapPort.reset → (s.port p).pd.ams.own = false → (s.port p).pd.contract = .explicit → (s.port
      p).tc.state = .attachedSnk → isE p = true → (s.port p).tc.vconnOn = false → s.vconnOk p = true → cfgVcSwap (s.port
      p).cfg = true → s.engineClk = true → (s.port p).pd.bist = 0 →
      Yields (.vconnSwap p ⟨.sop, id, rev⟩) s fun t =>
        (t.port p).pd.tx.map (·.ty) = some .accept ∧ (t.port p).tc.vconnOn = true ∧ (t.port p).swap.stage = .closing ∧
        EngineOnly p s t)

/-- Fast Role Swap and the timers of swaps. An armed sink that sees the Fast Role Swap signal sources 5 V at once and sends FR_Swap;
a device that signalled accepts FR_Swap and sends PS_RDY; a missing PS_RDY of a power role swap is ErrorRecovery and of a VCONN
swap Hard Reset; after tSwapSourceStart the new source sends capabilities. Rests on R187, R191, R192, R194, R271. The model's
own choices in it: log entry 29. -/
def Obligations.SwapTimersAndFastRoleSwap : Prop :=
  (∀ (s : State) (p : PortId),
      s.pdLive p = true → s.sys.pwr = .run → (s.port p).pd.tx = none → (s.port p).tc.state = .attachedSnk → (s.port
      p).swap.frArmed = true → (s.port p).swap.stage = .none → (s.port p).sw.st = .closed → s.armed p = true → s.paramOk p =
      true → s.sup.vhb = .ok →
      Yields (.fastRoleSwapSignal p) s fun t =>
        (t.port p).pd.tx.map (·.ty) = some .frSwap ∧ (t.port p).cv.dir = 1 ∧ (t.port p).cv.vref = 250 ∧ (t.port p).sw.st =
        (s.port p).sw.st ∧ (t.port p).swap.stage = .sent ∧ EngineOnly p s t) ∧
  (∀ (s : State) (p : PortId) (id : BitVec 3) (rev : BitVec 2),
      s.pdLive p = true → s.sys.pwr = .run → (s.port p).pd.tx = none → (s.port p).tc.state = .attachedSrc → (s.port p).pd.rxId
      ≠ some id → (s.port p).pd.txRev = 2 → (s.port p).pd.ams ≠ .softReset → (s.port p).pd.txQ = [] → (s.port p).swap.kind =
      .fr → (s.port p).swap.stage = .standby → (s.port p).swap.toSrc = false → s.engineClk = true → (s.port p).pd.bist = 0 →
      Yields (.frSwap p ⟨.sop, id, rev⟩) s fun t =>
        (t.port p).pd.tx.map (·.ty) = some .accept ∧ (t.port p).pd.txQ.map (·.ty) = [.psRdy] ∧ (t.port p).swap.stage =
        .psRdy ∧ (t.port p).tc.rpAdv = .none ∧ EngineOnly p s t) ∧
  (∀ (s : State) (p : PortId),
      s.pdLive p = true → s.sys.pwr = .run → (s.port p).pd.tx = none → (s.port p).tc.state = .attachedSrc → (s.port
      p).swap.kind = .pr → (s.port p).swap.stage = .psRdy →
      Yields (.swapPsRdyTimeout p) s fun t =>
        (t.port p).tc.state = .errorRecovery ∧ (t.port p).tc.evt.getLsbD 6 = true ∧ EngineOnly p s t) ∧
  (∀ (s : State) (p : PortId),
      s.pdLive p = true → s.sys.pwr = .run → (s.port p).pd.tx = none → (s.port p).tc.state = .attachedSrc → (s.port p).pd.epr
      = false → (s.port p).swap.kind = .vconn → (s.port p).swap.stage = .psRdy →
      Yields (.vconnSourceTimeout p) s fun t =>
        (t.port p).pd.contract = .none ∧ (t.port p).pd.hr ≠ .none ∧ (t.port p).swap.stage = .none ∧ EngineOnly p s t) ∧
  (∀ (s : State) (p : PortId),
      s.pdLive p = true → s.sys.pwr = .run → (s.port p).pd.tx = none → (s.port p).tc.state = .attachedSrc → (s.port
      p).pd.startDue = true → (s.port p).pd.trig = [] → (s.port p).pd.sinkTxWait = false →
      Yields (.swapSourceStartExpiry p) s fun t =>
        (t.port p).pd.trig = [.negotiation] ∧ (t.port p).pd.startDue = false ∧ PortOnly p s t)

/-- Discovery, Enter Mode and Exit Mode are answered. With Ledger mode fused in, Discover Identity, Discover SVIDs and Discover
Modes of SVID 0x3A8C are acknowledged with their VDOs, Enter Mode is acknowledged and Ledger mode entered with SEQ 1, and Exit
Mode ends it; an unknown structured request is answered NAK and Attention not at all. Rests on R199, R200, R201, R203, R208. The
model's own choices in it: log entries 34, 39, 40. -/
def Obligations.DiscoveryVdmsAreAnswered : Prop :=
  (∀ (s : State) (p : PortId) (id : BitVec 3) (rev : BitVec 2),
      s.pdLive p = true → s.sys.pwr = .run → (s.port p).pd.tx = none → (s.port p).pd.rxId ≠ some id → (s.port p).pd.txRev = 2
      → s.ledgermodeen = true → (s.port p).swap = SwapPort.reset → (s.port p).pd.ams.own = false → (s.port p).pd.contract ≠
      .transition → s.engineClk = true → (s.port p).pd.bist = 0 →
      Yields (.discoverIdentity p ⟨.sop, id, rev⟩ [0xFF00A801]) s fun t =>
        (t.port p).pd.tx.map (fun m => (m.objs.headD 0).extractLsb' 6 2) = some 1 ∧ (t.port p).pd.tx.map (·.objs.tail) =
        some (s.identityVdos p) ∧ EngineOnly p s t) ∧
  (∀ (s : State) (p : PortId) (id : BitVec 3) (rev : BitVec 2),
      s.pdLive p = true → s.sys.pwr = .run → (s.port p).pd.tx = none → (s.port p).pd.rxId ≠ some id → (s.port p).pd.txRev = 2
      → s.ledgermodeen = true → (s.port p).swap = SwapPort.reset → (s.port p).pd.ams.own = false → (s.port p).pd.contract ≠
      .transition → s.engineClk = true → (s.port p).pd.bist = 0 →
      Yields (.discoverSvids p ⟨.sop, id, rev⟩ [0xFF00A802]) s fun t =>
        (t.port p).pd.tx.map (fun m => (m.objs.headD 0).extractLsb' 6 2) = some 1 ∧ (t.port p).pd.tx.map (·.objs.tail) =
        some [0x3A8C0000] ∧ EngineOnly p s t) ∧
  (∀ (s : State) (p : PortId) (id : BitVec 3) (rev : BitVec 2),
      s.pdLive p = true → s.sys.pwr = .run → (s.port p).pd.tx = none → (s.port p).pd.rxId ≠ some id → (s.port p).pd.txRev = 2
      → s.ledgermodeen = true → (s.port p).swap = SwapPort.reset → (s.port p).pd.ams.own = false → (s.port p).pd.contract ≠
      .transition → s.engineClk = true → (s.port p).pd.bist = 0 →
      Yields (.discoverModes p ⟨.sop, id, rev⟩ [0x3A8CA803]) s fun t =>
        (t.port p).pd.tx.map (fun m => (m.objs.headD 0).extractLsb' 6 2) = some 1 ∧ (t.port p).pd.tx.map (·.objs.tail) =
        some [modeVdo p] ∧ EngineOnly p s t) ∧
  (∀ (s : State) (p : PortId) (id : BitVec 3) (rev : BitVec 2),
      s.pdLive p = true → s.sys.pwr = .run → (s.port p).pd.tx = none → (s.port p).pd.rxId ≠ some id → (s.port p).pd.txRev = 2
      → s.ledgermodeen = true → (s.port p).swap = SwapPort.reset → (s.port p).pd.ams.own = false → (s.port p).pd.contract ≠
      .transition → s.mayEnter p = true → s.engineClk = true → (s.port p).pd.bist = 0 →
      Yields (.enterMode p ⟨.sop, id, rev⟩ [0x3A8CA904]) s fun t =>
        (t.port p).pd.tx.map (fun m => (m.objs.headD 0).extractLsb' 6 2) = some 1 ∧ (t.port p).lm.mode = true ∧ (t.port
        p).lm.verOk = false ∧ (t.port p).lm.seq = 1 ∧ EngineOnly p s t) ∧
  (∀ (s : State) (p : PortId) (id : BitVec 3) (rev : BitVec 2),
      s.pdLive p = true → s.sys.pwr = .run → (s.port p).pd.tx = none → (s.port p).pd.rxId ≠ some id → (s.port p).pd.txRev = 2
      → s.ledgermodeen = true → (s.port p).swap = SwapPort.reset → (s.port p).pd.ams.own = false → (s.port p).pd.contract ≠
      .transition → (s.port p).lm.mode = true → s.engineClk = true → (s.port p).pd.bist = 0 →
      Yields (.exitMode p ⟨.sop, id, rev⟩ [0x3A8CA905]) s fun t =>
        (t.port p).pd.tx.map (fun m => (m.objs.headD 0).extractLsb' 6 2) = some 1 ∧ (t.port p).lm.mode = false ∧ EngineOnly
        p s t) ∧
  (∀ (s : State) (p : PortId) (id : BitVec 3) (rev : BitVec 2),
      s.pdLive p = true → s.sys.pwr = .run → (s.port p).pd.tx = none → (s.port p).pd.rxId ≠ some id → (s.port p).pd.txRev = 2
      → s.ledgermodeen = true → (s.port p).swap = SwapPort.reset → (s.port p).pd.ams.own = false → (s.port p).pd.contract ≠
      .transition → s.engineClk = true → (s.port p).pd.bist = 0 →
      Yields (.attention p ⟨.sop, id, rev⟩ [0x3A8CA906]) s fun t =>
        (t.port p).pd.tx = none ∧ (t.port p).pd.ams = (s.port p).pd.ams ∧ (t.port p).lm.mode = (s.port p).lm.mode ∧
        EngineOnly p s t) ∧
  (∀ (s : State) (p : PortId) (id : BitVec 3) (rev : BitVec 2),
      s.pdLive p = true → s.sys.pwr = .run → (s.port p).pd.tx = none → (s.port p).pd.rxId ≠ some id → (s.port p).pd.txRev = 2
      → s.ledgermodeen = true → (s.port p).swap = SwapPort.reset → (s.port p).pd.ams.own = false → (s.port p).pd.contract ≠
      .transition → s.engineClk = true → (s.port p).pd.bist = 0 →
      Yields (.attention p ⟨.sop, id, rev⟩ [0xFF00A807]) s fun t =>
        (t.port p).pd.tx.map (fun m => (m.objs.headD 0).extractLsb' 6 2) = some 2 ∧ (t.port p).lm.mode = (s.port p).lm.mode
        ∧ EngineOnly p s t)

/-- The commands of Ledger mode. Past LM_VERSION, LM_OUTCOME of a grantor is stored, LM_QUERY is answered with the outcome and
demand and lets notices go on, LM_ENERGY and LM_IDENT are answered with their VDOs, and LM_NEED is stored and, beyond the grant,
becomes an upgrade demand; before it they are answered NAK; LM_VERSION 1.x succeeds. Rests on R202, R204, R206, R207. The
model's own choices in it: log entries 47, 45. -/
def Obligations.LedgerModeCommandsAreAnswered : Prop :=
  (∀ (s : State) (p : PortId) (id : BitVec 3) (rev : BitVec 2),
      s.pdLive p = true → (s.port p).tc.state = .attachedSrc → s.sys.pwr = .run → (s.port p).pd.tx = none → (s.port p).pd.rxId
      ≠ some id → (s.port p).pd.txRev = 2 → (s.port p).lm.mode = true → (s.port p).swap = SwapPort.reset → (s.port
      p).pd.ams.own = false → (s.port p).pd.contract ≠ .transition → s.engineClk = true → (s.port p).pd.bist = 0 →
      Yields (.lmVersion p ⟨.sop, id, rev⟩ [0x3A8CA910, 0x10000000]) s fun t =>
        (t.port p).pd.tx.map (fun m => (m.objs.headD 0).extractLsb' 6 2) = some 1 ∧ (t.port p).lm.verOk = true ∧ (t.port
        p).lm.major = 1 ∧ EngineOnly p s t) ∧
  (∀ (s : State) (p : PortId) (id : BitVec 3) (rev : BitVec 2) (w : Word),
      s.pdLive p = true → (s.port p).tc.state = .attachedSrc → s.sys.pwr = .run → (s.port p).pd.tx = none → (s.port p).pd.rxId
      ≠ some id → (s.port p).pd.txRev = 2 → (s.port p).lm.mode = true → (s.port p).swap = SwapPort.reset → (s.port
      p).pd.ams.own = false → (s.port p).pd.contract ≠ .transition → (s.port p).lm.verOk = true → (s.port p).lm.grantor = true
      → s.engineClk = true → (s.port p).pd.bist = 0 →
      Yields (.lmOutcome p ⟨.sop, id, rev⟩ [0x3A8CA911, w, 0]) s fun t =>
        (t.port p).pd.tx.map (fun m => (m.objs.headD 0).extractLsb' 6 2) = some 1 ∧ (t.port p).lm.peer = w ∧ EngineOnly p s
        t) ∧
  (∀ (s : State) (p : PortId) (id : BitVec 3) (rev : BitVec 2),
      s.pdLive p = true → (s.port p).tc.state = .attachedSrc → s.sys.pwr = .run → (s.port p).pd.tx = none → (s.port p).pd.rxId
      ≠ some id → (s.port p).pd.txRev = 2 → (s.port p).lm.mode = true → (s.port p).swap = SwapPort.reset → (s.port
      p).pd.ams.own = false → (s.port p).pd.contract ≠ .transition → (s.port p).lm.verOk = true → s.engineClk = true → (s.port
      p).pd.bist = 0 →
      Yields (.lmQuery p ⟨.sop, id, rev⟩ [0x3A8CA912]) s fun t =>
        (t.port p).pd.tx.map (fun m => (m.objs.headD 0).extractLsb' 6 2) = some 1 ∧ (t.port p).pd.tx.map (·.objs.tail) =
        some [s.outcomeVdo p, s.demandVdo p] ∧ (t.port p).lm.muted = false ∧ EngineOnly p s t) ∧
  (∀ (s : State) (p : PortId) (id : BitVec 3) (rev : BitVec 2),
      s.pdLive p = true → (s.port p).tc.state = .attachedSrc → s.sys.pwr = .run → (s.port p).pd.tx = none → (s.port p).pd.rxId
      ≠ some id → (s.port p).pd.txRev = 2 → (s.port p).lm.mode = true → (s.port p).swap = SwapPort.reset → (s.port
      p).pd.ams.own = false → (s.port p).pd.contract ≠ .transition → (s.port p).lm.verOk = true → s.ledger.ready = true →
      (s.port p).lg.grant = 45 → s.engineClk = true → (s.port p).pd.bist = 0 →
      Yields (.lmNeed p ⟨.sop, id, rev⟩ [0x3A8CA913, 0x00640064]) s fun t =>
        (t.port p).pd.tx.map (fun m => (m.objs.headD 0).extractLsb' 6 2) = some 1 ∧ (t.port p).lm.need = 0x00640064 ∧
        t.ledger.posts.length = s.ledger.posts.length + 1 ∧ EngineOnly p s t) ∧
  (∀ (s : State) (p : PortId) (id : BitVec 3) (rev : BitVec 2),
      s.pdLive p = true → (s.port p).tc.state = .attachedSrc → s.sys.pwr = .run → (s.port p).pd.tx = none → (s.port p).pd.rxId
      ≠ some id → (s.port p).pd.txRev = 2 → (s.port p).lm.mode = true → (s.port p).swap = SwapPort.reset → (s.port
      p).pd.ams.own = false → (s.port p).pd.contract ≠ .transition → (s.port p).lm.verOk = false → s.engineClk = true →
      (s.port p).pd.bist = 0 →
      Yields (.lmNeed p ⟨.sop, id, rev⟩ [0x3A8CA913, 0x00640064]) s fun t =>
        (t.port p).pd.tx.map (fun m => (m.objs.headD 0).extractLsb' 6 2) = some 2 ∧ (t.port p).lm.need = (s.port p).lm.need
        ∧ EngineOnly p s t) ∧
  (∀ (s : State) (p : PortId) (id : BitVec 3) (rev : BitVec 2),
      s.pdLive p = true → (s.port p).tc.state = .attachedSrc → s.sys.pwr = .run → (s.port p).pd.tx = none → (s.port p).pd.rxId
      ≠ some id → (s.port p).pd.txRev = 2 → (s.port p).lm.mode = true → (s.port p).swap = SwapPort.reset → (s.port
      p).pd.ams.own = false → (s.port p).pd.contract ≠ .transition → (s.port p).lm.verOk = true → s.engineClk = true → (s.port
      p).pd.bist = 0 →
      Yields (.lmEnergy p ⟨.sop, id, rev⟩ [0x3A8CA914]) s fun t =>
        (t.port p).pd.tx.map (fun m => (m.objs.headD 0).extractLsb' 6 2) = some 1 ∧ (t.port p).pd.tx.map (·.objs.tail) =
        some [energyVdo (s.port p).cv.energyOut, energyVdo (s.port p).cv.energyIn] ∧ EngineOnly p s t) ∧
  (∀ (s : State) (p : PortId) (id : BitVec 3) (rev : BitVec 2),
      s.pdLive p = true → (s.port p).tc.state = .attachedSrc → s.sys.pwr = .run → (s.port p).pd.tx = none → (s.port p).pd.rxId
      ≠ some id → (s.port p).pd.txRev = 2 → (s.port p).lm.mode = true → (s.port p).swap = SwapPort.reset → (s.port
      p).pd.ams.own = false → (s.port p).pd.contract ≠ .transition → (s.port p).lm.verOk = true → s.engineClk = true → (s.port
      p).pd.bist = 0 →
      Yields (.lmIdent p ⟨.sop, id, rev⟩ [0x3A8CA915]) s fun t =>
        (t.port p).pd.tx.map (fun m => (m.objs.headD 0).extractLsb' 6 2) = some 1 ∧ (t.port p).pd.tx.map (·.objs.tail) =
        some [s.identVdo p] ∧ EngineOnly p s t)

/-- Ledger mode's timers, and the answers to the device's own VDMs. A UFP with no LM_VERSION yet starts its own; a due notice is
started; an acknowledged notice lets the next one go; a NAK of a VDM_SEND ends it with RESULT 1, and one unanswered with RESULT
3; an Exit Mode of the device's own that is unanswered still ends Ledger mode. Rests on R198, R201, R202, R206, R208, R446. The
model's own choices in it: log entry 47. -/
def Obligations.LedgerModeTimersAndAnswers : Prop :=
  (∀ (s : State) (p : PortId),
      s.pdLive p = true → s.sys.pwr = .run → (s.port p).pd.tx = none → (s.port p).pd.sinkTxWait = false → (s.port p).lm.mode =
      true → (s.port p).lm.verOk = false → (s.port p).tc.dfp = false → (s.port p).pd.trig = [] →
      Yields (.lmVersionTimer p) s fun t =>
        (t.port p).pd.trig = [.lmVersion] ∧ PortOnly p s t) ∧
  (∀ (s : State) (p : PortId),
      s.pdLive p = true → s.sys.pwr = .run → (s.port p).pd.tx = none → (s.port p).pd.sinkTxWait = false → s.noticeDue p = true
      → (s.port p).pd.trig = [] →
      Yields (.lmOutcomeNotice p) s fun t =>
        (t.port p).pd.trig = [.notice] ∧ PortOnly p s t) ∧
  (∀ (s : State) (p : PortId) (id : BitVec 3) (rev : BitVec 2),
      s.pdLive p = true → s.sys.pwr = .run → (s.port p).pd.tx = none → (s.port p).pd.sinkTxWait = false → (s.port p).tc.state
      = .attachedSrc → (s.port p).pd.rxId ≠ some id → (s.port p).pd.ams = .notice → s.engineClk = true → (s.port p).pd.bist =
      0 →
      Yields (.structuredVdmAnswer p ⟨.sop, id, rev⟩ [0x3A8CA951]) s fun t =>
        (t.port p).lm.waiting = false ∧ (t.port p).lm.noAckRun = 0 ∧ (t.port p).pd.ams = .none ∧ EngineOnly p s t) ∧
  (∀ (s : State) (p : PortId) (v : List Word),
      s.pdLive p = true → s.sys.pwr = .run → (s.port p).pd.tx = none → (s.port p).pd.sinkTxWait = false → (s.port p).pd.ams =
      .vdm → (s.port p).lm.run = some ⟨0, .sop, v, 0, true, 0⟩ →
      Yields (.vdmSenderResponseTimeout p) s fun t =>
        (t.port p).lm.run = none ∧ (t.port p).lm.result = some (vdmReply 3 0 []) ∧ (t.port p).pd.ams = .none ∧ EngineOnly p
        s t) ∧
  (∀ (s : State) (p : PortId) (id : BitVec 3) (rev : BitVec 2),
      s.pdLive p = true → s.sys.pwr = .run → (s.port p).pd.tx = none → (s.port p).pd.sinkTxWait = false → (s.port p).tc.state
      = .attachedSrc → (s.port p).pd.rxId ≠ some id → (s.port p).pd.ams = .vdm → (s.port p).lm.run = some ⟨0, .sop,
      [0xFF00A801], 0, true, 0⟩ → s.engineClk = true → (s.port p).pd.bist = 0 →
      Yields (.structuredVdmAnswer p ⟨.sop, id, rev⟩ [0xFF00A881]) s fun t =>
        (t.port p).lm.run = none ∧ (t.port p).lm.result = some (vdmReply 1 0 [0xFF00A881]) ∧ (t.port p).pd.ams = .none ∧
        EngineOnly p s t) ∧
  (∀ (s : State) (p : PortId),
      s.pdLive p = true → s.sys.pwr = .run → (s.port p).pd.tx = none → (s.port p).pd.sinkTxWait = false → (s.port p).pd.ams =
      .exitMode →
      Yields (.vdmSenderResponseTimeout p) s fun t =>
        (t.port p).lm.mode = false ∧ (t.port p).lm.verOk = false ∧ (t.port p).pd.ams = .none ∧ (t.port p).pd.contract =
        (s.port p).pd.contract ∧ EngineOnly p s t)

/-- An excursion of a watched supply is recorded and acted on. With CORE on and SAFECFG bit 4 set, an excursion of VIO, VCONNIN,
VBAT, VPP or a die's VDRV sets its SAFEEVT bit and queues a SUPPLY record; VIO lets go of the host's transaction and leaves the
ports alone, VCONNIN opens every VCONN switch, VDRV stops the converters and opens the switches of its own die alone. Rests on
R17, R64, R393. The model's own choices in it: log entry 14. -/
def Obligations.SupplyExcursionsAreActedOn : Prop :=
  (∀ (s : State) (mv : Nat),
      s.coreOn = true → s.safeOn 4 = true → s.sbox.queue.length < 32 → s.sys.pwr = .run → s.sup.vio = .ok →
      Yields (.vioExcursion ⟨false, mv, none⟩) s fun t =>
        t.sup = { s.sup with vio := .below } ∧ t.sys = { s.sys with vioHeld := s.sys.vioHeld && decide (1000 ≤ mv) } ∧
        t.safety.evt = setBit s.safety.evt 9 ∧ t.sbox.queue.length = s.sbox.queue.length + 1 ∧ t.bus =
        { s.bus with acked := false, out := [], acks := 0 } ∧ PortsSame s t ∧ StoresSame s t) ∧
  (∀ (s : State) (p : PortId),
      s.coreOn = true → s.safeOn 4 = true → s.sbox.queue.length < 32 → s.sys.pwr = .run → s.sup.vconnin = .ok →
      Yields (.vconninExcursion true) s fun t =>
        t.sup = { s.sup with vconnin := .above } ∧ t.safety.evt = setBit s.safety.evt 10 ∧ t.sbox.queue.length =
        s.sbox.queue.length + 1 ∧ (t.port p).tc.vconnOn = false ∧ (t.port p).cv = (s.port p).cv ∧ t.bus = s.bus ∧ StoresSame
        s t) ∧
  (∀ (s : State),
      s.coreOn = true → s.safeOn 4 = true → s.sbox.queue.length < 32 → s.sys.pwr = .run → s.sup.vbat = .ok → s.sup.vmain = .ok
      → s.sup.vdaon = .ok →
      Yields (.vbatExcursion false) s fun t =>
        t.sup = { s.sup with vbat := .below } ∧ t.safety.evt = setBit s.safety.evt 12 ∧ t.sbox.queue.length =
        s.sbox.queue.length + 1 ∧ t.alarm = s.alarm ∧ PortsSame s t ∧ StoresSame s t) ∧
  (∀ (s : State) (bit : Fin 32) (ok : Bool),
      s.coreOn = true → s.safeOn 4 = true → s.sbox.queue.length < 32 → s.sys.pwr = .run → s.sup.vpp = .ok →
      Yields (.vppExcursion ⟨false, bit, ok⟩) s fun t =>
        t.sup = { s.sup with vpp := .below } ∧ t.safety.evt = setBit s.safety.evt 13 ∧ t.sbox.queue.length =
        s.sbox.queue.length + 1 ∧ t.fuse =
        { s.fuse with run := s.fuse.run.map fun x => if x.pump then x else { x with stopped := (if ok then x.stopped else x.stopped ||| BitVec.twoPow 32 bit.val), unpowered := x.unpowered ||| ~~~ lowBits (bit.val + 1) } }
        ∧ PortsSame s t ∧ StoresSame s t) ∧
  (∀ (s : State) (p : PortId),
      s.coreOn = true → s.safeOn 4 = true → s.sbox.queue.length < 32 → s.sys.pwr = .run → s.sup.vdrvB = .ok →
      Yields (.vdrvExcursion .b true) s fun t =>
        t.sup.vdrvB = .above ∧ t.sup.vdrvA = s.sup.vdrvA ∧ t.sup.waitB = true ∧ t.safety.evt = setBit s.safety.evt 8 ∧
        t.sbox.queue.length = s.sbox.queue.length + 1 ∧ (dieOf p = .a → t.port p = s.port p) ∧ (dieOf p = .b → (t.port
        p).cv.dir = 0 ∧ (t.port p).sw.sinkOn = false ∧ (t.port p).sw.st ≠ .closed ∧ (t.port p).tc.state = (s.port
        p).tc.state) ∧ StoresSame s t) ∧
  (∀ (s : State) (p : PortId),
      s.coreOn = true → s.safeOn 4 = true → s.sbox.queue.length < 32 → s.sys.pwr = .run → s.sup.vdrvA = .ok → s.sup.waitA =
      true →
      Yields (.vdrvReturn .a) s fun t =>
        t.sup.vdrvA = .ok ∧ t.sup.waitA = false ∧ t.sup.waitB = s.sup.waitB ∧ (dieOf p = .b → t.port p = s.port p) ∧ ((dieOf
        p = .a ∧ s.portReady p = true ∧ (s.port p).tc.state = .attachedSnk) → (t.port p).tc.state = .errorRecovery))

/-- An excursion of VMAIN or VDCORE resets CORE and enters OFF; one of VDAON resets AON. The cause is latched with its SAFEEVT bit
and direction, every port stops being READY with no contract and no coins granted, mailbox and record queue are emptied and STS
falls back to the LFO, while STS, the keys, the records in MRAM and the saved configuration stay; a VDAON excursion starts STS
at 0 again, clears what AON latched and empties the Vault. Rests on R16, R18, R51, R64, R534. The model's own choices in it: log
entries 13, 14. -/
def Obligations.LosingVmainOrTheCoreEntersOff : Prop :=
  (∀ (s : State) (p : PortId),
      s.sys.pwr = .run → s.sup.vmain = .ok → s.safeOn 4 = true → s.sup.vbat = .ok → s.sup.vdaon = .ok →
      Yields (.vmainExcursion true) s fun t =>
        t.sys.pwr = .off ∧ t.safety.supLatch = some (6, true) ∧ (t.port p).tc.ready = false ∧ (t.port p).pd.contract = .none
        ∧ (t.port p).lg.grant = 0 ∧ t.mb = Mailbox.reset ∧ t.sbox.queue = [] ∧ t.sys.interp = false ∧ t.sys.stsStat = 2 ∧
        t.sys.sts = s.sys.sts ∧ t.vault = s.vault ∧ t.alarm.latched = s.alarm.latched ∧ t.sbox.mram = s.sbox.mram ∧ t.store
        = s.store ∧ t.fw.image = s.fw.image) ∧
  (∀ (s : State) (p : PortId),
      s.sys.pwr = .run → s.sup.vdcore = .ok → s.sup.vmain = .ok → s.sup.vdaon = .ok →
      Yields (.vdintExcursion true true) s fun t =>
        t.sys.pwr = .off ∧ t.safety.supLatch = some (14, true) ∧ (t.port p).tc.ready = false ∧ (t.port p).pd.contract =
        .none ∧ (t.port p).lg.grant = 0 ∧ t.mb = Mailbox.reset ∧ t.sbox.queue = [] ∧ t.sys.interp = false ∧ t.sys.stsStat =
        2 ∧ t.sys.sts = s.sys.sts ∧ t.vault = s.vault ∧ t.alarm.latched = s.alarm.latched ∧ t.sbox.mram = s.sbox.mram ∧
        t.store = s.store ∧ t.fw.image = s.fw.image) ∧
  (∀ (s : State),
      s.sys.pwr = .run → s.sup.vdaon = .ok → s.sys.resetLow = false → s.sbox.queue.length < 32 →
      Yields (.vdintExcursion false false) s fun t =>
        t.sys.sts = 0 ∧ t.sys.cause = 1 ∧ t.vault = Vault.reset ∧ t.alarm = Alarm.reset ∧ t.safety.supLatch = none ∧
        t.bus.haddrBase = 0x50 ∧ t.sbox.queue.length = s.sbox.queue.length + 1 ∧ PortsSame s t ∧ StoresSame s t) ∧
  (∀ (s : State),
      s.sys.pwr = .run → s.onStart = false →
      Yields (.supplyBackInRange .vmain) s fun t =>
        t.sup = { s.sup with vmain := .ok } ∧ t.sys = s.sys ∧ PortsSame s t ∧ StoresSame s t) ∧
  (∀ (s : State),
      s.sys.pwr = .run → s.fuse.run = none →
      Yields (.supplyBackInRange .vpp) s fun t =>
        t = { s with sup := { s.sup with vpp := .ok } }) ∧
  (∀ (s : State) (r : FuseRun),
      s.sys.pwr = .run → s.fuse.run = some r →
      Yields (.supplyBackInRange .vpp) s fun t =>
        t.fuse.run.map (fun x => (x.pkt, x.pump, x.stopped)) = some (r.pkt, r.pump, r.stopped) ∧ t.fuse.run.map (fun x =>
        x.unpowered &&& ~~~ r.unpowered) = some 0 ∧ t =
        { s with sup := { s.sup with vpp := .ok }, fuse := t.fuse, free := t.free } ∧ StoresSame s t)

/-- A house-bus excursion stops every converter, and its end restarts them. With SAFECFG bit 4 set an overvoltage of VHB stops every
converter through the idle path, remembering its direction, and records it; past the release level of the excursion a source's
converter runs again, and after 60.0 V for 100 ms a reverse one too; after 20 ms without return every attached source enters
ErrorRecovery. Rests on R275, R276. The model's own choices in it: log entry 27. -/
def Obligations.HouseBusExcursions : Prop :=
  (∀ (s : State) (p : PortId),
      s.sys.pwr = .run → s.sys.resetLow = false → s.sup.vhb = .ok → s.safeOn 4 = true → s.sbox.queue.length < 32 →
      s.ledger.armed = false →
      Yields (.vhbExcursion true 63000) s fun t =>
        t.sup.vhb = .above ∧ t.sup.vhbMv = 63000 ∧ t.safety.evt = setBit s.safety.evt 11 ∧ t.sbox.queue.length =
        s.sbox.queue.length + 1 ∧ (t.port p).cv.dir = 0 ∧ ((s.port p).cv.dir = 1 → (t.port p).cv.stopped = 1 ∧ (t.port
        p).cv.evt = setBit (s.port p).cv.evt 1) ∧ StoresSame s t) ∧
  (∀ (s : State) (p : PortId),
      s.sys.pwr = .run → s.sys.resetLow = false → s.sup.vhb = .above → (s.port p).cv.stopped = 1 → (s.port p).cv.dir = 0 →
      s.armed p = true → s.paramOk p = true →
      Yields (.vhbReturn 59000) s fun t =>
        t.sup.vhb = .ok ∧ t.sup.vhbMv = 59000 ∧ (t.port p).cv.dir = 1 ∧ (t.port p).cv.stopped = 0 ∧ t.sbox = s.sbox ∧
        StoresSame s t) ∧
  (∀ (s : State) (p : PortId),
      s.sys.pwr = .run → s.sys.resetLow = false → s.sup.vhb = .ok → (s.port p).cv.stopped = 2 → (s.port p).cv.dir = 0 →
      s.armed p = true → s.paramOk p = true →
      Yields (.reverseRestart) s fun t =>
        (t.port p).cv.dir = 2 ∧ (t.port p).cv.stopped = 0 ∧ t.sup = s.sup ∧ t.sbox = s.sbox ∧ StoresSame s t) ∧
  (∀ (s : State) (p : PortId),
      s.sys.pwr = .run → s.sys.resetLow = false → s.sup.vhb = .below → s.portReady p = true → (s.port p).tc.state =
      .attachedSrc → (s.port p).swap.stage = .none →
      Yields (.ridefail) s fun t =>
        (t.port p).tc.state = .errorRecovery ∧ (t.port p).cv.dir = 0 ∧ t.sup = s.sup ∧ StoresSame s t)

/-- RESET_N, DOZE, SLEEP, waking, and the choice of VIO's range. A RESET_N low holds CORE in reset with no port READY and keeps what
AON and MRAM hold; with nothing to do an enabled DOZE is entered from RUN; from DOZE a SLEEP whose conditions hold is entered,
STS then running on the LFO; a CC change on a READY port, a host address that the target answers, an alarm source and RESET_N
each wake it; VIO's range follows the level at its selection. Rests on R51, R65, R72, R73, R74. The model's own choices in it:
log entries 17, 18. -/
def Obligations.PowerStatesAreEnteredAndLeft : Prop :=
  (∀ (s : State) (p : PortId),
      s.sys.interp = true →
      Yields (.resetNLow) s fun t =>
        t.sys.resetLow = true ∧ t.sys.cause = 3 ∧ (t.port p).tc.ready = false ∧ t.mb = Mailbox.reset ∧ t.sys.interp = false
        ∧ t.sys.sts = s.sys.sts ∧ t.alarm.latched = s.alarm.latched ∧ t.bus.haddrBase = s.bus.haddrBase ∧ t.sup =
        { s.sup with waitA := false, waitB := false } ∧ t.sbox.mram = s.sbox.mram ∧ t.store = s.store ∧ t.vault.slots =
        s.vault.slots) ∧
  (∀ (s : State),
      s.sys.interp = true → s.sys.pwr = .run → s.sys.dozeEn = true → s.sys.resetLow = false → s.workless = true →
      Yields (.dozeEntry) s fun t =>
        t = { s with sys := { s.sys with pwr := .doze } }) ∧
  (∀ (s : State),
      s.sys.interp = true → s.sys.pwr = .doze → s.sleepOk = true →
      Yields (.sleepEntry) s fun t =>
        t.sys.pwr = .sleep ∧ t.sys.stsStat = setBit s.sys.stsStat 1 ∧ t.sys.hbisoLow = false ∧ t.sys.sts = s.sys.sts ∧ t.sup
        = s.sup ∧ t.mb = s.mb ∧ StoresSame s t) ∧
  (∀ (s : State),
      s.sys.interp = true → s.sys.pwr = .sleep →
      Yields (.sleepWake .alarm) s fun t =>
        t = { s with sys := { s.sys with pwr := .doze } }) ∧
  (∀ (s : State),
      s.sys.interp = true → s.sys.pwr = .sleep →
      Yields (.sleepWake .resetN) s fun t =>
        t = { s with sys := { s.sys with pwr := .doze } }) ∧
  (∀ (s : State) (p : PortId),
      s.sys.interp = true → s.sys.pwr = .sleep → s.portReady p = true →
      Yields (.sleepWake (.cc p)) s fun t =>
        t = { s with sys := { s.sys with pwr := .doze } }) ∧
  (∀ (s : State),
      s.sys.interp = true → s.sys.pwr = .sleep → s.hostUp = true →
      Yields (.sleepWake .hostMatch) s fun t =>
        t = { s with sys := { s.sys with pwr := .doze } }) ∧
  (∀ (s : State) (mv : Nat),
      s.sys.interp = true → 2400 ≤ mv → s.sys.vioHeld = false →
      Yields (.vioModeSelect mv) s fun t =>
        t = { s with sys := { s.sys with vioSel := true, vioHeld := true } }) ∧
  (∀ (s : State) (mv : Nat),
      s.sys.interp = true → mv < 2400 → s.sys.vioHeld = false →
      Yields (.vioModeSelect mv) s fun t =>
        t = { s with sys := { s.sys with vioSel := false, vioHeld := true } })

/-- A lost clock is marked, recorded and survived. With CORE on and SAFECFG bit 3 set, the loss of HFO or of the PLL's lock is
marked, sets SAFEEVT CLOCK and queues a SAFETY record, one record for each loss; losing REFCLK also moves SYSCLK off the PLL and
has a joined node leave the ring in its slot; losing the crystal of an LFO that runs on it is marked CRYSTAL; a clock that
returns is no longer marked, and the event bits stay. Rests on R69, R71. The model's own choices in it: log entries 16, 15. -/
def Obligations.ClocksLostAndBack : Prop :=
  (∀ (s : State),
      s.coreOn = true → s.safeOn 3 = true → s.sbox.queue.length < 32 → s.clk.hfo = false → s.sys.pwr = .run →
      Yields (.hfoLoss) s fun t =>
        t.clk = { s.clk with hfo := true } ∧ t.safety.evt = setBit s.safety.evt 4 ∧ t.sbox.queue.length =
        s.sbox.queue.length + 1 ∧ t.ports = s.ports ∧ t.sup = s.sup) ∧
  (∀ (s : State),
      s.coreOn = true → s.safeOn 3 = true → s.sbox.queue.length < 32 → s.clk.pll = false →
      Yields (.pllLockLoss) s fun t =>
        t.clk = { s.clk with pll := true } ∧ t.safety.evt = setBit s.safety.evt 4 ∧ t.sbox.queue.length =
        s.sbox.queue.length + 1 ∧ t.sys.stsStat = setBit s.sys.stsStat 0 ∧ t.ring = s.ring ∧ PortsSame s t ∧ StoresSame s t) ∧
  (∀ (s : State),
      s.coreOn = true → s.safeOn 3 = true → s.sbox.queue.length < 32 → s.clk.refclk = false → s.ring.link = 2 →
      Yields (.refclkLoss) s fun t =>
        t.clk = { s.clk with refclk := true, pll := true } ∧ t.safety.evt = setBit s.safety.evt 4 ∧ t.sbox.queue.length =
        s.sbox.queue.length + 1 ∧ t.ring = { s.ring with leaveDue := true } ∧ t.sys.stsStat = setBit s.sys.stsStat 0 ∧
        StoresSame s t) ∧
  (∀ (s : State),
      s.coreOn = true → s.safeOn 3 = true → s.sbox.queue.length < 32 → s.clk.lfoXtal = false → s.custField 0x0C0 10 10 = 1 →
      Yields (.lfoCrystalLoss) s fun t =>
        t.clk = { s.clk with lfoXtal := true } ∧ t.safety.evt = setBit s.safety.evt 5 ∧ t.sbox.queue.length =
        s.sbox.queue.length + 1 ∧ PortsSame s t ∧ StoresSame s t) ∧
  (∀ (s : State),
      s.coreOn = true → s.safeOn 3 = true → s.sbox.queue.length < 32 →
      Yields (.clockReturn .hfo) s fun t =>
        t = { s with clk := { s.clk with hfo := false } }) ∧
  (∀ (s : State),
      s.coreOn = true → s.safeOn 3 = true → s.sbox.queue.length < 32 →
      Yields (.clockReturn .pll) s fun t =>
        t = { s with clk := { s.clk with pll := false } })

/-- The Ember start, from its first condition to a valid VMAIN, and what an abandonment does. In OFF without VMAIN and with a start
input, a start that is not forbidden takes VHB where it stands at 18 V or more, else the lowest-numbered qualified port as
donor, whose CC debounce begins under the Ember account's grant; a forbidden one stops until the start inputs fall; the
isolation dwell starts the donor's converter forming the bus that EMBERBUS names; a valid VMAIN ends the start; falling start
inputs let a stopped start run again. An abandonment latches its cause, the donor, the step and the count, sends the donor to
ErrorRecovery, releases HBISO_N and enters OFF with the start regulator running; the third one stops the regulator, until the
start inputs fall; a retry enters EMBER again and takes the lowest-numbered port that qualifies and is not excluded. Rests on
R86, R87, R88, R89, R91, R92, R96, R98, R94, R95. The model's own choices in it: log entry 19. -/
def Obligations.EmberStarts : Prop :=
  (∀ (s : State),
      s.sys.pwr = .off → s.sup.vmain = .below → s.ember.stopped = false → (s.sampleStraps).coreStart.startInput = true →
      s.ember.abandoned = 0 → (s.sampleStraps).coreStart.emberForbidden = false → 18000 ≤ s.sup.vhbMv → s.vault.rng ≠ [] →
      Yields (.emberStart) s fun t =>
        t.sys.pwr = .ember ∧ t.ember.step = 12 ∧ t.ember.donor = none ∧ t.ledger.vform = emberBus (t.custField 0x0C0 7 6) ∧
        t.sys.cause = 4 ∧ t.sys.mainenLow = false ∧ t.sys.drvenLow = true ∧ t.sbox = s.sbox ∧ t.vault = s.vault ∧ t.sys.sts
        = s.sys.sts ∧ (s.sys.strapDue = true → t.sys.emberen = (strapMajority s.sys.straps).getLsbD 3 ∧ t.sys.addr =
        (strapMajority s.sys.straps).extractLsb' 0 3)) ∧
  (∀ (s : State) (p : PortId),
      s.sys.pwr = .off → s.sup.vmain = .below → s.ember.stopped = false → (s.sampleStraps).coreStart.startInput = true →
      s.ember.abandoned = 0 → (s.sampleStraps).coreStart.emberForbidden = false → s.sup.vhbMv < 18000 →
      (s.sampleStraps).coreStart.donorOk p = true → (∀ q, q.val < p.val → (s.sampleStraps).coreStart.donorOk q = false) →
      Yields (.emberStart) s fun t =>
        t.sys.pwr = .ember ∧ t.ember.step = 4 ∧ t.ember.donor = some p ∧ t.sys.mainenLow = true ∧ (t.port p).tc.state =
        .attachWaitSnk ∧ (t.port p).tc.ready = true ∧ (t.port p).lg.grant = t.emberCoins ∧ (∀ q, q ≠ p → t.port q =
        (s.sampleStraps).coreStart.port q) ∧ t.sbox = s.sbox) ∧
  (∀ (s : State),
      s.sys.pwr = .off → s.sup.vmain = .below → s.ember.stopped = false → (s.sampleStraps).coreStart.startInput = true →
      s.ember.abandoned = 0 → (s.sampleStraps).coreStart.emberForbidden = true → s.sup.vbat = .ok → s.sup.vdaon = .ok →
      s.vault.rng ≠ [] →
      Yields (.emberStart) s fun t =>
        t =
        { s.sampleStraps with ember := { s.ember with stopped := true, reg := false }, sys := { (s.sampleStraps).sys with resetLow := false } }) ∧
  (∀ (s : State),
      s.sys.pwr = .off → s.sup.vmain = .below → s.ember.stopped = false → (s.sampleStraps).coreStart.startInput = true →
      s.ember.abandoned = 0 → (s.sampleStraps).coreStart.emberForbidden = true → s.sup.vbat = .below →
      Yields (.emberStart) s fun t =>
        t.sys.pwr = .off ∧ t.ember.stopped = true ∧ t.ember.reg = false ∧ t.sys.strapDue = true ∧ t.sys.sts = 0 ∧ t.vault =
        Vault.reset ∧ t.alarm = Alarm.reset ∧ t.ports = s.ports ∧ t.sbox = s.sbox) ∧
  (∀ (s : State) (p : PortId),
      s.sys.pwr = .ember → s.ember.step = 10 → s.ember.donor = some p → s.paramOk p = true → s.armed p = true →
      Yields (.emberIsolationDwell) s fun t =>
        t.ember.step = 11 ∧ t.ledger = s.ledger ∧ (t.port p).cv.dir = 3 ∧ (t.port p).cv.ember = true ∧ (t.port p).cv.vref =
        50 * s.ledger.vform ∧ OthersSame p s t ∧ t.sup = s.sup) ∧
  (∀ (s : State) (p : PortId),
      s.sys.pwr = .ember → s.ember.step < 15 → s.ember.donor = some p → s.sup.vmain = .ok → s.clk.refclk = false → s.clk.pll =
      false →
      Yields (.emberVmainValid) s fun t =>
        t =
        { s with ember := { s.ember with step := 15, excluded := [], abandoned := 0, reg := decide (s.vdrv (dieOf p) ≠ .ok) }, sys := { s.sys with boot := 5, mainenLow := false, drvenLow := false } }) ∧
  (∀ (s : State),
      s.onStart = false → s.sup.vbat = .ok → s.sup.vdaon = .ok → s.sup.vhbMv < 4000 → (∀ q, (s.port q).tc.vbusMv < 4000) →
      Yields (.startInputsFall) s fun t =>
        t = { s with ember := { s.ember with stopped := false, reg := false, excluded := [], abandoned := 0 } }) ∧
  (∀ (s : State) (p : PortId),
      s.sys.pwr = .ember → s.ember.step < 15 → s.sup.vmain = .below → s.sup.vbat = .below → s.sup.vhbMv < 4000 → (∀ q, (s.port
      q).tc.vbusMv < 4000) →
      Yields (.startInputsFall) s fun t =>
        t.sys.pwr = .off ∧ t.ember.stopped = false ∧ t.ember.reg = false ∧ t.ember.abandoned = 0 ∧ t.sys.sts = 0 ∧
        t.sys.strapDue = true ∧ t.vault = Vault.reset ∧ t.alarm = Alarm.reset ∧ (t.port p).tc.ready = false ∧ t.mb =
        Mailbox.reset ∧ t.sbox.mram = s.sbox.mram ∧ t.store = s.store) ∧
  (∀ (s : State) (p : PortId),
      s.sup.vmain = .below → s.sys.pwr = .ember → s.ember.donor = some p → s.ember.step < 15 → s.ember.abandoned = 0 →
      s.ember.excluded = [] → s.sup.vdaon = .ok →
      Yields (.emberAbandon .donorDetached) s fun t =>
        t.sys.pwr = .off ∧ t.ember =
        { s.ember with step := 0, donor := none, abandoned := 1, stopped := false, reg := true, latched := some (2, byteOf p.val 0, byteOf s.ember.step 0, 1), excluded := [p] }
        ∧ (t.port p).tc.state = .errorRecovery ∧ (t.port p).tc.ready = false ∧ (t.port p).lg = LgPort.reset ∧ t.sys.hbisoLow
        = false ∧ t.sys.interp = false ∧ t.sbox.mram = s.sbox.mram) ∧
  (∀ (s : State) (p : PortId),
      s.sup.vmain = .below → s.sys.pwr = .ember → s.ember.donor = some p → s.ember.step < 15 → s.ember.abandoned = 2 →
      s.sup.vbat = .ok → s.sup.vdaon = .ok →
      Yields (.emberAbandon .stepLimit) s fun t =>
        t.sys.pwr = .off ∧ t.ember.stopped = true ∧ t.ember.donor = none ∧ t.ember.abandoned = 3 ∧ t.ember.latched = some
        (1, byteOf p.val 0, byteOf s.ember.step 0, 3) ∧ t.sbox.mram = s.sbox.mram) ∧
  (∀ (s : State) (p : PortId),
      s.sup.vmain = .below → s.sys.pwr = .off → s.sup.vmain = .below → s.ember.stopped = false →
      (s.sampleStraps).coreStart.startInput = true → 0 < s.ember.abandoned → (s.sampleStraps).coreStart.emberForbidden = false
      → s.sup.vhbMv < 18000 → (s.sampleStraps).coreStart.donorOk p = true → (∀ q, q.val < p.val →
      (s.sampleStraps).coreStart.donorOk q = false) →
      Yields (.emberRetry) s fun t =>
        t.sys.pwr = .ember ∧ t.ember.step = 4 ∧ t.ember.donor = some p ∧ t.ember.abandoned = s.ember.abandoned ∧
        t.ember.excluded = s.ember.excluded ∧ t.sys.mainenLow = true ∧ (t.port p).tc.state = .attachWaitSnk ∧ (t.port
        p).lg.grant = t.emberCoins ∧ (∀ q, q ≠ p → t.port q = (s.sampleStraps).coreStart.port q) ∧ t.sbox = s.sbox)

/-- The cold boot reads the fuses, puts every enabled port in its safe default, and runs the blocks up. From power-up the boot to
step 7 samples the straps, latches the fuse image and makes every enabled port READY, one whose trip wire has not tripped in the
state that SAFEROLE gives; the whole boot then has the interpreter, the counters, the Vault and the Strongbox READY, queues the
BOOT record with the cause, and lets Ridgeline listen. Rests on R48, R79, R80, R83, R572. The model's own choices in it: log
entries 10, 11. -/
def Obligations.AColdBootBringsTheDeviceUp : Prop :=
  (∀ (s : State) (p : PortId) (e : Straps),
      s.sys.pwr ≠ .ember → s.sup.vmain = .ok → s.sup.vdcore = .ok → s.sup.vdaon = .ok → s.sys.boot = 0 → s.sys.cause = 1 →
      s.sys.strapDue = true → s.alarm.killPend = false → s.ember.donor = none → (s.port p).sw.tripWire = false → s.clk.refclk
      = false → s.clk.pll = false →
      Yields (.coldBoot ⟨e, [], .ports⟩) s fun t =>
        t.sys.boot = 7 ∧ t.sys.pwr = .run ∧ t.sys.addr = (strapMajority e).extractLsb' 0 3 ∧ t.sys.emberen = (strapMajority
        e).getLsbD 3 ∧ t.fuse = s.fuse.boot ∧ (t.porten p = true → (t.port p).tc.ready = true) ∧ (t.porten p = false →
        (t.port p).tc.ready = (s.port p).tc.ready) ∧ (t.porten p = true → t.saferole p = 3 → (t.port p).tc.state =
        .disabled) ∧ (t.porten p = true → t.saferole p = 0 → (s.port p).tc.vbusMv < 4000 → (t.port p).tc.state =
        .unattachedSrc ∧ (t.port p).tc.rpAdv = .dflt) ∧ (t.porten p = true → t.saferole p = 1 → (s.port p).tc.vbusMv < 4000
        → (t.port p).tc.state = .unattachedSnk ∧ (t.port p).tc.rpAdv = .none) ∧ t.sbox = s.sbox ∧ t.sys.interp =
        s.sys.interp ∧ t.mb = s.mb) ∧
  (∀ (s : State) (e : Straps),
      s.sys.pwr ≠ .ember → s.sup.vmain = .ok → s.sup.vdcore = .ok → s.sup.vdaon = .ok → s.sys.boot = 0 → s.sys.cause = 1 →
      s.sys.strapDue = true → s.alarm.killPend = false → s.ember.donor = none → s.store.entries = [] → s.mb.inbox = [] →
      s.mb.lanes = [] → s.fw.image = [] → s.alarm.latched = [] → s.safety.supLatch = none → s.sbox.queue = [] → s.ring.link =
      0 → s.ring.enable = true → s.ring.bypassed = false → s.ring.refused = false → s.clk.refclk = false →
      Yields (.coldBoot ⟨e, [], .full⟩) s fun t =>
        t.sys.boot = 12 ∧ t.sys.interp = true ∧ t.sys.perfReady = true ∧ t.sys.vaultReady = true ∧ t.sys.sboxReady = true ∧
        t.ring.link = (if t.ridgeen then 1 else 0) ∧ (∃ r, r ∈ t.sbox.queue ∧ r.ty = 1 ∧ nth r.body 8 = 1) ∧ t.sbox.mram =
        s.sbox.mram)

/-- Pair mismatches and interpreter resets. With SAFECFG bit 0 set a pair mismatch marks and records the port, ends its READY and
sends it through ErrorRecovery, a held port only staying out of service; the pair's leaving reset makes it READY again; a
lockstep mismatch and a watchdog expiry record their cause and take the interpreter away, whose return puts back what it held,
counts the restart and sets its event. Rests on R514, R516, R524, R526. The model's own choices in it: log entries 91, 22. -/
def Obligations.FaultsOfThePairsAndTheInterpreter : Prop :=
  (∀ (s : State) (p : PortId),
      s.sys.pwr = .run → s.sys.resetLow = false → s.sbox.queue.length < 32 → s.safeOn 0 = true → s.portReady p = true →
      s.monitorsOn p = true → s.memOn = true → (s.port p).tc.held = false → (s.port p).tc.inReset = false →
      Yields (.pairMismatch p) s fun t =>
        t.safety.portEvt = setBit s.safety.portEvt p.val ∧ t.sbox.queue.length = s.sbox.queue.length + 1 ∧ (t.port
        p).tc.ready = false ∧ (t.port p).tc.inReset = true ∧ (t.port p).tc.state = .errorRecovery ∧ OthersSame p s t ∧
        StoresSame s t) ∧
  (∀ (s : State) (p : PortId),
      s.sys.pwr = .run → s.sys.resetLow = false → s.sbox.queue.length < 32 → s.safeOn 0 = true → s.porten p = true →
      s.monitorsOn p = true → s.memOn = true → (s.port p).tc.held = true →
      Yields (.pairMismatch p) s fun t =>
        t.safety.portEvt = setBit s.safety.portEvt p.val ∧ t.sbox.queue.length = s.sbox.queue.length + 1 ∧ t.port p =
        { s.port p with tc := { (s.port p).tc with inReset := true } } ∧ OthersSame p s t ∧ StoresSame s t) ∧
  (∀ (s : State) (p : PortId),
      s.sys.pwr = .run → s.sys.resetLow = false → (s.port p).tc.inReset = true → (s.port p).tc.held = false →
      Yields (.pairOutOfReset p) s fun t =>
        (t.port p).tc.inReset = false ∧ (t.port p).tc.ready = true ∧ PortOnly p s t) ∧
  (∀ (s : State),
      s.sys.pwr = .run → s.sys.resetLow = false → s.sbox.queue.length < 32 → s.memOn = true → s.sys.interp = true →
      s.sys.interpSeen = true → s.safety.resets = [] →
      Yields (.lockstepMismatch) s fun t =>
        t.safety.evt = setBit s.safety.evt 0 ∧ t.sbox.queue.length = s.sbox.queue.length + 1 ∧ t.sys.interp = false ∧
        t.mb.inbox = s.mb.inbox.map (fun k => { k with stale := true }) ∧ t.mb.lanes = [] ∧ t.mb.replies = s.mb.replies ∧
        t.safety.resets = s.sys.sts :: s.safety.resets.filter (fun x => s.sys.sts.toNat - x.toNat < 10000000) ∧ t.ports =
        s.ports ∧ t.ledger = s.ledger) ∧
  (∀ (s : State),
      s.sys.pwr = .run → s.sys.resetLow = false → s.sbox.queue.length < 32 → s.memOn = true → s.sys.interp = true →
      s.sys.interpSeen = true → s.safety.resets = [] →
      Yields (.watchdogExpiry) s fun t =>
        t.safety.evt = setBit s.safety.evt 1 ∧ t.sbox.queue.length = s.sbox.queue.length + 1 ∧ t.sys.interp = false ∧
        t.mb.inbox = s.mb.inbox.map (fun k => { k with stale := true }) ∧ t.mb.lanes = [] ∧ t.mb.replies = s.mb.replies ∧
        t.safety.resets = s.sys.sts :: s.safety.resets.filter (fun x => s.sys.sts.toNat - x.toNat < 10000000) ∧ t.ports =
        s.ports ∧ t.ledger = s.ledger) ∧
  (∀ (s : State) (r : Reply),
      s.sys.pwr = .run → s.sys.resetLow = false → s.sys.interp = false → s.sys.interpSeen = true → s.mb.aborted = [] →
      s.mb.late = [] → s.mb.inbox = [] → s.mb.lanes = [] → s.mb.held = [r] → s.mb.room r.payload.length = true →
      Yields (.interpreterReturn) s fun t =>
        t.sys.interp = true ∧ t.sys.irestart = satAdd s.sys.irestart 1 ∧ t.sys.evt = setBit s.sys.evt 0 ∧ t.mb.replies =
        s.mb.replies ++ s.mb.held ∧ t.mb.held = [] ∧ PortsSame s t ∧ StoresSame s t)

/-- ECC errors and self-tests. A single-bit error is counted and raises its event; a double-bit error that the scrub finds is
counted, raised and recorded, its word marked, one under the tally reader also spoils the snapshot being gathered; a periodic
test that fails sets STFAIL, raises STFAILED and is recorded, and one that passes clears its bit; a repeat that fails is
recorded as well and leaves SAFEOK at 0. Rests on R515, R521, R522. The model's own choices in it: log entries 91, 87. -/
def Obligations.MemoryFaultsAndSelfTests : Prop :=
  (∀ (s : State) (a : Word),
      s.sys.pwr = .run → s.sys.resetLow = false → 3 ≤ s.sys.boot →
      Yields (.singleBitError a) s fun t =>
        t.safety = { s.safety with eccSbe := satAdd s.safety.eccSbe 1, evt := setBit s.safety.evt 2 } ∧ t =
        { s with safety := t.safety, perf := t.perf }) ∧
  (∀ (s : State) (a : Word),
      s.sys.pwr = .run → s.sys.resetLow = false → 3 ≤ s.sys.boot → s.sbox.queue.length < 32 → s.safeOn 5 = true →
      Yields (.doubleBitError .scrub a) s fun t =>
        t.safety =
        { s.safety with eccDbe := satAdd s.safety.eccDbe 1, evt := setBit s.safety.evt 3, marked := insertMark a s.safety.marked }
        ∧ t.sbox.queue.length = s.sbox.queue.length + 1 ∧ PortsSame s t ∧ StoresSame s t ∧ t.sys = s.sys) ∧
  (∀ (s : State) (a : Word),
      s.sys.pwr = .run → s.sys.resetLow = false → 3 ≤ s.sys.boot → s.sbox.queue.length < 32 → s.perf.gather = true →
      s.perf.again = [] →
      Yields (.doubleBitError .tally a) s fun t =>
        t.safety = { s.safety with eccDbe := satAdd s.safety.eccDbe 1, evt := setBit s.safety.evt 3 } ∧ t.sbox.queue.length
        = s.sbox.queue.length + 1 ∧ PortsSame s t ∧ StoresSame s t ∧ t.perf.snapErr = true ∧ t.perf.snapValid = false ∧
        t.perf.gather = false) ∧
  (∀ (s : State) (a : Word),
      s.sys.pwr = .run → s.sys.resetLow = false → 3 ≤ s.sys.boot → s.sbox.queue.length < 32 → s.memOn = true → s.sys.interp =
      true → s.sys.interpSeen = true → s.safety.resets = [] →
      Yields (.doubleBitError .interp a) s fun t =>
        t.safety.eccDbe = satAdd s.safety.eccDbe 1 ∧ t.safety.evt = setBit s.safety.evt 3 ∧ t.sys.interp = false ∧ PortsSame
        s t) ∧
  (∀ (s : State) (p : PortId),
      s.sys.pwr = .run → s.sys.resetLow = false → 3 ≤ s.sys.boot → s.sbox.queue.length < 32 → s.safeOn 6 = true →
      Yields (.periodicSelfTest 2 p true) s fun t =>
        t.safety =
        { s.safety with stFail := setBit s.safety.stFail 2, evt := setBit s.safety.evt 16, repeatDue := setBit s.safety.repeatDue 2 }
        ∧ t.safeOk = false ∧ t.sbox.queue.length = s.sbox.queue.length + 1 ∧ PortsSame s t ∧ StoresSame s t) ∧
  (∀ (s : State) (p : PortId),
      s.sys.pwr = .run → s.sys.resetLow = false → 3 ≤ s.sys.boot → s.safeOn 6 = true →
      Yields (.periodicSelfTest 6 p false) s fun t =>
        t = { s with safety := { s.safety with stFail := clrBit s.safety.stFail 6 } }) ∧
  (∀ (s : State),
      s.sys.pwr = .run → s.sys.resetLow = false → 3 ≤ s.sys.boot → s.sbox.queue.length < 32 → s.safety.repeatDue.getLsbD 2 =
      true →
      Yields (.selfTestRepeat 2 true) s fun t =>
        t.safety =
        { s.safety with repeatDue := clrBit s.safety.repeatDue 2, stuck := true, stFail := setBit s.safety.stFail 2, evt := setBit s.safety.evt 16 }
        ∧ t.safeOk = false ∧ t.sbox.queue.length = s.sbox.queue.length + 1 ∧ PortsSame s t ∧ StoresSame s t) ∧
  (∀ (s : State),
      s.sys.pwr = .run → s.sys.resetLow = false → 3 ≤ s.sys.boot → s.safety.repeatDue.getLsbD 6 = true →
      Yields (.selfTestRepeat 6 false) s fun t =>
        t =
        { s with safety := { s.safety with repeatDue := clrBit s.safety.repeatDue 6, stFail := clrBit s.safety.stFail 6 } })

/-- A decision cycle grants what is available, and a lane mismatch freezes the Ledger at its repeat. A posted source demand within
its ceiling and the free coins and class cap of the panel account is granted whole in the next cycle; one that lies over the
ceiling MAXGRANT is trimmed to it with reason 0x07; an attached source under contract whose raised demand fits is granted it,
and one that has posted nothing keeps its grant, its contract and its switch; a lane mismatch publishes nothing and is run
again, and at the repeat the Ledger freezes with its event and record, every grant keeping its value; the recovery test that
passes and agrees thaws it. Rests on R300, R302, R303, R305, R320, R518. The model's own choices in it: log entries 56, 4. -/
def Obligations.TheLedgerDecides : Prop :=
  (∀ (s : State) (p : PortId) (n : Nat),
      s.ledgerRuns = true → s.ledger.ready = true → s.ledger.frozen = false → s.ledger.rerun = none → s.ledger.pend = none →
      s.ledger.brPend = [] → s.ledger.bridges = [] → s.sys.hbisoLow = false → s.ring.peers = [] → s.ledger.cfg.shedLvl = 0 →
      s.ledger.borrowed = 0 → s.ledger.lent = 0 → s.ledger.posts = [.demand p n .attach false false] → (∀ q, (s.port q).lg =
      LgPort.reset) → (∀ q, (s.port q).tc.state.attached = false) → (s.port p).tc.state = .unattachedSrc → (s.port p).sw =
      SwPort.reset → (s.port p).tc.held = false → (s.port p).tc.inReset = false → (s.port p).pd.asked = none →
      s.ledger.frozenRel = 0 → s.ledger.cfg.floatE + n ≤ s.ledger.cfg.budget → n ≤ s.ledger.cfg.capW → n ≤ 65535 →
      Yields (.decisionCycle false) s fun t =>
        (t.port p).lg.grant = n ∧ (t.port p).lg.outcome = 1 ∧ (t.port p).lg.reason = 0 ∧ (t.port p).lg.demand = n ∧ (t.port
        p).lg.standing = true ∧ (∀ q, q ≠ p → (t.port q).lg.grant = 0 ∧ (t.port q).tc = (s.port q).tc) ∧ t.ledger.granted =
        n ∧ t.ledger.posts = [] ∧ StoresSame s t) ∧
  (∀ (s : State) (p : PortId) (n : Nat) (m : Nat),
      s.ledgerRuns = true → s.ledger.ready = true → s.ledger.frozen = false → s.ledger.rerun = none → s.ledger.pend = none →
      s.ledger.brPend = [] → s.ledger.bridges = [] → s.sys.hbisoLow = false → s.ring.peers = [] → s.ledger.cfg.shedLvl = 0 →
      s.ledger.borrowed = 0 → s.ledger.lent = 0 → s.ledger.posts = [.demand p n .attach false false] → (∀ q, (s.port
      q).tc.state.attached = false) → (s.port p).tc.state = .unattachedSrc → (s.port p).sw = SwPort.reset → (s.port p).tc.held
      = false → (s.port p).tc.inReset = false → (s.port p).pd.asked = none → s.ledger.frozenRel = 0 → s.ledger.cfg.floatE + n
      ≤ s.ledger.cfg.budget → n ≤ s.ledger.cfg.capW → n ≤ 65535 → (∀ q, q ≠ p → (s.port q).lg = LgPort.reset) → (s.port p).lg
      = { LgPort.reset with maxGrant := m } → 45 ≤ m → m < n →
      Yields (.decisionCycle false) s fun t =>
        (t.port p).lg.grant = m ∧ (t.port p).lg.outcome = 2 ∧ (t.port p).lg.reason = 7 ∧ (t.port p).lg.demand = n ∧ (t.port
        p).lg.standing = true ∧ (∀ q, q ≠ p → (t.port q).lg.grant = 0 ∧ (t.port q).tc = (s.port q).tc) ∧ t.ledger.granted =
        m ∧ t.ledger.posts = [] ∧ StoresSame s t) ∧
  (∀ (s : State) (p : PortId) (n : Nat) (g : Nat),
      s.ledgerRuns = true → s.ledger.ready = true → s.ledger.frozen = false → s.ledger.rerun = none → s.ledger.pend = none →
      s.ledger.brPend = [] → s.ledger.bridges = [] → s.sys.hbisoLow = false → s.ring.peers = [] → s.ledger.cfg.shedLvl = 0 →
      s.ledger.borrowed = 0 → s.ledger.lent = 0 → s.ledger.posts = [.demand p n .attach false false] → (s.port p).tc.held =
      false → (s.port p).tc.inReset = false → (s.port p).pd.asked = none → s.ledger.frozenRel = 0 → s.ledger.cfg.floatE + n ≤
      s.ledger.cfg.budget → n ≤ s.ledger.cfg.capW → n ≤ 65535 → (s.port p).tc.state = .attachedSrc → (s.port p).tc.leaving =
      false → (s.port p).pd.contract = .explicit → (s.port p).sw = { SwPort.reset with st := .closed } → (∀ q, q ≠ p → (s.port
      q).lg = LgPort.reset ∧ (s.port q).tc.state.attached = false) → (s.port p).lg =
      { LgPort.reset with outcome := 1, grant := g, demand := g, standing := true } → g ≤ n → (s.port p).swap = SwapPort.reset
      →
      Yields (.decisionCycle false) s fun t =>
        (t.port p).lg.grant = n ∧ (t.port p).lg.outcome = 1 ∧ (t.port p).lg.demand = n ∧ (t.port p).pd.contract = .explicit
        ∧ (t.port p).pd.terms = (s.port p).pd.terms ∧ (t.port p).tc = (s.port p).tc ∧ (t.port p).sw = (s.port p).sw ∧ (∀ q,
        q ≠ p → (t.port q).lg.grant = 0 ∧ (t.port q).tc = (s.port q).tc) ∧ t.ledger.granted = n ∧ t.ledger.posts = [] ∧
        StoresSame s t) ∧
  (∀ (s : State) (p : PortId) (n : Nat) (g : Nat),
      s.ledgerRuns = true → s.ledger.ready = true → s.ledger.frozen = false → s.ledger.rerun = none → s.ledger.pend = none →
      s.ledger.brPend = [] → s.ledger.bridges = [] → s.sys.hbisoLow = false → s.ring.peers = [] → s.ledger.cfg.shedLvl = 0 →
      s.ledger.borrowed = 0 → s.ledger.lent = 0 → s.ledger.posts = [] → (s.port p).tc.held = false → (s.port p).tc.inReset =
      false → (s.port p).pd.asked = none → s.ledger.frozenRel = 0 → s.ledger.cfg.floatE + n ≤ s.ledger.cfg.budget → (s.port
      p).tc.state = .attachedSrc → (s.port p).tc.leaving = false → (s.port p).pd.contract = .explicit → (s.port p).sw =
      { SwPort.reset with st := .closed } → (∀ q, q ≠ p → (s.port q).lg = LgPort.reset ∧ (s.port q).tc.state.attached = false)
      → (s.port p).lg = { LgPort.reset with outcome := 1, grant := g, demand := g, standing := true } → (s.port p).swap =
      SwapPort.reset → g = n → n ≤ s.ledger.cfg.capW → n ≤ 65535 →
      Yields (.decisionCycle false) s fun t =>
        (t.port p).lg.grant = g ∧ (t.port p).lg.outcome = 1 ∧ (t.port p).pd.contract = .explicit ∧ (t.port p).pd.terms =
        (s.port p).pd.terms ∧ (t.port p).tc = (s.port p).tc ∧ (t.port p).sw = (s.port p).sw ∧ t.ledger.granted = g ∧
        StoresSame s t) ∧
  (∀ (s : State),
      s.ledgerRuns = true → s.safeOn 2 = true → s.ledger.frozen = false → s.ledger.rerun = none →
      Yields (.decisionCycle true) s fun t =>
        t.ledger.rerun.map (·.posts) = some s.ledger.posts.length ∧ t.ledger.posts = s.ledger.posts ∧ t.ledger.evt.getLsbD 6
        = true ∧ t.ledger.frozen = false ∧ (∀ q, (t.port q).lg.grant = (s.port q).lg.grant ∧ (t.port q).lg.outcome = (s.port
        q).lg.outcome) ∧ t.ledger.granted = s.ledger.granted ∧ t.sbox = s.sbox) ∧
  (∀ (s : State),
      s.ledgerRuns = true → s.safeOn 2 = true → s.ledger.frozen = false → s.ledger.rerun.isSome = true → s.ledger.freezes = []
      → s.sbox.queue.length < 32 →
      Yields (.decisionCycle true) s fun t =>
        t.ports = s.ports ∧ t.ledger.frozen = true ∧ t.ledger.stuck = s.ledger.stuck ∧ t.ledger.evt = setBit (setBit
        s.ledger.evt 6) 7 ∧ t.ledger.posts = s.ledger.posts ∧ t.sbox.queue.length = s.sbox.queue.length + 1) ∧
  (∀ (s : State) (p : PortId),
      s.ledgerRuns = true → s.sys.pwr = .run → s.sys.resetLow = false → 3 ≤ s.sys.boot → s.ledger.frozen = true →
      s.ledger.stuck = false → s.sbox.queue.length < 32 →
      Yields (.freezeRecoveryTest true true) s fun t =>
        t.ledger.frozen = false ∧ t.ledger.frozenRel = 0 ∧ (t.port p).lg = (s.port p).lg ∧ t.sbox.queue.length =
        s.sbox.queue.length + 1) ∧
  (∀ (s : State),
      s.ledgerRuns = true → s.sys.pwr = .run → s.sys.resetLow = false → 3 ≤ s.sys.boot → s.ledger.frozen = true →
      s.ledger.stuck = false →
      Yields (.freezeRecoveryTest false true) s fun t =>
        t.ledger.frozen = true ∧ t.ledger.stuck = true ∧ t.ledger.ready = false ∧ t.safety.stFail = setBit s.safety.stFail 5
        ∧ PortsSame s t)

/-- Record writes, the background re-read and KILL programming. The head record is written to the slot its type calls for, with the
next sequence number and a valid COMMIT, both headers following, and leaves the queue; a record that fails its read-back twice
leaves COMMIT 0 in its slot, raises WRERR and goes to the next; a re-read that finds nothing leaves the fuses and the record
queue alone, and one that reads a word changed shows that word and no other; KILL programming ends KILLPEND and sets KILLDONE,
and the latched image stays. Rests on R542, R543, R560, R569, R571, R572, R574. The model's own choices in it: log entries 80,
79, 77. -/
def Obligations.RecordsAndFusesOnTheirOwn : Prop :=
  (∀ (s : State) (r : Rec) (q : List Rec),
      s.sys.interp = true → s.sys.sboxReady = true → s.sbox.queue = r :: q → s.sbox.lost = 0 → r.body.length ≤ 48 →
      s.sbox.mram.wf = true → pinnedType r.ty = false →
      Yields (.recordWrite 0) s fun t =>
        t.sbox.queue = q ∧ t.sbox.jnext = jNext s.sbox.jnext ∧ t.sbox.pinned = s.sbox.pinned ∧ committed (t.sbox.slot
        s.sbox.jnext) = true ∧ recSeq (t.sbox.slot s.sbox.jnext) = s.sbox.nextSeq ∧ t.sbox.newest = s.sbox.nextSeq ∧
        t.sbox.nextSeq = seqNext s.sbox.nextSeq ∧ t.sbox.hdrA = some ⟨s.sbox.gen + 1, t.sbox.nextSeq, t.sbox.pinned,
        t.sbox.jnext⟩ ∧ t.sbox.hdrB = t.sbox.hdrA ∧ (∀ a, (a < 64 * s.sbox.jnext ∨ 64 * s.sbox.jnext + 64 ≤ a) →
        t.sbox.mram.read a = s.sbox.mram.read a) ∧ t = { s with sbox := t.sbox, perf := t.perf }) ∧
  (∀ (s : State) (r : Rec) (q : List Rec),
      s.sys.interp = true → s.sys.sboxReady = true → s.sbox.queue = r :: q → s.sbox.lost = 0 → r.body.length ≤ 48 →
      s.sbox.mram.wf = true → pinnedType r.ty = true → s.sbox.pinned < 256 →
      Yields (.recordWrite 0) s fun t =>
        t.sbox.queue = q ∧ t.sbox.pinned = s.sbox.pinned + 1 ∧ t.sbox.jnext = s.sbox.jnext ∧ committed (t.sbox.slot
        s.sbox.pinned) = true ∧ recSeq (t.sbox.slot s.sbox.pinned) = s.sbox.nextSeq ∧ t.sbox.evt = (if s.sbox.pinned = 255
        then setBit s.sbox.evt 0 else s.sbox.evt) ∧ (∀ a, (a < 64 * s.sbox.pinned ∨ 64 * s.sbox.pinned + 64 ≤ a) →
        t.sbox.mram.read a = s.sbox.mram.read a)) ∧
  (∀ (s : State) (r : Rec) (q : List Rec),
      s.sys.interp = true → s.sys.sboxReady = true → s.sbox.queue = r :: q → s.sbox.lost = 0 → r.body.length ≤ 48 →
      s.sbox.mram.wf = true → pinnedType r.ty = false → 256 ≤ s.sbox.jnext → s.sbox.jnext < 8192 →
      Yields (.recordWrite 2) s fun t =>
        t.sbox.queue = q ∧ t.sbox.jnext = jNext (jNext s.sbox.jnext) ∧ field (t.sbox.slot s.sbox.jnext) 60 4 = 0 ∧
        t.sbox.evt = setBit s.sbox.evt 2 ∧ committed (t.sbox.slot (jNext s.sbox.jnext)) = true ∧ recSeq (t.sbox.slot (jNext
        s.sbox.jnext)) = s.sbox.nextSeq) ∧
  (∀ (s : State),
      s.sys.interp = true → s.sys.sboxReady = true → s.coreOn = true → 4 ≤ s.sys.boot → s.sys.pwr ≠ .sleep → s.fuse.changes =
      [] →
      Yields (.fuseRereadPass []) s fun t =>
        t.fuse.normal = s.fuse.normal ∧ t.fuse.strict = s.fuse.strict ∧ t.fuse.latched = s.fuse.latched ∧ t.sbox.queue =
        s.sbox.queue ∧ PortsSame s t) ∧
  (∀ (s : State),
      s.sys.interp = true → s.sys.sboxReady = true → s.coreOn = true → 4 ≤ s.sys.boot → s.sys.pwr ≠ .sleep → s.fuse.normal.wf
      = true →
      Yields (.fuseRereadPass [⟨0x100, 1, 1⟩]) s fun t =>
        t.fuse.normal = s.fuse.normal.setWord 0x100 1 ∧ t.fuse.strict = s.fuse.strict.setWord 0x100 1 ∧ t.fuse.latched =
        s.fuse.latched ∧ (∀ a, (a < 0x400 ∨ 0x404 ≤ a) → t.fuse.normal.read a = s.fuse.normal.read a)) ∧
  (∀ (s : State),
      s.sys.interp = true → s.sys.sboxReady = true → s.alarm.killPend = true → s.sup.vmain = .ok → s.coreOn = true → 4 ≤
      s.sys.boot → s.fuse.queue = [] →
      Yields (.killProgrammingComplete) s fun t =>
        t.alarm.killPend = false ∧ t.alarm.evt = setBit s.alarm.evt 7 ∧ t.fuse.latched = s.fuse.latched ∧ t.vault = s.vault
        ∧ PortsSame s t)

/-- The alarm's actions, the nonce's expiry and key generation. A detected source whose action is LOG sets its ALMEVT bit and posts
an ALARM record; with ALARM the Vault is also emptied and Lantern locked; with KILL the killing also falls due; a source that
still holds does not fire again; an expired nonce is gone; a refused KEYGEN says so and programs nothing, and one that succeeds
ends OK. Rests on R473, R535, R540, R541. The model's own choices in it: log entries 83, 84, 85. -/
def Obligations.AlarmsActAndKeysAreMade : Prop :=
  (∀ (s : State),
      s.aonOn = true → s.sys.pwr = .run → s.sys.resetLow = false → s.alarm.present.getLsbD 4 = false → (s.almCfg 4).action = 0
      → s.sbox.queue.length < 32 →
      Yields (.alarmDetection 16) s fun t =>
        t.alarm = { s.alarm.seen 16 with evt := setBit s.alarm.evt 4 } ∧ t.alarm.present.getLsbD 4 = true ∧
        t.sbox.queue.length = s.sbox.queue.length + 1 ∧ t.vault = s.vault ∧ t.lantern = s.lantern ∧ PortsSame s t) ∧
  (∀ (s : State),
      s.aonOn = true → s.sys.pwr = .run → s.sys.resetLow = false → s.alarm.present.getLsbD 4 = false → (s.almCfg 4).action = 1
      → s.sbox.queue.length < 32 →
      Yields (.alarmDetection 16) s fun t =>
        t.alarm.evt = setBit s.alarm.evt 4 ∧ t.alarm.killPend = s.alarm.killPend ∧ t.sbox.queue.length = s.sbox.queue.length
        + 1 ∧ t.vault.priv = none ∧ t.vault.nonce = none ∧ t.vault.zeroized = true ∧ t.vault.slots = Vector.replicate 8
        KeySlot.reset ∧ t.lantern.unlocked = false ∧ PortsSame s t) ∧
  (∀ (s : State),
      s.aonOn = true → s.sys.pwr = .run → s.sys.resetLow = false → s.alarm.present.getLsbD 4 = false → (s.almCfg 4).action = 2
      → s.fuse.run = none →
      Yields (.alarmDetection 16) s fun t =>
        t.alarm.evt = setBit s.alarm.evt 4 ∧ t.alarm.killPend = true ∧ t.vault.priv = none ∧ t.vault.zeroized = true ∧
        t.lantern.unlocked = false ∧ PortsSame s t) ∧
  (∀ (s : State),
      s.aonOn = true → s.sys.pwr = .run → s.sys.resetLow = false → s.alarm.present.getLsbD 4 = true →
      Yields (.alarmDetection 16) s fun t =>
        t = { s with alarm := s.alarm.seen 16 }) ∧
  (∀ (s : State),
      s.aonOn = true → s.sys.pwr = .run → s.sys.resetLow = false →
      Yields (.nonceExpiry) s fun t =>
        t = { s with vault := { s.vault with nonce := none } }) ∧
  (∀ (s : State),
      s.aonOn = true → s.sys.pwr = .run → s.sys.resetLow = false → s.lanternen = true → s.memOn = true → s.lantern.unlocked =
      true → s.lantern.watch = false → s.lantern.keygen = none → s.lantern.wait = [] → s.lantern.fill = 0 → s.sys.interp =
      true → s.fuseBusy = false → s.keygenRefused = true →
      Yields (.keygen false) s fun t =>
        t.lantern.out = ["E REFUSED"] ∧ t = { s with lantern := t.lantern }) ∧
  (∀ (s : State),
      s.aonOn = true → s.sys.pwr = .run → s.sys.resetLow = false → s.lanternen = true → s.memOn = true → s.lantern.unlocked =
      true → s.lantern.watch = false → s.lantern.keygen = none → s.lantern.wait = [] → s.lantern.fill = 0 → s.sys.interp =
      true → s.fuseBusy = false → s.keygenRefused = false →
      Yields (.keygen false) s fun t =>
        t.lantern.out.length = 3 ∧ t.lantern.out.getLast? = some "OK" ∧ t.vault.rng = s.stirred.vault.rng ∧ t.fuse.latched =
        s.fuse.latched ∧ t.fuse.run = none ∧ PortsSame s t)

/-- Slots, cycles, the handover, echoes and link status. When the EOT reaches a joined node it sends its own control frame under its
number and code, at most one data frame, and the EOT; a joining node sends JOIN, and one that leaves LEAVE, its bypass closing
after the cycle; the master strips its EOT and starts the next cycle with its CYCLE first; a master that named a successor gives
way, and the successor begins; a train not back in time is an overrun; an echo request is answered under the node's own number,
and the round trip of a reply gives one of the last 16 measures of the west segment; that a link-status word changes nothing,
and what number the echoes bear, is the model's choice. Rests on R340, R347, R352, R355, R357, R358, R360, R362. The model's own
choices in it: log entries 63, 65, 120. -/
def Obligations.RidgelineSendsItsFrames : Prop :=
  (∀ (s : State),
      s.ring.link = 2 → s.ring.leaveDue = false → s.ring.joinDue = false → s.ring.gapClose = false → s.ringHears = true →
      s.ring.wsync = true →
      Yields (.ringSlot) s fun t =>
        nth (sentFrame t.ring.out 0) 0 = fcNode ∧ nth (sentFrame t.ring.out 0) 1 = s.ring.node ∧ frameGood (sentFrame
        t.ring.out 0) = true ∧ t.ring.out.head? = some (.k 0x3C) ∧ t.ring.out.getLast? = some (.k 0xFD) ∧ t.ring.out.length
        ≤ 67 ∧ t.ring.link = s.ring.link ∧ t.ring.node = s.ring.node ∧ PortsSame s t ∧ StoresSame s t) ∧
  (∀ (s : State),
      s.ring.link = 1 → s.ring.leaveDue = false → s.ring.joinDue = true → s.ring.gapClose = false → s.ringHears = true →
      s.ring.wsync = true →
      Yields (.ringSlot) s fun t =>
        nth (sentFrame t.ring.out 0) 0 = fcJoin ∧ nth (sentFrame t.ring.out 0) 1 = s.ring.node ∧ frameGood (sentFrame
        t.ring.out 0) = true ∧ t.ring.out.head? = some (.k 0x3C) ∧ t.ring.out.getLast? = some (.k 0xFD) ∧ t.ring.out.length
        ≤ 67 ∧ t.ring.joinDue = false ∧ t.ring.joinSent = true ∧ PortsSame s t) ∧
  (∀ (s : State),
      s.ring.link = 2 → s.ring.leaveDue = true → s.ring.gapClose = false → s.ringHears = true → s.ring.wsync = true →
      Yields (.ringSlot) s fun t =>
        nth (sentFrame t.ring.out 0) 0 = fcLeave ∧ nth (sentFrame t.ring.out 0) 1 = s.ring.node ∧ frameGood (sentFrame
        t.ring.out 0) = true ∧ t.ring.out.head? = some (.k 0x3C) ∧ t.ring.out.getLast? = some (.k 0xFD) ∧ t.ring.out.length
        ≤ 67 ∧ t.ring.gapClose = true ∧ t.ring.link = 2 ∧ t.ring.ready = s.ring.ready ∧ PortsSame s t) ∧
  (∀ (s : State),
      s.ring.link = 3 → s.ring.trainOut = true → s.ringHears = true → s.ring.wsync = true →
      Yields (.ringSlot) s fun t =>
        t.ring = { s.ring with trainOut := false, ttMeas := t.ring.ttMeas, out := [.k 0xBC] } ∧ t =
        { s with ring := t.ring, free := s.free + 1 }) ∧
  (∀ (s : State),
      s.ring.link = 3 → s.ring.handover = 0 → s.ring.trainOut = false → s.ring.leaveDue = false → s.ring.gapClose = false →
      s.ring.joinDue = false → s.ring.joiners = [] → s.ring.recalls = [] →
      Yields (.masterCycleStart) s fun t =>
        nth (sentFrame t.ring.out 0) 0 = fcCycle ∧ nth (sentFrame t.ring.out 0) 1 = s.ring.node ∧ frameGood (sentFrame
        t.ring.out 0) = true ∧ t.ring.out.head? = some (.k 0x3C) ∧ t.ring.out.getLast? = some (.k 0xFD) ∧ t.ring.out.length
        ≤ 100 ∧ nth (sentFrame t.ring.out 0) 3 = s.ring.cyc + 1 ∧ nth (sentFrame t.ring.out 1) 0 = fcNode ∧ nth (sentFrame
        t.ring.out 1) 1 = s.ring.node ∧ frameGood (sentFrame t.ring.out 1) = true ∧ t.ring.wout = orderedSet 0x02
        s.ring.node s.ring.wseq ∧ t.ring.cyc = s.ring.cyc + 1 ∧ t.ring.trainOut = true ∧ PortsSame s t) ∧
  (∀ (s : State),
      s.ring.link = 3 → s.ring.handover ≠ 0 → s.ring.ringDown = false → s.ring.gapClose = false →
      Yields (.masterCycleStart) s fun t =>
        t.ring.link = 2 ∧ t.ring.master = s.ring.handover ∧ t.ring.trainOut = false ∧ t = { s with ring := t.ring }) ∧
  (∀ (s : State),
      s.ring.link = 2 → s.ring.handover = s.ring.node → s.ring.leaveDue = false → s.ring.gapClose = false →
      Yields (.masterCycleStart) s fun t =>
        t.ring.link = 3 ∧ t.ring.master = s.ring.node ∧ t.ring.trainOut = true ∧ PortsSame s t) ∧
  (∀ (s : State),
      s.ring.link = 3 → s.ring.trainOut = true →
      Yields (.cycleOverrun) s fun t =>
        t = { s with ring := { s.ring with evt := setBit s.ring.evt 9 }, perf := t.perf }) ∧
  (∀ (s : State) (n : Node) (q : Byte),
      s.ring.link = 2 → s.ring.esync = true → n ≠ 0 →
      Yields (.echoRequest n q) s fun t =>
        t = { s with ring := { s.ring with out := orderedSet 0x03 s.ring.node q } }) ∧
  (∀ (s : State) (n : Node) (rtt : Nat),
      s.ring.link = 2 → s.ring.wsync = true → n ≠ 0 →
      Yields (.echoReply n rtt) s fun t =>
        t = { s with ring := { s.ring with west := ((rtt - 400) / 2 :: s.ring.west).take 16 } }) ∧
  (∀ (s : State) (n : Node) (q : Byte),
      Yields (.linkStatus n q) s fun t =>
        t = s)

/-- Frames received on the ring. An intact CYCLE of another node is counted, sets the cycle and the master, and goes on east where
the bypass is open; a damaged control frame is counted in RGCRC with its event; an intact NODE frame of a present node gives its
shed level; a JOIN waits for the next CYCLE; a LEAVE drops the node with its event; a PANEL_INFO is kept with its event. Rests
on R342, R347, R350, R355, R358, R364. The model's own choices in it: log entry 58. -/
def Obligations.RidgelineTakesFramesIn : Prop :=
  (∀ (s : State) (f : List Byte),
      s.ring.link = 2 → s.ring.joinDue = false → s.ring.joinSent = false → s.ring.gapClose = false → nth f 1 ≠ s.ring.node →
      s.ringHears = true → s.ring.wsync = true → frameGood f = true → f.length = 32 → nth f 0 = fcCycle → s.ring.present (nth
      f 1) = true → s.ring.recalls = [] →
      Yields (.cycle f) s fun t =>
        t.ring.cyc = nth f 3 ∧ t.ring.master = nth f 1 ∧ t.ring.link = 2 ∧ t.ring.crc = s.ring.crc ∧ t.ring.out.length = 33
        ∧ nth (sentFrame t.ring.out 0) 0 = fcCycle ∧ t.ring.passed = 1 ∧ t.ring.dcount = (nth f 19).toNat ∧ t.sys = s.sys ∧
        PortsSame s t) ∧
  (∀ (s : State) (f : List Byte),
      s.ring.link = 2 → s.ring.joinDue = false → s.ring.joinSent = false → s.ring.gapClose = false → nth f 1 ≠ s.ring.node →
      s.ringHears = true → s.ring.wsync = true → frameGood f = false → nth f 0 = fcCycle →
      Yields (.cycle f) s fun t =>
        t.ring.crc = satAdd s.ring.crc 1 ∧ t.ring.evt = setBit s.ring.evt 7 ∧ t.ring.cyc = s.ring.cyc ∧ t.ring.master =
        s.ring.master ∧ t.ring.link = 2 ∧ PortsSame s t) ∧
  (∀ (s : State) (f : List Byte),
      s.ring.link = 2 → s.ring.joinDue = false → s.ring.joinSent = false → s.ring.gapClose = false → nth f 1 ≠ s.ring.node →
      s.ringHears = true → s.ring.wsync = true → frameGood f = true → nth f 0 = fcNode → s.ring.present (nth f 1) = true →
      field f 6 2 = 0 →
      Yields (.node f) s fun t =>
        t.ring.peers = s.ring.peers.map (fun q => if q.node == nth f 1 then { q with shed := (nth f 4).truncate 2 } else q)
        ∧ t.ring.out = frameSyms f ∧ t.ring.passed = s.ring.passed + 1 ∧ PortsSame s t ∧ t.ring.crc = s.ring.crc) ∧
  (∀ (s : State) (f : List Byte),
      s.ring.link = 2 → s.ring.joinDue = false → s.ring.joinSent = false → s.ring.gapClose = false → nth f 1 ≠ s.ring.node →
      s.ringHears = true → s.ring.wsync = true → frameGood f = false → nth f 0 = fcNode → field f 6 2 = 0 →
      Yields (.node f) s fun t =>
        t =
        { s with ring := { s.ring with crc := satAdd s.ring.crc 1, evt := setBit s.ring.evt 7, out := frameSyms f, passed := s.ring.passed + 1 }, perf := t.perf }) ∧
  (∀ (s : State) (f : List Byte),
      s.ring.link = 2 → s.ring.joinDue = false → s.ring.joinSent = false → s.ring.gapClose = false → nth f 1 ≠ s.ring.node →
      s.ringHears = true → s.ring.wsync = true → frameGood f = true → nth f 0 = fcJoin →
      Yields (.join f) s fun t =>
        t =
        { s with ring := { s.ring with joiners := s.ring.joiners ++ [(nth f 1, nth f 5)], out := frameSyms f, passed := s.ring.passed + 1 }, perf := t.perf }) ∧
  (∀ (s : State) (f : List Byte),
      s.ring.link = 2 → s.ring.joinDue = false → s.ring.joinSent = false → s.ring.gapClose = false → nth f 1 ≠ s.ring.node →
      s.ringHears = true → s.ring.wsync = true → frameGood f = true → nth f 0 = fcLeave → s.ring.present (nth f 1) = true →
      Yields (.leave f) s fun t =>
        t.ring.present (nth f 1) = false ∧ t.ring.evt = setBit s.ring.evt 3 ∧ t.ring.out = frameSyms f ∧ t.ring.link = 2 ∧
        PortsSame s t ∧ t.ledger = s.ledger) ∧
  (∀ (s : State) (f : List Byte),
      s.ring.link = 2 → s.ring.joinDue = false → s.ring.joinSent = false → s.ring.gapClose = false → nth f 1 ≠ s.ring.node →
      s.ringHears = true → s.ring.wsync = true → nth f 0 = fcInfo → s.ring.present (nth f 1) = true →
      Yields (.panelInfo f) s fun t =>
        t.ring.infos.getLast? = some (nth f 1, 0, (f.drop 4).take 28) ∧ t.ring.evt = setBit s.ring.evt 10 ∧ t.ring.out =
        frameSyms f ∧ t = { s with ring := t.ring, perf := t.perf }) ∧
  (∀ (s : State) (f : List Byte),
      s.ring.link = 2 → s.ring.joinDue = false → s.ring.joinSent = false → s.ring.gapClose = false → nth f 1 ≠ s.ring.node →
      s.ringHears = true → s.ring.wsync = true → nth f 0 = 0x05 →
      Yields (.node f) s fun t =>
        t.ring.out = frameSyms f ∧ t.ring.peers = s.ring.peers ∧ t =
        { s with ring := { s.ring with crc := t.ring.crc, evt := t.ring.evt, out := t.ring.out, passed := t.ring.passed }, perf := t.perf })

/-- Synchronisation, joining, losing nodes and their loans. A receiver's synchronisation and its loss are shown; a node that has
heard three cycles and no frame under its own number goes on to send JOIN, and one that heard none is master of a ring of one; a
lost node is dropped with its event and its loans are then withdrawn; an offer that no acknowledgement met within three cycles
is taken back and returns its coins, and a younger one stands; RINGDOWN drops every node and sets its event, and without a CYCLE
makes the node master; a master that hears a lower one follows it and joins anew. Rests on R324, R327, R338, R354, R365, R366,
R367. The model's own choices in it: log entries 57, 52, 64. -/
def Obligations.RidgelineJoinsLendsAndLoses : Prop :=
  (∀ (s : State),
      s.ringHears = true →
      Yields (.syncAcquired true) s fun t =>
        t = { s with ring := { s.ring with esync := true } }) ∧
  (∀ (s : State),
      s.ringHears = true →
      Yields (.syncAcquired false) s fun t =>
        t = { s with ring := { s.ring with wsync := true } }) ∧
  (∀ (s : State),
      Yields (.syncLoss true) s fun t =>
        t = { s with ring := { s.ring with esync := false }, perf := t.perf }) ∧
  (∀ (s : State),
      Yields (.syncLoss false) s fun t =>
        t = { s with ring := { s.ring with wsync := false }, perf := t.perf }) ∧
  (∀ (s : State),
      s.sys.interp = true → s.ring.link = 1 → s.ring.isOpen = false → s.ring.node ≠ 0 → s.ring.wsync = true → s.ring.clean = 3
      → s.ring.present s.ring.node = false →
      Yields (.ringJoin) s fun t =>
        t.ring.joinDue = true ∧ t.ring.link = 1 ∧ t = { s with ring := t.ring }) ∧
  (∀ (s : State),
      s.sys.interp = true → s.ring.link = 1 → s.ring.isOpen = false → s.ring.node ≠ 0 →
      Yields (.masterOfRingOfOne) s fun t =>
        t.ring.link = 3 ∧ t.ring.master = t.ring.node ∧ t.ring.peers = [] ∧ t = { s with ring := t.ring }) ∧
  (∀ (s : State) (n : Node),
      s.ring.link = 2 → s.ring.present n = true →
      Yields (.nodelost n) s fun t =>
        t.ring.present n = false ∧ t.ring.evt = setBit s.ring.evt 3 ∧ (s.ring.deals n = true → t.ring.lostNodes.contains n =
        true) ∧ t = { s with ring := t.ring, perf := t.perf }) ∧
  (∀ (s : State) (n : Node),
      s.ring.lostNodes.contains n = true → loanOf s.ring.lentTo n ≠ 0 → s.sbox.queue.length < 32 →
      Yields (.loanWithdraw n) s fun t =>
        loanOf t.ring.lentTo n = 0 ∧ loanOf t.ring.borrowedFrom n = 0 ∧ t.ring.lostNodes.contains n = false ∧
        t.ledger.borrowed = sumLoans t.ring.borrowedFrom ∧ t.ledger.evt.getLsbD 4 = true ∧ t.sbox.queue.length =
        s.sbox.queue.length + 1 ∧ PortsSame s t) ∧
  (∀ (s : State) (n : Node),
      s.ring.offers = [⟨n, 50, 3⟩] →
      Yields (.offerTakeback n) s fun t =>
        (t.ring.offers.any fun o => o.node == n) = false ∧ t.ring.borrowedFrom = s.ring.borrowedFrom ∧ t.ledger.lent =
        sumLoans t.ring.lentTo + sumLoans t.ring.offers ∧ PortsSame s t ∧ loanOf t.ring.lentTo n = loanOf s.ring.lentTo n) ∧
  (∀ (s : State) (n : Node),
      (∀ o ∈ s.ring.offers, o.age < 3) →
      Yields (.offerTakeback n) s fun t =>
        t = s) ∧
  (∀ (s : State),
      s.ring.link = 2 →
      Yields (.ringdown true) s fun t =>
        t.ring.link = 3 ∧ t.ring.master = s.ring.node ∧ t.ring.ringDown = true ∧ t.ring.peers = [] ∧ t.ring.evt.getLsbD 6 =
        true ∧ PortsSame s t) ∧
  (∀ (s : State),
      s.ring.isOpen = true →
      Yields (.ringdown false) s fun t =>
        t.ring.link = s.ring.link ∧ t.ring.master = s.ring.master ∧ t.ring.ringDown = true ∧ t.ring.peers = [] ∧
        t.ring.evt.getLsbD 6 = true ∧ PortsSame s t) ∧
  (∀ (s : State) (n : Node),
      s.ring.link = 3 → n ≠ 0 → n < s.ring.node → s.ring.handover ≠ n →
      Yields (.lowerMasterCycle n) s fun t =>
        t.ring.link = 1 ∧ t.ring.joinDue = true ∧ t.ring.master = n ∧ t.ring.peers = [] ∧ PortsSame s t)

/-- The host's transactions with the window and the mailbox. With VIO in range, the address RA + 8 takes a packet whose header code
is right into the mailbox, where the interpreter that is away leaves it, and discards and counts any other; a read returns the
head reply's bytes, 0xFF beyond them, and a reply read whole leaves; the address RA writes the window from its first byte,
selects a page that exists, and changes a host-address register; each count read is cleared; the group address freezes and
releases the counters. A byte that the host abandons has no effect, so that a PAGE write not yet at its STOP leaves the page and
a group write with no byte acknowledged does nothing; an SCLH time-out discards the packet being written and counts it, while
the GCODE acknowledged before it acts. By the model's choice a packet that a VIO excursion cuts off is discarded and counted,
and a GCODE acts at the end of its transaction. Rests on R372, R376, R378, R380, R382, R385, R387, R391, R392, R393, R411. The
model's own choices in it: log entries 66, 67. -/
def Obligations.HostTransactions : Prop :=
  (∀ (s : State) (b : List Byte),
      s.hostUp = true → s.sys.interpSeen = true → s.sys.interp = false → s.mb.inbox.length < 16 → s.mb.lanes = [] → headerOk b
      = true → b.length ≤ 1032 →
      Yields (.mailboxWrite (0x58 + s.sys.addr.zeroExtend 7) b) s fun t =>
        t.bus.acked = true ∧ t.mb = { s.mb with inbox := s.mb.inbox ++ [{ packetOf b with sts := s.sys.sts }] } ∧ PortsSame
        s t ∧ t.bus.hdrErr = s.bus.hdrErr) ∧
  (∀ (s : State) (b : List Byte),
      s.hostUp = true → s.mb.inbox.length < 16 → headerOk (b.take 1032) = false →
      Yields (.mailboxWrite (0x58 + s.sys.addr.zeroExtend 7) b) s fun t =>
        t.bus.acked = true ∧ t.mb = s.mb ∧ t.bus.hdrErr = satAdd s.bus.hdrErr 1 ∧ PortsSame s t) ∧
  (∀ (s : State) (n : Nat) (r : Reply),
      s.hostUp = true → s.mb.replies = [r] → n < r.bytes.length →
      Yields (.mailboxRead (0x58 + s.sys.addr.zeroExtend 7) n) s fun t =>
        t.bus.acked = true ∧ t.bus.out = (r.bytes.take n) ∧ t.mb = s.mb ∧ PortsSame s t) ∧
  (∀ (s : State) (n : Nat) (r : Reply),
      s.hostUp = true → s.mb.replies = [r] → r.bytes.length ≤ n → s.sys.interp = false → s.sys.interpSeen = true → s.mb.held =
      [] → s.mb.inbox = [] → s.mb.lanes = [] →
      Yields (.mailboxRead (0x58 + s.sys.addr.zeroExtend 7) n) s fun t =>
        t.bus.out = r.bytes ++ List.replicate (n - r.bytes.length) 0xFF ∧ t.mb.replies = [] ∧ (r.owns = true →
        t.mb.tags.contains r.tag = false) ∧ PortsSame s t) ∧
  (∀ (s : State) (v : Byte),
      s.hostUp = true → s.bus.page = 0 →
      Yields (.registerWindowWrite (0x50 + s.sys.addr.zeroExtend 7) [7, v]) s fun t =>
        t.bus.wrap = v.truncate 2 ∧ t.bus.acked = true ∧ t.bus.page = s.bus.page ∧ PortsSame s t ∧ StoresSame s t) ∧
  (∀ (s : State) (v : Byte),
      s.hostUp = true → s.bus.page = 0 →
      Yields (.registerWindowWrite (0x50 + s.sys.addr.zeroExtend 7) [0x0B, v]) s fun t =>
        t.sys = { s.sys with evt := s.sys.evt &&& ~~~ v, pwr := t.sys.pwr } ∧ PortsSame s t ∧ StoresSame s t) ∧
  (∀ (s : State) (v : Byte),
      s.hostUp = true →
      Yields (.pageWrite (0x50 + s.sys.addr.zeroExtend 7) v) s fun t =>
        t.bus.page = (if pageOk v then v else s.bus.page) ∧ t.bus.acked = true ∧ PortsSame s t ∧ t.mb = s.mb) ∧
  (∀ (s : State) (v : Byte),
      s.hostUp = true →
      Yields (.haddrWrite (0x50 + s.sys.addr.zeroExtend 7) .cfg v) s fun t =>
        t.bus.haddrCfg = v &&& 1 ∧ t.bus.page = 0 ∧ PortsSame s t ∧ t.mb = s.mb) ∧
  (∀ (s : State) (v : Byte),
      s.hostUp = true →
      Yields (.haddrWrite (0x50 + s.sys.addr.zeroExtend 7) .base v) s fun t =>
        t.bus.haddrBase = v &&& 0x7F ∧ t.bus.page = 0 ∧ PortsSame s t ∧ t.mb = s.mb) ∧
  (∀ (s : State) (v : Byte),
      s.hostUp = true →
      Yields (.haddrWrite (0x50 + s.sys.addr.zeroExtend 7) .mask v) s fun t =>
        t.bus.haddrMask = v &&& 0x7F ||| 8 ∧ t.bus.page = 0 ∧ PortsSame s t ∧ t.mb = s.mb) ∧
  (∀ (s : State),
      s.hostUp = true →
      Yields (.hdrerrcntRead (0x50 + s.sys.addr.zeroExtend 7)) s fun t =>
        t.bus.out = [s.bus.hdrErr] ∧ t.bus.hdrErr = 0 ∧ PortsSame s t ∧ t.mb = s.mb) ∧
  (∀ (s : State),
      s.hostUp = true →
      Yields (.eccsbecntRead (0x50 + s.sys.addr.zeroExtend 7)) s fun t =>
        t.bus.out = leBytes 2 s.safety.eccSbe.toNat ∧ t.safety = { s.safety with eccSbe := 0 } ∧ PortsSame s t ∧ t.mb = s.mb) ∧
  (∀ (s : State),
      s.hostUp = true →
      Yields (.eccdbecntRead (0x50 + s.sys.addr.zeroExtend 7)) s fun t =>
        t.bus.out = [s.safety.eccDbe] ∧ t.safety = { s.safety with eccDbe := 0 } ∧ PortsSame s t ∧ t.mb = s.mb) ∧
  (∀ (s : State),
      s.hostUp = true → s.ringReady = true →
      Yields (.rgcrcRead (0x50 + s.sys.addr.zeroExtend 7)) s fun t =>
        t.bus.out = leBytes 2 s.ring.crc.toNat ∧ t.ring = { s.ring with crc := 0 } ∧ PortsSame s t) ∧
  (∀ (s : State),
      s.hostUp = true → s.sys.perfReady = true →
      Yields (.trlostRead (0x50 + s.sys.addr.zeroExtend 7)) s fun t =>
        t.bus.out = leBytes 2 s.trace.lost.toNat ∧ t.trace = { s.trace with lost := 0 } ∧ PortsSame s t) ∧
  (∀ (s : State),
      s.hostUp = true → s.sys.perfReady = true → s.perf.gather = false →
      Yields (.gaFreeze) s fun t =>
        t.perf.frozen = true ∧ t.perf.gather = true ∧ t.perf.takenSts = s.sys.sts ∧ t.bus.acked = true ∧ t.bus.lastAddr =
        0x0C ∧ PortsSame s t) ∧
  (∀ (s : State),
      s.hostUp = true → s.sys.perfReady = true →
      Yields (.gaRelease) s fun t =>
        t.perf.frozen = false ∧ t.bus.acked = true ∧ PortsSame s t) ∧
  (∀ (s : State) (c : Byte) (b : List Byte),
      s.hostUp = true → c ≠ 1 → c ≠ 2 →
      Yields (.mailboxWrite 0x0C (c :: b)) s fun t =>
        t.bus.acked = true ∧ t.bus.acks = 0 ∧ t.bus.lastAddr = 0x0C ∧ t.perf.frozen = s.perf.frozen ∧ t.perf.gather =
        s.perf.gather ∧ t.mb = s.mb ∧ PortsSame s t) ∧
  (∀ (s : State),
      s.hostUp = true →
      Yields (.byteAbandon (.gaWrite [])) s fun t =>
        t.bus.acked = true ∧ t.bus.acks = 0 ∧ t.bus.lastAddr = 0x0C ∧ t.perf.frozen = s.perf.frozen ∧ t.perf.gather =
        s.perf.gather ∧ t.mb = s.mb ∧ PortsSame s t) ∧
  (∀ (s : State) (b : List Byte),
      s.hostUp = true → s.sys.perfReady = true → s.perf.gather = false →
      Yields (.sclhLowTimeout (.gaWrite (1 :: b))) s fun t =>
        t.perf.frozen = true ∧ t.perf.gather = true ∧ t.bus.acked = true ∧ t.bus.acks = 1 ∧ t.bus.lastAddr = 0x0C ∧
        PortsSame s t) ∧
  (∀ (s : State) (mv : Nat) (b : List Byte),
      s.hostUp = true → s.coreOn = true → s.safeOn 4 = true → s.sup.vio = .ok → s.mb.inbox.length < 16 →
      Yields (.vioExcursion ⟨false, mv, some (.mbWrite (0x58 + s.sys.addr.zeroExtend 7) b)⟩) s fun t =>
        t.bus.hdrErr = satAdd s.bus.hdrErr 1 ∧ t.mb.inbox = s.mb.inbox ∧ t.sup = { s.sup with vio := .below } ∧ PortsSame s
        t) ∧
  (∀ (s : State),
      s.hostUp = true →
      Yields (.byteAbandon (.winWrite (0x50 + s.sys.addr.zeroExtend 7) [0xFF])) s fun t =>
        t.bus.acked = true ∧ t.bus.page = s.bus.page ∧ t.mb = s.mb ∧ PortsSame s t) ∧
  (∀ (s : State) (b : List Byte),
      s.hostUp = true → s.mb.inbox.length < 16 →
      Yields (.sclhLowTimeout (.mbWrite (0x58 + s.sys.addr.zeroExtend 7) b)) s fun t =>
        t.bus.hdrErr = satAdd s.bus.hdrErr 1 ∧ t.mb = s.mb ∧ PortsSame s t)

/-- Reload ticks, matches, captures, links and comparator states. At its reload tick, the counter clock after the count that equals
RELOAD, a running timer counts from 0 with OVF set, a one-shot one stopping with TOUT low; a CMPA match sets its flag and
toggles TOUT in mode 1, a CMPB match sets its own and leaves TOUT; a capture moves CMPA to CMPB and takes the count, a second
one unread setting overcapture; a value written after the count has passed it matches late; a trigger clocks its slave, and a
reset link starts one from 0; a comparator's new state is held and raises its event where its mask has it, and behind a filter
of M samples not before the M-th. Rests on R487, R491, R492, R493, R502, R503, R505. The model's own choices in it: log entry 2. -/
def Obligations.TimersAndComparatorsRun : Prop :=
  (∀ (s : State) (k : TmrId),
      (s.tmr k).mode = 1 → (s.tmr k).run = true → (s.tmr k).clkSrc.toNat < 8 → s.counts (s.tmr k) = true → (s.tmr k).count =
      (s.tmr k).reload → (s.tmr k).wrA = none → (s.tmr k).wrB = none → (s.tmr k).cmpa ≠ 0 → (s.tmr k).cmpb ≠ 0 →
      Yields (.reloadTick k) s fun t =>
        (t.tmr k).count = 0 ∧ (t.tmr k).flag = setBit (s.tmr k).flag 0 ∧ (t.tmr k).run = true ∧ (t.tmr k).cmpa = (s.tmr
        k).cmpa ∧ (t.tmr k).cmpb = (s.tmr k).cmpb ∧ (∀ j, j ≠ k → (t.tmr j).mode = (s.tmr j).mode ∧ (t.tmr j).reload =
        (s.tmr j).reload ∧ (t.tmr j).run = (s.tmr j).run ∧ (t.tmr j).flag = (s.tmr j).flag ∧ (evsrcTmr (s.tmr j).clkSrc =
        none → t.tmr j = s.tmr j)) ∧ PortsSame s t ∧ t.fuse = s.fuse ∧ t.sbox = s.sbox) ∧
  (∀ (s : State) (k : TmrId),
      (s.tmr k).mode = 2 → (s.tmr k).run = true → (s.tmr k).clkSrc.toNat < 8 → s.counts (s.tmr k) = true → (s.tmr k).count =
      (s.tmr k).reload → (s.tmr k).wrA = none → (s.tmr k).wrB = none → (s.tmr k).cmpa ≠ 0 → (s.tmr k).cmpb ≠ 0 →
      Yields (.reloadTick k) s fun t =>
        (t.tmr k).count = 0 ∧ (t.tmr k).flag = setBit (s.tmr k).flag 0 ∧ (t.tmr k).run = false ∧ (t.tmr k).toutLvl = false ∧
        (∀ j, j ≠ k → (t.tmr j).mode = (s.tmr j).mode ∧ (t.tmr j).reload = (s.tmr j).reload ∧ (t.tmr j).run = (s.tmr j).run
        ∧ (t.tmr j).flag = (s.tmr j).flag ∧ (evsrcTmr (s.tmr j).clkSrc = none → t.tmr j = s.tmr j)) ∧ PortsSame s t ∧ t.fuse
        = s.fuse ∧ t.sbox = s.sbox) ∧
  (∀ (s : State) (k : TmrId),
      (s.tmr k).count ≠ (s.tmr k).reload →
      Yields (.reloadTick k) s fun t =>
        t = s) ∧
  (∀ (s : State) (k : TmrId),
      (s.tmr k).mode = 1 → (s.tmr k).cmpa = (s.tmr k).count + 1 → (s.tmr k).cmpb ≠ (s.tmr k).cmpa → (s.tmr k).wrA = none →
      (s.tmr k).wrB = none → (s.tmr k).run = true → (s.tmr k).clkSrc.toNat < 8 → s.counts (s.tmr k) = true → (s.tmr k).count ≠
      (s.tmr k).reload →
      Yields (.compareMatch k false) s fun t =>
        (t.tmr k).count = (s.tmr k).cmpa ∧ (t.tmr k).flag = setBit (s.tmr k).flag 1 ∧ (t.tmr k).toutLvl = !(s.tmr k).toutLvl
        ∧ (t.tmr k).cmpa = (s.tmr k).cmpa ∧ (∀ j, j ≠ k → (t.tmr j).mode = (s.tmr j).mode ∧ (t.tmr j).reload = (s.tmr
        j).reload ∧ (t.tmr j).run = (s.tmr j).run ∧ (t.tmr j).flag = (s.tmr j).flag ∧ (evsrcTmr (s.tmr j).clkSrc = none →
        t.tmr j = s.tmr j)) ∧ PortsSame s t ∧ t.fuse = s.fuse ∧ t.sbox = s.sbox) ∧
  (∀ (s : State) (k : TmrId),
      (s.tmr k).cmpb = (s.tmr k).count + 1 → (s.tmr k).cmpa ≠ (s.tmr k).cmpb → (s.tmr k).wrA = none → (s.tmr k).wrB = none →
      (s.tmr k).run = true → (s.tmr k).clkSrc.toNat < 8 → s.counts (s.tmr k) = true → (s.tmr k).count ≠ (s.tmr k).reload →
      Yields (.compareMatch k true) s fun t =>
        (t.tmr k).count = (s.tmr k).cmpb ∧ (t.tmr k).flag = setBit (s.tmr k).flag 2 ∧ (t.tmr k).cmpb = (s.tmr k).cmpb ∧
        ((s.tmr k).mode ≠ 3 → (t.tmr k).toutLvl = (s.tmr k).toutLvl) ∧ (∀ j, j ≠ k → (t.tmr j).mode = (s.tmr j).mode ∧
        (t.tmr j).reload = (s.tmr j).reload ∧ (t.tmr j).run = (s.tmr j).run ∧ (t.tmr j).flag = (s.tmr j).flag ∧ (evsrcTmr
        (s.tmr j).clkSrc = none → t.tmr j = s.tmr j)) ∧ PortsSame s t ∧ t.fuse = s.fuse ∧ t.sbox = s.sbox) ∧
  (∀ (s : State) (k : TmrId) (v : Word),
      (s.tmr k).wrA = some v → v.toNat ≤ (s.tmr k).count.toNat → (s.tmr k).wrB = none → (s.tmr k).cmpb ≠ (s.tmr k).count + 1 →
      (s.tmr k).run = true → (s.tmr k).clkSrc.toNat < 8 → s.counts (s.tmr k) = true → (s.tmr k).count ≠ (s.tmr k).reload →
      Yields (.compareMatch k false) s fun t =>
        (t.tmr k).cmpa = v ∧ (t.tmr k).count = (s.tmr k).count + 1 ∧ (t.tmr k).flag = setBit (setBit (s.tmr k).flag 1) 4 ∧
        (t.tmr k).cmpb = (s.tmr k).cmpb ∧ (t.tmr k).wrA = none ∧ (∀ j, j ≠ k → (t.tmr j).mode = (s.tmr j).mode ∧ (t.tmr
        j).reload = (s.tmr j).reload ∧ (t.tmr j).run = (s.tmr j).run ∧ (t.tmr j).flag = (s.tmr j).flag ∧ (evsrcTmr (s.tmr
        j).clkSrc = none → t.tmr j = s.tmr j)) ∧ PortsSame s t ∧ t.fuse = s.fuse ∧ t.sbox = s.sbox) ∧
  (∀ (s : State) (k : TmrId) (r : Bool) (c : Word),
      (s.tmr k).mode = 4 → (s.tmr k).capEdge = (if r then 0 else 1) → c = (s.tmr k).count + 1 → (s.tmr k).cmpa ≠ c → (s.tmr
      k).cmpb ≠ c → (s.tmr k).wrA = none → (s.tmr k).wrB = none → (s.tmr k).run = true → (s.tmr k).clkSrc.toNat < 8 → s.counts
      (s.tmr k) = true → (s.tmr k).count ≠ (s.tmr k).reload →
      Yields (.capture ⟨k, (s.tmr k).capPin, r⟩ c) s fun t =>
        (t.tmr k).cmpa = c ∧ (t.tmr k).cmpb = (s.tmr k).cmpa ∧ (t.tmr k).count = c ∧ (t.tmr k).flag = (if (s.tmr
        k).flag.getLsbD 3 then setBit (setBit (s.tmr k).flag 3) 6 else setBit (s.tmr k).flag 3) ∧ (∀ j, j ≠ k → (t.tmr
        j).mode = (s.tmr j).mode ∧ (t.tmr j).reload = (s.tmr j).reload ∧ (t.tmr j).run = (s.tmr j).run ∧ (t.tmr j).flag =
        (s.tmr j).flag ∧ (evsrcTmr (s.tmr j).clkSrc = none → t.tmr j = s.tmr j)) ∧ PortsSame s t ∧ t.fuse = s.fuse ∧ t.sbox
        = s.sbox) ∧
  (∀ (s : State) (k : TmrId),
      (s.tmr k).smode = 3 → (s.tmr k).run = true → (s.tmr k).presc = 1 → (s.tmr k).prescFrac = 0 → (s.tmr k).acc = 0 → (s.tmr
      k).owed = 0 → (s.tmr k).count.toNat + 1 < (s.tmr k).cmpa.toNat → (s.tmr k).cmpa.toNat < (s.tmr k).cmpb.toNat → (s.tmr
      k).cmpb.toNat < (s.tmr k).reload.toNat → (s.tmr k).wrA = none → (s.tmr k).wrB = none →
      Yields (.linkTrigger k) s fun t =>
        (t.tmr k).count = (s.tmr k).count + 1 ∧ (t.tmr k).flag = (s.tmr k).flag ∧ (t.tmr k).acc = 0 ∧ (t.tmr k).run = true ∧
        t = { s with tmrs := t.tmrs } ∧ (∀ j, j ≠ k → t.tmr j = s.tmr j)) ∧
  (∀ (s : State) (k : TmrId),
      (s.tmr k).smode = 2 → (s.tmr k).mode = 1 → (s.tmr k).run = false →
      Yields (.linkTrigger k) s fun t =>
        (t.tmr k).count = 0 ∧ (t.tmr k).run = true ∧ (t.tmr k).flag = (s.tmr k).flag ∧ (∀ j, j ≠ k → (t.tmr j).mode = (s.tmr
        j).mode ∧ (t.tmr j).reload = (s.tmr j).reload ∧ (t.tmr j).run = (s.tmr j).run ∧ (t.tmr j).flag = (s.tmr j).flag ∧
        (evsrcTmr (s.tmr j).clkSrc = none → t.tmr j = s.tmr j)) ∧ PortsSame s t ∧ t.fuse = s.fuse ∧ t.sbox = s.sbox) ∧
  (∀ (s : State) (g : Fin 16) (v : Nat),
      (s.gwc g).mode = 1 → (s.gwc g).filtM = 0 → (s.gwc g).st = .inside → (s.gwc g).raw = .inside → (s.gwc g).thHi.toNat < v →
      (s.gwc g).thLo.toNat ≤ v → (s.gwc g).evtMask.getLsbD 2 = true → s.sys.pwr = .run →
      Yields (.gwcStateChange g [v]) s fun t =>
        (t.gwc g).st = .above ∧ t.gwcEvt = setBit s.gwcEvt g.val ∧ (∀ j, j ≠ g → t.gwc j = s.gwc j) ∧ t =
        { s with gwcs := t.gwcs, gwcEvt := t.gwcEvt }) ∧
  (∀ (s : State) (g : Fin 16) (v : Nat),
      (s.gwc g).mode = 1 → (s.gwc g).filtM = 0 → (s.gwc g).raw ≠ .above → v < (s.gwc g).thLo.toNat → (s.gwc g).evtMask = 4 →
      s.sys.pwr = .run →
      Yields (.gwcStateChange g [v]) s fun t =>
        (t.gwc g).st = .below ∧ t.gwcEvt = s.gwcEvt ∧ (∀ j, j ≠ g → t.gwc j = s.gwc j) ∧ t = { s with gwcs := t.gwcs }) ∧
  (∀ (s : State) (g : Fin 16) (v : Nat) (x : GwcSt),
      (s.gwc g).mode = 1 → (s.gwc g).filtM = 5 → (s.gwc g).st = .inside → (s.gwc g).hist = [x, .above] → 1023 < v → s.sys.pwr
      = .run →
      Yields (.gwcStateChange g [v]) s fun t =>
        (t.gwc g).st = .inside ∧ (t.gwc g).hist = [x, .above, .above] ∧ t.gwcEvt = s.gwcEvt ∧ t = { s with gwcs := t.gwcs }) ∧
  (∀ (s : State) (g : Fin 16) (v : Nat) (x : GwcSt),
      (s.gwc g).mode = 1 → (s.gwc g).filtM = 3 → (s.gwc g).hist = [x, .above] → 1023 < v → s.sys.pwr = .run →
      Yields (.gwcStateChange g [v]) s fun t =>
        (t.gwc g).st = .above ∧ (t.gwc g).hist = [x, .above, .above] ∧ t = { s with gwcs := t.gwcs, gwcEvt := t.gwcEvt })

/-- Lantern's commands, locked and unlocked. An unlocked Lantern whose interpreter is there answers each command with its lines and
OK, prints what Table 18.7 says of the device and changes nothing else; BAUD takes the rates of its list alone, CHAIN stages its
bytes and CHAIN END stores the chain, LOCK locks; a line the interpreter cannot read is answered with an error, and any line E
BUSY while it is away; a command behind a KEYGEN that has still to run waits; while it is locked an empty line asks for the
banner, and any other fires alarm source 0x05. Rests on R535, R538, R599, R600, R601, R602. The model's own choices in it: log
entry 86. -/
def Obligations.LanternAnswersItsLines : Prop :=
  (∀ (s : State),
      s.lanternen = true → s.memOn = true → s.sys.pwr = .run → s.sys.interp = true → s.lantern.unlocked = true →
      s.lantern.watch = false → s.lantern.keygen = none → s.lantern.wait = [] → s.lantern.fill = 0 →
      Yields (.lanternVer) s fun t =>
        t.lantern.out = [groups "V" [(8, Config.romVersion.toNat), (8, s.fw.active.toNat), (8, 0xA5324810), (2,
        s.variant.toNat)], "OK"] ∧ t = { s with lantern := t.lantern }) ∧
  (∀ (s : State) (r : Nat),
      s.lanternen = true → s.memOn = true → s.sys.pwr = .run → s.sys.interp = true → s.lantern.unlocked = true →
      s.lantern.watch = false → s.lantern.keygen = none → s.lantern.wait = [] → s.lantern.fill = 0 → r ∈ [115200, 230400,
      460800, 921600, 1500000, 3000000] →
      Yields (.lanternBaud r) s fun t =>
        t.lantern = { s.quiet.lantern.send ["OK"] with bauds := s.lantern.bauds ++ [(r, (s.lantern.send ["OK"]).fill)] } ∧ t
        = { s with lantern := t.lantern }) ∧
  (∀ (s : State),
      s.lanternen = true → s.memOn = true → s.sys.pwr = .run → s.sys.interp = true → s.lantern.unlocked = true →
      s.lantern.watch = false → s.lantern.keygen = none → s.lantern.wait = [] → s.lantern.fill = 0 →
      Yields (.lanternBaud 9600) s fun t =>
        t.lantern = s.quiet.lantern.send ["E RANGE"] ∧ t = { s with lantern := t.lantern }) ∧
  (∀ (s : State) (p : PortId),
      s.lanternen = true → s.memOn = true → s.sys.pwr = .run → s.sys.interp = true → s.lantern.unlocked = true →
      s.lantern.watch = false → s.lantern.keygen = none → s.lantern.wait = [] → s.lantern.fill = 0 → s.porten p = true →
      Yields (.lanternPort p.val) s fun t =>
        t.lantern.out = [groups "P" [(2, p.val), (8, (s.port p).tc.status.toNat), (8, (s.port p).pdStatus.toNat), (8,
        (s.swStatus p).toNat), (4, (s.convStat p).toNat), (4, (s.port p).pd.terms.v), (4, (s.port p).pd.terms.i)], "OK"] ∧ t
        = { s with lantern := t.lantern }) ∧
  (∀ (s : State),
      s.lanternen = true → s.memOn = true → s.sys.pwr = .run → s.sys.interp = true → s.lantern.unlocked = true →
      s.lantern.watch = false → s.lantern.keygen = none → s.lantern.wait = [] → s.lantern.fill = 0 →
      Yields (.lanternLedger) s fun t =>
        t.lantern.out = [groups "L" [(4, s.ledger.cap), (4, s.ledger.granted), (4, s.lgrFree.toNat), (4,
        s.ledger.pubBorrow), (4, s.ledger.pubLent), (4, s.lgrStat.toNat)], "OK"] ∧ t = { s with lantern := t.lantern }) ∧
  (∀ (s : State),
      s.lanternen = true → s.memOn = true → s.sys.pwr = .run → s.sys.interp = true → s.lantern.unlocked = true →
      s.lantern.watch = false → s.lantern.keygen = none → s.lantern.wait = [] → s.lantern.fill = 0 → s.ridgeen = true →
      Yields (.lanternRing) s fun t =>
        t.lantern.out = [groups "R" [(8, s.rgStat), (8, s.rgTime)], "OK"] ∧ t = { s with lantern := t.lantern }) ∧
  (∀ (s : State) (b : Nat),
      s.lanternen = true → s.memOn = true → s.sys.pwr = .run → s.sys.interp = true → s.lantern.unlocked = true →
      s.lantern.watch = false → s.lantern.keygen = none → s.lantern.wait = [] → s.lantern.fill = 0 → b ≤ 37 →
      Yields (.lanternPerf b) s fun t =>
        t.lantern.out = [groups "C" ((2, b) :: ((s.perf.live.drop (4 * b)).take 4).map fun w => (8, w.toNat)), "OK"] ∧ t =
        { s with lantern := t.lantern }) ∧
  (∀ (s : State) (q : Nat) (n : Nat),
      s.lanternen = true → s.memOn = true → s.sys.pwr = .run → s.sys.interp = true → s.lantern.unlocked = true →
      s.lantern.watch = false → s.lantern.keygen = none → s.lantern.wait = [] → s.lantern.fill = 0 → 1 ≤ n → n ≤ 64 →
      Yields (.lanternSbox q n) s fun t =>
        t.lantern.out.getLast? = some "OK" ∧ t.lantern.out.length ≤ n + 1 ∧ t = { s with lantern := t.lantern }) ∧
  (∀ (s : State) (r : Nat),
      s.lanternen = true → s.memOn = true → s.sys.pwr = .run → s.sys.interp = true → s.lantern.unlocked = true →
      s.lantern.watch = false → s.lantern.keygen = none → s.lantern.wait = [] → s.lantern.fill = 0 → r ≤ 4 → s.rlocked r =
      false →
      Yields (.lanternFuse r) s fun t =>
        t.lantern.out.getLast? = some "OK" ∧ t.lantern.out.length = regLock r + 2 - regBase r ∧ t =
        { s with lantern := t.lantern }) ∧
  (∀ (s : State) (r : Nat),
      s.lanternen = true → s.memOn = true → s.sys.pwr = .run → s.sys.interp = true → s.lantern.unlocked = true →
      s.lantern.watch = false → s.lantern.keygen = none → s.lantern.wait = [] → s.lantern.fill = 0 → r ≤ 4 → s.rlocked r =
      true →
      Yields (.lanternFuse r) s fun t =>
        t.lantern.out = ["E LOCKED"] ∧ t = { s with lantern := t.lantern }) ∧
  (∀ (s : State) (a : Nat) (n : Nat),
      s.lanternen = true → s.memOn = true → s.sys.pwr = .run → s.sys.interp = true → s.lantern.unlocked = true →
      s.lantern.watch = false → s.lantern.keygen = none → s.lantern.wait = [] → s.lantern.fill = 0 → 1 ≤ n → n ≤ 256 →
      Yields (.lanternTrace a n) s fun t =>
        t.lantern.out.getLast? = some "OK" ∧ t.lantern.out.length ≤ n + 1 ∧ t = { s with lantern := t.lantern }) ∧
  (∀ (s : State) (b : Bool),
      s.lanternen = true → s.memOn = true → s.sys.pwr = .run → s.sys.interp = true → s.lantern.unlocked = true →
      s.lantern.watch = false → s.lantern.keygen = none → s.lantern.wait = [] → s.lantern.fill = 0 →
      Yields (.lanternWatch b) s fun t =>
        t.lantern = ({ s.quiet.lantern with watch := b, seen := BitVec.ofNat 128 s.digest } : Lantern).send ["OK"] ∧ t =
        { s with lantern := t.lantern }) ∧
  (∀ (s : State),
      s.lanternen = true → s.memOn = true → s.sys.pwr = .run → s.sys.interp = true → s.lantern.unlocked = true →
      s.lantern.watch = false → s.lantern.keygen = none → s.lantern.wait = [] → s.lantern.fill = 0 → s.fuse.queue = [] →
      Yields (.lanternLock) s fun t =>
        t.lantern = ({ s.quiet.lantern with unlocked := false, watch := false, keygen := none, wait := [] } : Lantern).send
        ["OK"] ∧ t = { s with lantern := t.lantern }) ∧
  (∀ (s : State) (x : Bool × Nat),
      s.lanternen = true → s.memOn = true → s.sys.pwr = .run → s.sys.interp = true → s.lantern.unlocked = true →
      s.lantern.watch = false → s.lantern.wait = [] → s.lantern.keygen = some x →
      Yields (.lanternVer) s fun t =>
        t = { s with lantern := { s.quiet.lantern with wait := [.ver] } }) ∧
  (∀ (s : State),
      s.lanternen = true → s.memOn = true → s.sys.pwr = .run → s.lantern.unlocked = true → s.sys.interp = false →
      Yields (.lanternVer) s fun t =>
        t = { s with lantern := s.quiet.lantern.send ["E BUSY"] }) ∧
  (∀ (s : State) (o : Nat) (b : List Byte),
      s.lanternen = true → s.memOn = true → s.sys.pwr = .run → s.sys.interp = true → s.lantern.unlocked = true →
      s.lantern.watch = false → s.lantern.keygen = none → s.lantern.wait = [] → s.lantern.fill = 0 → b ≠ [] → b.length ≤ 48 →
      o + b.length ≤ 4096 → s.lantern.stage.wf = true →
      Yields (.chain o b) s fun t =>
        t.lantern =
        ({ s.quiet.lantern with stage := s.lantern.stage.writeBytes o b, staged := max s.lantern.staged (o + b.length) } :
        Lantern).send ["OK"] ∧ (∀ a, (a < o ∨ o + b.length ≤ a) → t.lantern.stage.read a = s.lantern.stage.read a) ∧ t =
        { s with lantern := t.lantern }) ∧
  (∀ (s : State) (n : Nat),
      s.lanternen = true → s.memOn = true → s.sys.pwr = .run → s.sys.interp = true → s.lantern.unlocked = true →
      s.lantern.watch = false → s.lantern.keygen = none → s.lantern.wait = [] → s.lantern.fill = 0 → n ≤ 4096 → n ≤
      s.lantern.staged →
      Yields (.chainEnd n) s fun t =>
        t.lantern = ({ s.quiet.lantern with chain := s.lantern.stage.readBytes 0 n } : Lantern).send ["OK"] ∧ t =
        { s with lantern := t.lantern }) ∧
  (∀ (s : State) (b : List Byte),
      s.lanternen = true → s.memOn = true → s.sys.pwr = .run → s.sys.interp = true → s.lantern.unlocked = true →
      s.lantern.watch = false → s.lantern.keygen = none → s.lantern.wait = [] → s.lantern.fill = 0 →
      Yields (.lanternBadLine b) s fun t =>
        t.lantern = s.quiet.lantern.send [if 128 < (lineChars b).length then "E LONG" else "E SYNTAX"] ∧ t =
        { s with lantern := t.lantern }) ∧
  (∀ (s : State),
      s.lanternen = true → s.memOn = true → s.sys.pwr = .run → s.lantern.unlocked = false →
      Yields (.lanternLockedLine [0x0A]) s fun t =>
        t.lantern = s.quiet.lantern.send [s.banner] ∧ t = { s with lantern := t.lantern }) ∧
  (∀ (s : State),
      s.lanternen = true → s.memOn = true → s.sys.pwr = .run → s.lantern.unlocked = false → (s.almCfg 5).action = 0 →
      s.sbox.queue.length < 32 →
      Yields (.lanternLockedLine [0x41]) s fun t =>
        t.lantern.out = [] ∧ t.alarm = { s.alarm with evt := setBit s.alarm.evt 5 } ∧ t.sbox.queue.length =
        s.sbox.queue.length + 1 ∧ PortsSame s t ∧ t.vault = s.vault)

/-- The device, firmware and safety commands. A command that passes its checks while the interpreter waits is answered at once:
HELLO agrees the lower minor version, ECHO returns its payload, DEVICE_STATUS reads the device and marks every saved entry for
erasure, ABORT takes a waiting command, a long operation that Table 13.1 lets be aborted or a reply in parts out of its place,
which is answered ABORTED_HOST before it, says of one that is not abortable that it goes on, and of a tag not in use that it is
not; FW_STAGE gathers an image in order, FW_COMMIT starts the verification, or discards, FW_STATUS reads the versions, SELFTEST
is accepted and its completion names the tests that failed, and SAFECFG sets its bits and saves them. Rests on R418, R427, R437,
R438, R478, R479, R480, R481, R482. The model's own choices in it: log entries 4, 89, 90, 69. -/
def Obligations.DeviceAndFirmwareCommands : Prop :=
  (∀ (s : State) (c : BitVec 2) (g : BitVec 6) (q : Byte) (m : Byte) (x : Byte) (y : Byte),
      Serves s (cmdPacket ⟨c, g, 0xFF, q⟩ 0x00 [1, m, x, y]) →
      Yields (.hello ⟨c, g, 0xFF, q⟩ [1, m, x, y]) s fun t =>
        Answered s (cmdPacket ⟨c, g, 0xFF, q⟩ 0x00 [1, m, x, y]) 0 [1, 2, byteOf (min m.toNat 2) 0, 16, 128, 64, 0, 4] t ∧
        t.sys = { s.sys with minor := min m.toNat 2, pwr := t.sys.pwr } ∧ HostOnly { s with sys := t.sys } t) ∧
  (∀ (s : State) (c : BitVec 2) (g : BitVec 6) (q : Byte) (pl : List Byte),
      Serves s (cmdPacket ⟨c, g, 0xFF, q⟩ 0x02 pl) →
      Yields (.echo ⟨c, g, 0xFF, q⟩ pl) s fun t =>
        Answered s (cmdPacket ⟨c, g, 0xFF, q⟩ 0x02 pl) 0 pl t ∧ HostOnly s t) ∧
  (∀ (s : State) (c : BitVec 2) (g : BitVec 6) (q : Byte) (x : Byte),
      Serves s (cmdPacket ⟨c, g, 0xFF, q⟩ 0x03 [0, x]) →
      Yields (.deviceStatus ⟨c, g, 0xFF, q⟩ [0, x]) s fun t =>
        Answered s (cmdPacket ⟨c, g, 0xFF, q⟩ 0x03 [0, x]) 0 t.deviceStatus t ∧ HostOnly s t) ∧
  (∀ (s : State) (c : BitVec 2) (g : BitVec 6) (q : Byte),
      Serves s (cmdPacket ⟨c, g, 0xFF, q⟩ 0x03 [1, 0xE5]) →
      Yields (.deviceStatus ⟨c, g, 0xFF, q⟩ [1, 0xE5]) s fun t =>
        Answered s (cmdPacket ⟨c, g, 0xFF, q⟩ 0x03 [1, 0xE5]) 0 [] t ∧ t.store =
        { s.store with erase := s.store.entries.map fun e => (e.op, e.sel) } ∧ HostOnly { s with store := t.store } t) ∧
  (∀ (s : State) (c : BitVec 2) (g : BitVec 6) (q : Byte) (x : Byte),
      Serves s (cmdPacket ⟨c, g, 0xFF, q⟩ 0x01 [x]) → x.toNat < 64 → x ≠ g.zeroExtend 8 → s.mb.tags = [] →
      Yields (.abort ⟨c, g, 0xFF, q⟩ [x]) s fun t =>
        Answered s (cmdPacket ⟨c, g, 0xFF, q⟩ 0x01 [x]) 0 [1] t ∧ HostOnly s t) ∧
  (∀ (s : State) (c : BitVec 2) (g : BitVec 6) (q : Byte) (j : Packet),
      Serves s (cmdPacket ⟨c, g, 0xFF, q⟩ 0x01 [j.tag.zeroExtend 8]) → s.mb.tags = [j.tag] → j.tag ≠ g → s.mb.replies = [] →
      s.mb.flights = [j] → s.mb.parts = [] → j.opcode = 0x90 →
      Yields (.abort ⟨c, g, 0xFF, q⟩ [j.tag.zeroExtend 8]) s fun t =>
        t.mb =
        { s.mb with flights := [], replies := s.mb.replies ++ [j.reply 0x32 [] true false true, (cmdPacket ⟨c, g, 0xFF, q⟩ 0x01 [j.tag.zeroExtend 8]).reply 0 [0] false false true], tags := g :: s.mb.tags, acc := s.mb.acc + 1 }
        ∧ HostOnly s t) ∧
  (∀ (s : State) (c : BitVec 2) (g : BitVec 6) (q : Byte) (j : Packet),
      Serves s (cmdPacket ⟨c, g, 0xFF, q⟩ 0x01 [0xFF]) → s.mb.tags = [j.tag] → j.tag ≠ g → s.mb.replies = [] → s.mb.flights =
      [j] → s.mb.parts = [] → j.opcode = 0x90 →
      Yields (.abort ⟨c, g, 0xFF, q⟩ [0xFF]) s fun t =>
        t.mb =
        { s.mb with flights := [], replies := s.mb.replies ++ [j.reply 0x32 [] true false true, (cmdPacket ⟨c, g, 0xFF, q⟩ 0x01 [0xFF]).reply 0 ((List.range 64).map fun i => if i = j.tag.toNat then 0 else 1) false false true], tags := g :: s.mb.tags, acc := s.mb.acc + 1 }
        ∧ HostOnly s t) ∧
  (∀ (s : State) (c : BitVec 2) (g : BitVec 6) (q : Byte) (j : Packet),
      Serves s (cmdPacket ⟨c, g, 0xFF, q⟩ 0x01 [j.tag.zeroExtend 8]) → s.mb.tags = [j.tag] → j.tag ≠ g → s.mb.replies = [] →
      s.mb.flights = [] → s.mb.parts = [(j, 0, [[1]])] → j.opcode = 0x49 →
      Yields (.abort ⟨c, g, 0xFF, q⟩ [j.tag.zeroExtend 8]) s fun t =>
        t.mb =
        { s.mb with parts := [], replies := s.mb.replies ++ [j.reply 0x32 [] false false true, (cmdPacket ⟨c, g, 0xFF, q⟩ 0x01 [j.tag.zeroExtend 8]).reply 0 [0] false false true], tags := g :: s.mb.tags, acc := s.mb.acc + 1 }
        ∧ HostOnly s t) ∧
  (∀ (s : State) (c : BitVec 2) (g : BitVec 6) (q : Byte) (j : Packet),
      Serves s (cmdPacket ⟨c, g, 0xFF, q⟩ 0x01 [j.tag.zeroExtend 8]) → s.mb.tags = [j.tag] → j.tag ≠ g → s.mb.replies = [] →
      s.mb.flights = [j] → s.mb.parts = [] → j.opcode = 0x89 →
      Yields (.abort ⟨c, g, 0xFF, q⟩ [j.tag.zeroExtend 8]) s fun t =>
        Answered s (cmdPacket ⟨c, g, 0xFF, q⟩ 0x01 [j.tag.zeroExtend 8]) 0 [2] t ∧ HostOnly s t) ∧
  (∀ (s : State) (c : BitVec 2) (g : BitVec 6) (q : Byte) (d : List Byte),
      Serves s (cmdPacket ⟨c, g, 0xFF, q⟩ 0x88 ([0, 0, 0, 0] ++ d)) →
      Yields (.fwStage ⟨c, g, 0xFF, q⟩ ([0, 0, 0, 0] ++ d)) s fun t =>
        Answered s (cmdPacket ⟨c, g, 0xFF, q⟩ 0x88 ([0, 0, 0, 0] ++ d)) 0 [] t ∧ t.fw = { s.fw with staged := d } ∧ HostOnly
        { s with fw := t.fw } t) ∧
  (∀ (s : State) (c : BitVec 2) (g : BitVec 6) (q : Byte),
      Serves s (cmdPacket ⟨c, g, 0xFF, q⟩ 0x89 [1]) → s.fw.marked = false →
      Yields (.fwCommit ⟨c, g, 0xFF, q⟩ [1]) s fun t =>
        Answered s (cmdPacket ⟨c, g, 0xFF, q⟩ 0x89 [1]) 0 [] t ∧ t.fw = { s.fw with staged := [] } ∧ HostOnly
        { s with fw := t.fw } t) ∧
  (∀ (s : State) (c : BitVec 2) (g : BitVec 6) (q : Byte),
      Serves s (cmdPacket ⟨c, g, 0xFF, q⟩ 0x89 [0]) → s.fw.staged ≠ [] → s.fw.runs = [] →
      Yields (.fwCommit ⟨c, g, 0xFF, q⟩ [0]) s fun t =>
        Accepted s (cmdPacket ⟨c, g, 0xFF, q⟩ 0x89 [0]) t ∧ t.fw = { s.fw with runs := [⟨g, s.mb.acc, .verify⟩] } ∧ HostOnly
        { s with fw := t.fw } t) ∧
  (∀ (s : State) (k : Packet) (o : Nat),
      s.caughtUp = true → s.mb.held = [] → s.mb.room 1024 = true → s.mb.flights = [k] → k.opcode = 0x89 → s.fw.runs = [⟨k.tag,
      o, .denied⟩] →
      Yields (.fwCommitComplete) s fun t =>
        Completed s k 0x23 [1] t ∧ t.fw = { s.fw with runs := [] } ∧ HostOnly { s with fw := t.fw } t) ∧
  (∀ (s : State) (c : BitVec 2) (g : BitVec 6) (q : Byte),
      Serves s (cmdPacket ⟨c, g, 0xFF, q⟩ 0x8A []) →
      Yields (.fwStatus ⟨c, g, 0xFF, q⟩ []) s fun t =>
        Answered s (cmdPacket ⟨c, g, 0xFF, q⟩ 0x8A []) 0 (leBytes 4 Config.romVersion.toNat ++ leBytes 4 s.fw.active.toNat
        ++ leBytes 4 s.fw.staged.length ++ [if s.fw.staged.isEmpty then 0 else if Config.fwComplete s.fw.staged then 2 else
        1, s.fw.lastRes, 0, 0]) t ∧ HostOnly s t) ∧
  (∀ (s : State) (c : BitVec 2) (g : BitVec 6) (q : Byte) (x : Byte),
      Serves s (cmdPacket ⟨c, g, 0xFF, q⟩ 0x90 [x]) → x.toNat ≤ 6 → x ≠ 3 → x ≠ 4 →
      Yields (.selftest ⟨c, g, 0xFF, q⟩ [x]) s fun t =>
        Accepted s (cmdPacket ⟨c, g, 0xFF, q⟩ 0x90 [x]) t ∧ HostOnly s t) ∧
  (∀ (s : State) (k : Packet),
      s.caughtUp = true → s.mb.held = [] → s.mb.room 1024 = true → s.mb.flights = [k] → k.opcode = 0x90 → k.payload = [2] →
      Yields (.selftestComplete ⟨0, 0⟩) s fun t =>
        Completed s k 0 [0, 0, 0, 0] t ∧ t.safety = { s.safety with stFail := clrBit s.safety.stFail 2 } ∧ HostOnly
        { s with safety := t.safety } t) ∧
  (∀ (s : State) (c : BitVec 2) (g : BitVec 6) (q : Byte) (v : Byte),
      Serves s (cmdPacket ⟨c, g, 0xFF, q⟩ 0x91 [v, 0, 0, 0]) → s.safety.cfg.getLsbD 7 = false → s.safeCfgLock = false →
      Yields (.safecfg ⟨c, g, 0xFF, q⟩ [v, 0, 0, 0]) s fun t =>
        Answered s (cmdPacket ⟨c, g, 0xFF, q⟩ 0x91 [v, 0, 0, 0]) 0 [] t ∧ t.safety =
        { s.safety with cfg := v ||| (s.safety.cfg &&& 0x80) } ∧ t.store = (s.saveEntry 0x91 0xFF [v, 0, 0, 0]).store ∧
        HostOnly { s with safety := t.safety, store := t.store } t)

/-- The commands of one port. PORT_CFG on a Disabled port is in force at once and saved; PORT_ENABLE puts a Disabled port in the
Unattached state of its role, one whose trip wire has tripped through ErrorRecovery, and during a discharge is held and
DEFERRED; PORT_DISABLE leaves it Disabled; PORT_STATUS reads it and clears its event registers where asked; PORT_RESET goes
through ErrorRecovery and completes; PDO_SET and SINK_PREF_SET on an unattached port are in force at once and saved. While an
enable is held for a port, a PORT_ENABLE with any tag not in use is answered DUPLICATE and changes nothing else, and a
PORT_DISABLE is answered OK and cancels it, the discharge going on and the port ending Disabled. That reserved bits of a
configuration are masked, and that the enable is saved under 0x11, is the model's choice. Rests on R439, R440, R441, R442, R443,
R444, R234, R235, R233. The model's own choices in it: log entries 4, 50, 68, 75. -/
def Obligations.PortCommands : Prop :=
  (∀ (s : State) (p : PortId) (c : BitVec 2) (g : BitVec 6) (q : Byte) (pl : List Byte),
      Serves s (cmdPacket ⟨c, g, byteOf p.val 0, q⟩ 0x10 pl) → pl.length = 10 → (s.port p).tc.state = .disabled → cfgValid
      (isE p) s.ledgermodeen (BitVec.ofNat 80 (leVal pl) &&& cfgMask) = true →
      Yields (.portCfg ⟨c, g, byteOf p.val 0, q⟩ pl) s fun t =>
        Answered s (cmdPacket ⟨c, g, byteOf p.val 0, q⟩ 0x10 pl) 0 [] t ∧ t.port p =
        { s.port p with cfg := BitVec.ofNat 80 (leVal pl) &&& cfgMask, cfgPend := none } ∧ OthersSame p s t ∧ t.store =
        (s.saveEntry 0x10 p.val pl).store ∧ HostOnly { s with ports := t.ports, store := t.store } t) ∧
  (∀ (s : State) (p : PortId) (c : BitVec 2) (g : BitVec 6) (q : Byte),
      Serves s (cmdPacket ⟨c, g, byteOf p.val 0, q⟩ 0x11 []) → (s.port p).tc.state = .disabled → (s.port p).tc.enHeld = false
      → (s.port p).sw.st = .opn → (s.port p).sw.tripWire = false →
      Yields (.portEnable ⟨c, g, byteOf p.val 0, q⟩ []) s fun t =>
        Answered s (cmdPacket ⟨c, g, byteOf p.val 0, q⟩ 0x11 []) 0 [] t ∧ (t.port p).tc.state = (s.port p).restState ∧
        OthersSame p s t ∧ t.store = (s.saveEntry 0x11 p.val [1]).store ∧ HostOnly
        { s with ports := t.ports, store := t.store, ledger := t.ledger } t) ∧
  (∀ (s : State) (p : PortId) (c : BitVec 2) (g : BitVec 6) (q : Byte),
      Serves s (cmdPacket ⟨c, g, byteOf p.val 0, q⟩ 0x11 []) → (s.port p).tc.state = .disabled → (s.port p).tc.enHeld = false
      → (s.port p).sw.st = .opn → (s.port p).sw.tripWire = true →
      Yields (.portEnable ⟨c, g, byteOf p.val 0, q⟩ []) s fun t =>
        Answered s (cmdPacket ⟨c, g, byteOf p.val 0, q⟩ 0x11 []) 0 [] t ∧ (t.port p).tc.state = .errorRecovery ∧ OthersSame
        p s t ∧ t.store = (s.saveEntry 0x11 p.val [1]).store ∧ HostOnly
        { s with ports := t.ports, store := t.store, ledger := t.ledger, ember := t.ember } t) ∧
  (∀ (s : State) (p : PortId) (c : BitVec 2) (g : BitVec 6) (q : Byte),
      Serves s (cmdPacket ⟨c, g, byteOf p.val 0, q⟩ 0x11 []) → (s.port p).tc.enHeld = false → (s.port p).sw.st = .discharge →
      Yields (.portEnable ⟨c, g, byteOf p.val 0, q⟩ []) s fun t =>
        Answered s (cmdPacket ⟨c, g, byteOf p.val 0, q⟩ 0x11 []) 2 [] t ∧ (t.port p).tc =
        { (s.port p).tc with enHeld := true } ∧ OthersSame p s t ∧ t.store = (s.saveEntry 0x11 p.val [1]).store ∧ HostOnly
        { s with ports := t.ports, store := t.store } t) ∧
  (∀ (s : State) (p : PortId) (c : BitVec 2) (g : BitVec 6) (q : Byte),
      Serves s (cmdPacket ⟨c, g, byteOf p.val 0, q⟩ 0x12 []) → (s.port p).tc.state = .unattachedSrc →
      Yields (.portDisable ⟨c, g, byteOf p.val 0, q⟩ []) s fun t =>
        Answered s (cmdPacket ⟨c, g, byteOf p.val 0, q⟩ 0x12 []) 0 [] t ∧ (t.port p).tc.state = .disabled ∧ (t.port
        p).tc.rpAdv = .none ∧ (t.port p).tc.vconnOn = false ∧ OthersSame p s t ∧ t.store = (s.saveEntry 0x11 p.val
        [0]).store ∧ HostOnly { s with ports := t.ports, store := t.store } t) ∧
  (∀ (s : State) (p : PortId) (c : BitVec 2) (g : BitVec 6) (q : Byte),
      Serves s (cmdPacket ⟨c, g, byteOf p.val 0, q⟩ 0x13 [1]) → s.sys.pwr ≠ .ember →
      Yields (.portStatus ⟨c, g, byteOf p.val 0, q⟩ [1]) s fun t =>
        Answered s (cmdPacket ⟨c, g, byteOf p.val 0, q⟩ 0x13 [1]) 0 (({ s with sys.pwr := .run } : State).portStatus p) t ∧
        (t.port p).tc.evt = 0 ∧ (t.port p).pd.evt = 0 ∧ (t.port p).sw.evt = 0 ∧ (t.port p).cv.evt = 0 ∧ (t.port p).lg =
        (s.port p).lg ∧ OthersSame p s t ∧ HostOnly { s with ports := t.ports } t) ∧
  (∀ (s : State) (p : PortId) (c : BitVec 2) (g : BitVec 6) (q : Byte),
      Serves s (cmdPacket ⟨c, g, byteOf p.val 0, q⟩ 0x13 []) → s.sys.pwr ≠ .ember →
      Yields (.portStatus ⟨c, g, byteOf p.val 0, q⟩ []) s fun t =>
        Answered s (cmdPacket ⟨c, g, byteOf p.val 0, q⟩ 0x13 []) 0 (({ s with sys.pwr := .run } : State).portStatus p) t ∧
        HostOnly s t) ∧
  (∀ (s : State) (p : PortId) (c : BitVec 2) (g : BitVec 6) (q : Byte),
      Serves s (cmdPacket ⟨c, g, byteOf p.val 0, q⟩ 0x14 [2]) → (s.port p).tc.state = .attachedSrc →
      Yields (.portReset ⟨c, g, byteOf p.val 0, q⟩ [2]) s fun t =>
        Accepted s (cmdPacket ⟨c, g, byteOf p.val 0, q⟩ 0x14 [2]) t ∧ (t.port p).tc.state = .errorRecovery ∧ (t.port
        p).prun.any (fun r => r.tag == g && r.kind == 2) = true ∧ OthersSame p s t) ∧
  (∀ (s : State) (p : PortId) (k : Packet),
      s.caughtUp = true → s.mb.held = [] → s.mb.room 1024 = true → s.mb.flights = [k] → k.opcode = 0x14 → (s.port p).prun =
      [⟨k.tag, 3, some 3⟩] →
      Yields (.portResetComplete p) s fun t =>
        Completed s k 0 [3] t ∧ (t.port p).prun = [] ∧ HostOnly { s with ports := t.ports } t ∧ OthersSame p s t) ∧
  (∀ (s : State) (p : PortId) (c : BitVec 2) (g : BitVec 6) (q : Byte) (n : Nat) (d : List Byte),
      Serves s (cmdPacket ⟨c, g, byteOf p.val 0, q⟩ 0x20 (byteOf n 0 :: 0 :: 0 :: 0 :: d)) → 1 ≤ n → n ≤ 11 → srcTableOk (isE
      p) s.epren (entriesOf n d) = true → (s.port p).tc.state = .unattachedSnk →
      Yields (.pdoSet ⟨c, g, byteOf p.val 0, q⟩ (byteOf n 0 :: 0 :: 0 :: 0 :: d)) s fun t =>
        Answered s (cmdPacket ⟨c, g, byteOf p.val 0, q⟩ 0x20 (byteOf n 0 :: 0 :: 0 :: 0 :: d)) 0 [] t ∧ t.port p =
        { s.port p with src := entriesOf n d, srcPend := none } ∧ OthersSame p s t ∧ t.store = (s.saveEntry 0x20 p.val
        (byteOf n 0 :: 0 :: 0 :: 0 :: d)).store ∧ HostOnly { s with ports := t.ports, store := t.store } t) ∧
  (∀ (s : State) (p : PortId) (c : BitVec 2) (g : BitVec 6) (q : Byte) (n : Nat) (d : List Byte),
      Serves s (cmdPacket ⟨c, g, byteOf p.val 0, q⟩ 0x21 (byteOf n 0 :: 0 :: 0 :: 0 :: d)) → 1 ≤ n → n ≤ 6 → (entriesOf n
      d).all (snkEntryOk (isE p) s.epren) = true → (s.port p).tc.state = .unattachedSnk →
      Yields (.sinkPrefSet ⟨c, g, byteOf p.val 0, q⟩ (byteOf n 0 :: 0 :: 0 :: 0 :: d)) s fun t =>
        Answered s (cmdPacket ⟨c, g, byteOf p.val 0, q⟩ 0x21 (byteOf n 0 :: 0 :: 0 :: 0 :: d)) 0 [] t ∧ t.port p =
        { s.port p with snk := entriesOf n d, snkPend := none } ∧ OthersSame p s t ∧ t.store = (s.saveEntry 0x21 p.val
        (byteOf n 0 :: 0 :: 0 :: 0 :: d)).store ∧ HostOnly { s with ports := t.ports, store := t.store } t) ∧
  (∀ (s : State) (p : PortId) (c : BitVec 2) (g : BitVec 6) (q : Byte),
      Serves s (cmdPacket ⟨c, g, byteOf p.val 0, q⟩ 0x11 []) → (s.port p).tc.enHeld = true →
      Yields (.portEnable ⟨c, g, byteOf p.val 0, q⟩ []) s fun t =>
        Answered s (cmdPacket ⟨c, g, byteOf p.val 0, q⟩ 0x11 []) 3 [] t ∧ HostOnly s t) ∧
  (∀ (s : State) (p : PortId) (c : BitVec 2) (g : BitVec 6) (q : Byte),
      Serves s (cmdPacket ⟨c, g, byteOf p.val 0, q⟩ 0x12 []) → (s.port p).tc.enHeld = true → (s.port p).tc.state = .disabled →
      (s.port p).sw.st = .discharge →
      Yields (.portDisable ⟨c, g, byteOf p.val 0, q⟩ []) s fun t =>
        Answered s (cmdPacket ⟨c, g, byteOf p.val 0, q⟩ 0x12 []) 0 [] t ∧ (t.port p).tc.enHeld = false ∧ (t.port p).sw.st =
        .discharge ∧ (t.port p).tc.state = .disabled ∧ OthersSame p s t ∧ t.store = (s.saveEntry 0x11 p.val [0]).store ∧
        HostOnly { s with ports := t.ports, store := t.store } t)

/-- VDM_SEND, SWAP_REQ and their completions. On a port with a contract VDM_SEND is accepted and its VDM waits for its AMS, its
completion carrying the answer; SWAP_REQ of a data-role swap is accepted and stands pending, and its completion carries its
RESULT. Rests on R197, R446, R447. The model's own choices in it: log entry 4. -/
def Obligations.PartnerCommands : Prop :=
  (∀ (s : State) (p : PortId) (c : BitVec 2) (g : BitVec 6) (q : Byte) (pl : List Byte),
      Serves s (cmdPacket ⟨c, g, byteOf p.val 0, q⟩ 0x22 pl) → s.vdmCheck p pl = 0 → s.mb.flights = [] → (s.port p).lm.cuts =
      [] →
      Yields (.vdmSend ⟨c, g, byteOf p.val 0, q⟩ pl) s fun t =>
        Accepted s (cmdPacket ⟨c, g, byteOf p.val 0, q⟩ 0x22 pl) t ∧ (t.port p).lm.run = some ⟨nth pl 0, sopOf (nth pl 1),
        vdosOf pl, if nth pl 0 = 1 then 1 else 0, false, 0⟩ ∧ OthersSame p s t) ∧
  (∀ (s : State) (p : PortId) (k : Packet) (r : List Byte),
      s.caughtUp = true → s.mb.held = [] → s.mb.room 1024 = true → s.mb.flights = [k] → k.port = some p → k.opcode = 0x22 →
      (s.port p).lm.result = some r → r.length ≤ 1024 →
      Yields (.vdmSendComplete p) s fun t =>
        Completed s k 0 r t ∧ (t.port p).lm = { (s.port p).lm with result := none } ∧ HostOnly { s with ports := t.ports } t
        ∧ OthersSame p s t) ∧
  (∀ (s : State) (p : PortId) (c : BitVec 2) (g : BitVec 6) (q : Byte),
      Serves s (cmdPacket ⟨c, g, byteOf p.val 0, q⟩ 0x23 [1]) → (s.port p).swap.result = none → (s.port p).swap.stage = .none
      → (s.port p).pd.contract = .explicit → s.mb.flights = [] → (s.port p).lm.mode = false →
      Yields (.swapReq ⟨c, g, byteOf p.val 0, q⟩ [1]) s fun t =>
        Accepted s (cmdPacket ⟨c, g, byteOf p.val 0, q⟩ 0x23 [1]) t ∧ (t.port p).swap =
        { (s.port p).swap with kind := .dr, stage := .pending, toSrc := !(s.port p).tc.dfp, own := true, won := false } ∧
        OthersSame p s t) ∧
  (∀ (s : State) (p : PortId) (k : Packet) (st : Byte) (r : Byte),
      s.caughtUp = true → s.mb.held = [] → s.mb.room 1024 = true → s.mb.flights = [k] → k.port = some p → k.opcode = 0x23 →
      (s.port p).swap.result = some (st, r) →
      Yields (.swapReqComplete p) s fun t =>
        Completed s k st [r] t ∧ (t.port p).swap = { (s.port p).swap with result := none } ∧ HostOnly
        { s with ports := t.ports } t ∧ OthersSame p s t)

/-- The Ledger, bridge, Ember, island and Ridgeline commands. LEDGER_CFG within its limits and LEDGER_CLASS wait for the next
decision cycle and are saved; LEDGER_QUERY reads a port or the panel; LEDGER_RELEASE posts a port's release, or has every loan
returned; BRIDGE_SET waits for the next cycle; EMBER_CFG is in force at once; ISLAND_SET arms; RING_CFG of a node that is not
joined is in force at once; RING_STATUS reads the ring; RING_BYPASS has a joined node leave. That reserved bits of a setting are
masked, and that ISLAND_SET takes ARM at once, is the model's choice. Rests on R448, R449, R450, R451, R452, R453, R454, R455,
R456, R457. The model's own choices in it: log entries 4, 54, 68, 55. -/
def Obligations.LedgerAndPanelCommands : Prop :=
  (∀ (s : State) (c : BitVec 2) (g : BitVec 6) (q : Byte) (pl : List Byte),
      Serves s (cmdPacket ⟨c, g, 0xFF, q⟩ 0x30 pl) → pl ≠ [] → s.lgCfgOk (lgCfgOf pl) = true →
      Yields (.ledgerCfg ⟨c, g, 0xFF, q⟩ pl) s fun t =>
        Answered s (cmdPacket ⟨c, g, 0xFF, q⟩ 0x30 pl) 0 [] t ∧ t.ledger = { s.ledger with pend := some (lgCfgOf pl) } ∧
        t.store = (s.saveEntry 0x30 0xFF pl).store ∧ HostOnly { s with ledger := t.ledger, store := t.store } t) ∧
  (∀ (s : State) (p : PortId) (c : BitVec 2) (g : BitVec 6) (q : Byte) (x : Byte) (a : Byte) (b : Byte),
      Serves s (cmdPacket ⟨c, g, byteOf p.val 0, q⟩ 0x31 [x, 0, a, b]) → x.toNat < 3 →
      Yields (.ledgerClass ⟨c, g, byteOf p.val 0, q⟩ [x, 0, a, b]) s fun t =>
        Answered s (cmdPacket ⟨c, g, byteOf p.val 0, q⟩ 0x31 [x, 0, a, b]) 0 [] t ∧ (t.port p).lg =
        { (s.port p).lg with pendCls := some (x.truncate 2, a.toNat + 256 * b.toNat) } ∧ OthersSame p s t ∧ t.store =
        (s.saveEntry 0x31 p.val [x, 0, a, b]).store ∧ HostOnly { s with ports := t.ports, store := t.store } t) ∧
  (∀ (s : State) (p : PortId) (c : BitVec 2) (g : BitVec 6) (q : Byte),
      Serves s (cmdPacket ⟨c, g, byteOf p.val 0, q⟩ 0x32 []) →
      Yields (.ledgerQuery ⟨c, g, byteOf p.val 0, q⟩ []) s fun t =>
        Answered s (cmdPacket ⟨c, g, byteOf p.val 0, q⟩ 0x32 []) 0 (s.ledgerPort p) t ∧ HostOnly s t) ∧
  (∀ (s : State) (c : BitVec 2) (g : BitVec 6) (q : Byte),
      Serves s (cmdPacket ⟨c, g, 0xFF, q⟩ 0x32 []) →
      Yields (.ledgerQuery ⟨c, g, 0xFF, q⟩ []) s fun t =>
        Answered s (cmdPacket ⟨c, g, 0xFF, q⟩ 0x32 []) 0 s.ledgerSummary t ∧ HostOnly s t) ∧
  (∀ (s : State) (p : PortId) (c : BitVec 2) (g : BitVec 6) (q : Byte),
      Serves s (cmdPacket ⟨c, g, byteOf p.val 0, q⟩ 0x33 []) →
      Yields (.ledgerRelease ⟨c, g, byteOf p.val 0, q⟩ []) s fun t =>
        Answered s (cmdPacket ⟨c, g, byteOf p.val 0, q⟩ 0x33 []) 0 [] t ∧ t.ledger =
        { s.ledger with posts := s.ledger.posts ++ [.hostRelease p] } ∧ HostOnly { s with ledger := t.ledger } t) ∧
  (∀ (s : State) (c : BitVec 2) (g : BitVec 6) (q : Byte),
      Serves s (cmdPacket ⟨c, g, 0xFF, q⟩ 0x33 []) →
      Yields (.ledgerRelease ⟨c, g, 0xFF, q⟩ []) s fun t =>
        Answered s (cmdPacket ⟨c, g, 0xFF, q⟩ 0x33 []) 0 [] t ∧ t.ledger =
        { s.ledger with returnAll := true, noBorrow := true } ∧ HostOnly { s with ledger := t.ledger } t) ∧
  (∀ (s : State) (p : PortId) (c : BitVec 2) (g : BitVec 6) (q : Byte) (k : PortId),
      Serves s (cmdPacket ⟨c, g, byteOf p.val 0, q⟩ 0x40 [byteOf k.val 0, 1]) → p ≠ k → s.porten k = true → cfgRole (s.port
      p).cfg ≠ 1 → cfgRole (s.port k).cfg ≠ 0 → s.bridgesNext = [] → (s.port p).inPrSwap = false → (s.port k).inPrSwap = false
      →
      Yields (.bridgeSet ⟨c, g, byteOf p.val 0, q⟩ [byteOf k.val 0, 1]) s fun t =>
        Answered s (cmdPacket ⟨c, g, byteOf p.val 0, q⟩ 0x40 [byteOf k.val 0, 1]) 0 [] t ∧ t.ledger =
        { s.ledger with brPend := s.ledger.brPend ++ [(⟨p, k⟩, true)] } ∧ HostOnly { s with ledger := t.ledger } t) ∧
  (∀ (s : State) (c : BitVec 2) (g : BitVec 6) (q : Byte) (x : Byte) (w : Byte) (a : Byte) (b : Byte) (d : Byte) (e : Byte),
      Serves s (cmdPacket ⟨c, g, 0xFF, q⟩ 0x41 [x, w, 0, 0, a, b, d, e]) → w.toNat ≤ 3 →
      Yields (.emberCfg ⟨c, g, 0xFF, q⟩ [x, w, 0, 0, a, b, d, e]) s fun t =>
        Answered s (cmdPacket ⟨c, g, 0xFF, q⟩ 0x41 [x, w, 0, 0, a, b, d, e]) 0 [] t ∧ t.ember =
        { s.ember with forbid := x.getLsbD 0, pwrMax := w.truncate 2, mask := BitVec.ofNat 32 (leVal [a, b, d, e]) } ∧
        t.store = (s.saveEntry 0x41 0xFF [x, w, 0, 0, a, b, d, e]).store ∧ HostOnly
        { s with ember := t.ember, store := t.store } t) ∧
  (∀ (s : State) (c : BitVec 2) (g : BitVec 6) (q : Byte),
      Serves s (cmdPacket ⟨c, g, 0xFF, q⟩ 0x42 [2, 0]) → s.sys.minor = 2 → s.sys.hbisoLow = false →
      Yields (.islandSet ⟨c, g, 0xFF, q⟩ [2, 0]) s fun t =>
        Answered s (cmdPacket ⟨c, g, 0xFF, q⟩ 0x42 [2, 0]) 0 [] t ∧ t.ledger = { s.ledger with armed := true } ∧ HostOnly
        { s with ledger := t.ledger } t) ∧
  (∀ (s : State) (c : BitVec 2) (g : BitVec 6) (q : Byte) (x : Byte) (n : Byte) (d : List Byte),
      Serves s (cmdPacket ⟨c, g, 0xFF, q⟩ 0x48 (x :: n :: d)) → n ≠ 0xFF → x.extractLsb' 2 2 ≠ 3 → s.ring.link = 0 →
      s.ring.isOpen = false →
      Yields (.ringCfg ⟨c, g, 0xFF, q⟩ (x :: n :: d)) s fun t =>
        Answered s (cmdPacket ⟨c, g, 0xFF, q⟩ 0x48 (x :: n :: d)) 0 [] t ∧ t.ring.enable = x.getLsbD 0 ∧ t.ring.node = n ∧
        t.ring.rcyc = x.extractLsb' 2 2 ∧ t.ring.hostInfo = d ∧ t.ring.pend = none ∧ t.store = (s.saveEntry 0x48 0xFF ((x
        &&& 0xFD) :: n :: d)).store ∧ HostOnly { s with ring := t.ring, store := t.store } t) ∧
  (∀ (s : State) (c : BitVec 2) (g : BitVec 6) (q : Byte) (x : Byte) (n : Byte) (d : List Byte),
      Serves s (cmdPacket ⟨c, g, 0xFF, q⟩ 0x48 (x :: n :: d)) → n ≠ 0xFF → x.extractLsb' 2 2 ≠ 3 → s.ring.link.toNat < 2 →
      s.ring.isOpen = true →
      Yields (.ringCfg ⟨c, g, 0xFF, q⟩ (x :: n :: d)) s fun t =>
        Answered s (cmdPacket ⟨c, g, 0xFF, q⟩ 0x48 (x :: n :: d)) 0 [] t ∧ t.ring.pend = some (x.getLsbD 0, n, x.extractLsb'
        2 2) ∧ t.ring.gapClose = true ∧ t.ring.joinDue = false ∧ t.ring.hostInfo = d ∧ t.store = (s.saveEntry 0x48 0xFF ((x
        &&& 0xFD) :: n :: d)).store ∧ HostOnly { s with ring := t.ring, store := t.store } t) ∧
  (∀ (s : State) (c : BitVec 2) (g : BitVec 6) (q : Byte),
      Serves s (cmdPacket ⟨c, g, 0xFF, q⟩ 0x49 [0]) →
      Yields (.ringStatus ⟨c, g, 0xFF, q⟩ [0]) s fun t =>
        Answered s (cmdPacket ⟨c, g, 0xFF, q⟩ 0x49 [0]) 0 s.ringStatus t ∧ HostOnly s t) ∧
  (∀ (s : State) (c : BitVec 2) (g : BitVec 6) (q : Byte),
      Serves s (cmdPacket ⟨c, g, 0xFF, q⟩ 0x4A [1]) → s.ring.link = 2 →
      Yields (.ringBypass ⟨c, g, 0xFF, q⟩ [1]) s fun t =>
        Answered s (cmdPacket ⟨c, g, 0xFF, q⟩ 0x4A [1]) 0 [] t ∧ t.ring = { s.ring with bypassed := true, leaveDue := true }
        ∧ HostOnly { s with ring := t.ring } t)

/-- TMR_CFG, TMR_CMP, TMR_LINK and CMP_CFG. TMR_CFG gives a stopped timer its mode, clock, prescaler and reload value, counting from
0; TMR_CMP writes a compare register of a stopped timer with no late match; TMR_LINK sets its slave mode and trigger; CMP_CFG
sets a comparator; each is saved. That reserved bits of a setting are masked is the model's choice. Rests on R458, R459, R460,
R461, R489. The model's own choices in it: log entries 4, 74, 75, 68. -/
def Obligations.TimerAndComparatorCommands : Prop :=
  (∀ (s : State) (k : TmrId) (c : BitVec 2) (g : BitVec 6) (q : Byte) (m : Byte) (c0 : Byte) (f : Byte) (a : Byte) (b : Byte) (x : Byte) (y : Byte) (r0 : Byte) (r1 : Byte) (r2 : Byte) (r3 : Byte),
      Serves s (cmdPacket ⟨c, g, 0xFF, q⟩ 0x50 [byteOf k.val 0, m, c0, f, a, b, x, y, r0, r1, r2, r3]) → (s.tmr k).run = false
      → tmrCfgOk k [byteOf k.val 0, m, c0, f, a, b, x, y, r0, r1, r2, r3] = true → s.syncUse k = false →
      Yields (.tmrCfg ⟨c, g, 0xFF, q⟩ [byteOf k.val 0, m, c0, f, a, b, x, y, r0, r1, r2, r3]) s fun t =>
        Answered s (cmdPacket ⟨c, g, 0xFF, q⟩ 0x50 [byteOf k.val 0, m, c0, f, a, b, x, y, r0, r1, r2, r3]) 0 [] t ∧ (t.tmr
        k).mode = m.truncate 3 ∧ (t.tmr k).clkSrc = c0 ∧ (t.tmr k).presc = BitVec.ofNat 16 (leVal [a, b]) ∧ (t.tmr
        k).prescFrac = x ∧ (t.tmr k).reload = BitVec.ofNat 32 (leVal [r0, r1, r2, r3]) ∧ (t.tmr k).count = 0 ∧ (t.tmr k).run
        = (f.getLsbD 0 && m != 0) ∧ (t.tmr k).cmpa = (s.tmr k).nextA ∧ (∀ j, j ≠ k → t.tmr j = s.tmr j) ∧ t.store =
        (s.saveEntry 0x50 k.val [byteOf k.val 0, m, c0, f, a, b, x, y, r0, r1, r2, r3]).store ∧ HostOnly
        { s with tmrs := t.tmrs, store := t.store } t) ∧
  (∀ (s : State) (k : TmrId) (c : BitVec 2) (g : BitVec 6) (q : Byte) (f : Byte) (r0 : Byte) (r1 : Byte) (r2 : Byte) (r3 : Byte),
      Serves s (cmdPacket ⟨c, g, 0xFF, q⟩ 0x51 [byteOf k.val 0, f, 0, 0, r0, r1, r2, r3]) → (s.tmr k).run = false →
      Yields (.tmrCmp ⟨c, g, 0xFF, q⟩ [byteOf k.val 0, f, 0, 0, r0, r1, r2, r3]) s fun t =>
        Answered s (cmdPacket ⟨c, g, 0xFF, q⟩ 0x51 [byteOf k.val 0, f, 0, 0, r0, r1, r2, r3]) 0 [0] t ∧ (t.tmr k).cmpa = (if
        f.getLsbD 0 then (s.tmr k).cmpa else BitVec.ofNat 32 (leVal [r0, r1, r2, r3])) ∧ (t.tmr k).cmpb = (if f.getLsbD 0
        then BitVec.ofNat 32 (leVal [r0, r1, r2, r3]) else (s.tmr k).cmpb) ∧ (t.tmr k).count = (s.tmr k).count ∧ (t.tmr
        k).flag = (s.tmr k).flag ∧ (∀ j, j ≠ k → t.tmr j = s.tmr j) ∧ t.store = (s.saveEntry 0x51 k.val [byteOf k.val 0, f,
        0, 0, r0, r1, r2, r3]).store ∧ HostOnly { s with tmrs := t.tmrs, store := t.store } t) ∧
  (∀ (s : State) (k : TmrId) (c : BitVec 2) (g : BitVec 6) (q : Byte) (e : Byte),
      Serves s (cmdPacket ⟨c, g, 0xFF, q⟩ 0x52 [byteOf k.val 0, 2, e, 0]) → evsrcFor k e = true →
      Yields (.tmrLink ⟨c, g, 0xFF, q⟩ [byteOf k.val 0, 2, e, 0]) s fun t =>
        Answered s (cmdPacket ⟨c, g, 0xFF, q⟩ 0x52 [byteOf k.val 0, 2, e, 0]) 0 [] t ∧ (t.tmr k).smode = 2 ∧ (t.tmr k).trig
        = e ∧ (t.tmr k).run = (s.tmr k).run ∧ (∀ j, j ≠ k → t.tmr j = s.tmr j) ∧ t.store = (s.saveEntry 0x52 k.val [byteOf
        k.val 0, 2, e, 0]).store ∧ HostOnly { s with tmrs := t.tmrs, store := t.store } t) ∧
  (∀ (s : State) (c : BitVec 2) (g : BitVec 6) (q : Byte) (j : Fin 16) (m : Byte) (y : Byte) (f : Byte) (z : Byte) (a : Byte) (b : Byte) (x : Byte) (e : Byte) (v : Byte),
      Serves s (cmdPacket ⟨c, g, 0xFF, q⟩ 0x53 [byteOf j.val 0, m, y, f, z, a, b, x, e, v]) → cmpCfgOk [byteOf j.val 0, m, y,
      f, z, a, b, x, e, v] = true →
      Yields (.cmpCfg ⟨c, g, 0xFF, q⟩ [byteOf j.val 0, m, y, f, z, a, b, x, e, v]) s fun t =>
        Answered s (cmdPacket ⟨c, g, 0xFF, q⟩ 0x53 [byteOf j.val 0, m, y, f, z, a, b, x, e, v]) 0 [] t ∧ (t.gwc j).mode =
        m.truncate 3 ∧ (t.gwc j).hyst = y.truncate 2 ∧ (t.gwc j).filtM = f.truncate 5 ∧ (t.gwc j).filtClk = z.truncate 2 ∧
        (t.gwc j).evtMask = v.truncate 3 ∧ (t.gwc j).thLo = BitVec.ofNat 10 (leVal [a, b]) ∧ (t.gwc j).thHi = BitVec.ofNat
        10 (leVal [x, e]) ∧ (∀ i, i ≠ j → t.gwc i = s.gwc i) ∧ t.store = (s.saveEntry 0x53 j.val [byteOf j.val 0, m, y, f,
        z, a, b, x, e, v]).store ∧ HostOnly { s with gwcs := t.gwcs, store := t.store } t)

/-- PBUS_CFG, PBUS_XFER, PBUS_CLEAR and how they end. PBUS_CFG of an idle enabled bus sets its rate and is saved; PBUS_XFER is
accepted and starts on an idle bus, its completion carrying RESULT, WACK and the bytes read; PBUS_CLEAR is accepted and clears,
ending OK where the bus comes free and BUS_ERROR where it stays stuck; a transfer whose target holds SCL low for 25 ms completes
BUS_ERROR and leaves the bus stuck. Rests on R395, R396, R397, R398, R400, R401, R462, R463, R464. The model's own choices in
it: log entries 4, 73. -/
def Obligations.PeripheralBusCommands : Prop :=
  (∀ (s : State) (b : BusId) (c : BitVec 2) (g : BitVec 6) (q : Byte),
      Serves s (cmdPacket ⟨c, g, 0xFF, q⟩ 0x60 [byteOf b.val 0, 5]) → (s.pb b).enabled = true → (s.pb b).xfer = false →
      Yields (.pbusCfg ⟨c, g, 0xFF, q⟩ [byteOf b.val 0, 5]) s fun t =>
        Answered s (cmdPacket ⟨c, g, 0xFF, q⟩ 0x60 [byteOf b.val 0, 5]) 0 [] t ∧ t.pb b =
        { s.pb b with rate := 2, pend := none } ∧ (∀ d, d ≠ b → t.pb d = s.pb d) ∧ t.store = (s.saveEntry 0x60 b.val [byteOf
        b.val 0, 5]).store ∧ HostOnly { s with pbus := t.pbus, store := t.store } t) ∧
  (∀ (s : State) (b : BusId) (c : BitVec 2) (g : BitVec 6) (q : Byte) (pl : List Byte),
      Serves s (cmdPacket ⟨c, g, 0xFF, q⟩ 0x61 pl) → nth pl 0 = byteOf b.val 0 → Sys2Proof.Machine.xferOk (nth pl 2).toNat
      (field pl 4 2) (field pl 6 2) = true → s.pb b = { Pbus.reset with ready := true, enabled := true } → s.sup.vio = .ok →
      Yields (.pbusXfer ⟨c, g, 0xFF, q⟩ pl) s fun t =>
        Accepted s (cmdPacket ⟨c, g, 0xFF, q⟩ 0x61 pl) t ∧ (t.pb b).xfer = true ∧ (t.pb b).queue.map (·.tag) = [g] ∧ (∀ d, d
        ≠ b → t.pb d = s.pb d) ∧ HostOnly { s with pbus := t.pbus } t) ∧
  (∀ (s : State) (b : BusId) (k : Packet) (r : Byte) (w : Nat) (d : List Byte),
      s.caughtUp = true → s.mb.held = [] → s.mb.room 1024 = true → s.mb.flights = [k] → (s.pb b).xfer = true → (s.pb b).queue
      = [k] → (s.pb b).pend = none → (s.pb b).clears = [] → (s.pb b).clearing = false → r ≤ 3 → (xferReply k r w d).length ≤
      1024 →
      Yields (.pbusXferComplete b r w d) s fun t =>
        Completed s k 0 (xferReply k r w d) t ∧ (t.pb b).xfer = false ∧ (t.pb b).queue = [] ∧ (∀ d, d ≠ b → t.pb d = s.pb d)
        ∧ HostOnly { s with pbus := t.pbus } t) ∧
  (∀ (s : State) (b : BusId) (k : Packet),
      s.caughtUp = true → s.mb.held = [] → s.mb.room 1024 = true → s.mb.flights = [k] → (s.pb b).xfer = true → (s.pb b).queue
      = [k] → (s.pb b).pend = none → (s.pb b).clears = [] → (s.pb b).clearing = false →
      Yields (.pbusStuck b) s fun t =>
        Completed s k 0x51 [] t ∧ (t.pb b).stuck = true ∧ (t.pb b).xfer = false ∧ (∀ d, d ≠ b → t.pb d = s.pb d) ∧ HostOnly
        { s with pbus := t.pbus } t) ∧
  (∀ (s : State) (b : BusId) (c : BitVec 2) (g : BitVec 6) (q : Byte),
      Serves s (cmdPacket ⟨c, g, 0xFF, q⟩ 0x62 [byteOf b.val 0]) → (s.pb b).xfer = false → (s.pb b).clearing = false → (s.pb
      b).clears = [] →
      Yields (.pbusClear ⟨c, g, 0xFF, q⟩ [byteOf b.val 0]) s fun t =>
        Accepted s (cmdPacket ⟨c, g, 0xFF, q⟩ 0x62 [byteOf b.val 0]) t ∧ (t.pb b).clearing = true ∧ (t.pb b).clears.map
        (·.tag) = [g] ∧ (∀ d, d ≠ b → t.pb d = s.pb d) ∧ HostOnly { s with pbus := t.pbus } t) ∧
  (∀ (s : State) (b : BusId) (k : Packet) (o : Bool),
      s.caughtUp = true → s.mb.held = [] → s.mb.room 1024 = true → s.mb.flights = [k] → 10 ≤ s.sys.boot → (s.pb b).xfer =
      false → (s.pb b).clearing = true → (s.pb b).forHost = true → (s.pb b).clears = [k] → (s.pb b).queue = [] →
      Yields (.busClearComplete b o) s fun t =>
        Completed s k (if o then 0 else 0x51) [] t ∧ (t.pb b).clearing = false ∧ (t.pb b).clears = [] ∧ (t.pb b).stuck = !o
        ∧ (t.pb b).ready = true ∧ (t.pb b).needClear = ((s.pb b).needClear || !o) ∧ (∀ d, d ≠ b → t.pb d = s.pb d) ∧
        HostOnly { s with pbus := t.pbus } t) ∧
  (∀ (s : State) (b : BusId),
      10 ≤ s.sys.boot → (s.pb b).clearing = true → (s.pb b).forHost = false → (s.pb b).clears = [] → (s.pb b).queue = [] →
      Yields (.busClearComplete b true) s fun t =>
        (t.pb b).clearing = false ∧ (t.pb b).stuck = (s.pb b).stuck ∧ (t.pb b).ready = true ∧ (∀ d, d ≠ b → t.pb d = s.pb d)
        ∧ t = { s with pbus := t.pbus })

/-- Reading, programming, locking and sparing fuses. FUSE_READ of a word of an unlocked region returns its latched value and
marginal mark; the programming commands that pass their check take the idle controller and are accepted, and complete OK once
every bit named verifies at STRICT margin, with no other bit of the array changed, or VERIFY_FAIL with the bits that did not; a
lock with nothing left to set completes LOCKED. Rests on R465, R466, R467, R468, R561, R562, R565, R567. The model's own choices
in it: log entries 4, 76. -/
def Obligations.FuseCommandsAndTheirEnds : Prop :=
  (∀ (s : State) (c : BitVec 2) (g : BitVec 6) (q : Byte) (w : Nat),
      Serves s (cmdPacket ⟨c, g, 0xFF, q⟩ 0x68 [0, 0, byteOf w 0, byteOf w 1, 1, 0]) → w < 1024 → s.rlocked (regOf w) = false
      →
      Yields (.fuseRead ⟨c, g, 0xFF, q⟩ [0, 0, byteOf w 0, byteOf w 1, 1, 0]) s fun t =>
        Answered s (cmdPacket ⟨c, g, 0xFF, q⟩ 0x68 [0, 0, byteOf w 0, byteOf w 1, 1, 0]) (if s.fuse.marginal.contains w then
        0x40 else 0) (leBytes 2 w ++ [1, 0] ++ leBytes 4 (s.fuseWord w).toNat ++ [if s.fuse.marginal.contains w then 1 else
        0]) t ∧ HostOnly s t) ∧
  (∀ (s : State) (c : BitVec 2) (g : BitVec 6) (q : Byte) (pl : List Byte),
      Serves s (cmdPacket ⟨c, g, 0xFF, q⟩ 0x69 pl) → s.fuseCheck (cmdPacket ⟨c, g, 0xFF, q⟩ 0x69 pl) = 0 → s.fuseBusy = false
      → s.lantern.keygen = none →
      Yields (.fuseProg ⟨c, g, 0xFF, q⟩ pl) s fun t =>
        Accepted s (cmdPacket ⟨c, g, 0xFF, q⟩ 0x69 pl) t ∧ t.fuse.run.map (·.pkt.tag) = some g ∧ t.fuse.normal =
        s.fuse.normal ∧ t.fuse.strict = s.fuse.strict ∧ t.fuse.latched = s.fuse.latched ∧ HostOnly { s with fuse := t.fuse }
        t) ∧
  (∀ (s : State) (c : BitVec 2) (g : BitVec 6) (q : Byte) (pl : List Byte),
      Serves s (cmdPacket ⟨c, g, 0xFF, q⟩ 0x6A pl) → s.fuseCheck (cmdPacket ⟨c, g, 0xFF, q⟩ 0x6A pl) = 0 → s.fuseBusy = false
      → s.lantern.keygen = none →
      Yields (.fuseLock ⟨c, g, 0xFF, q⟩ pl) s fun t =>
        Accepted s (cmdPacket ⟨c, g, 0xFF, q⟩ 0x6A pl) t ∧ t.fuse.run.map (·.pkt.tag) = some g ∧ t.fuse.normal =
        s.fuse.normal ∧ t.fuse.strict = s.fuse.strict ∧ t.fuse.latched = s.fuse.latched ∧ HostOnly { s with fuse := t.fuse }
        t) ∧
  (∀ (s : State) (c : BitVec 2) (g : BitVec 6) (q : Byte) (pl : List Byte),
      Serves s (cmdPacket ⟨c, g, 0xFF, q⟩ 0x6B pl) → s.fuseCheck (cmdPacket ⟨c, g, 0xFF, q⟩ 0x6B pl) = 0 → s.fuseBusy = false
      → s.lantern.keygen = none →
      Yields (.fuseSpare ⟨c, g, 0xFF, q⟩ pl) s fun t =>
        Accepted s (cmdPacket ⟨c, g, 0xFF, q⟩ 0x6B pl) t ∧ t.fuse.run.map (·.pkt.tag) = some g ∧ t.fuse.normal =
        s.fuse.normal ∧ t.fuse.strict = s.fuse.strict ∧ t.fuse.latched = s.fuse.latched ∧ HostOnly { s with fuse := t.fuse }
        t) ∧
  (∀ (s : State) (k : Packet) (u : Bool) (w : Nat) (v : Word),
      s.caughtUp = true → s.mb.held = [] → s.mb.room 1024 = true → s.mb.flights = [k] → k.opcode = 0x69 → s.fuse.run = some
      ⟨k, u, 0, 0⟩ → s.fuse.queue = [] → s.alarm.killPend = false → s.fuseWork k = [(w, v)] → s.fuse.normal.wf = true →
      s.fuse.strict.wf = true →
      Yields (.fuseProgComplete 0) s fun t =>
        Completed s k 0 [] t ∧ (t.fuse.strict.word w) &&& v = v ∧ (t.fuse.normal.word w) = (s.fuse.normal.word w ||| (v &&&
        ~~~ s.fuse.strict.word w)) ∧ (∀ a, (a < 4 * w ∨ 4 * w + 4 ≤ a) → t.fuse.normal.read a = s.fuse.normal.read a) ∧
        t.fuse.run = none ∧ t.fuse.latched = s.fuse.latched) ∧
  (∀ (s : State) (k : Packet) (u : Bool) (w : Nat) (v : Word) (f : Word),
      s.caughtUp = true → s.mb.held = [] → s.mb.room 1024 = true → s.mb.flights = [k] → k.opcode = 0x69 → s.fuse.run = some
      ⟨k, u, 0, 0⟩ → s.fuse.queue = [] → s.alarm.killPend = false → s.fuseWork k = [(w, v)] → s.fuse.failMask w v f ≠ 0 →
      s.sbox.queue.length < 32 → s.fuse.normal.wf = true →
      Yields (.fuseProgComplete f) s fun t =>
        Completed s k 0x41 (leBytes 4 (s.fuse.failMask w v f).toNat) t ∧ t.fuse.evt.getLsbD 1 = true ∧ t.sbox.queue.length =
        s.sbox.queue.length + 1 ∧ (∀ a, (a < 4 * w ∨ 4 * w + 4 ≤ a) → t.fuse.normal.read a = s.fuse.normal.read a) ∧
        t.fuse.run = none) ∧
  (∀ (s : State) (k : Packet) (u : Bool) (w : Nat),
      s.caughtUp = true → s.mb.held = [] → s.mb.room 1024 = true → s.mb.flights = [k] → k.opcode = 0x6A → s.fuse.run = some
      ⟨k, u, 0, 0⟩ → s.fuse.queue = [] → s.alarm.killPend = false → s.lockPlan k = (0, [(w, 0x0F)]) → s.fuse.normal.wf = true
      → s.fuse.strict.wf = true → s.fuse.strict.word w = 0 → (nth k.payload 1).getLsbD 7 = false →
      Yields (.fuseLockComplete 0) s fun t =>
        Completed s k 0 [] t ∧ wlockIn (t.fuse.normal.word w) = true ∧ (∀ a, (a < 4 * w ∨ 4 * w + 4 ≤ a) →
        t.fuse.normal.read a = s.fuse.normal.read a) ∧ t.fuse.run = none) ∧
  (∀ (s : State) (k : Packet) (u : Bool),
      s.caughtUp = true → s.mb.held = [] → s.mb.room 1024 = true → s.mb.flights = [k] → k.opcode = 0x6A → s.fuse.run = some
      ⟨k, u, 0, 0⟩ → s.fuse.queue = [] → s.alarm.killPend = false → (s.lockPlan k).1 = 0x22 →
      Yields (.fuseLockComplete 0) s fun t =>
        Completed s k 0x22 [] t ∧ t.fuse.normal = s.fuse.normal ∧ t.fuse.strict = s.fuse.strict ∧ t.fuse.run = none) ∧
  (∀ (s : State) (k : Packet) (u : Bool),
      s.caughtUp = true → s.mb.held = [] → s.mb.room 1024 = true → s.mb.flights = [k] → k.opcode = 0x6B → s.fuse.run = some
      ⟨k, u, 0, 0⟩ → s.fuse.queue = [] → s.alarm.killPend = false → k.payload = [2, 0, 0xD0, 0, 5, 0, 0, 0] → s.fuse.normal =
      factoryArray → s.fuse.strict = factoryArray →
      Yields (.fuseSpareComplete 0) s fun t =>
        Completed s k 0 [] t ∧ spareOf (readMap t.fuse.normal t.fuse.strict).1 0xD0 = some 2 ∧ t.fuse.normal.word 0x402 = 5
        ∧ t.fuse.run = none)

/-- Strongbox, Vault, alarm and Lantern-unlock commands. SBOX_READ of one slot returns its committed record or zeros; SBOX_MARK
posts the host's bytes and names the sequence number they will get; VAULT_CFG stores a key with its check value in a slot,
erases one, and reads the status; ALARM_CFG sets a source and is saved; LANTERN_UNLOCK gives a nonce, unlocks on its right
answer, denies and counts a wrong one, and locks again. That a denial past its limit fires the alarm in the step that counts it
is the model's choice. Rests on R469, R470, R471, R472, R473. The model's own choices in it: log entries 4, 81, 82, 83, 68. -/
def Obligations.StrongboxVaultAndAlarmCommands : Prop :=
  (∀ (s : State) (c : BitVec 2) (g : BitVec 6) (q : Byte) (i : Nat),
      Serves s (cmdPacket ⟨c, g, 0xFF, q⟩ 0x70 [0, 0, byteOf i 0, byteOf i 1, 0, 0, 1, 0]) → i < 8192 →
      Yields (.sboxRead ⟨c, g, 0xFF, q⟩ [0, 0, byteOf i 0, byteOf i 1, 0, 0, 1, 0]) s fun t =>
        Answered s (cmdPacket ⟨c, g, 0xFF, q⟩ 0x70 [0, 0, byteOf i 0, byteOf i 1, 0, 0, 1, 0]) 0 (if committed (s.sbox.slot
        i) then s.sbox.slot i else List.replicate 64 0) t ∧ HostOnly s t) ∧
  (∀ (s : State) (c : BitVec 2) (g : BitVec 6) (q : Byte) (pl : List Byte),
      Serves s (cmdPacket ⟨c, g, 0xFF, q⟩ 0x71 pl) → s.sbox.queue.length < 32 → s.sbox.lost = 0 →
      Yields (.sboxMark ⟨c, g, 0xFF, q⟩ pl) s fun t =>
        Answered s (cmdPacket ⟨c, g, 0xFF, q⟩ 0x71 pl) 0 (leBytes 4 (seqAfter s.sbox.queue.length s.sbox.nextSeq).toNat) t ∧
        t.sbox.queue = s.sbox.queue ++ [⟨0x13, pl, s.sys.sts.truncate 48⟩] ∧ t.sbox.mram = s.sbox.mram ∧ HostOnly
        { s with sbox := t.sbox } t) ∧
  (∀ (s : State) (c : BitVec 2) (g : BitVec 6) (q : Byte) (i : Nat) (d : List Byte),
      Serves s (cmdPacket ⟨c, g, 0xFF, q⟩ 0x78 (1 :: byteOf i 0 :: 1 :: 0 :: d)) → i < 8 → d.length = 32 → (s.keySlot
      i).state.toNat < 2 → s.killed = false →
      Yields (.vaultCfg ⟨c, g, 0xFF, q⟩ (1 :: byteOf i 0 :: 1 :: 0 :: d)) s fun t =>
        Answered s (cmdPacket ⟨c, g, 0xFF, q⟩ 0x78 (1 :: byteOf i 0 :: 1 :: 0 :: d)) 0 [] t ∧ s.setSlot i ⟨1, 1, d, (sha256
        d).take 4⟩ = { s with vault := t.vault } ∧ HostOnly { s with vault := t.vault } t) ∧
  (∀ (s : State) (c : BitVec 2) (g : BitVec 6) (q : Byte) (i : Nat),
      Serves s (cmdPacket ⟨c, g, 0xFF, q⟩ 0x78 [2, byteOf i 0, 1, 0]) → i < 8 → (s.keySlot i).state.toNat < 2 →
      Yields (.vaultCfg ⟨c, g, 0xFF, q⟩ [2, byteOf i 0, 1, 0]) s fun t =>
        Answered s (cmdPacket ⟨c, g, 0xFF, q⟩ 0x78 [2, byteOf i 0, 1, 0]) 0 [] t ∧ t.keySlot i = KeySlot.reset ∧ (∀ j, j ≠ i
        → t.keySlot j = s.keySlot j) ∧ t.vault.priv = s.vault.priv ∧ HostOnly { s with vault := t.vault } t) ∧
  (∀ (s : State) (c : BitVec 2) (g : BitVec 6) (q : Byte),
      Serves s (cmdPacket ⟨c, g, 0xFF, q⟩ 0x78 [0, 0, 1, 0]) →
      Yields (.vaultCfg ⟨c, g, 0xFF, q⟩ [0, 0, 1, 0]) s fun t =>
        Answered s (cmdPacket ⟨c, g, 0xFF, q⟩ 0x78 [0, 0, 1, 0]) 0 (leBytes 4 s.vaultStat ++ s.vault.slots.toList.flatMap
        KeySlot.entry) t ∧ HostOnly s t) ∧
  (∀ (s : State) (c : BitVec 2) (g : BitVec 6) (q : Byte) (v : Byte) (x : Byte) (y : Byte) (z : Byte) (d : List Byte),
      Serves s (cmdPacket ⟨c, g, 0xFF, q⟩ 0x78 (v :: x :: y :: z :: d)) → y ≠ 1 →
      Yields (.vaultCfg ⟨c, g, 0xFF, q⟩ (v :: x :: y :: z :: d)) s fun t =>
        Answered s (cmdPacket ⟨c, g, 0xFF, q⟩ 0x78 (v :: x :: y :: z :: d)) 0x14 [] t ∧ HostOnly s t) ∧
  (∀ (s : State) (c : BitVec 2) (g : BitVec 6) (q : Byte) (i : Nat) (a : Byte) (m : Byte),
      Serves s (cmdPacket ⟨c, g, 0xFF, q⟩ 0x79 [byteOf i 0, a, 0, m]) → i < 7 → a.toNat ≤ 2 → (i = 6) = (m ≠ 0) → (s.almCfg
      i).lock = false →
      Yields (.alarmCfg ⟨c, g, 0xFF, q⟩ [byteOf i 0, a, 0, m]) s fun t =>
        Answered s (cmdPacket ⟨c, g, 0xFF, q⟩ 0x79 [byteOf i 0, a, 0, m]) 0 [] t ∧ t.almCfg i = ⟨a.truncate 2, false, m⟩ ∧
        (∀ j, j ≠ i → t.almCfg j = s.almCfg j) ∧ t.store = (s.saveEntry 0x79 i [byteOf i 0, a, 0, m]).store ∧ HostOnly
        { s with alarm := t.alarm, store := t.store } t) ∧
  (∀ (s : State) (c : BitVec 2) (g : BitVec 6) (q : Byte),
      Serves s (cmdPacket ⟨c, g, 0xFF, q⟩ 0x7A [0, 0, 0, 0]) → s.killed = false →
      Yields (.lanternUnlock ⟨c, g, 0xFF, q⟩ [0, 0, 0, 0]) s fun t =>
        Answered s (cmdPacket ⟨c, g, 0xFF, q⟩ 0x7A [0, 0, 0, 0]) 0 (s.random 16) t ∧ t.vault =
        { s.stirred.vault with nonce := some (s.random 16) } ∧ HostOnly { s with vault := t.vault } t) ∧
  (∀ (s : State) (c : BitVec 2) (g : BitVec 6) (q : Byte) (i : Nat) (d : List Byte) (n : List Byte),
      Serves s (cmdPacket ⟨c, g, 0xFF, q⟩ 0x7A (1 :: byteOf i 0 :: 0 :: 0 :: d)) → i < 8 → s.killed = false → (s.keySlot
      i).state = 1 → s.vault.nonce = some n → d.length = 32 → hmac256 (s.keySlot i).key (n ++ leBytes 4 0xA5324810) = d →
      Yields (.lanternUnlock ⟨c, g, 0xFF, q⟩ (1 :: byteOf i 0 :: 0 :: 0 :: d)) s fun t =>
        Answered s (cmdPacket ⟨c, g, 0xFF, q⟩ 0x7A (1 :: byteOf i 0 :: 0 :: 0 :: d)) 0 [] t ∧ t.lantern.unlocked = true ∧
        t.alarm = { s.alarm with authFail := 0 } ∧ t.vault = { s.vault with nonce := none } ∧ HostOnly
        { s with vault := t.vault, alarm := t.alarm, lantern := t.lantern } t) ∧
  (∀ (s : State) (c : BitVec 2) (g : BitVec 6) (q : Byte) (i : Nat) (d : List Byte),
      Serves s (cmdPacket ⟨c, g, 0xFF, q⟩ 0x7A (1 :: byteOf i 0 :: 0 :: 0 :: d)) → i < 8 → s.killed = false → (s.keySlot
      i).state = 0 → d.length = 32 → satAdd s.alarm.authFail 1 < (s.almCfg 6).limit →
      Yields (.lanternUnlock ⟨c, g, 0xFF, q⟩ (1 :: byteOf i 0 :: 0 :: 0 :: d)) s fun t =>
        Answered s (cmdPacket ⟨c, g, 0xFF, q⟩ 0x7A (1 :: byteOf i 0 :: 0 :: 0 :: d)) 0x23 [] t ∧ t.lantern.unlocked =
        s.lantern.unlocked ∧ t.alarm = { s.alarm with authFail := satAdd s.alarm.authFail 1 } ∧ t.vault =
        { s.vault with nonce := none } ∧ HostOnly { s with vault := t.vault, alarm := t.alarm } t) ∧
  (∀ (s : State) (c : BitVec 2) (g : BitVec 6) (q : Byte),
      Serves s (cmdPacket ⟨c, g, 0xFF, q⟩ 0x7A [2, 0, 0, 0]) → s.fuse.queue = [] →
      Yields (.lanternUnlock ⟨c, g, 0xFF, q⟩ [2, 0, 0, 0]) s fun t =>
        Answered s (cmdPacket ⟨c, g, 0xFF, q⟩ 0x7A [2, 0, 0, 0]) 0 [] t ∧ t.lantern =
        { s.lantern with unlocked := false, watch := false, keygen := none, wait := [] } ∧ HostOnly
        { s with lantern := t.lantern } t)

/-- Counters, freezes, snapshots, the trace, and replies in parts. PERF_CFG sets one counter and its block's permission and is
saved; PERF_FREEZE freezes at once and gathers, releases, or arms a trigger, which an edge on its TIN pin then fires once, and
which such an edge leaves alone where a timer is its source; the snapshot changes over when gathering completes, with the STS of
its edge; a counter of clocks that wraps sets its overflow bit; TRACE_CFG sets the sample count, TRACE_READ returns the records;
a reply's last part carries the final status. That reserved bits of a setting are masked is the model's choice. Rests on R423,
R474, R475, R476, R477, R581, R587, R590. The model's own choices in it: log entries 4, 87, 88, 68. -/
def Obligations.CountersTracePartsAndSnapshots : Prop :=
  (∀ (s : State) (c : BitVec 2) (g : BitVec 6) (q : Byte) (b : Nat) (n : Nat) (e : Byte) (f : Byte) (m : Byte),
      Serves s (cmdPacket ⟨c, g, 0xFF, q⟩ 0x80 [byteOf b 0, byteOf n 0, e, f, m]) → b < 38 → n < 4 → e.toNat ≤ lastEvent b →
      (n % 2 = 1 → f.getLsbD 1 = false) → s.perf.gather = false →
      Yields (.perfCfg ⟨c, g, 0xFF, q⟩ [byteOf b 0, byteOf n 0, e, f, m]) s fun t =>
        Answered s (cmdPacket ⟨c, g, 0xFF, q⟩ 0x80 [byteOf b 0, byteOf n 0, e, f, m]) 0 [] t ∧ (t.perf.ctrs[4 * b + n]?).map
        (fun x => (x.event, x.enable, x.chain)) = some (e, f.getLsbD 0, f.getLsbD 1) ∧ t.perf.perm[b]? = some m ∧ t.store =
        (s.saveEntry 0x80 (4 * b + n) [byteOf b 0, byteOf n 0, e, f, m]).store ∧ HostOnly { s with store := t.store } t) ∧
  (∀ (s : State) (c : BitVec 2) (g : BitVec 6) (q : Byte),
      Serves s (cmdPacket ⟨c, g, 0xFF, q⟩ 0x81 [1, 0]) → s.perf.gather = false →
      Yields (.perfFreeze ⟨c, g, 0xFF, q⟩ [1, 0]) s fun t =>
        Answered s (cmdPacket ⟨c, g, 0xFF, q⟩ 0x81 [1, 0]) 0 [] t ∧ t.perf.frozen = true ∧ t.perf.gather = true ∧
        t.perf.takenSts = s.sys.sts ∧ t.perf.trig = none ∧ HostOnly s t) ∧
  (∀ (s : State) (c : BitVec 2) (g : BitVec 6) (q : Byte),
      Serves s (cmdPacket ⟨c, g, 0xFF, q⟩ 0x81 [2, 0]) →
      Yields (.perfFreeze ⟨c, g, 0xFF, q⟩ [2, 0]) s fun t =>
        Answered s (cmdPacket ⟨c, g, 0xFF, q⟩ 0x81 [2, 0]) 0 [] t ∧ t.perf.frozen = false ∧ t.perf.trig = none ∧ t.perf.snap
        = s.perf.snap ∧ HostOnly s t) ∧
  (∀ (s : State) (c : BitVec 2) (g : BitVec 6) (q : Byte) (e : Byte),
      Serves s (cmdPacket ⟨c, g, 0xFF, q⟩ 0x81 [1, e]) → evsrcOk e = true →
      Yields (.perfFreeze ⟨c, g, 0xFF, q⟩ [1, e]) s fun t =>
        Answered s (cmdPacket ⟨c, g, 0xFF, q⟩ 0x81 [1, e]) 0 [] t ∧ t.perf.trig = some (e, false) ∧ t.perf.frozen =
        s.perf.frozen ∧ HostOnly s t) ∧
  (∀ (s : State) (e : Byte),
      s.perf.trig = some (e, false) → isTin e = true → s.perf.gather = false →
      Yields (.freezeTrigger) s fun t =>
        t.perf.frozen = true ∧ t.perf.gather = true ∧ t.perf.trig = none ∧ t.perf.takenSts = s.sys.sts ∧ t =
        { s with perf := t.perf }) ∧
  (∀ (s : State) (e : Byte),
      s.perf.trig = some (e, false) → isTin e = false →
      Yields (.freezeTrigger) s fun t =>
        t = s) ∧
  (∀ (s : State),
      s.perf.gather = true → s.perf.again = [] → s.perf.pend = [] →
      Yields (.snapshotComplete false) s fun t =>
        t.perf.snap = s.perf.taken ∧ t.perf.snapSts = s.perf.takenSts ∧ t.perf.snapSeq = s.perf.snapSeq + 1 ∧
        t.perf.snapValid = true ∧ t.perf.snapErr = false ∧ t.perf.gather = false ∧ t = { s with perf := t.perf }) ∧
  (∀ (s : State),
      s.perf.gather = true → s.perf.again = [] → s.perf.pend = [] →
      Yields (.snapshotComplete true) s fun t =>
        t.perf.snap = s.perf.snap ∧ t.perf.snapSeq = s.perf.snapSeq ∧ t.perf.snapValid = false ∧ t.perf.snapErr = true ∧ t =
        { s with perf := t.perf }) ∧
  (∀ (s : State) (v : Word),
      s.perf.frozen = false → (s.perf.ctrs[140]?) = some ⟨7, true, false, v⟩ →
      Yields (.perfCounterWrap 35 0) s fun t =>
        (t.perf.ctrs[140]?).map (·.val) = some 0 ∧ t.perf.ovf = setBit s.perf.ovf 140 ∧ t = { s with perf := t.perf }) ∧
  (∀ (s : State) (c : BitVec 2) (g : BitVec 6) (q : Byte) (a : Byte) (b : Byte),
      Serves s (cmdPacket ⟨c, g, 0xFF, q⟩ 0x82 [a, b, 0]) → s.trace.reading = 0 →
      Yields (.traceCfg ⟨c, g, 0xFF, q⟩ [a, b, 0]) s fun t =>
        Answered s (cmdPacket ⟨c, g, 0xFF, q⟩ 0x82 [a, b, 0]) 0 [] t ∧ t.trace.n = BitVec.ofNat 16 (leVal [a, b]) ∧ t.store
        = (s.saveEntry 0x82 0xFF [a, b, 0]).store ∧ HostOnly { s with store := t.store } t) ∧
  (∀ (s : State) (c : BitVec 2) (g : BitVec 6) (q : Byte) (n : Nat),
      Serves s (cmdPacket ⟨c, g, 0xFF, q⟩ 0x83 [0, byteOf n 0, byteOf n 1]) → 1 ≤ n → n ≤ 64 → s.trace.pend = none →
      Yields (.traceRead ⟨c, g, 0xFF, q⟩ [0, byteOf n 0, byteOf n 1]) s fun t =>
        Answered s (cmdPacket ⟨c, g, 0xFF, q⟩ 0x83 [0, byteOf n 0, byteOf n 1]) 0 ((s.trace.ring.take n).flatMap
        TraceRec.bytes) t ∧ t.trace.reading = s.trace.reading ∧ HostOnly s t) ∧
  (∀ (s : State) (k : Packet) (st : Byte) (b : List Byte),
      s.canServe = true → s.caughtUp = true → s.mb.held = [] → s.mb.room 1024 = true → s.mb.parts = [(k, st, [b])] → b.length
      ≤ 1024 → k.opcode = 0x49 →
      Yields (.replyPart k.tag) s fun t =>
        t.mb = { s.mb with parts := [], replies := s.mb.replies ++ [k.reply st b false false true] } ∧ t =
        { s with mb := t.mb, perf := t.perf })

/-- ECHO returns its payload unchanged with status OK. For every payload that passes the checks of a command, an ECHO taken while
the interpreter waits is answered at once with status OK and that payload, and nothing but the mailbox, the counters, the trace,
the free values drawn and the power state changes; every payload of up to 1,024 bytes passes the length check. That the command
is taken, run and answered in the step that brings it is the model's choice. Rests on R437. The model's own choices in it: log
entry 4. -/
def Obligations.EchoReturnsItsPayload : Prop :=
  (∀ (s : State) (c : BitVec 2) (g : BitVec 6) (q : Byte) (pl : List Byte),
      Serves s (cmdPacket ⟨c, g, 0xFF, q⟩ 0x02 pl) →
      Yields (.echo ⟨c, g, 0xFF, q⟩ pl) s fun t =>
        Answered s (cmdPacket ⟨c, g, 0xFF, q⟩ 0x02 pl) 0 pl t ∧ HostOnly s t) ∧
  (∀ (h : CmdHdr) (pl : List Byte), pl.length ≤ 1024 → (cmdPacket h 0x02 pl).len = pl.length ∧ lenOk 0x02 pl = true)

/-- The window pointer wraps within the block that WRAPCFG selects. For every state of the host target the pointer after a byte is
(pointer AND NOT (W - 1)) OR ((pointer + 1) AND (W - 1)), W being 256, 16, 32 or 64 bytes as WRAP selects; WRAPCFG takes bits 1
and 0 of what is written to it and nothing else of the device changes, it reads them with its reserved bits 0, and it is 0 at
reset. Rests on R377. -/
def Obligations.PointerWrapsInItsBlock : Prop :=
  (∀ b : HostBus, b.wrap = 0 → b.next = (b.ptr &&& ~~~ 0xFF) ||| ((b.ptr + 1) &&& 0xFF)) ∧
  (∀ b : HostBus, b.wrap = 1 → b.next = (b.ptr &&& ~~~ 0x0F) ||| ((b.ptr + 1) &&& 0x0F)) ∧
  (∀ b : HostBus, b.wrap = 2 → b.next = (b.ptr &&& ~~~ 0x1F) ||| ((b.ptr + 1) &&& 0x1F)) ∧
  (∀ b : HostBus, b.wrap = 3 → b.next = (b.ptr &&& ~~~ 0x3F) ||| ((b.ptr + 1) &&& 0x3F)) ∧
  (∀ (s : State) (v : Byte), s.winWrite 0 7 v = { s with bus := { s.bus with wrap := v.extractLsb' 0 2 } }) ∧
  (∀ (s : State) (role : Nat), s.winByte role 0 7 = s.bus.wrap.zeroExtend 8) ∧ State.reset.bus.wrap = 0

/-- What a GoodCRC, its absence, a waiting trigger, tSinkTx, a decision cycle and the frozen Ledger's test do in general. Whatever
message of any SOP type is on the line, a GoodCRC with its SOP type and MessageID advances that type's MessageID and the next
waiting message goes out, and its absence retransmits it while retries are left; whichever trigger waits, a source under a
Revision 3.x contract changes its Rp to 1.5 A for it, a sink that reads SinkTxOk and a source with no contract send its first
message, and so does tSinkTx; a decision cycle of a frozen Ledger answers each new demand QUEUED with reason 0x08 and keeps
every grant, and every cycle whose lanes agree counts one and leaves no repeat due; the recovery test thaws the Ledger exactly
where it passes and agrees. The MessageID's course, the start of a trigger and what a frozen Ledger answers rest on the model's
choices. Rests on R142, R144, R146, R154, R302, R320, R518. The model's own choices in it: log entries 36, 41, 56. -/
def Obligations.LineAndLedgerEventsTakeEffect : Prop :=
  (∀ (s : State) (p : PortId) (k : Sop) (id : BitVec 3) (m : Msg),
      s.pdLive p = true → s.sopLive p k = true → (s.port p).pd.tx = some m → m.sop = k → m.id = id →
      Yields (.goodcrc p k id) s fun t =>
        (t.port p).pd.idOf k = (s.port p).pd.idOf k + 1 ∧ ((t.port p).pd.heard = true ∨ k ≠ .sop) ∧ OthersSame p s t) ∧
  (∀ (s : State) (p : PortId) (k : Sop) (id : BitVec 3) (m : Msg),
      s.pdLive p = true → s.sopLive p k = true → (s.port p).pd.tx = some m → m.sop = k → m.id = id → (s.port p).pd.txQ = [] →
      m.ty ∈ [.request, .getSinkCap, .getSourceCap, .getRevision, .getStatus, .getSourceCapExt, .getBatteryCap, .eprMode,
      .eprKeepAlive, .vdm, .prSwap, .drSwap, .vconnSwap] → (s.port p).pd.ams ≠ .partner →
      Yields (.goodcrc p k id) s fun t =>
        (t.port p).pd = { (s.port p).pd.bumpId k with tx := none, tries := 0, heard := (s.port p).pd.heard || k == .sop } ∧
        PortOnly p s t) ∧
  (∀ (s : State) (p : PortId) (m : Msg),
      s.pdLive p = true → (s.port p).pd.tx = some m → s.sopLive p m.sop = true → (s.port p).pd.tries < (if (s.port p).pd.rev3
      then 2 else 3) →
      Yields (.receiveTimeout p) s fun t =>
        (t.port p).pd = { (s.port p).pd with tries := (s.port p).pd.tries + 1 } ∧ (t.port p).tc = (s.port p).tc ∧ t =
        { s with ports := t.ports, perf := t.perf } ∧ OthersSame p s t) ∧
  (∀ (s : State) (p : PortId) (a : Ams) (r : List Ams),
      s.pdLive p = true → (s.port p).tc.state = .attachedSrc → (s.port p).pd.tx = none → (s.port p).pd.trig = a :: r → (s.port
      p).pd.ams = .none → (s.port p).pd.contract = .explicit → (s.port p).pd.txRev = 2 → (s.port p).pd.ng = false → (s.port
      p).pd.hr = .none → (s.port p).pd.bist = 0 →
      Yields (.amsStart p) s fun t =>
        (t.port p).pd = { (s.port p).pd with sinkTxWait := true, ng := true, ams := a, trig := r.filter (· != a) } ∧ (t.port
        p).tc = { (s.port p).tc with rpAdv := .a15 } ∧ PortOnly p s t) ∧
  (∀ (s : State) (p : PortId) (a : Ams) (ty : Mt) (r : List Ams),
      s.pdLive p = true → (s.port p).tc.state = .attachedSrc → (s.port p).pd.contract = .none → (s.port p).pd.tx = none →
      (s.port p).pd.txQ = [] → (s.port p).pd.trig = a :: r → (s.port p).pd.ams = .none → (s.port p).pd.hr = .none → (s.port
      p).pd.bist = 0 → (a, ty) ∈ [(Ams.getSinkCap, Mt.getSinkCap), (.getRevision, .getRevision), (.getSourceCap,
      .getSourceCap), (.getSourceCapExt, .getSourceCapExt), (.getBatteryCap, .getBatteryCap), (.getBatteryStatus,
      .getBatteryStatus), (.getStatus, .getStatus), (.alertOcp, .alert), (.alertOtp, .alert), (.alertInput, .alert),
      (.eprEntry, .eprMode), (.eprKeepAlive, .eprKeepAlive), (.softReset, .softReset)] →
      Yields (.amsStart p) s fun t =>
        (t.port p).pd.tx.map (·.ty) = some ty ∧ (t.port p).pd.trig = r.filter (· != a) ∧ (t.port p).tc = (s.port p).tc ∧
        EngineOnly p s t) ∧
  (∀ (s : State) (p : PortId) (a : Ams) (ty : Mt) (r : List Ams),
      s.pdLive p = true → (s.port p).tc.state = .attachedSnk → (s.port p).pd.contract = .explicit → (s.port p).sinkTxOk = true
      → (s.port p).pd.tx = none → (s.port p).pd.txQ = [] → (s.port p).pd.trig = a :: r → (s.port p).pd.ams = .none → (s.port
      p).pd.hr = .none → (s.port p).pd.bist = 0 → (a, ty) ∈ [(Ams.getSinkCap, Mt.getSinkCap), (.getRevision, .getRevision),
      (.getSourceCap, .getSourceCap), (.getSourceCapExt, .getSourceCapExt), (.getBatteryCap, .getBatteryCap),
      (.getBatteryStatus, .getBatteryStatus), (.getStatus, .getStatus), (.alertOcp, .alert), (.alertOtp, .alert),
      (.alertInput, .alert), (.eprEntry, .eprMode), (.eprKeepAlive, .eprKeepAlive), (.softReset, .softReset)] →
      Yields (.amsStart p) s fun t =>
        (t.port p).pd.tx.map (·.ty) = some ty ∧ (t.port p).pd.trig = r.filter (· != a) ∧ (t.port p).tc = (s.port p).tc ∧
        EngineOnly p s t) ∧
  (∀ (s : State) (p : PortId) (a : Ams) (ty : Mt),
      s.pdLive p = true → (s.port p).pd.tx = none → (s.port p).pd.txQ = [] → (s.port p).pd.sinkTxWait = true → (s.port
      p).pd.ams = a → (a, ty) ∈ [(Ams.getSinkCap, Mt.getSinkCap), (.getRevision, .getRevision), (.getSourceCap,
      .getSourceCap), (.getSourceCapExt, .getSourceCapExt), (.getBatteryCap, .getBatteryCap), (.getBatteryStatus,
      .getBatteryStatus), (.getStatus, .getStatus), (.alertOcp, .alert), (.alertOtp, .alert), (.alertInput, .alert),
      (.eprEntry, .eprMode), (.eprKeepAlive, .eprKeepAlive), (.softReset, .softReset)] →
      Yields (.sinkTxExpiry p) s fun t =>
        (t.port p).pd.tx.map (·.ty) = some ty ∧ (t.port p).pd.sinkTxWait = false ∧ (t.port p).pd.trig = (s.port p).pd.trig ∧
        EngineOnly p s t) ∧
  (∀ (s : State) (p : PortId) (b : Bool) (n : Nat) (k : DemKind),
      s.ledgerRuns = true → s.ledger.ready = true → s.ledger.frozen = true → s.ledger.rerun = none → s.ledger.posts = [.demand
      p n k false false] →
      Yields (.decisionCycle b) s fun t =>
        (t.port p).lg.outcome = 3 ∧ (t.port p).lg.reason = 8 ∧ (∀ q, (t.port q).lg.grant = (s.port q).lg.grant) ∧
        t.ledger.frozen = true) ∧
  (∀ (s : State) (b : Bool),
      s.ledgerRuns = true → b = false ∨ s.safeOn 2 = false ∨ s.ledger.frozen = true →
      Yields (.decisionCycle b) s fun t =>
        t.ledger.cycle = s.ledger.cycle + 1 ∧ t.ledger.rerun = none ∧ t.ledger.frozen = s.ledger.frozen ∧ t.ledger.stuck =
        s.ledger.stuck ∧ (s.ledger.frozen = true → ∀ q, (t.port q).lg.grant = (s.port q).lg.grant) ∧ (∀ q, ((s.port
        q).cfgPend = none → (t.port q).cfg = (s.port q).cfg) ∧ (t.port q).tc.vbusMv = (s.port q).tc.vbusMv) ∧ StoresSame s t) ∧
  (∀ (s : State) (a : Bool) (b : Bool),
      s.memOn = true → s.ledger.frozen = true → s.ledger.stuck = false →
      Yields (.freezeRecoveryTest a b) s fun t =>
        t.ledger.frozen = !(a && b) ∧ t.ledger.stuck = !(a && b) ∧ t.ledger.ready = (s.ledger.ready && a && b) ∧ (∀ q,
        (t.port q).lg.grant = (s.port q).lg.grant) ∧ t.ports = s.ports)

/-- The header code is the CRC-8 of polynomial 0x07. The code starts at 0 and is not XORed at its end; each byte goes in with its
most significant bit first, by the polynomial 0x07; the check value over "123456789" is 0xF4; and a reply's header carries its
code. Rests on R410. -/
def Obligations.HeaderCodeIsCrc8 : Prop :=
  (crc8 [] = 0 ∧ crc8 [0x01] = 0x07 ∧ crc8 [0x80] = 0x89) ∧
  (crc8 [0x31, 0x32, 0x33, 0x34, 0x35, 0x36, 0x37, 0x38, 0x39] = 0xF4) ∧
  (∀ (l : List Byte) (b : Byte), crc8 (l ++ [b]) = crc8 [crc8 l ^^^ b]) ∧
  (∀ x y : Byte, crc8 [x ^^^ y] = crc8 [x] ^^^ crc8 [y]) ∧
  (∀ r : Reply, headerOk r.bytes = true)

/-- Each DIGEST bit is the OR of its sources, and the window shows DIGEST. For every state: bits n and 32 + n are the attention and
fault of Pn, bits 64 to 71 the events of a READY Ledger, bit 72 the island change, bits 73 to 78 the events of a READY Ridgeline
in their groups, bits 80 to 95 the timer groups, bits 96 to 111 the comparators, bits 112 to 119 waiting replies, header errors,
Strongbox, alarm, fuses, safety, interpreter restart and Ember; bits 79 and 120 and above read 0; and offsets 0x10 to 0x1F of
page 0x00 show its bytes. Rests on R612, R394, R505. The model's own choices in it: log entry 70. -/
def Obligations.DigestBitsAreTheirSources : Prop :=
  (∀ (s : State) (p : PortId), s.digest.testBit p.val = s.attention p ∧ s.digest.testBit (32 + p.val) = s.portFault p) ∧
  (∀ (s : State) (i : Fin 8), s.digest.testBit (64 + i.val) = (s.ledger.ready && s.ledger.evt.getLsbD i.val)) ∧
  (∀ s : State, s.digest.testBit 72 = s.ledger.islChg ∧
    s.digest.testBit 73 = (s.ringReady && (s.ring.evt.getLsbD 0 || s.ring.evt.getLsbD 1 || s.ring.evt.getLsbD 4)) ∧
    s.digest.testBit 74 = (s.ringReady && (s.ring.evt.getLsbD 2 || s.ring.evt.getLsbD 3 || s.ring.evt.getLsbD 5)) ∧
    s.digest.testBit 75 = (s.ringReady && s.ring.evt.getLsbD 6) ∧
    s.digest.testBit 76 = (s.ringReady && s.ring.evt.getLsbD 7) ∧
    s.digest.testBit 77 = (s.ringReady && (s.ring.evt.getLsbD 8 || s.ring.evt.getLsbD 9)) ∧
    s.digest.testBit 78 = (s.ringReady && s.ring.evt.getLsbD 10) ∧ s.digest.testBit 79 = false) ∧
  (∀ (s : State) (g : Fin 16),
    s.digest.testBit (80 + g.val) = (s.tmrHot (3 * g.val) || s.tmrHot (3 * g.val + 1) || s.tmrHot (3 * g.val + 2)) ∧
    s.digest.testBit (96 + g.val) = s.gwcEvt.getLsbD g.val) ∧
  (∀ s : State, s.digest.testBit 112 = !s.mb.replies.isEmpty ∧ s.digest.testBit 113 = (s.bus.hdrErr != 0) ∧
    s.digest.testBit 114 = (s.sys.sboxReady && s.sbox.evt != 0) ∧ s.digest.testBit 115 = (s.alarm.evt != 0) ∧
    s.digest.testBit 116 = (s.fuse.evt != 0) ∧ s.digest.testBit 117 = (s.safety.evt != 0) ∧
    s.digest.testBit 118 = s.sys.evt.getLsbD 0 ∧ s.digest.testBit 119 = s.sys.evt.getLsbD 1) ∧
  (∀ (s : State) (i : Nat), 120 ≤ i → s.digest.testBit i = false) ∧
  (∀ (s : State) (role : Nat) (i : Fin 16), s.winByte role 0 (0x10 + i.val) = byteOf s.digest i.val)

/-- A step runs the command at the front of the queue with the queue's rest. For every command c and state s, a step of s with c at
the front of its queue is c's own effect on s with the rest of the queue. Rests on spec/95_what_each_step_holds.md. The model's
own choices in it: log entry 72. -/
def Obligations.StepRunsTheFrontCommand : Prop :=
  (∀ (c : Instr) (s : State), step { s with pending := c :: s.pending } = exec c s)

/-- Every command and event completes in every state. Whatever the state and the operands, a command or event of the table has an
effect and answers a next state: none ends in a fault or a refusal. Rests on spec/13_command_reference.md,
spec/95_what_each_step_holds.md. The model's own choices in it: log entries 3, 2. -/
def Obligations.EveryCommandCompletes : Prop :=
  (∀ (c : Instr) (s : State), ∃ t, exec c s = .next t)

/-- With an empty queue a step lets one microsecond pass. A step on an empty queue completes: without AON nothing changes; with AON,
STS counts one microsecond, one more or less at a joined node whose rate is trimmed, and none while a lost REFCLK is not
monitored; without the memories powered the timers stand; while neither a firmware verification nor a KEYGEN waits, of
everything else at most the timers, the energy counts, the performance counters, the alarm triggers still present, the trim that
has gathered, what the ring links carry, Lantern's output and the free values drawn change. A firmware verification ends: a bad
image is told so and stays staged, a good one becomes the active image and the interpreter resets into it. That the block idles
so, what a link's rate trims, and how an image and a KEYGEN end within a tick are the model's choices. Rests on R361, R479,
R498, R528, spec/14_timers_and_comparators.md, spec/18_counters_trace_monitor.md. The model's own choices in it: log entries 1,
62, 64, 83, 84, 89. -/
def Obligations.AnEmptyQueueLetsTimePass : Prop :=
  (∀ s : State, s.pending = [] → ∃ t, step s = .next t ∧
    (s.aonOn = false → t = s) ∧
    (s.aonOn = true → s.ring.link ≠ 2 → (s.clk.refclk = false ∨ s.safeOn 3 = true ∨ s.memOn = false) → t.sys.sts = s.sys.sts + 1) ∧
    (s.aonOn = true → s.ring.link = 2 → (s.clk.refclk = false ∨ s.safeOn 3 = true ∨ s.memOn = false) →
      t.sys.sts = s.sys.sts ∨ t.sys.sts = s.sys.sts + 1 ∨ t.sys.sts = s.sys.sts + 2) ∧
    (s.memOn = true → s.clk.refclk = true → s.safeOn 3 = false → t.sys.sts = s.sys.sts) ∧
    (s.memOn = false → t.tmrs = s.tmrs) ∧
    (s.fw.verifying = false → s.lantern.keygen = none → t = { s with
      sys := { s.sys with sts := t.sys.sts }, tmrs := t.tmrs, ports := t.ports, perf := t.perf,
      alarm := { s.alarm with present := t.alarm.present, away := t.alarm.away }, ring := { s.ring with stsFrac := t.ring.stsFrac, out := t.ring.out, wout := t.ring.wout, wseq := t.ring.wseq, wTick := t.ring.wTick },
      lantern := t.lantern, free := t.free } ∧ StoresSame s t) ∧
    (s.aonOn = true → s.memOn = true → s.sys.interp = true → s.fw.verifying = true → s.lantern.keygen = none →
      (Config.fwSigOk s.fw.staged = false → t.fw = { s.fw with lastRes := 2, runs := fwStep .denied s.fw.runs } ∧ t.sys.interp = true) ∧
      (Config.fwSigOk s.fw.staged = true → t.fw.image = s.fw.staged ∧ t.fw.staged = [] ∧ t.fw.lastRes = 1 ∧ t.fw.runs = (fwStep .marked s.fw.runs).map FwRun.cutShort ∧
        t.sys.interp = false)) ∧
    (∀ p : PortId, t.port p = { s.port p with
      cv := { (s.port p).cv with energyOut := (t.port p).cv.energyOut, energyIn := (t.port p).cv.energyIn } }))

/-- After reset the window reads the Reset columns. At reset page 0x00 reads the identity, protocol version 1.0, 16 free command
slots, the host address base 0x50 and mask 0x08 and an empty DIGEST; pages 0x01, 0x06 and 0x0B read what their Reset columns
give; STS reads 0 and every comparator OFF; every timer block reads 0; Ridgeline reads no node; every port of the array reads a
not-READY port; and no command is waiting. VARIANT, SYSSTATE and FUSESTAT show the fuses and supplies that the model's reset
state names. Rests on R608, R609, R610, R613, R614, R615. The model's own choices in it: log entries 6, 7. -/
def Obligations.ResetRegistersReadTheirResetValues : Prop :=
  (((List.range 16).map fun o => State.reset.winByte 0 0x00 o) =
    [0x10, 0x48, 0x32, 0xA5, 0x32, 0x10, 0x54, 0, 0, 16, 0, 0, 0, 0x50, 0x08, 0]) ∧
  (State.reset.digest = 0) ∧
  (((List.range 0x14).map fun o => State.reset.winByte 0 0x01 o) = List.replicate 0x14 0) ∧
  (((List.range 0x12).map fun o => State.reset.winByte 0 0x05 o) = List.replicate 12 0 ++ [0xFF, 0xFF, 0xFF, 0xFF, 0, 0]) ∧
  (((List.range 0x15).map fun o => State.reset.winByte 0 0x06 o) = [0x7F, 0x02] ++ List.replicate 15 0 ++ [0x01, 0, 0, 0]) ∧
  (((List.range 0x12).map fun o => State.reset.winByte 0 0x0B o) = List.replicate 17 0 ++ [48]) ∧
  (((List.range 48).map fun o => State.reset.winByte 0 0x0C o) = List.replicate 7 0 ++ 0x10 :: List.replicate 40 0) ∧
  (∀ k : TmrId, State.reset.tmrBlock k = List.replicate 16 0) ∧
  (∀ p : PortId, State.reset.portLive p = false ∧ State.reset.portBlock p = State.reset.portBlockReset p) ∧
  (State.reset.pending = [])

/-- Every step keeps the byte stores canonical and the record queue within 32 records. From every state whose byte stores (both
reads of the fuse array, its latched image, the bits added and failed since boot, the MRAM and the staged chain) are in
canonical form and whose record queue holds at most 32 records, a step that completes leaves a state of the same kind. Rests on
R29, R552, R571, R577. The model's own choices in it: log entry 8. -/
def Obligations.StoresAndRecordsStayWellFormed : Prop :=
  (∀ s t : State, Kept s → step s = .next t → Kept t)

/-- The reset state has its byte stores canonical and no record waiting. At reset every byte store is in canonical form and the
record queue is empty, so that it holds no more than 32 records. Rests on R29, R552. The model's own choices in it: log entries
8, 7. -/
def Obligations.ResetStoresAreWellFormed : Prop :=
  (Kept State.reset ∧ State.reset.sbox.queue = [])
end

