-- ==== Sys2Proof/Laws/State.lean ====
section
/-!
SUPPORT. What reads after what: the state of a port after each change of a port, and every other field, which such a change leaves
alone.
-/
namespace Sys2Proof.Machine

/-! ## A port of a state -/

@[simp] theorem State.ports_get (s : State) (p : PortId) : s.ports.get p = s.port p := rfl

/-- A port of a state written out in full. -/
@[simp] theorem State.port_mk (sys sup clk ember bus mb ports ledger ring tmrs gwcs gwcEvt pbus fuse sbox vault alarm perf trace
    lantern fw safety store free pending) (p : PortId) :
    State.port ⟨sys, sup, clk, ember, bus, mb, ports, ledger, ring, tmrs, gwcs, gwcEvt, pbus, fuse, sbox, vault, alarm, perf,
      trace, lantern, fw, safety, store, free, pending⟩ p = ports.get p := rfl

@[simp] theorem ports_set_get_self (v : Vector Port 32) (p : PortId) (x : Port) : (v.set p.val x).get p = x := by
  simp [Vector.get_eq_getElem]

theorem ports_set_get_ne (v : Vector Port 32) (p q : PortId) (x : Port) (h : q ≠ p) : (v.set p.val x).get q = v.get q := by
  have : p.val ≠ q.val := fun e => h (Fin.ext e.symm)
  simp [Vector.get_eq_getElem, this]

@[simp] theorem State.port_setPort_self (s : State) (p : PortId) (x : Port) : (s.setPort p x).port p = x :=
  ports_set_get_self _ _ _

theorem State.port_setPort_ne (s : State) (p q : PortId) (x : Port) (h : q ≠ p) : (s.setPort p x).port q = s.port q :=
  ports_set_get_ne _ _ _ _ h

/-! ## A changed port, and the others -/

@[simp] theorem State.port_modPort_self (s : State) (p : PortId) (f : Port → Port) :
    (s.modPort p f).port p = f (s.port p) := State.port_setPort_self _ _ _
@[simp] theorem State.port_modPort_ne (s : State) (p q : PortId) (f : Port → Port) (h : q ≠ p) : (s.modPort p f).port q = s.port q :=
  State.port_setPort_ne _ _ _ _ h
@[simp] theorem State.port_modTc_self (s : State) (p : PortId) (f : TcPort → TcPort) :
    (s.modTc p f).port p = { s.port p with tc := f (s.port p).tc } := State.port_setPort_self _ _ _
@[simp] theorem State.port_modTc_ne (s : State) (p q : PortId) (f : TcPort → TcPort) (h : q ≠ p) : (s.modTc p f).port q = s.port q :=
  State.port_setPort_ne _ _ _ _ h
@[simp] theorem State.port_modPd_self (s : State) (p : PortId) (f : PdPort → PdPort) :
    (s.modPd p f).port p = { s.port p with pd := f (s.port p).pd } := State.port_setPort_self _ _ _
@[simp] theorem State.port_modPd_ne (s : State) (p q : PortId) (f : PdPort → PdPort) (h : q ≠ p) : (s.modPd p f).port q = s.port q :=
  State.port_setPort_ne _ _ _ _ h
@[simp] theorem State.port_modSwap_self (s : State) (p : PortId) (f : SwapPort → SwapPort) :
    (s.modSwap p f).port p = { s.port p with swap := f (s.port p).swap } := State.port_setPort_self _ _ _
@[simp] theorem State.port_modSwap_ne (s : State) (p q : PortId) (f : SwapPort → SwapPort) (h : q ≠ p) : (s.modSwap p f).port q = s.port q :=
  State.port_setPort_ne _ _ _ _ h
@[simp] theorem State.port_modLm_self (s : State) (p : PortId) (f : LmPort → LmPort) :
    (s.modLm p f).port p = { s.port p with lm := f (s.port p).lm } := State.port_setPort_self _ _ _
@[simp] theorem State.port_modLm_ne (s : State) (p q : PortId) (f : LmPort → LmPort) (h : q ≠ p) : (s.modLm p f).port q = s.port q :=
  State.port_setPort_ne _ _ _ _ h
@[simp] theorem State.port_modSw_self (s : State) (p : PortId) (f : SwPort → SwPort) :
    (s.modSw p f).port p = { s.port p with sw := f (s.port p).sw } := State.port_setPort_self _ _ _
@[simp] theorem State.port_modSw_ne (s : State) (p q : PortId) (f : SwPort → SwPort) (h : q ≠ p) : (s.modSw p f).port q = s.port q :=
  State.port_setPort_ne _ _ _ _ h
@[simp] theorem State.port_modCv_self (s : State) (p : PortId) (f : CvPort → CvPort) :
    (s.modCv p f).port p = { s.port p with cv := f (s.port p).cv } := State.port_setPort_self _ _ _
@[simp] theorem State.port_modCv_ne (s : State) (p q : PortId) (f : CvPort → CvPort) (h : q ≠ p) : (s.modCv p f).port q = s.port q :=
  State.port_setPort_ne _ _ _ _ h
@[simp] theorem State.port_modLg_self (s : State) (p : PortId) (f : LgPort → LgPort) :
    (s.modLg p f).port p = { s.port p with lg := f (s.port p).lg } := State.port_setPort_self _ _ _
@[simp] theorem State.port_modLg_ne (s : State) (p q : PortId) (f : LgPort → LgPort) (h : q ≠ p) : (s.modLg p f).port q = s.port q :=
  State.port_setPort_ne _ _ _ _ h
@[simp] theorem State.port_portEvt_self (s : State) (p : PortId) (i : Nat) :
    (s.portEvt p i).port p = { s.port p with tc.evt := setBit (s.port p).tc.evt i } := State.port_setPort_self _ _ _
@[simp] theorem State.port_portEvt_ne (s : State) (p q : PortId) (i : Nat) (h : q ≠ p) : (s.portEvt p i).port q = s.port q :=
  State.port_setPort_ne _ _ _ _ h
@[simp] theorem State.port_pdEvt_self (s : State) (p : PortId) (i : Nat) :
    (s.pdEvt p i).port p = { s.port p with pd.evt := setBit (s.port p).pd.evt i } := State.port_setPort_self _ _ _
@[simp] theorem State.port_pdEvt_ne (s : State) (p q : PortId) (i : Nat) (h : q ≠ p) : (s.pdEvt p i).port q = s.port q :=
  State.port_setPort_ne _ _ _ _ h
@[simp] theorem State.port_swEvt_self (s : State) (p : PortId) (i : Nat) :
    (s.swEvt p i).port p = { s.port p with sw.evt := setBit (s.port p).sw.evt i } := State.port_setPort_self _ _ _
@[simp] theorem State.port_swEvt_ne (s : State) (p q : PortId) (i : Nat) (h : q ≠ p) : (s.swEvt p i).port q = s.port q :=
  State.port_setPort_ne _ _ _ _ h
@[simp] theorem State.port_cvEvt_self (s : State) (p : PortId) (i : Nat) :
    (s.cvEvt p i).port p = { s.port p with cv.evt := setBit (s.port p).cv.evt i } := State.port_setPort_self _ _ _
@[simp] theorem State.port_cvEvt_ne (s : State) (p q : PortId) (i : Nat) (h : q ≠ p) : (s.cvEvt p i).port q = s.port q :=
  State.port_setPort_ne _ _ _ _ h

/-! ## What a change of a port leaves alone -/

@[simp] theorem State.setPort_sys (s : State) (p : PortId) (f : Port) : (s.setPort p f).sys = s.sys := rfl
@[simp] theorem State.setPort_sup (s : State) (p : PortId) (f : Port) : (s.setPort p f).sup = s.sup := rfl
@[simp] theorem State.setPort_clk (s : State) (p : PortId) (f : Port) : (s.setPort p f).clk = s.clk := rfl
@[simp] theorem State.setPort_ember (s : State) (p : PortId) (f : Port) : (s.setPort p f).ember = s.ember := rfl
@[simp] theorem State.setPort_bus (s : State) (p : PortId) (f : Port) : (s.setPort p f).bus = s.bus := rfl
@[simp] theorem State.setPort_mb (s : State) (p : PortId) (f : Port) : (s.setPort p f).mb = s.mb := rfl
@[simp] theorem State.setPort_ledger (s : State) (p : PortId) (f : Port) : (s.setPort p f).ledger = s.ledger := rfl
@[simp] theorem State.setPort_ring (s : State) (p : PortId) (f : Port) : (s.setPort p f).ring = s.ring := rfl
@[simp] theorem State.setPort_tmrs (s : State) (p : PortId) (f : Port) : (s.setPort p f).tmrs = s.tmrs := rfl
@[simp] theorem State.setPort_gwcs (s : State) (p : PortId) (f : Port) : (s.setPort p f).gwcs = s.gwcs := rfl
@[simp] theorem State.setPort_gwcEvt (s : State) (p : PortId) (f : Port) : (s.setPort p f).gwcEvt = s.gwcEvt := rfl
@[simp] theorem State.setPort_pbus (s : State) (p : PortId) (f : Port) : (s.setPort p f).pbus = s.pbus := rfl
@[simp] theorem State.setPort_fuse (s : State) (p : PortId) (f : Port) : (s.setPort p f).fuse = s.fuse := rfl
@[simp] theorem State.setPort_sbox (s : State) (p : PortId) (f : Port) : (s.setPort p f).sbox = s.sbox := rfl
@[simp] theorem State.setPort_vault (s : State) (p : PortId) (f : Port) : (s.setPort p f).vault = s.vault := rfl
@[simp] theorem State.setPort_alarm (s : State) (p : PortId) (f : Port) : (s.setPort p f).alarm = s.alarm := rfl
@[simp] theorem State.setPort_perf (s : State) (p : PortId) (f : Port) : (s.setPort p f).perf = s.perf := rfl
@[simp] theorem State.setPort_trace (s : State) (p : PortId) (f : Port) : (s.setPort p f).trace = s.trace := rfl
@[simp] theorem State.setPort_lantern (s : State) (p : PortId) (f : Port) : (s.setPort p f).lantern = s.lantern := rfl
@[simp] theorem State.setPort_fw (s : State) (p : PortId) (f : Port) : (s.setPort p f).fw = s.fw := rfl
@[simp] theorem State.setPort_safety (s : State) (p : PortId) (f : Port) : (s.setPort p f).safety = s.safety := rfl
@[simp] theorem State.setPort_store (s : State) (p : PortId) (f : Port) : (s.setPort p f).store = s.store := rfl
@[simp] theorem State.setPort_free (s : State) (p : PortId) (f : Port) : (s.setPort p f).free = s.free := rfl
@[simp] theorem State.setPort_pending (s : State) (p : PortId) (f : Port) : (s.setPort p f).pending = s.pending := rfl
@[simp] theorem State.modPort_sys (s : State) (p : PortId) (f : Port → Port) : (s.modPort p f).sys = s.sys := rfl
@[simp] theorem State.modPort_sup (s : State) (p : PortId) (f : Port → Port) : (s.modPort p f).sup = s.sup := rfl
@[simp] theorem State.modPort_clk (s : State) (p : PortId) (f : Port → Port) : (s.modPort p f).clk = s.clk := rfl
@[simp] theorem State.modPort_ember (s : State) (p : PortId) (f : Port → Port) : (s.modPort p f).ember = s.ember := rfl
@[simp] theorem State.modPort_bus (s : State) (p : PortId) (f : Port → Port) : (s.modPort p f).bus = s.bus := rfl
@[simp] theorem State.modPort_mb (s : State) (p : PortId) (f : Port → Port) : (s.modPort p f).mb = s.mb := rfl
@[simp] theorem State.modPort_ledger (s : State) (p : PortId) (f : Port → Port) : (s.modPort p f).ledger = s.ledger := rfl
@[simp] theorem State.modPort_ring (s : State) (p : PortId) (f : Port → Port) : (s.modPort p f).ring = s.ring := rfl
@[simp] theorem State.modPort_tmrs (s : State) (p : PortId) (f : Port → Port) : (s.modPort p f).tmrs = s.tmrs := rfl
@[simp] theorem State.modPort_gwcs (s : State) (p : PortId) (f : Port → Port) : (s.modPort p f).gwcs = s.gwcs := rfl
@[simp] theorem State.modPort_gwcEvt (s : State) (p : PortId) (f : Port → Port) : (s.modPort p f).gwcEvt = s.gwcEvt := rfl
@[simp] theorem State.modPort_pbus (s : State) (p : PortId) (f : Port → Port) : (s.modPort p f).pbus = s.pbus := rfl
@[simp] theorem State.modPort_fuse (s : State) (p : PortId) (f : Port → Port) : (s.modPort p f).fuse = s.fuse := rfl
@[simp] theorem State.modPort_sbox (s : State) (p : PortId) (f : Port → Port) : (s.modPort p f).sbox = s.sbox := rfl
@[simp] theorem State.modPort_vault (s : State) (p : PortId) (f : Port → Port) : (s.modPort p f).vault = s.vault := rfl
@[simp] theorem State.modPort_alarm (s : State) (p : PortId) (f : Port → Port) : (s.modPort p f).alarm = s.alarm := rfl
@[simp] theorem State.modPort_perf (s : State) (p : PortId) (f : Port → Port) : (s.modPort p f).perf = s.perf := rfl
@[simp] theorem State.modPort_trace (s : State) (p : PortId) (f : Port → Port) : (s.modPort p f).trace = s.trace := rfl
@[simp] theorem State.modPort_lantern (s : State) (p : PortId) (f : Port → Port) : (s.modPort p f).lantern = s.lantern := rfl
@[simp] theorem State.modPort_fw (s : State) (p : PortId) (f : Port → Port) : (s.modPort p f).fw = s.fw := rfl
@[simp] theorem State.modPort_safety (s : State) (p : PortId) (f : Port → Port) : (s.modPort p f).safety = s.safety := rfl
@[simp] theorem State.modPort_store (s : State) (p : PortId) (f : Port → Port) : (s.modPort p f).store = s.store := rfl
@[simp] theorem State.modPort_free (s : State) (p : PortId) (f : Port → Port) : (s.modPort p f).free = s.free := rfl
@[simp] theorem State.modPort_pending (s : State) (p : PortId) (f : Port → Port) : (s.modPort p f).pending = s.pending := rfl
@[simp] theorem State.modTc_sys (s : State) (p : PortId) (f : TcPort → TcPort) : (s.modTc p f).sys = s.sys := rfl
@[simp] theorem State.modTc_sup (s : State) (p : PortId) (f : TcPort → TcPort) : (s.modTc p f).sup = s.sup := rfl
@[simp] theorem State.modTc_clk (s : State) (p : PortId) (f : TcPort → TcPort) : (s.modTc p f).clk = s.clk := rfl
@[simp] theorem State.modTc_ember (s : State) (p : PortId) (f : TcPort → TcPort) : (s.modTc p f).ember = s.ember := rfl
@[simp] theorem State.modTc_bus (s : State) (p : PortId) (f : TcPort → TcPort) : (s.modTc p f).bus = s.bus := rfl
@[simp] theorem State.modTc_mb (s : State) (p : PortId) (f : TcPort → TcPort) : (s.modTc p f).mb = s.mb := rfl
@[simp] theorem State.modTc_ledger (s : State) (p : PortId) (f : TcPort → TcPort) : (s.modTc p f).ledger = s.ledger := rfl
@[simp] theorem State.modTc_ring (s : State) (p : PortId) (f : TcPort → TcPort) : (s.modTc p f).ring = s.ring := rfl
@[simp] theorem State.modTc_tmrs (s : State) (p : PortId) (f : TcPort → TcPort) : (s.modTc p f).tmrs = s.tmrs := rfl
@[simp] theorem State.modTc_gwcs (s : State) (p : PortId) (f : TcPort → TcPort) : (s.modTc p f).gwcs = s.gwcs := rfl
@[simp] theorem State.modTc_gwcEvt (s : State) (p : PortId) (f : TcPort → TcPort) : (s.modTc p f).gwcEvt = s.gwcEvt := rfl
@[simp] theorem State.modTc_pbus (s : State) (p : PortId) (f : TcPort → TcPort) : (s.modTc p f).pbus = s.pbus := rfl
@[simp] theorem State.modTc_fuse (s : State) (p : PortId) (f : TcPort → TcPort) : (s.modTc p f).fuse = s.fuse := rfl
@[simp] theorem State.modTc_sbox (s : State) (p : PortId) (f : TcPort → TcPort) : (s.modTc p f).sbox = s.sbox := rfl
@[simp] theorem State.modTc_vault (s : State) (p : PortId) (f : TcPort → TcPort) : (s.modTc p f).vault = s.vault := rfl
@[simp] theorem State.modTc_alarm (s : State) (p : PortId) (f : TcPort → TcPort) : (s.modTc p f).alarm = s.alarm := rfl
@[simp] theorem State.modTc_perf (s : State) (p : PortId) (f : TcPort → TcPort) : (s.modTc p f).perf = s.perf := rfl
@[simp] theorem State.modTc_trace (s : State) (p : PortId) (f : TcPort → TcPort) : (s.modTc p f).trace = s.trace := rfl
@[simp] theorem State.modTc_lantern (s : State) (p : PortId) (f : TcPort → TcPort) : (s.modTc p f).lantern = s.lantern := rfl
@[simp] theorem State.modTc_fw (s : State) (p : PortId) (f : TcPort → TcPort) : (s.modTc p f).fw = s.fw := rfl
@[simp] theorem State.modTc_safety (s : State) (p : PortId) (f : TcPort → TcPort) : (s.modTc p f).safety = s.safety := rfl
@[simp] theorem State.modTc_store (s : State) (p : PortId) (f : TcPort → TcPort) : (s.modTc p f).store = s.store := rfl
@[simp] theorem State.modTc_free (s : State) (p : PortId) (f : TcPort → TcPort) : (s.modTc p f).free = s.free := rfl
@[simp] theorem State.modTc_pending (s : State) (p : PortId) (f : TcPort → TcPort) : (s.modTc p f).pending = s.pending := rfl
@[simp] theorem State.modPd_sys (s : State) (p : PortId) (f : PdPort → PdPort) : (s.modPd p f).sys = s.sys := rfl
@[simp] theorem State.modPd_sup (s : State) (p : PortId) (f : PdPort → PdPort) : (s.modPd p f).sup = s.sup := rfl
@[simp] theorem State.modPd_clk (s : State) (p : PortId) (f : PdPort → PdPort) : (s.modPd p f).clk = s.clk := rfl
@[simp] theorem State.modPd_ember (s : State) (p : PortId) (f : PdPort → PdPort) : (s.modPd p f).ember = s.ember := rfl
@[simp] theorem State.modPd_bus (s : State) (p : PortId) (f : PdPort → PdPort) : (s.modPd p f).bus = s.bus := rfl
@[simp] theorem State.modPd_mb (s : State) (p : PortId) (f : PdPort → PdPort) : (s.modPd p f).mb = s.mb := rfl
@[simp] theorem State.modPd_ledger (s : State) (p : PortId) (f : PdPort → PdPort) : (s.modPd p f).ledger = s.ledger := rfl
@[simp] theorem State.modPd_ring (s : State) (p : PortId) (f : PdPort → PdPort) : (s.modPd p f).ring = s.ring := rfl
@[simp] theorem State.modPd_tmrs (s : State) (p : PortId) (f : PdPort → PdPort) : (s.modPd p f).tmrs = s.tmrs := rfl
@[simp] theorem State.modPd_gwcs (s : State) (p : PortId) (f : PdPort → PdPort) : (s.modPd p f).gwcs = s.gwcs := rfl
@[simp] theorem State.modPd_gwcEvt (s : State) (p : PortId) (f : PdPort → PdPort) : (s.modPd p f).gwcEvt = s.gwcEvt := rfl
@[simp] theorem State.modPd_pbus (s : State) (p : PortId) (f : PdPort → PdPort) : (s.modPd p f).pbus = s.pbus := rfl
@[simp] theorem State.modPd_fuse (s : State) (p : PortId) (f : PdPort → PdPort) : (s.modPd p f).fuse = s.fuse := rfl
@[simp] theorem State.modPd_sbox (s : State) (p : PortId) (f : PdPort → PdPort) : (s.modPd p f).sbox = s.sbox := rfl
@[simp] theorem State.modPd_vault (s : State) (p : PortId) (f : PdPort → PdPort) : (s.modPd p f).vault = s.vault := rfl
@[simp] theorem State.modPd_alarm (s : State) (p : PortId) (f : PdPort → PdPort) : (s.modPd p f).alarm = s.alarm := rfl
@[simp] theorem State.modPd_perf (s : State) (p : PortId) (f : PdPort → PdPort) : (s.modPd p f).perf = s.perf := rfl
@[simp] theorem State.modPd_trace (s : State) (p : PortId) (f : PdPort → PdPort) : (s.modPd p f).trace = s.trace := rfl
@[simp] theorem State.modPd_lantern (s : State) (p : PortId) (f : PdPort → PdPort) : (s.modPd p f).lantern = s.lantern := rfl
@[simp] theorem State.modPd_fw (s : State) (p : PortId) (f : PdPort → PdPort) : (s.modPd p f).fw = s.fw := rfl
@[simp] theorem State.modPd_safety (s : State) (p : PortId) (f : PdPort → PdPort) : (s.modPd p f).safety = s.safety := rfl
@[simp] theorem State.modPd_store (s : State) (p : PortId) (f : PdPort → PdPort) : (s.modPd p f).store = s.store := rfl
@[simp] theorem State.modPd_free (s : State) (p : PortId) (f : PdPort → PdPort) : (s.modPd p f).free = s.free := rfl
@[simp] theorem State.modPd_pending (s : State) (p : PortId) (f : PdPort → PdPort) : (s.modPd p f).pending = s.pending := rfl
@[simp] theorem State.modSwap_sys (s : State) (p : PortId) (f : SwapPort → SwapPort) : (s.modSwap p f).sys = s.sys := rfl
@[simp] theorem State.modSwap_sup (s : State) (p : PortId) (f : SwapPort → SwapPort) : (s.modSwap p f).sup = s.sup := rfl
@[simp] theorem State.modSwap_clk (s : State) (p : PortId) (f : SwapPort → SwapPort) : (s.modSwap p f).clk = s.clk := rfl
@[simp] theorem State.modSwap_ember (s : State) (p : PortId) (f : SwapPort → SwapPort) : (s.modSwap p f).ember = s.ember := rfl
@[simp] theorem State.modSwap_bus (s : State) (p : PortId) (f : SwapPort → SwapPort) : (s.modSwap p f).bus = s.bus := rfl
@[simp] theorem State.modSwap_mb (s : State) (p : PortId) (f : SwapPort → SwapPort) : (s.modSwap p f).mb = s.mb := rfl
@[simp] theorem State.modSwap_ledger (s : State) (p : PortId) (f : SwapPort → SwapPort) : (s.modSwap p f).ledger = s.ledger := rfl
@[simp] theorem State.modSwap_ring (s : State) (p : PortId) (f : SwapPort → SwapPort) : (s.modSwap p f).ring = s.ring := rfl
@[simp] theorem State.modSwap_tmrs (s : State) (p : PortId) (f : SwapPort → SwapPort) : (s.modSwap p f).tmrs = s.tmrs := rfl
@[simp] theorem State.modSwap_gwcs (s : State) (p : PortId) (f : SwapPort → SwapPort) : (s.modSwap p f).gwcs = s.gwcs := rfl
@[simp] theorem State.modSwap_gwcEvt (s : State) (p : PortId) (f : SwapPort → SwapPort) : (s.modSwap p f).gwcEvt = s.gwcEvt := rfl
@[simp] theorem State.modSwap_pbus (s : State) (p : PortId) (f : SwapPort → SwapPort) : (s.modSwap p f).pbus = s.pbus := rfl
@[simp] theorem State.modSwap_fuse (s : State) (p : PortId) (f : SwapPort → SwapPort) : (s.modSwap p f).fuse = s.fuse := rfl
@[simp] theorem State.modSwap_sbox (s : State) (p : PortId) (f : SwapPort → SwapPort) : (s.modSwap p f).sbox = s.sbox := rfl
@[simp] theorem State.modSwap_vault (s : State) (p : PortId) (f : SwapPort → SwapPort) : (s.modSwap p f).vault = s.vault := rfl
@[simp] theorem State.modSwap_alarm (s : State) (p : PortId) (f : SwapPort → SwapPort) : (s.modSwap p f).alarm = s.alarm := rfl
@[simp] theorem State.modSwap_perf (s : State) (p : PortId) (f : SwapPort → SwapPort) : (s.modSwap p f).perf = s.perf := rfl
@[simp] theorem State.modSwap_trace (s : State) (p : PortId) (f : SwapPort → SwapPort) : (s.modSwap p f).trace = s.trace := rfl
@[simp] theorem State.modSwap_lantern (s : State) (p : PortId) (f : SwapPort → SwapPort) : (s.modSwap p f).lantern = s.lantern := rfl
@[simp] theorem State.modSwap_fw (s : State) (p : PortId) (f : SwapPort → SwapPort) : (s.modSwap p f).fw = s.fw := rfl
@[simp] theorem State.modSwap_safety (s : State) (p : PortId) (f : SwapPort → SwapPort) : (s.modSwap p f).safety = s.safety := rfl
@[simp] theorem State.modSwap_store (s : State) (p : PortId) (f : SwapPort → SwapPort) : (s.modSwap p f).store = s.store := rfl
@[simp] theorem State.modSwap_free (s : State) (p : PortId) (f : SwapPort → SwapPort) : (s.modSwap p f).free = s.free := rfl
@[simp] theorem State.modSwap_pending (s : State) (p : PortId) (f : SwapPort → SwapPort) : (s.modSwap p f).pending = s.pending := rfl
@[simp] theorem State.modLm_sys (s : State) (p : PortId) (f : LmPort → LmPort) : (s.modLm p f).sys = s.sys := rfl
@[simp] theorem State.modLm_sup (s : State) (p : PortId) (f : LmPort → LmPort) : (s.modLm p f).sup = s.sup := rfl
@[simp] theorem State.modLm_clk (s : State) (p : PortId) (f : LmPort → LmPort) : (s.modLm p f).clk = s.clk := rfl
@[simp] theorem State.modLm_ember (s : State) (p : PortId) (f : LmPort → LmPort) : (s.modLm p f).ember = s.ember := rfl
@[simp] theorem State.modLm_bus (s : State) (p : PortId) (f : LmPort → LmPort) : (s.modLm p f).bus = s.bus := rfl
@[simp] theorem State.modLm_mb (s : State) (p : PortId) (f : LmPort → LmPort) : (s.modLm p f).mb = s.mb := rfl
@[simp] theorem State.modLm_ledger (s : State) (p : PortId) (f : LmPort → LmPort) : (s.modLm p f).ledger = s.ledger := rfl
@[simp] theorem State.modLm_ring (s : State) (p : PortId) (f : LmPort → LmPort) : (s.modLm p f).ring = s.ring := rfl
@[simp] theorem State.modLm_tmrs (s : State) (p : PortId) (f : LmPort → LmPort) : (s.modLm p f).tmrs = s.tmrs := rfl
@[simp] theorem State.modLm_gwcs (s : State) (p : PortId) (f : LmPort → LmPort) : (s.modLm p f).gwcs = s.gwcs := rfl
@[simp] theorem State.modLm_gwcEvt (s : State) (p : PortId) (f : LmPort → LmPort) : (s.modLm p f).gwcEvt = s.gwcEvt := rfl
@[simp] theorem State.modLm_pbus (s : State) (p : PortId) (f : LmPort → LmPort) : (s.modLm p f).pbus = s.pbus := rfl
@[simp] theorem State.modLm_fuse (s : State) (p : PortId) (f : LmPort → LmPort) : (s.modLm p f).fuse = s.fuse := rfl
@[simp] theorem State.modLm_sbox (s : State) (p : PortId) (f : LmPort → LmPort) : (s.modLm p f).sbox = s.sbox := rfl
@[simp] theorem State.modLm_vault (s : State) (p : PortId) (f : LmPort → LmPort) : (s.modLm p f).vault = s.vault := rfl
@[simp] theorem State.modLm_alarm (s : State) (p : PortId) (f : LmPort → LmPort) : (s.modLm p f).alarm = s.alarm := rfl
@[simp] theorem State.modLm_perf (s : State) (p : PortId) (f : LmPort → LmPort) : (s.modLm p f).perf = s.perf := rfl
@[simp] theorem State.modLm_trace (s : State) (p : PortId) (f : LmPort → LmPort) : (s.modLm p f).trace = s.trace := rfl
@[simp] theorem State.modLm_lantern (s : State) (p : PortId) (f : LmPort → LmPort) : (s.modLm p f).lantern = s.lantern := rfl
@[simp] theorem State.modLm_fw (s : State) (p : PortId) (f : LmPort → LmPort) : (s.modLm p f).fw = s.fw := rfl
@[simp] theorem State.modLm_safety (s : State) (p : PortId) (f : LmPort → LmPort) : (s.modLm p f).safety = s.safety := rfl
@[simp] theorem State.modLm_store (s : State) (p : PortId) (f : LmPort → LmPort) : (s.modLm p f).store = s.store := rfl
@[simp] theorem State.modLm_free (s : State) (p : PortId) (f : LmPort → LmPort) : (s.modLm p f).free = s.free := rfl
@[simp] theorem State.modLm_pending (s : State) (p : PortId) (f : LmPort → LmPort) : (s.modLm p f).pending = s.pending := rfl
@[simp] theorem State.modSw_sys (s : State) (p : PortId) (f : SwPort → SwPort) : (s.modSw p f).sys = s.sys := rfl
@[simp] theorem State.modSw_sup (s : State) (p : PortId) (f : SwPort → SwPort) : (s.modSw p f).sup = s.sup := rfl
@[simp] theorem State.modSw_clk (s : State) (p : PortId) (f : SwPort → SwPort) : (s.modSw p f).clk = s.clk := rfl
@[simp] theorem State.modSw_ember (s : State) (p : PortId) (f : SwPort → SwPort) : (s.modSw p f).ember = s.ember := rfl
@[simp] theorem State.modSw_bus (s : State) (p : PortId) (f : SwPort → SwPort) : (s.modSw p f).bus = s.bus := rfl
@[simp] theorem State.modSw_mb (s : State) (p : PortId) (f : SwPort → SwPort) : (s.modSw p f).mb = s.mb := rfl
@[simp] theorem State.modSw_ledger (s : State) (p : PortId) (f : SwPort → SwPort) : (s.modSw p f).ledger = s.ledger := rfl
@[simp] theorem State.modSw_ring (s : State) (p : PortId) (f : SwPort → SwPort) : (s.modSw p f).ring = s.ring := rfl
@[simp] theorem State.modSw_tmrs (s : State) (p : PortId) (f : SwPort → SwPort) : (s.modSw p f).tmrs = s.tmrs := rfl
@[simp] theorem State.modSw_gwcs (s : State) (p : PortId) (f : SwPort → SwPort) : (s.modSw p f).gwcs = s.gwcs := rfl
@[simp] theorem State.modSw_gwcEvt (s : State) (p : PortId) (f : SwPort → SwPort) : (s.modSw p f).gwcEvt = s.gwcEvt := rfl
@[simp] theorem State.modSw_pbus (s : State) (p : PortId) (f : SwPort → SwPort) : (s.modSw p f).pbus = s.pbus := rfl
@[simp] theorem State.modSw_fuse (s : State) (p : PortId) (f : SwPort → SwPort) : (s.modSw p f).fuse = s.fuse := rfl
@[simp] theorem State.modSw_sbox (s : State) (p : PortId) (f : SwPort → SwPort) : (s.modSw p f).sbox = s.sbox := rfl
@[simp] theorem State.modSw_vault (s : State) (p : PortId) (f : SwPort → SwPort) : (s.modSw p f).vault = s.vault := rfl
@[simp] theorem State.modSw_alarm (s : State) (p : PortId) (f : SwPort → SwPort) : (s.modSw p f).alarm = s.alarm := rfl
@[simp] theorem State.modSw_perf (s : State) (p : PortId) (f : SwPort → SwPort) : (s.modSw p f).perf = s.perf := rfl
@[simp] theorem State.modSw_trace (s : State) (p : PortId) (f : SwPort → SwPort) : (s.modSw p f).trace = s.trace := rfl
@[simp] theorem State.modSw_lantern (s : State) (p : PortId) (f : SwPort → SwPort) : (s.modSw p f).lantern = s.lantern := rfl
@[simp] theorem State.modSw_fw (s : State) (p : PortId) (f : SwPort → SwPort) : (s.modSw p f).fw = s.fw := rfl
@[simp] theorem State.modSw_safety (s : State) (p : PortId) (f : SwPort → SwPort) : (s.modSw p f).safety = s.safety := rfl
@[simp] theorem State.modSw_store (s : State) (p : PortId) (f : SwPort → SwPort) : (s.modSw p f).store = s.store := rfl
@[simp] theorem State.modSw_free (s : State) (p : PortId) (f : SwPort → SwPort) : (s.modSw p f).free = s.free := rfl
@[simp] theorem State.modSw_pending (s : State) (p : PortId) (f : SwPort → SwPort) : (s.modSw p f).pending = s.pending := rfl
@[simp] theorem State.modCv_sys (s : State) (p : PortId) (f : CvPort → CvPort) : (s.modCv p f).sys = s.sys := rfl
@[simp] theorem State.modCv_sup (s : State) (p : PortId) (f : CvPort → CvPort) : (s.modCv p f).sup = s.sup := rfl
@[simp] theorem State.modCv_clk (s : State) (p : PortId) (f : CvPort → CvPort) : (s.modCv p f).clk = s.clk := rfl
@[simp] theorem State.modCv_ember (s : State) (p : PortId) (f : CvPort → CvPort) : (s.modCv p f).ember = s.ember := rfl
@[simp] theorem State.modCv_bus (s : State) (p : PortId) (f : CvPort → CvPort) : (s.modCv p f).bus = s.bus := rfl
@[simp] theorem State.modCv_mb (s : State) (p : PortId) (f : CvPort → CvPort) : (s.modCv p f).mb = s.mb := rfl
@[simp] theorem State.modCv_ledger (s : State) (p : PortId) (f : CvPort → CvPort) : (s.modCv p f).ledger = s.ledger := rfl
@[simp] theorem State.modCv_ring (s : State) (p : PortId) (f : CvPort → CvPort) : (s.modCv p f).ring = s.ring := rfl
@[simp] theorem State.modCv_tmrs (s : State) (p : PortId) (f : CvPort → CvPort) : (s.modCv p f).tmrs = s.tmrs := rfl
@[simp] theorem State.modCv_gwcs (s : State) (p : PortId) (f : CvPort → CvPort) : (s.modCv p f).gwcs = s.gwcs := rfl
@[simp] theorem State.modCv_gwcEvt (s : State) (p : PortId) (f : CvPort → CvPort) : (s.modCv p f).gwcEvt = s.gwcEvt := rfl
@[simp] theorem State.modCv_pbus (s : State) (p : PortId) (f : CvPort → CvPort) : (s.modCv p f).pbus = s.pbus := rfl
@[simp] theorem State.modCv_fuse (s : State) (p : PortId) (f : CvPort → CvPort) : (s.modCv p f).fuse = s.fuse := rfl
@[simp] theorem State.modCv_sbox (s : State) (p : PortId) (f : CvPort → CvPort) : (s.modCv p f).sbox = s.sbox := rfl
@[simp] theorem State.modCv_vault (s : State) (p : PortId) (f : CvPort → CvPort) : (s.modCv p f).vault = s.vault := rfl
@[simp] theorem State.modCv_alarm (s : State) (p : PortId) (f : CvPort → CvPort) : (s.modCv p f).alarm = s.alarm := rfl
@[simp] theorem State.modCv_perf (s : State) (p : PortId) (f : CvPort → CvPort) : (s.modCv p f).perf = s.perf := rfl
@[simp] theorem State.modCv_trace (s : State) (p : PortId) (f : CvPort → CvPort) : (s.modCv p f).trace = s.trace := rfl
@[simp] theorem State.modCv_lantern (s : State) (p : PortId) (f : CvPort → CvPort) : (s.modCv p f).lantern = s.lantern := rfl
@[simp] theorem State.modCv_fw (s : State) (p : PortId) (f : CvPort → CvPort) : (s.modCv p f).fw = s.fw := rfl
@[simp] theorem State.modCv_safety (s : State) (p : PortId) (f : CvPort → CvPort) : (s.modCv p f).safety = s.safety := rfl
@[simp] theorem State.modCv_store (s : State) (p : PortId) (f : CvPort → CvPort) : (s.modCv p f).store = s.store := rfl
@[simp] theorem State.modCv_free (s : State) (p : PortId) (f : CvPort → CvPort) : (s.modCv p f).free = s.free := rfl
@[simp] theorem State.modCv_pending (s : State) (p : PortId) (f : CvPort → CvPort) : (s.modCv p f).pending = s.pending := rfl
@[simp] theorem State.modLg_sys (s : State) (p : PortId) (f : LgPort → LgPort) : (s.modLg p f).sys = s.sys := rfl
@[simp] theorem State.modLg_sup (s : State) (p : PortId) (f : LgPort → LgPort) : (s.modLg p f).sup = s.sup := rfl
@[simp] theorem State.modLg_clk (s : State) (p : PortId) (f : LgPort → LgPort) : (s.modLg p f).clk = s.clk := rfl
@[simp] theorem State.modLg_ember (s : State) (p : PortId) (f : LgPort → LgPort) : (s.modLg p f).ember = s.ember := rfl
@[simp] theorem State.modLg_bus (s : State) (p : PortId) (f : LgPort → LgPort) : (s.modLg p f).bus = s.bus := rfl
@[simp] theorem State.modLg_mb (s : State) (p : PortId) (f : LgPort → LgPort) : (s.modLg p f).mb = s.mb := rfl
@[simp] theorem State.modLg_ledger (s : State) (p : PortId) (f : LgPort → LgPort) : (s.modLg p f).ledger = s.ledger := rfl
@[simp] theorem State.modLg_ring (s : State) (p : PortId) (f : LgPort → LgPort) : (s.modLg p f).ring = s.ring := rfl
@[simp] theorem State.modLg_tmrs (s : State) (p : PortId) (f : LgPort → LgPort) : (s.modLg p f).tmrs = s.tmrs := rfl
@[simp] theorem State.modLg_gwcs (s : State) (p : PortId) (f : LgPort → LgPort) : (s.modLg p f).gwcs = s.gwcs := rfl
@[simp] theorem State.modLg_gwcEvt (s : State) (p : PortId) (f : LgPort → LgPort) : (s.modLg p f).gwcEvt = s.gwcEvt := rfl
@[simp] theorem State.modLg_pbus (s : State) (p : PortId) (f : LgPort → LgPort) : (s.modLg p f).pbus = s.pbus := rfl
@[simp] theorem State.modLg_fuse (s : State) (p : PortId) (f : LgPort → LgPort) : (s.modLg p f).fuse = s.fuse := rfl
@[simp] theorem State.modLg_sbox (s : State) (p : PortId) (f : LgPort → LgPort) : (s.modLg p f).sbox = s.sbox := rfl
@[simp] theorem State.modLg_vault (s : State) (p : PortId) (f : LgPort → LgPort) : (s.modLg p f).vault = s.vault := rfl
@[simp] theorem State.modLg_alarm (s : State) (p : PortId) (f : LgPort → LgPort) : (s.modLg p f).alarm = s.alarm := rfl
@[simp] theorem State.modLg_perf (s : State) (p : PortId) (f : LgPort → LgPort) : (s.modLg p f).perf = s.perf := rfl
@[simp] theorem State.modLg_trace (s : State) (p : PortId) (f : LgPort → LgPort) : (s.modLg p f).trace = s.trace := rfl
@[simp] theorem State.modLg_lantern (s : State) (p : PortId) (f : LgPort → LgPort) : (s.modLg p f).lantern = s.lantern := rfl
@[simp] theorem State.modLg_fw (s : State) (p : PortId) (f : LgPort → LgPort) : (s.modLg p f).fw = s.fw := rfl
@[simp] theorem State.modLg_safety (s : State) (p : PortId) (f : LgPort → LgPort) : (s.modLg p f).safety = s.safety := rfl
@[simp] theorem State.modLg_store (s : State) (p : PortId) (f : LgPort → LgPort) : (s.modLg p f).store = s.store := rfl
@[simp] theorem State.modLg_free (s : State) (p : PortId) (f : LgPort → LgPort) : (s.modLg p f).free = s.free := rfl
@[simp] theorem State.modLg_pending (s : State) (p : PortId) (f : LgPort → LgPort) : (s.modLg p f).pending = s.pending := rfl
@[simp] theorem State.portEvt_sys (s : State) (p : PortId) (i : Nat) : (s.portEvt p i).sys = s.sys := rfl
@[simp] theorem State.portEvt_sup (s : State) (p : PortId) (i : Nat) : (s.portEvt p i).sup = s.sup := rfl
@[simp] theorem State.portEvt_clk (s : State) (p : PortId) (i : Nat) : (s.portEvt p i).clk = s.clk := rfl
@[simp] theorem State.portEvt_ember (s : State) (p : PortId) (i : Nat) : (s.portEvt p i).ember = s.ember := rfl
@[simp] theorem State.portEvt_bus (s : State) (p : PortId) (i : Nat) : (s.portEvt p i).bus = s.bus := rfl
@[simp] theorem State.portEvt_mb (s : State) (p : PortId) (i : Nat) : (s.portEvt p i).mb = s.mb := rfl
@[simp] theorem State.portEvt_ledger (s : State) (p : PortId) (i : Nat) : (s.portEvt p i).ledger = s.ledger := rfl
@[simp] theorem State.portEvt_ring (s : State) (p : PortId) (i : Nat) : (s.portEvt p i).ring = s.ring := rfl
@[simp] theorem State.portEvt_tmrs (s : State) (p : PortId) (i : Nat) : (s.portEvt p i).tmrs = s.tmrs := rfl
@[simp] theorem State.portEvt_gwcs (s : State) (p : PortId) (i : Nat) : (s.portEvt p i).gwcs = s.gwcs := rfl
@[simp] theorem State.portEvt_gwcEvt (s : State) (p : PortId) (i : Nat) : (s.portEvt p i).gwcEvt = s.gwcEvt := rfl
@[simp] theorem State.portEvt_pbus (s : State) (p : PortId) (i : Nat) : (s.portEvt p i).pbus = s.pbus := rfl
@[simp] theorem State.portEvt_fuse (s : State) (p : PortId) (i : Nat) : (s.portEvt p i).fuse = s.fuse := rfl
@[simp] theorem State.portEvt_sbox (s : State) (p : PortId) (i : Nat) : (s.portEvt p i).sbox = s.sbox := rfl
@[simp] theorem State.portEvt_vault (s : State) (p : PortId) (i : Nat) : (s.portEvt p i).vault = s.vault := rfl
@[simp] theorem State.portEvt_alarm (s : State) (p : PortId) (i : Nat) : (s.portEvt p i).alarm = s.alarm := rfl
@[simp] theorem State.portEvt_perf (s : State) (p : PortId) (i : Nat) : (s.portEvt p i).perf = s.perf := rfl
@[simp] theorem State.portEvt_trace (s : State) (p : PortId) (i : Nat) : (s.portEvt p i).trace = s.trace := rfl
@[simp] theorem State.portEvt_lantern (s : State) (p : PortId) (i : Nat) : (s.portEvt p i).lantern = s.lantern := rfl
@[simp] theorem State.portEvt_fw (s : State) (p : PortId) (i : Nat) : (s.portEvt p i).fw = s.fw := rfl
@[simp] theorem State.portEvt_safety (s : State) (p : PortId) (i : Nat) : (s.portEvt p i).safety = s.safety := rfl
@[simp] theorem State.portEvt_store (s : State) (p : PortId) (i : Nat) : (s.portEvt p i).store = s.store := rfl
@[simp] theorem State.portEvt_free (s : State) (p : PortId) (i : Nat) : (s.portEvt p i).free = s.free := rfl
@[simp] theorem State.portEvt_pending (s : State) (p : PortId) (i : Nat) : (s.portEvt p i).pending = s.pending := rfl
@[simp] theorem State.pdEvt_sys (s : State) (p : PortId) (i : Nat) : (s.pdEvt p i).sys = s.sys := rfl
@[simp] theorem State.pdEvt_sup (s : State) (p : PortId) (i : Nat) : (s.pdEvt p i).sup = s.sup := rfl
@[simp] theorem State.pdEvt_clk (s : State) (p : PortId) (i : Nat) : (s.pdEvt p i).clk = s.clk := rfl
@[simp] theorem State.pdEvt_ember (s : State) (p : PortId) (i : Nat) : (s.pdEvt p i).ember = s.ember := rfl
@[simp] theorem State.pdEvt_bus (s : State) (p : PortId) (i : Nat) : (s.pdEvt p i).bus = s.bus := rfl
@[simp] theorem State.pdEvt_mb (s : State) (p : PortId) (i : Nat) : (s.pdEvt p i).mb = s.mb := rfl
@[simp] theorem State.pdEvt_ledger (s : State) (p : PortId) (i : Nat) : (s.pdEvt p i).ledger = s.ledger := rfl
@[simp] theorem State.pdEvt_ring (s : State) (p : PortId) (i : Nat) : (s.pdEvt p i).ring = s.ring := rfl
@[simp] theorem State.pdEvt_tmrs (s : State) (p : PortId) (i : Nat) : (s.pdEvt p i).tmrs = s.tmrs := rfl
@[simp] theorem State.pdEvt_gwcs (s : State) (p : PortId) (i : Nat) : (s.pdEvt p i).gwcs = s.gwcs := rfl
@[simp] theorem State.pdEvt_gwcEvt (s : State) (p : PortId) (i : Nat) : (s.pdEvt p i).gwcEvt = s.gwcEvt := rfl
@[simp] theorem State.pdEvt_pbus (s : State) (p : PortId) (i : Nat) : (s.pdEvt p i).pbus = s.pbus := rfl
@[simp] theorem State.pdEvt_fuse (s : State) (p : PortId) (i : Nat) : (s.pdEvt p i).fuse = s.fuse := rfl
@[simp] theorem State.pdEvt_sbox (s : State) (p : PortId) (i : Nat) : (s.pdEvt p i).sbox = s.sbox := rfl
@[simp] theorem State.pdEvt_vault (s : State) (p : PortId) (i : Nat) : (s.pdEvt p i).vault = s.vault := rfl
@[simp] theorem State.pdEvt_alarm (s : State) (p : PortId) (i : Nat) : (s.pdEvt p i).alarm = s.alarm := rfl
@[simp] theorem State.pdEvt_perf (s : State) (p : PortId) (i : Nat) : (s.pdEvt p i).perf = s.perf := rfl
@[simp] theorem State.pdEvt_trace (s : State) (p : PortId) (i : Nat) : (s.pdEvt p i).trace = s.trace := rfl
@[simp] theorem State.pdEvt_lantern (s : State) (p : PortId) (i : Nat) : (s.pdEvt p i).lantern = s.lantern := rfl
@[simp] theorem State.pdEvt_fw (s : State) (p : PortId) (i : Nat) : (s.pdEvt p i).fw = s.fw := rfl
@[simp] theorem State.pdEvt_safety (s : State) (p : PortId) (i : Nat) : (s.pdEvt p i).safety = s.safety := rfl
@[simp] theorem State.pdEvt_store (s : State) (p : PortId) (i : Nat) : (s.pdEvt p i).store = s.store := rfl
@[simp] theorem State.pdEvt_free (s : State) (p : PortId) (i : Nat) : (s.pdEvt p i).free = s.free := rfl
@[simp] theorem State.pdEvt_pending (s : State) (p : PortId) (i : Nat) : (s.pdEvt p i).pending = s.pending := rfl
@[simp] theorem State.swEvt_sys (s : State) (p : PortId) (i : Nat) : (s.swEvt p i).sys = s.sys := rfl
@[simp] theorem State.swEvt_sup (s : State) (p : PortId) (i : Nat) : (s.swEvt p i).sup = s.sup := rfl
@[simp] theorem State.swEvt_clk (s : State) (p : PortId) (i : Nat) : (s.swEvt p i).clk = s.clk := rfl
@[simp] theorem State.swEvt_ember (s : State) (p : PortId) (i : Nat) : (s.swEvt p i).ember = s.ember := rfl
@[simp] theorem State.swEvt_bus (s : State) (p : PortId) (i : Nat) : (s.swEvt p i).bus = s.bus := rfl
@[simp] theorem State.swEvt_mb (s : State) (p : PortId) (i : Nat) : (s.swEvt p i).mb = s.mb := rfl
@[simp] theorem State.swEvt_ledger (s : State) (p : PortId) (i : Nat) : (s.swEvt p i).ledger = s.ledger := rfl
@[simp] theorem State.swEvt_ring (s : State) (p : PortId) (i : Nat) : (s.swEvt p i).ring = s.ring := rfl
@[simp] theorem State.swEvt_tmrs (s : State) (p : PortId) (i : Nat) : (s.swEvt p i).tmrs = s.tmrs := rfl
@[simp] theorem State.swEvt_gwcs (s : State) (p : PortId) (i : Nat) : (s.swEvt p i).gwcs = s.gwcs := rfl
@[simp] theorem State.swEvt_gwcEvt (s : State) (p : PortId) (i : Nat) : (s.swEvt p i).gwcEvt = s.gwcEvt := rfl
@[simp] theorem State.swEvt_pbus (s : State) (p : PortId) (i : Nat) : (s.swEvt p i).pbus = s.pbus := rfl
@[simp] theorem State.swEvt_fuse (s : State) (p : PortId) (i : Nat) : (s.swEvt p i).fuse = s.fuse := rfl
@[simp] theorem State.swEvt_sbox (s : State) (p : PortId) (i : Nat) : (s.swEvt p i).sbox = s.sbox := rfl
@[simp] theorem State.swEvt_vault (s : State) (p : PortId) (i : Nat) : (s.swEvt p i).vault = s.vault := rfl
@[simp] theorem State.swEvt_alarm (s : State) (p : PortId) (i : Nat) : (s.swEvt p i).alarm = s.alarm := rfl
@[simp] theorem State.swEvt_perf (s : State) (p : PortId) (i : Nat) : (s.swEvt p i).perf = s.perf := rfl
@[simp] theorem State.swEvt_trace (s : State) (p : PortId) (i : Nat) : (s.swEvt p i).trace = s.trace := rfl
@[simp] theorem State.swEvt_lantern (s : State) (p : PortId) (i : Nat) : (s.swEvt p i).lantern = s.lantern := rfl
@[simp] theorem State.swEvt_fw (s : State) (p : PortId) (i : Nat) : (s.swEvt p i).fw = s.fw := rfl
@[simp] theorem State.swEvt_safety (s : State) (p : PortId) (i : Nat) : (s.swEvt p i).safety = s.safety := rfl
@[simp] theorem State.swEvt_store (s : State) (p : PortId) (i : Nat) : (s.swEvt p i).store = s.store := rfl
@[simp] theorem State.swEvt_free (s : State) (p : PortId) (i : Nat) : (s.swEvt p i).free = s.free := rfl
@[simp] theorem State.swEvt_pending (s : State) (p : PortId) (i : Nat) : (s.swEvt p i).pending = s.pending := rfl
@[simp] theorem State.cvEvt_sys (s : State) (p : PortId) (i : Nat) : (s.cvEvt p i).sys = s.sys := rfl
@[simp] theorem State.cvEvt_sup (s : State) (p : PortId) (i : Nat) : (s.cvEvt p i).sup = s.sup := rfl
@[simp] theorem State.cvEvt_clk (s : State) (p : PortId) (i : Nat) : (s.cvEvt p i).clk = s.clk := rfl
@[simp] theorem State.cvEvt_ember (s : State) (p : PortId) (i : Nat) : (s.cvEvt p i).ember = s.ember := rfl
@[simp] theorem State.cvEvt_bus (s : State) (p : PortId) (i : Nat) : (s.cvEvt p i).bus = s.bus := rfl
@[simp] theorem State.cvEvt_mb (s : State) (p : PortId) (i : Nat) : (s.cvEvt p i).mb = s.mb := rfl
@[simp] theorem State.cvEvt_ledger (s : State) (p : PortId) (i : Nat) : (s.cvEvt p i).ledger = s.ledger := rfl
@[simp] theorem State.cvEvt_ring (s : State) (p : PortId) (i : Nat) : (s.cvEvt p i).ring = s.ring := rfl
@[simp] theorem State.cvEvt_tmrs (s : State) (p : PortId) (i : Nat) : (s.cvEvt p i).tmrs = s.tmrs := rfl
@[simp] theorem State.cvEvt_gwcs (s : State) (p : PortId) (i : Nat) : (s.cvEvt p i).gwcs = s.gwcs := rfl
@[simp] theorem State.cvEvt_gwcEvt (s : State) (p : PortId) (i : Nat) : (s.cvEvt p i).gwcEvt = s.gwcEvt := rfl
@[simp] theorem State.cvEvt_pbus (s : State) (p : PortId) (i : Nat) : (s.cvEvt p i).pbus = s.pbus := rfl
@[simp] theorem State.cvEvt_fuse (s : State) (p : PortId) (i : Nat) : (s.cvEvt p i).fuse = s.fuse := rfl
@[simp] theorem State.cvEvt_sbox (s : State) (p : PortId) (i : Nat) : (s.cvEvt p i).sbox = s.sbox := rfl
@[simp] theorem State.cvEvt_vault (s : State) (p : PortId) (i : Nat) : (s.cvEvt p i).vault = s.vault := rfl
@[simp] theorem State.cvEvt_alarm (s : State) (p : PortId) (i : Nat) : (s.cvEvt p i).alarm = s.alarm := rfl
@[simp] theorem State.cvEvt_perf (s : State) (p : PortId) (i : Nat) : (s.cvEvt p i).perf = s.perf := rfl
@[simp] theorem State.cvEvt_trace (s : State) (p : PortId) (i : Nat) : (s.cvEvt p i).trace = s.trace := rfl
@[simp] theorem State.cvEvt_lantern (s : State) (p : PortId) (i : Nat) : (s.cvEvt p i).lantern = s.lantern := rfl
@[simp] theorem State.cvEvt_fw (s : State) (p : PortId) (i : Nat) : (s.cvEvt p i).fw = s.fw := rfl
@[simp] theorem State.cvEvt_safety (s : State) (p : PortId) (i : Nat) : (s.cvEvt p i).safety = s.safety := rfl
@[simp] theorem State.cvEvt_store (s : State) (p : PortId) (i : Nat) : (s.cvEvt p i).store = s.store := rfl
@[simp] theorem State.cvEvt_free (s : State) (p : PortId) (i : Nat) : (s.cvEvt p i).free = s.free := rfl
@[simp] theorem State.cvEvt_pending (s : State) (p : PortId) (i : Nat) : (s.cvEvt p i).pending = s.pending := rfl

/-! ## Event registers outside the ports, free values -/

@[simp] theorem State.lgEvt_sys (s : State) (i : Nat) : (s.lgEvt i).sys = s.sys := rfl
@[simp] theorem State.lgEvt_sup (s : State) (i : Nat) : (s.lgEvt i).sup = s.sup := rfl
@[simp] theorem State.lgEvt_clk (s : State) (i : Nat) : (s.lgEvt i).clk = s.clk := rfl
@[simp] theorem State.lgEvt_ember (s : State) (i : Nat) : (s.lgEvt i).ember = s.ember := rfl
@[simp] theorem State.lgEvt_bus (s : State) (i : Nat) : (s.lgEvt i).bus = s.bus := rfl
@[simp] theorem State.lgEvt_mb (s : State) (i : Nat) : (s.lgEvt i).mb = s.mb := rfl
@[simp] theorem State.lgEvt_ports (s : State) (i : Nat) : (s.lgEvt i).ports = s.ports := rfl
@[simp] theorem State.lgEvt_ledger (s : State) (i : Nat) : (s.lgEvt i).ledger = { s.ledger with evt := setBit s.ledger.evt i } := rfl
@[simp] theorem State.lgEvt_ring (s : State) (i : Nat) : (s.lgEvt i).ring = s.ring := rfl
@[simp] theorem State.lgEvt_tmrs (s : State) (i : Nat) : (s.lgEvt i).tmrs = s.tmrs := rfl
@[simp] theorem State.lgEvt_gwcs (s : State) (i : Nat) : (s.lgEvt i).gwcs = s.gwcs := rfl
@[simp] theorem State.lgEvt_gwcEvt (s : State) (i : Nat) : (s.lgEvt i).gwcEvt = s.gwcEvt := rfl
@[simp] theorem State.lgEvt_pbus (s : State) (i : Nat) : (s.lgEvt i).pbus = s.pbus := rfl
@[simp] theorem State.lgEvt_fuse (s : State) (i : Nat) : (s.lgEvt i).fuse = s.fuse := rfl
@[simp] theorem State.lgEvt_sbox (s : State) (i : Nat) : (s.lgEvt i).sbox = s.sbox := rfl
@[simp] theorem State.lgEvt_vault (s : State) (i : Nat) : (s.lgEvt i).vault = s.vault := rfl
@[simp] theorem State.lgEvt_alarm (s : State) (i : Nat) : (s.lgEvt i).alarm = s.alarm := rfl
@[simp] theorem State.lgEvt_perf (s : State) (i : Nat) : (s.lgEvt i).perf = s.perf := rfl
@[simp] theorem State.lgEvt_trace (s : State) (i : Nat) : (s.lgEvt i).trace = s.trace := rfl
@[simp] theorem State.lgEvt_lantern (s : State) (i : Nat) : (s.lgEvt i).lantern = s.lantern := rfl
@[simp] theorem State.lgEvt_fw (s : State) (i : Nat) : (s.lgEvt i).fw = s.fw := rfl
@[simp] theorem State.lgEvt_safety (s : State) (i : Nat) : (s.lgEvt i).safety = s.safety := rfl
@[simp] theorem State.lgEvt_store (s : State) (i : Nat) : (s.lgEvt i).store = s.store := rfl
@[simp] theorem State.lgEvt_free (s : State) (i : Nat) : (s.lgEvt i).free = s.free := rfl
@[simp] theorem State.lgEvt_pending (s : State) (i : Nat) : (s.lgEvt i).pending = s.pending := rfl
@[simp] theorem State.lgEvt_port (s : State) (i : Nat) (p : PortId) : (s.lgEvt i).port p = s.port p := rfl
@[simp] theorem State.rgEvt_sys (s : State) (i : Nat) : (s.rgEvt i).sys = s.sys := rfl
@[simp] theorem State.rgEvt_sup (s : State) (i : Nat) : (s.rgEvt i).sup = s.sup := rfl
@[simp] theorem State.rgEvt_clk (s : State) (i : Nat) : (s.rgEvt i).clk = s.clk := rfl
@[simp] theorem State.rgEvt_ember (s : State) (i : Nat) : (s.rgEvt i).ember = s.ember := rfl
@[simp] theorem State.rgEvt_bus (s : State) (i : Nat) : (s.rgEvt i).bus = s.bus := rfl
@[simp] theorem State.rgEvt_mb (s : State) (i : Nat) : (s.rgEvt i).mb = s.mb := rfl
@[simp] theorem State.rgEvt_ports (s : State) (i : Nat) : (s.rgEvt i).ports = s.ports := rfl
@[simp] theorem State.rgEvt_ledger (s : State) (i : Nat) : (s.rgEvt i).ledger = s.ledger := rfl
@[simp] theorem State.rgEvt_ring (s : State) (i : Nat) : (s.rgEvt i).ring = { s.ring with evt := setBit s.ring.evt i } := rfl
@[simp] theorem State.rgEvt_tmrs (s : State) (i : Nat) : (s.rgEvt i).tmrs = s.tmrs := rfl
@[simp] theorem State.rgEvt_gwcs (s : State) (i : Nat) : (s.rgEvt i).gwcs = s.gwcs := rfl
@[simp] theorem State.rgEvt_gwcEvt (s : State) (i : Nat) : (s.rgEvt i).gwcEvt = s.gwcEvt := rfl
@[simp] theorem State.rgEvt_pbus (s : State) (i : Nat) : (s.rgEvt i).pbus = s.pbus := rfl
@[simp] theorem State.rgEvt_fuse (s : State) (i : Nat) : (s.rgEvt i).fuse = s.fuse := rfl
@[simp] theorem State.rgEvt_sbox (s : State) (i : Nat) : (s.rgEvt i).sbox = s.sbox := rfl
@[simp] theorem State.rgEvt_vault (s : State) (i : Nat) : (s.rgEvt i).vault = s.vault := rfl
@[simp] theorem State.rgEvt_alarm (s : State) (i : Nat) : (s.rgEvt i).alarm = s.alarm := rfl
@[simp] theorem State.rgEvt_perf (s : State) (i : Nat) : (s.rgEvt i).perf = s.perf := rfl
@[simp] theorem State.rgEvt_trace (s : State) (i : Nat) : (s.rgEvt i).trace = s.trace := rfl
@[simp] theorem State.rgEvt_lantern (s : State) (i : Nat) : (s.rgEvt i).lantern = s.lantern := rfl
@[simp] theorem State.rgEvt_fw (s : State) (i : Nat) : (s.rgEvt i).fw = s.fw := rfl
@[simp] theorem State.rgEvt_safety (s : State) (i : Nat) : (s.rgEvt i).safety = s.safety := rfl
@[simp] theorem State.rgEvt_store (s : State) (i : Nat) : (s.rgEvt i).store = s.store := rfl
@[simp] theorem State.rgEvt_free (s : State) (i : Nat) : (s.rgEvt i).free = s.free := rfl
@[simp] theorem State.rgEvt_pending (s : State) (i : Nat) : (s.rgEvt i).pending = s.pending := rfl
@[simp] theorem State.rgEvt_port (s : State) (i : Nat) (p : PortId) : (s.rgEvt i).port p = s.port p := rfl
@[simp] theorem State.safeEvt_sys (s : State) (i : Nat) : (s.safeEvt i).sys = s.sys := rfl
@[simp] theorem State.safeEvt_sup (s : State) (i : Nat) : (s.safeEvt i).sup = s.sup := rfl
@[simp] theorem State.safeEvt_clk (s : State) (i : Nat) : (s.safeEvt i).clk = s.clk := rfl
@[simp] theorem State.safeEvt_ember (s : State) (i : Nat) : (s.safeEvt i).ember = s.ember := rfl
@[simp] theorem State.safeEvt_bus (s : State) (i : Nat) : (s.safeEvt i).bus = s.bus := rfl
@[simp] theorem State.safeEvt_mb (s : State) (i : Nat) : (s.safeEvt i).mb = s.mb := rfl
@[simp] theorem State.safeEvt_ports (s : State) (i : Nat) : (s.safeEvt i).ports = s.ports := rfl
@[simp] theorem State.safeEvt_ledger (s : State) (i : Nat) : (s.safeEvt i).ledger = s.ledger := rfl
@[simp] theorem State.safeEvt_ring (s : State) (i : Nat) : (s.safeEvt i).ring = s.ring := rfl
@[simp] theorem State.safeEvt_tmrs (s : State) (i : Nat) : (s.safeEvt i).tmrs = s.tmrs := rfl
@[simp] theorem State.safeEvt_gwcs (s : State) (i : Nat) : (s.safeEvt i).gwcs = s.gwcs := rfl
@[simp] theorem State.safeEvt_gwcEvt (s : State) (i : Nat) : (s.safeEvt i).gwcEvt = s.gwcEvt := rfl
@[simp] theorem State.safeEvt_pbus (s : State) (i : Nat) : (s.safeEvt i).pbus = s.pbus := rfl
@[simp] theorem State.safeEvt_fuse (s : State) (i : Nat) : (s.safeEvt i).fuse = s.fuse := rfl
@[simp] theorem State.safeEvt_sbox (s : State) (i : Nat) : (s.safeEvt i).sbox = s.sbox := rfl
@[simp] theorem State.safeEvt_vault (s : State) (i : Nat) : (s.safeEvt i).vault = s.vault := rfl
@[simp] theorem State.safeEvt_alarm (s : State) (i : Nat) : (s.safeEvt i).alarm = s.alarm := rfl
@[simp] theorem State.safeEvt_perf (s : State) (i : Nat) : (s.safeEvt i).perf = s.perf := rfl
@[simp] theorem State.safeEvt_trace (s : State) (i : Nat) : (s.safeEvt i).trace = s.trace := rfl
@[simp] theorem State.safeEvt_lantern (s : State) (i : Nat) : (s.safeEvt i).lantern = s.lantern := rfl
@[simp] theorem State.safeEvt_fw (s : State) (i : Nat) : (s.safeEvt i).fw = s.fw := rfl
@[simp] theorem State.safeEvt_safety (s : State) (i : Nat) : (s.safeEvt i).safety = { s.safety with evt := setBit s.safety.evt i } := rfl
@[simp] theorem State.safeEvt_store (s : State) (i : Nat) : (s.safeEvt i).store = s.store := rfl
@[simp] theorem State.safeEvt_free (s : State) (i : Nat) : (s.safeEvt i).free = s.free := rfl
@[simp] theorem State.safeEvt_pending (s : State) (i : Nat) : (s.safeEvt i).pending = s.pending := rfl
@[simp] theorem State.safeEvt_port (s : State) (i : Nat) (p : PortId) : (s.safeEvt i).port p = s.port p := rfl
@[simp] theorem State.fuseEvt_sys (s : State) (i : Nat) : (s.fuseEvt i).sys = s.sys := rfl
@[simp] theorem State.fuseEvt_sup (s : State) (i : Nat) : (s.fuseEvt i).sup = s.sup := rfl
@[simp] theorem State.fuseEvt_clk (s : State) (i : Nat) : (s.fuseEvt i).clk = s.clk := rfl
@[simp] theorem State.fuseEvt_ember (s : State) (i : Nat) : (s.fuseEvt i).ember = s.ember := rfl
@[simp] theorem State.fuseEvt_bus (s : State) (i : Nat) : (s.fuseEvt i).bus = s.bus := rfl
@[simp] theorem State.fuseEvt_mb (s : State) (i : Nat) : (s.fuseEvt i).mb = s.mb := rfl
@[simp] theorem State.fuseEvt_ports (s : State) (i : Nat) : (s.fuseEvt i).ports = s.ports := rfl
@[simp] theorem State.fuseEvt_ledger (s : State) (i : Nat) : (s.fuseEvt i).ledger = s.ledger := rfl
@[simp] theorem State.fuseEvt_ring (s : State) (i : Nat) : (s.fuseEvt i).ring = s.ring := rfl
@[simp] theorem State.fuseEvt_tmrs (s : State) (i : Nat) : (s.fuseEvt i).tmrs = s.tmrs := rfl
@[simp] theorem State.fuseEvt_gwcs (s : State) (i : Nat) : (s.fuseEvt i).gwcs = s.gwcs := rfl
@[simp] theorem State.fuseEvt_gwcEvt (s : State) (i : Nat) : (s.fuseEvt i).gwcEvt = s.gwcEvt := rfl
@[simp] theorem State.fuseEvt_pbus (s : State) (i : Nat) : (s.fuseEvt i).pbus = s.pbus := rfl
@[simp] theorem State.fuseEvt_fuse (s : State) (i : Nat) : (s.fuseEvt i).fuse = { s.fuse with evt := setBit s.fuse.evt i } := rfl
@[simp] theorem State.fuseEvt_sbox (s : State) (i : Nat) : (s.fuseEvt i).sbox = s.sbox := rfl
@[simp] theorem State.fuseEvt_vault (s : State) (i : Nat) : (s.fuseEvt i).vault = s.vault := rfl
@[simp] theorem State.fuseEvt_alarm (s : State) (i : Nat) : (s.fuseEvt i).alarm = s.alarm := rfl
@[simp] theorem State.fuseEvt_perf (s : State) (i : Nat) : (s.fuseEvt i).perf = s.perf := rfl
@[simp] theorem State.fuseEvt_trace (s : State) (i : Nat) : (s.fuseEvt i).trace = s.trace := rfl
@[simp] theorem State.fuseEvt_lantern (s : State) (i : Nat) : (s.fuseEvt i).lantern = s.lantern := rfl
@[simp] theorem State.fuseEvt_fw (s : State) (i : Nat) : (s.fuseEvt i).fw = s.fw := rfl
@[simp] theorem State.fuseEvt_safety (s : State) (i : Nat) : (s.fuseEvt i).safety = s.safety := rfl
@[simp] theorem State.fuseEvt_store (s : State) (i : Nat) : (s.fuseEvt i).store = s.store := rfl
@[simp] theorem State.fuseEvt_free (s : State) (i : Nat) : (s.fuseEvt i).free = s.free := rfl
@[simp] theorem State.fuseEvt_pending (s : State) (i : Nat) : (s.fuseEvt i).pending = s.pending := rfl
@[simp] theorem State.fuseEvt_port (s : State) (i : Nat) (p : PortId) : (s.fuseEvt i).port p = s.port p := rfl
@[simp] theorem State.sbEvt_sys (s : State) (i : Nat) : (s.sbEvt i).sys = s.sys := rfl
@[simp] theorem State.sbEvt_sup (s : State) (i : Nat) : (s.sbEvt i).sup = s.sup := rfl
@[simp] theorem State.sbEvt_clk (s : State) (i : Nat) : (s.sbEvt i).clk = s.clk := rfl
@[simp] theorem State.sbEvt_ember (s : State) (i : Nat) : (s.sbEvt i).ember = s.ember := rfl
@[simp] theorem State.sbEvt_bus (s : State) (i : Nat) : (s.sbEvt i).bus = s.bus := rfl
@[simp] theorem State.sbEvt_mb (s : State) (i : Nat) : (s.sbEvt i).mb = s.mb := rfl
@[simp] theorem State.sbEvt_ports (s : State) (i : Nat) : (s.sbEvt i).ports = s.ports := rfl
@[simp] theorem State.sbEvt_ledger (s : State) (i : Nat) : (s.sbEvt i).ledger = s.ledger := rfl
@[simp] theorem State.sbEvt_ring (s : State) (i : Nat) : (s.sbEvt i).ring = s.ring := rfl
@[simp] theorem State.sbEvt_tmrs (s : State) (i : Nat) : (s.sbEvt i).tmrs = s.tmrs := rfl
@[simp] theorem State.sbEvt_gwcs (s : State) (i : Nat) : (s.sbEvt i).gwcs = s.gwcs := rfl
@[simp] theorem State.sbEvt_gwcEvt (s : State) (i : Nat) : (s.sbEvt i).gwcEvt = s.gwcEvt := rfl
@[simp] theorem State.sbEvt_pbus (s : State) (i : Nat) : (s.sbEvt i).pbus = s.pbus := rfl
@[simp] theorem State.sbEvt_fuse (s : State) (i : Nat) : (s.sbEvt i).fuse = s.fuse := rfl
@[simp] theorem State.sbEvt_sbox (s : State) (i : Nat) : (s.sbEvt i).sbox = { s.sbox with evt := setBit s.sbox.evt i } := rfl
@[simp] theorem State.sbEvt_vault (s : State) (i : Nat) : (s.sbEvt i).vault = s.vault := rfl
@[simp] theorem State.sbEvt_alarm (s : State) (i : Nat) : (s.sbEvt i).alarm = s.alarm := rfl
@[simp] theorem State.sbEvt_perf (s : State) (i : Nat) : (s.sbEvt i).perf = s.perf := rfl
@[simp] theorem State.sbEvt_trace (s : State) (i : Nat) : (s.sbEvt i).trace = s.trace := rfl
@[simp] theorem State.sbEvt_lantern (s : State) (i : Nat) : (s.sbEvt i).lantern = s.lantern := rfl
@[simp] theorem State.sbEvt_fw (s : State) (i : Nat) : (s.sbEvt i).fw = s.fw := rfl
@[simp] theorem State.sbEvt_safety (s : State) (i : Nat) : (s.sbEvt i).safety = s.safety := rfl
@[simp] theorem State.sbEvt_store (s : State) (i : Nat) : (s.sbEvt i).store = s.store := rfl
@[simp] theorem State.sbEvt_free (s : State) (i : Nat) : (s.sbEvt i).free = s.free := rfl
@[simp] theorem State.sbEvt_pending (s : State) (i : Nat) : (s.sbEvt i).pending = s.pending := rfl
@[simp] theorem State.sbEvt_port (s : State) (i : Nat) (p : PortId) : (s.sbEvt i).port p = s.port p := rfl
@[simp] theorem State.almEvt_sys (s : State) (i : Nat) : (s.almEvt i).sys = s.sys := rfl
@[simp] theorem State.almEvt_sup (s : State) (i : Nat) : (s.almEvt i).sup = s.sup := rfl
@[simp] theorem State.almEvt_clk (s : State) (i : Nat) : (s.almEvt i).clk = s.clk := rfl
@[simp] theorem State.almEvt_ember (s : State) (i : Nat) : (s.almEvt i).ember = s.ember := rfl
@[simp] theorem State.almEvt_bus (s : State) (i : Nat) : (s.almEvt i).bus = s.bus := rfl
@[simp] theorem State.almEvt_mb (s : State) (i : Nat) : (s.almEvt i).mb = s.mb := rfl
@[simp] theorem State.almEvt_ports (s : State) (i : Nat) : (s.almEvt i).ports = s.ports := rfl
@[simp] theorem State.almEvt_ledger (s : State) (i : Nat) : (s.almEvt i).ledger = s.ledger := rfl
@[simp] theorem State.almEvt_ring (s : State) (i : Nat) : (s.almEvt i).ring = s.ring := rfl
@[simp] theorem State.almEvt_tmrs (s : State) (i : Nat) : (s.almEvt i).tmrs = s.tmrs := rfl
@[simp] theorem State.almEvt_gwcs (s : State) (i : Nat) : (s.almEvt i).gwcs = s.gwcs := rfl
@[simp] theorem State.almEvt_gwcEvt (s : State) (i : Nat) : (s.almEvt i).gwcEvt = s.gwcEvt := rfl
@[simp] theorem State.almEvt_pbus (s : State) (i : Nat) : (s.almEvt i).pbus = s.pbus := rfl
@[simp] theorem State.almEvt_fuse (s : State) (i : Nat) : (s.almEvt i).fuse = s.fuse := rfl
@[simp] theorem State.almEvt_sbox (s : State) (i : Nat) : (s.almEvt i).sbox = s.sbox := rfl
@[simp] theorem State.almEvt_vault (s : State) (i : Nat) : (s.almEvt i).vault = s.vault := rfl
@[simp] theorem State.almEvt_alarm (s : State) (i : Nat) : (s.almEvt i).alarm = { s.alarm with evt := setBit s.alarm.evt i } := rfl
@[simp] theorem State.almEvt_perf (s : State) (i : Nat) : (s.almEvt i).perf = s.perf := rfl
@[simp] theorem State.almEvt_trace (s : State) (i : Nat) : (s.almEvt i).trace = s.trace := rfl
@[simp] theorem State.almEvt_lantern (s : State) (i : Nat) : (s.almEvt i).lantern = s.lantern := rfl
@[simp] theorem State.almEvt_fw (s : State) (i : Nat) : (s.almEvt i).fw = s.fw := rfl
@[simp] theorem State.almEvt_safety (s : State) (i : Nat) : (s.almEvt i).safety = s.safety := rfl
@[simp] theorem State.almEvt_store (s : State) (i : Nat) : (s.almEvt i).store = s.store := rfl
@[simp] theorem State.almEvt_free (s : State) (i : Nat) : (s.almEvt i).free = s.free := rfl
@[simp] theorem State.almEvt_pending (s : State) (i : Nat) : (s.almEvt i).pending = s.pending := rfl
@[simp] theorem State.almEvt_port (s : State) (i : Nat) (p : PortId) : (s.almEvt i).port p = s.port p := rfl
@[simp] theorem State.drawn_sys (s : State) : s.drawn.sys = s.sys := rfl
@[simp] theorem State.drawn_sup (s : State) : s.drawn.sup = s.sup := rfl
@[simp] theorem State.drawn_clk (s : State) : s.drawn.clk = s.clk := rfl
@[simp] theorem State.drawn_ember (s : State) : s.drawn.ember = s.ember := rfl
@[simp] theorem State.drawn_bus (s : State) : s.drawn.bus = s.bus := rfl
@[simp] theorem State.drawn_mb (s : State) : s.drawn.mb = s.mb := rfl
@[simp] theorem State.drawn_ports (s : State) : s.drawn.ports = s.ports := rfl
@[simp] theorem State.drawn_ledger (s : State) : s.drawn.ledger = s.ledger := rfl
@[simp] theorem State.drawn_ring (s : State) : s.drawn.ring = s.ring := rfl
@[simp] theorem State.drawn_tmrs (s : State) : s.drawn.tmrs = s.tmrs := rfl
@[simp] theorem State.drawn_gwcs (s : State) : s.drawn.gwcs = s.gwcs := rfl
@[simp] theorem State.drawn_gwcEvt (s : State) : s.drawn.gwcEvt = s.gwcEvt := rfl
@[simp] theorem State.drawn_pbus (s : State) : s.drawn.pbus = s.pbus := rfl
@[simp] theorem State.drawn_fuse (s : State) : s.drawn.fuse = s.fuse := rfl
@[simp] theorem State.drawn_sbox (s : State) : s.drawn.sbox = s.sbox := rfl
@[simp] theorem State.drawn_vault (s : State) : s.drawn.vault = s.vault := rfl
@[simp] theorem State.drawn_alarm (s : State) : s.drawn.alarm = s.alarm := rfl
@[simp] theorem State.drawn_perf (s : State) : s.drawn.perf = s.perf := rfl
@[simp] theorem State.drawn_trace (s : State) : s.drawn.trace = s.trace := rfl
@[simp] theorem State.drawn_lantern (s : State) : s.drawn.lantern = s.lantern := rfl
@[simp] theorem State.drawn_fw (s : State) : s.drawn.fw = s.fw := rfl
@[simp] theorem State.drawn_safety (s : State) : s.drawn.safety = s.safety := rfl
@[simp] theorem State.drawn_store (s : State) : s.drawn.store = s.store := rfl
@[simp] theorem State.drawn_free (s : State) : s.drawn.free = s.free + 1 := rfl
@[simp] theorem State.drawn_pending (s : State) : s.drawn.pending = s.pending := rfl
@[simp] theorem State.drawn_port (s : State) (p : PortId) : s.drawn.port p = s.port p := rfl

/-! ## Performance counters: a count changes nothing else -/

@[simp] theorem State.count_sys (s : State) (b e n : Nat) : (s.count b e n).sys = s.sys := by unfold State.count; split <;> rfl
@[simp] theorem State.count_sup (s : State) (b e n : Nat) : (s.count b e n).sup = s.sup := by unfold State.count; split <;> rfl
@[simp] theorem State.count_clk (s : State) (b e n : Nat) : (s.count b e n).clk = s.clk := by unfold State.count; split <;> rfl
@[simp] theorem State.count_ember (s : State) (b e n : Nat) : (s.count b e n).ember = s.ember := by unfold State.count; split <;> rfl
@[simp] theorem State.count_bus (s : State) (b e n : Nat) : (s.count b e n).bus = s.bus := by unfold State.count; split <;> rfl
@[simp] theorem State.count_mb (s : State) (b e n : Nat) : (s.count b e n).mb = s.mb := by unfold State.count; split <;> rfl
@[simp] theorem State.count_ports (s : State) (b e n : Nat) : (s.count b e n).ports = s.ports := by unfold State.count; split <;> rfl
@[simp] theorem State.count_ledger (s : State) (b e n : Nat) : (s.count b e n).ledger = s.ledger := by unfold State.count; split <;> rfl
@[simp] theorem State.count_ring (s : State) (b e n : Nat) : (s.count b e n).ring = s.ring := by unfold State.count; split <;> rfl
@[simp] theorem State.count_tmrs (s : State) (b e n : Nat) : (s.count b e n).tmrs = s.tmrs := by unfold State.count; split <;> rfl
@[simp] theorem State.count_gwcs (s : State) (b e n : Nat) : (s.count b e n).gwcs = s.gwcs := by unfold State.count; split <;> rfl
@[simp] theorem State.count_gwcEvt (s : State) (b e n : Nat) : (s.count b e n).gwcEvt = s.gwcEvt := by unfold State.count; split <;> rfl
@[simp] theorem State.count_pbus (s : State) (b e n : Nat) : (s.count b e n).pbus = s.pbus := by unfold State.count; split <;> rfl
@[simp] theorem State.count_fuse (s : State) (b e n : Nat) : (s.count b e n).fuse = s.fuse := by unfold State.count; split <;> rfl
@[simp] theorem State.count_sbox (s : State) (b e n : Nat) : (s.count b e n).sbox = s.sbox := by unfold State.count; split <;> rfl
@[simp] theorem State.count_vault (s : State) (b e n : Nat) : (s.count b e n).vault = s.vault := by unfold State.count; split <;> rfl
@[simp] theorem State.count_alarm (s : State) (b e n : Nat) : (s.count b e n).alarm = s.alarm := by unfold State.count; split <;> rfl
@[simp] theorem State.count_trace (s : State) (b e n : Nat) : (s.count b e n).trace = s.trace := by unfold State.count; split <;> rfl
@[simp] theorem State.count_lantern (s : State) (b e n : Nat) : (s.count b e n).lantern = s.lantern := by unfold State.count; split <;> rfl
@[simp] theorem State.count_fw (s : State) (b e n : Nat) : (s.count b e n).fw = s.fw := by unfold State.count; split <;> rfl
@[simp] theorem State.count_safety (s : State) (b e n : Nat) : (s.count b e n).safety = s.safety := by unfold State.count; split <;> rfl
@[simp] theorem State.count_store (s : State) (b e n : Nat) : (s.count b e n).store = s.store := by unfold State.count; split <;> rfl
@[simp] theorem State.count_free (s : State) (b e n : Nat) : (s.count b e n).free = s.free := by unfold State.count; split <;> rfl
@[simp] theorem State.count_pending (s : State) (b e n : Nat) : (s.count b e n).pending = s.pending := by unfold State.count; split <;> rfl
@[simp] theorem State.count_port (s : State) (b e n : Nat) (p : PortId) : (s.count b e n).port p = s.port p := by
  unfold State.count; split <;> rfl

/-! ## A change on a condition -/

@[simp] theorem State.when_true (s : State) (f : State → State) : s.when true f = f s := rfl
@[simp] theorem State.when_false (s : State) (f : State → State) : s.when false f = s := rfl

end Sys2Proof.Machine
end

