-- ==== Sys2Proof/Laws/Commands.lean ====
section
/-!
SUPPORT. A command from the host's side: what the mailbox, the checks, the lanes and the answer do around the body of a command, said
once. A law about one command needs its body alone.
-/
namespace Sys2Proof.Laws

open Sys2Proof.Machine Sys2Proof.Safety

/-! ## What changes nothing but the host's side -/

theorem host_refl (s : State) : HostOnly s s := rfl

theorem host_trans {s t u : State} (h : HostOnly s t) (k : HostOnly t u) : HostOnly s u := by
  unfold HostOnly at *; rw [k, h]

theorem host_count (s : State) (b e n : Nat) : HostOnly s (s.count b e n) := by unfold State.count; split <;> rfl

theorem host_place (s : State) (r : Reply) : HostOnly s (s.place r) := by
  unfold State.place; dsimp only
  split
  · split
    · exact host_trans (t := State.count { s with mb.replies := s.mb.replies ++ [r] } 35 0x03 1)
        (host_trans (t := { s with mb.replies := s.mb.replies ++ [r] }) rfl (host_count _ _ _ _)) (host_count _ _ _ _)
    · exact host_trans (t := { s with mb.replies := s.mb.replies ++ [r] }) rfl (host_count _ _ _ _)
  · rfl

theorem host_emit (s : State) (r : Reply) : HostOnly s (s.emit r) := by
  unfold State.emit
  split
  · exact host_place _ _
  · rfl

theorem host_traceReply (s : State) (k : Packet) (st : Byte) : HostOnly s (s.traceReply k st) := by
  unfold State.traceReply; split <;> rfl

theorem host_traceTake (s : State) (n : BitVec 16) (c : Bool) (i : Nat) : HostOnly s (s.traceTake n c i) := rfl

theorem host_traceEnd (s : State) : HostOnly s s.traceEnd := by
  unfold State.traceEnd
  split
  · rfl
  · dsimp only
    split
    · exact host_trans (t := { s with trace := s.trace.side.foldl Trace.push { s.trace with reading := 0, side := [] } }) rfl
        (host_traceTake _ _ _ _)
    · rfl

theorem host_partsOver (s : State) (k : Packet) : HostOnly s (s.partsOver k) := by
  unfold State.partsOver
  split
  · exact host_traceEnd s
  · rfl

theorem host_emitPart (s : State) (k : Packet) (st : Byte) (l : List (List Byte)) : HostOnly s (s.emitPart k st l) := by
  unfold State.emitPart
  split
  · exact host_trans (host_emit _ _) (host_partsOver _ _)
  · exact host_trans (host_emit _ _) (host_partsOver _ _)
  · exact host_trans (host_emit _ _) rfl

/-- Answering a command changes nothing but the host's side. -/
theorem host_answer (s : State) (k : Packet) (r : CmdRes) : HostOnly s (s.answer k r) := by
  cases r with
  | final st pl => exact host_trans (host_emit _ _) (host_traceReply _ _ _)
  | accepted =>
    exact host_trans (t := { s with mb.flights := insertOrd k s.mb.flights }) rfl
      (host_trans (host_emit _ _) (host_traceReply _ _ _))
  | parts st l => exact host_trans (host_emitPart _ _ _ _) (host_traceReply _ _ _)

/-! ## Replies -/

theorem room_le {m : Mailbox} {a b : Nat} (h : m.room b = true) (l : a ≤ b) : m.room a = true := by
  simp only [Mailbox.room, Bool.and_eq_true, decide_eq_true_eq] at h ⊢
  exact ⟨h.1, by omega⟩

@[simp] theorem count_mb (s : State) (b e n : Nat) : (s.count b e n).mb = s.mb := by unfold State.count; split <;> rfl
@[simp] theorem traceReply_mb (s : State) (k : Packet) (st : Byte) : (s.traceReply k st).mb = s.mb := by
  unfold State.traceReply; split <;> rfl

/-- A reply with room is placed in the queue. -/
theorem emit_mb {s : State} {r : Reply} (hi : s.caughtUp = true) (hh : s.mb.held = []) (hr : s.mb.room r.payload.length = true) :
    (s.emit r).mb = { s.mb with replies := s.mb.replies ++ [r] } := by
  unfold State.emit State.place; simp only [hi, hh, hr, List.isEmpty_nil, Bool.and_self, if_true]; split <;> simp

/-- Whether the interpreter has caught up rests on its presence and on the mailbox. -/
theorem caughtUp_of {s t : State} (h : s.caughtUp = true) (hi : t.sys.interp = s.sys.interp) (hl : t.mb.late = s.mb.late)
    (hb : t.mb.inbox = s.mb.inbox) : t.caughtUp = true := by
  unfold State.caughtUp at *; rw [hi, hl, hb]; exact h

/-- A final answer is one reply. -/
theorem answer_final_mb {s : State} {k : Packet} {st : Byte} {pl : List Byte} (hi : s.caughtUp = true) (hh : s.mb.held = [])
    (hr : s.mb.room 1024 = true) (hl : pl.length ≤ 1024) :
    (s.answer k (.final st pl)).mb = { s.mb with replies := s.mb.replies ++ [k.reply st pl false false true] } := by
  unfold State.answer
  rw [traceReply_mb, emit_mb hi hh (room_le hr hl)]

/-- An accepted command is in flight and answered so. -/
theorem answer_accepted_mb {s : State} {k : Packet} (hi : s.caughtUp = true) (hh : s.mb.held = []) (hr : s.mb.room 1024 = true) :
    (s.answer k .accepted).mb =
      { s.mb with flights := insertOrd k s.mb.flights, replies := s.mb.replies ++ [k.reply 1 [] false false false] } := by
  unfold State.answer
  rw [traceReply_mb, emit_mb (s := { s with mb.flights := insertOrd k s.mb.flights }) hi hh (room_le hr (Nat.zero_le _))]

/-- A long operation's completion is one reply, and the command leaves the flights. -/
theorem complete_mb {s : State} {k : Packet} {st : Byte} {pl : List Byte} (hi : s.caughtUp = true) (hh : s.mb.held = [])
    (hr : s.mb.room 1024 = true) (hl : pl.length ≤ 1024) :
    (s.complete k st pl).mb = { s.mb with
      flights := s.mb.flights.filter fun x => x.tag != k.tag, replies := s.mb.replies ++ [k.reply st pl true false true] } := by
  unfold State.complete
  rw [emit_mb (s := { s with mb.flights := s.mb.flights.filter fun x => x.tag != k.tag }) hi hh (room_le hr hl)]

theorem host_complete (s : State) (k : Packet) (st : Byte) (pl : List Byte) : HostOnly s (s.complete k st pl) :=
  host_trans (t := { s with mb.flights := s.mb.flights.filter fun x => x.tag != k.tag }) rfl (host_emit _ _)

/-! ## The way of a command to its body -/

/-- The power state in which a command runs: its packet wakes SLEEP and leaves DOZE (R74, Table 3.4). -/
def awake (p : Pwr) : Pwr := if p = .sleep ∨ p = .doze then .run else p

/-- What the state holds when the body of a command that the interpreter serves begins. -/
structure Begun (s : State) (k : Packet) (u : State) (j : Packet) : Prop where
  mb : u.mb = { s.mb with tags := k.tag :: s.mb.tags, acc := s.mb.acc + 1 }
  pwr : u.sys.pwr = awake s.sys.pwr
  rest : u = { s with
    mb := u.mb, perf := u.perf, trace := u.trace, sys := { s.sys with pwr := u.sys.pwr },
    bus := { s.bus with acked := u.bus.acked, out := u.bus.out, acks := u.bus.acks, lastAddr := u.bus.lastAddr } }
  pkt : j = { (s.traceCount k).2 with minor := s.sys.minor, ord := s.mb.acc, sts := s.sys.sts }

theorem count_eq (s : State) (b e n : Nat) : s.count b e n = { s with perf := (s.count b e n).perf } := by
  unfold State.count; split <;> rfl

/-- The checks look at nothing that the way into the mailbox changes. -/
theorem checks_same (s : State) (k : Packet) (m : Mailbox) (f : Perf) (x : Trace) (w : Pwr) (a : HostBus) (b : Bool) (i : Nat)
    (h : m.tags = s.mb.tags) :
    ({ s with mb := m, perf := f, trace := x, sys := { s.sys with pwr := w }, bus := a } : State).checks
      { k with traced := b, idx := i } = s.checks k := by
  unfold State.checks; rw [h]; rfl

theorem count_ex (s : State) (b e n : Nat) : ∃ f, s.count b e n = { s with perf := f } := ⟨_, count_eq s b e n⟩

theorem wakeUp_leaveDoze (s : State) : s.wakeUp.leaveDoze = { s with sys := { s.sys with pwr := awake s.sys.pwr } } := by
  obtain ⟨⟨w⟩⟩ := s; cases w <;> rfl

@[simp] theorem wakeUp_mb (s : State) : s.wakeUp.mb = s.mb := by unfold State.wakeUp; split <;> rfl

theorem canServe_of {s : State} (hi : s.sys.interp = true) (hm : s.sysMhz ≠ 0) (hh : s.mb.held = []) (hl : s.mb.late = [])
    (hr : s.mb.room 1024 = true) : s.canServe = true := by simp [State.canServe, hi, hm, hh, hl, hr]

/-- A mailbox with one packet that no reset found there, and nothing late, has nothing to answer first. -/
theorem stale_none {w : State} {k : Packet} (hb : w.mb.inbox = [k]) (hk : k.stale = false) :
    State.takeStale w.mb.inbox.length w = w := by
  rw [hb]
  show State.takeStale 1 w = w
  unfold State.takeStale
  rw [hb]; dsimp only
  rw [hk]; rfl

theorem late_none {w : State} (hl : w.mb.late = []) : w.flushLate = w := by
  unfold State.flushLate
  split
  · rw [hl]; show { w with mb := { w.mb with late := [] } } = w; rw [← hl]
  · rfl

/-- One packet in the mailbox of an interpreter that can serve is accepted. -/
theorem acceptAll_one {w : State} {k : Packet} (hb : w.mb.inbox = [k]) (hs : w.canServe = true) :
    State.acceptAll w.mb.inbox.length w = ({ w with mb := { w.mb with inbox := [] } } : State).accept k := by
  rw [hb]
  show State.acceptAll 1 w = _
  unfold State.acceptAll
  rw [hb]; dsimp only
  rw [if_pos hs]
  rfl

/-- One command in a lane of an interpreter that can serve is run and answered. -/
theorem runLanes_one {w : State} {j : Packet} (hl : w.mb.lanes = [j]) (hs : w.canServe = true) (hd : j.dead = false) :
    State.runLanes w.mb.lanes.length w =
      (let u : State := { w with mb := { w.mb with lanes := [] } }
       let v := (u.runBody j).1.answer j (u.runBody j).2
       if j.opcode == 0x89 && v.fw.marked then v.interpReset else v) := by
  rw [hl]
  show State.runLanes 1 w = _
  unfold State.runLanes
  rw [if_pos hs, hl]
  simp only [nextIn, List.filter, bne_self_eq_false, hd, Bool.false_eq_true, if_false, State.runLanes]

theorem traceCount_eq (s : State) (k : Packet) :
    ∃ x b i, s.traceCount k = ({ s with trace := x }, { k with traced := b, idx := i }) := ⟨_, _, _, rfl⟩

/-- A packet that passes the checks takes its tag and its place in its lane. -/
theorem accept_ok {w : State} {k : Packet} (hc : w.checks k = none) : ∃ f x,
    w.accept k = { w with
      perf := f, trace := x, mb := { w.mb with
        tags := k.tag :: w.mb.tags, acc := w.mb.acc + 1,
        lanes := w.mb.lanes ++ [{ (w.traceCount k).2 with minor := w.sys.minor, ord := w.mb.acc }] } } := by
  obtain ⟨x, b, i, e⟩ := traceCount_eq w k
  have c : ({ w with trace := x } : State).checks { k with traced := b, idx := i } = none :=
    (checks_same w k w.mb w.perf x w.sys.pwr w.bus b i rfl).trans hc
  unfold State.accept
  rw [e]; dsimp only
  rw [c]; dsimp only
  exact ⟨_, x, count_eq _ _ _ _⟩

/-- What the host target shows of a mailbox write of some bytes at an address. -/
def busAt (s : State) (a : HostAddr) (n : Nat) : HostBus :=
  { s.bus with acked := true, out := [], acks := n, lastAddr := a.zeroExtend 8 ||| 0 }

/-- The host target acknowledges an address and some bytes: the device is woken. -/
theorem ack_eq (s : State) (a : HostAddr) (n : Nat) : ∃ f, (s.hostAck a false).ackBytes n = { s with
    sys := { s.sys with pwr := if s.sys.pwr = .sleep then .doze else s.sys.pwr }, bus := busAt s a n, perf := f } := by
  unfold State.ackBytes
  rw [count_eq]
  generalize (State.count _ _ _ _).perf = f
  refine ⟨f, ?_⟩
  obtain ⟨⟨w⟩⟩ := s; cases w <;> rfl

/-- A packet is handed over: it lies in the mailbox with the time of its receipt, and DOZE ends. -/
theorem handOver_eq (s : State) (k : Packet) : ∃ f, s.handOver k = State.drain { s with
    mb := { s.mb with inbox := s.mb.inbox ++ [{ k with sts := s.sys.sts }] }, perf := f,
    sys := { s.sys with pwr := if s.sys.pwr = .doze then .run else s.sys.pwr } } := by
  unfold State.handOver
  rw [count_eq]
  generalize (State.count _ _ _ _).perf = f
  refine ⟨f, congrArg State.drain ?_⟩
  obtain ⟨⟨w⟩⟩ := s; cases w <;> rfl

theorem awake_eq (w : Pwr) : awake w = if (if w = .sleep then Pwr.doze else w) = .doze then .run else if w = .sleep then .doze else w := by
  cases w <;> rfl

/-- A packet that the host sends to an empty mailbox lies in it, with the time of its receipt, and the device is awake. -/
theorem submit_handed {s : State} {k : Packet} (hu : s.hostUp = true) (hb : s.mb.inbox = []) : ∃ f n,
    s.submit k = State.drain { s with
      mb := { s.mb with inbox := [{ k with sts := s.sys.sts }] }, perf := f,
      sys := { s.sys with pwr := awake s.sys.pwr }, bus := busAt s s.ca n } := by
  generalize hn : min 1032 (8 + k.payload.length) = n
  have e : s.submit k = (((s.hostAck s.ca false).ackBytes n).handOver k) := by
    unfold State.submit
    rw [hu, hb, hn, if_neg (by decide), if_neg (by simp)]
  rw [e]
  obtain ⟨f, hf⟩ := ack_eq s s.ca n
  obtain ⟨g, hg⟩ := handOver_eq ((s.hostAck s.ca false).ackBytes n) k
  rw [hg, hf, awake_eq]
  refine ⟨g, n, ?_⟩
  dsimp only
  rw [hb]
  rfl

/-- The checks look at no time of receipt. -/
theorem checks_sts (s : State) (k : Packet) (v : BitVec 64) : s.checks { k with sts := v } = s.checks k := rfl

/-- The body of a served command runs in a state that has begun it, and its answer follows. -/
theorem submit_serves {s : State} {k : Packet} (h : Serves s k) (hd : k.dead = false) (hk : k.stale = false) :
    ∃ u j, Begun s k u j ∧
      s.submit k = (let v := (u.runBody j).1.answer j (u.runBody j).2
        if j.opcode == 0x89 && v.fw.marked then v.interpReset else v) := by
  obtain ⟨hu, hi, hs, hm, hb, hl, hh, ht, hr, hc⟩ := h
  obtain ⟨f, n, hf⟩ := submit_handed (k := k) hu hb
  rw [hf]
  generalize hq : ({ k with sts := s.sys.sts } : Packet) = q
  have hqd : q.dead = false := by rw [← hq]; exact hd
  have hqs : q.stale = false := by rw [← hq]; exact hk
  generalize hw : ({ s with
    mb := { s.mb with inbox := [q] }, perf := f, sys := { s.sys with pwr := awake s.sys.pwr }, bus := busAt s s.ca n } : State) = w
  have hwi : w.mb.inbox = [q] := by rw [← hw]
  have hwt : w.mb.late = [] := by rw [← hw]; exact ht
  have hwr : w.mb.room 1024 = true := by rw [← hw]; exact hr
  have hwc : w.canServe = true :=
    canServe_of (by rw [← hw]; exact hi) (by rw [← hw]; exact hm) (by rw [← hw]; exact hh) hwt hwr
  have hck : ({ w with mb := { w.mb with inbox := [] } } : State).checks q = none := by
    rw [← hw, ← hq, checks_sts]
    exact (checks_same s k { s.mb with inbox := [] } f s.trace (awake s.sys.pwr) (busAt s s.ca n) k.traced k.idx rfl).trans hc
  obtain ⟨g, x, ha⟩ := accept_ok hck
  unfold State.drain
  rw [if_pos (by rw [← hw]; exact hs)]
  dsimp only
  rw [stale_none hwi hqs, late_none hwt, acceptAll_one hwi hwc, ha]
  obtain ⟨y, b, i, hy⟩ := traceCount_eq ({ w with mb := { w.mb with inbox := [] } } : State) q
  rw [runLanes_one (j := { (({ w with mb := { w.mb with inbox := [] } } : State).traceCount q).2 with
      minor := w.sys.minor, ord := w.mb.acc }) (by rw [← hw]; simp [hl]) (canServe_of (by rw [← hw]; exact hi)
      (by rw [← hw]; exact hm) (by rw [← hw]; exact hh) (by rw [← hw]; exact ht) (by rw [← hw]; exact hr))
      (by rw [hy]; exact hqd)]
  refine ⟨_, _, ⟨?_, ?_, ?_, ?_⟩, rfl⟩
  · rw [← hw, ← hq]; simp [hl, hb]
  · rw [← hw]
  · rw [← hw]; rfl
  · rw [← hw, ← hq]; rfl

/-- A served command's body begins with nothing to answer before it. -/
theorem begun_caughtUp {s u : State} {k j : Packet} (h : Serves s k) (b : Begun s k u j) : u.caughtUp = true := by
  obtain ⟨-, hi, -, -, hb, -, -, ht, -, -⟩ := h
  have i : u.sys.interp = s.sys.interp := by rw [b.rest]
  unfold State.caughtUp
  rw [i, b.mb, hi, ht, hb]; rfl

theorem begun_host {s u : State} {k j : Packet} (h : Begun s k u j) : HostOnly s u := by
  unfold HostOnly; rw [h.rest]

theorem begun_reply {s u : State} {k j : Packet} (h : Begun s k u j) (st : Byte) (pl : List Byte) (c m o : Bool) :
    j.reply st pl c m o = k.reply st pl c m o ∧ j.opcode = k.opcode := by
  rw [h.pkt]; exact ⟨rfl, rfl⟩

/-- A served command whose body ends in a final status is answered with it; what holds of every state that differs from the
body's in the host's side alone holds of the state after the command. -/
theorem serves_final {s : State} {k : Packet} {st : Byte} {pl : List Byte} {P : State → Prop} (h : Serves s k)
    (hd : k.dead = false) (hk : k.stale = false) (ho : (k.opcode == 0x89) = false) (hl : pl.length ≤ 1024)
    (hb : ∀ u j, Begun s k u j → ∃ g, u.runBody j = (g, .final st pl) ∧ g.mb = u.mb ∧ g.sys.interp = u.sys.interp ∧
      ∀ t, HostOnly g t → P t) :
    Answered s k st pl (s.submit k) ∧ P (s.submit k) := by
  obtain ⟨u, j, b, e⟩ := submit_serves h hd hk
  obtain ⟨g, r, m, i, p⟩ := hb u j b
  have c : g.caughtUp = true := caughtUp_of (begun_caughtUp h b) i (by rw [m]) (by rw [m])
  obtain ⟨-, hi, -, -, -, -, hh, -, hr, -⟩ := h
  have oj := (begun_reply b st pl false false true)
  rw [e, r]; dsimp only
  rw [oj.2, ho, Bool.false_and, if_neg Bool.false_ne_true]
  refine ⟨?_, p _ (host_answer _ _ _)⟩
  unfold Answered
  rw [answer_final_mb c (by rw [m, b.mb]; exact hh) (by rw [m, b.mb]; exact hr) hl, m, b.mb, oj.1]

/-- A served command whose body is accepted is answered so and stands in flight. -/
theorem serves_accepted {s : State} {k : Packet} {P : State → Prop} (h : Serves s k) (hd : k.dead = false)
    (hk : k.stale = false) (ho : (k.opcode == 0x89) = false)
    (hb : ∀ u j, Begun s k u j → ∃ g, u.runBody j = (g, .accepted) ∧ g.mb = u.mb ∧ g.sys.interp = u.sys.interp ∧
      ∀ t, HostOnly g t → P t) :
    Accepted s k (s.submit k) ∧ P (s.submit k) := by
  obtain ⟨u, j, b, e⟩ := submit_serves h hd hk
  obtain ⟨g, r, m, i, p⟩ := hb u j b
  have c : g.caughtUp = true := caughtUp_of (begun_caughtUp h b) i (by rw [m]) (by rw [m])
  obtain ⟨-, hi, -, -, -, -, hh, -, hr, -⟩ := h
  have oj := (begun_reply b 1 [] false false false)
  rw [e, r]; dsimp only
  rw [oj.2, ho, Bool.false_and, if_neg Bool.false_ne_true]
  refine ⟨?_, p _ (host_answer _ _ _)⟩
  unfold Accepted
  rw [answer_accepted_mb c (by rw [m, b.mb]; exact hh) (by rw [m, b.mb]; exact hr), m, b.mb, oj.1,
    b.pkt]

/-- A long operation that ends while its reply has room. -/
theorem complete_completed {s : State} {k : Packet} {st : Byte} {pl : List Byte} (hi : s.caughtUp = true)
    (hh : s.mb.held = []) (hr : s.mb.room 1024 = true) (hl : pl.length ≤ 1024) : Completed s k st pl (s.complete k st pl) :=
  complete_mb hi hh hr hl

end Sys2Proof.Laws
end

