-- ==== Sys2Proof/Laws/Memory.lean ====
section
/-!
SUPPORT. The byte stores: every write keeps the canonical form, a byte written reads as written, and every other address reads as
before.
-/
namespace Sys2Proof.Machine

/-! ## The canonical form -/

theorem Mem.wfFrom_mono {m : Mem} {lo lo' : Nat} (h : lo' ≤ lo) (w : Mem.wfFrom lo m = true) : Mem.wfFrom lo' m = true := by
  cases m with
  | nil => rfl
  | cons e m =>
    simp only [Mem.wfFrom, Bool.and_eq_true, decide_eq_true_eq] at w ⊢
    exact ⟨⟨le_trans h w.1.1, w.1.2⟩, w.2⟩

theorem Mem.write_wfFrom {lo : Nat} {m : Mem} {k : Nat} {v : Byte} (hk : lo ≤ k) (w : Mem.wfFrom lo m = true) :
    Mem.wfFrom lo (m.write k v) = true := by
  induction m generalizing lo with
  | nil => unfold Mem.write; split <;> simp_all [Mem.wfFrom]
  | cons e m ih =>
    simp only [Mem.wfFrom, Bool.and_eq_true, decide_eq_true_eq, bne_iff_ne] at w
    unfold Mem.write
    split
    · split <;> simp_all [Mem.wfFrom]
    · split
      · split
        · exact Mem.wfFrom_mono (by omega) w.2
        · simp_all [Mem.wfFrom]
      · have : e.1 + 1 ≤ k := by omega
        simp_all [Mem.wfFrom]

/-- Writing one byte keeps the canonical form. -/
theorem Mem.write_wf {m : Mem} (k : Nat) (v : Byte) (w : m.wf = true) : (m.write k v).wf = true :=
  Mem.write_wfFrom (Nat.zero_le _) w

/-- Writing bytes keeps the canonical form. -/
theorem Mem.writeBytes_wf {m : Mem} (k : Nat) (bs : List Byte) (w : m.wf = true) : (m.writeBytes k bs).wf = true := by
  induction bs generalizing m k with
  | nil => exact w
  | cons b bs ih => exact ih (k + 1) (Mem.write_wf k b w)

/-- Writing a word keeps the canonical form. -/
theorem Mem.setWord_wf {m : Mem} (k : Nat) (v : Word) (w : m.wf = true) : (m.setWord k v).wf = true :=
  Mem.writeBytes_wf _ _ w

/-! ## Reads after writes -/

theorem Mem.read_below {m : Mem} {lo k : Nat} (w : Mem.wfFrom lo m = true) (h : k < lo) : m.read k = 0 := by
  cases m with
  | nil => rfl
  | cons e m =>
    simp only [Mem.wfFrom, Bool.and_eq_true, decide_eq_true_eq] at w
    unfold Mem.read
    rw [if_pos (by omega)]

theorem Mem.read_write_from {lo : Nat} {m : Mem} (k : Nat) (v : Byte) (w : Mem.wfFrom lo m = true) (a : Nat) :
    (m.write k v).read a = if a = k then v else m.read a := by
  induction m generalizing lo with
  | nil =>
    unfold Mem.write
    split
    · simp_all [Mem.read]
    · simp only [Mem.read]
      split
      · rw [if_neg (by omega)]
      · rfl
  | cons e m ih =>
    simp only [Mem.wfFrom, Bool.and_eq_true, decide_eq_true_eq] at w
    unfold Mem.write
    split
    · rename_i h
      split
      · rename_i hv
        by_cases ha : a = k
        · subst ha; simp [Mem.read, h, hv]
        · simp [ha]
      · by_cases ha : a = k
        · subst ha; simp [Mem.read]
        · by_cases hb : a < k
          · have : a < e.1 := by omega
            simp [Mem.read, ha, hb, this]
          · simp [Mem.read, ha, hb]
    · rename_i h
      split
      · rename_i hk
        subst hk
        split
        · rename_i hv
          by_cases ha : a = e.1
          · subst ha
            simp [Mem.read_below w.2 (Nat.lt_succ_self _), hv]
          · by_cases hb : a < e.1
            · simp [Mem.read, ha, hb, Mem.read_below w.2 (show a < e.1 + 1 by omega)]
            · simp [Mem.read, ha, hb]
        · by_cases ha : a = e.1
          · subst ha; simp [Mem.read]
          · by_cases hb : a < e.1 <;> simp [Mem.read, ha, hb]
      · rename_i hk
        by_cases ha : a < e.1
        · have : a ≠ k := by omega
          simp [Mem.read, ha, this]
        · by_cases hb : a = e.1
          · have : a ≠ k := by omega
            simp [Mem.read, hb]
            intro h; omega
          · simp [Mem.read, ha, hb, ih w.2]

/-- A byte written reads as written. -/
theorem Mem.read_write_self {m : Mem} (k : Nat) (v : Byte) (w : m.wf = true) : (m.write k v).read k = v := by
  rw [Mem.read_write_from k v w, if_pos rfl]

/-- Every other address reads as before. -/
theorem Mem.read_write_ne {m : Mem} (k : Nat) (v : Byte) (w : m.wf = true) {a : Nat} (h : a ≠ k) :
    (m.write k v).read a = m.read a := by
  rw [Mem.read_write_from k v w, if_neg h]

/-- Bytes written reach no address below them or past them. -/
theorem Mem.read_writeBytes_out {m : Mem} (k : Nat) (bs : List Byte) (w : m.wf = true) {a : Nat}
    (h : a < k ∨ k + bs.length ≤ a) : (m.writeBytes k bs).read a = m.read a := by
  induction bs generalizing m k with
  | nil => rfl
  | cons b bs ih =>
    simp only [List.length_cons] at h
    show ((m.write k b).writeBytes (k + 1) bs).read a = _
    rw [ih (k + 1) (Mem.write_wf k b w) (by omega), Mem.read_write_ne k b w (by omega)]

end Sys2Proof.Machine
end

