-- ==== Sys2Proof/Laws/PerInstr.lean ====
section
/-!
SUPPORT. What is said of every command as syntax, one lemma for each constructor: the opcode table gives no row any bits, so no
table word spells the command, whatever its operands, and putting a table word in front leaves the queue as it is.
-/
namespace Sys2Proof.Laws.Unspelled

/-- No table word spells the command. -/
def Statement (i : Instr) : Prop := ∀ nbits w, decodeTableWord nbits w ≠ some i

theorem hello (h : CmdHdr) (pl : List Byte) : Statement (.hello h pl) := fun _ _ h => nomatch h
theorem abort (h : CmdHdr) (pl : List Byte) : Statement (.abort h pl) := fun _ _ h => nomatch h
theorem echo (h : CmdHdr) (pl : List Byte) : Statement (.echo h pl) := fun _ _ h => nomatch h
theorem deviceStatus (h : CmdHdr) (pl : List Byte) : Statement (.deviceStatus h pl) := fun _ _ h => nomatch h
theorem portCfg (h : CmdHdr) (pl : List Byte) : Statement (.portCfg h pl) := fun _ _ h => nomatch h
theorem portEnable (h : CmdHdr) (pl : List Byte) : Statement (.portEnable h pl) := fun _ _ h => nomatch h
theorem portDisable (h : CmdHdr) (pl : List Byte) : Statement (.portDisable h pl) := fun _ _ h => nomatch h
theorem portStatus (h : CmdHdr) (pl : List Byte) : Statement (.portStatus h pl) := fun _ _ h => nomatch h
theorem portReset (h : CmdHdr) (pl : List Byte) : Statement (.portReset h pl) := fun _ _ h => nomatch h
theorem portResetComplete (p : PortId) : Statement (.portResetComplete p) := fun _ _ h => nomatch h
theorem pdoSet (h : CmdHdr) (pl : List Byte) : Statement (.pdoSet h pl) := fun _ _ h => nomatch h
theorem sinkPrefSet (h : CmdHdr) (pl : List Byte) : Statement (.sinkPrefSet h pl) := fun _ _ h => nomatch h
theorem vdmSend (h : CmdHdr) (pl : List Byte) : Statement (.vdmSend h pl) := fun _ _ h => nomatch h
theorem vdmSendComplete (p : PortId) : Statement (.vdmSendComplete p) := fun _ _ h => nomatch h
theorem swapReq (h : CmdHdr) (pl : List Byte) : Statement (.swapReq h pl) := fun _ _ h => nomatch h
theorem swapReqComplete (p : PortId) : Statement (.swapReqComplete p) := fun _ _ h => nomatch h
theorem ledgerCfg (h : CmdHdr) (pl : List Byte) : Statement (.ledgerCfg h pl) := fun _ _ h => nomatch h
theorem ledgerClass (h : CmdHdr) (pl : List Byte) : Statement (.ledgerClass h pl) := fun _ _ h => nomatch h
theorem ledgerQuery (h : CmdHdr) (pl : List Byte) : Statement (.ledgerQuery h pl) := fun _ _ h => nomatch h
theorem ledgerRelease (h : CmdHdr) (pl : List Byte) : Statement (.ledgerRelease h pl) := fun _ _ h => nomatch h
theorem bridgeSet (h : CmdHdr) (pl : List Byte) : Statement (.bridgeSet h pl) := fun _ _ h => nomatch h
theorem emberCfg (h : CmdHdr) (pl : List Byte) : Statement (.emberCfg h pl) := fun _ _ h => nomatch h
theorem islandSet (h : CmdHdr) (pl : List Byte) : Statement (.islandSet h pl) := fun _ _ h => nomatch h
theorem ringCfg (h : CmdHdr) (pl : List Byte) : Statement (.ringCfg h pl) := fun _ _ h => nomatch h
theorem ringStatus (h : CmdHdr) (pl : List Byte) : Statement (.ringStatus h pl) := fun _ _ h => nomatch h
theorem ringBypass (h : CmdHdr) (pl : List Byte) : Statement (.ringBypass h pl) := fun _ _ h => nomatch h
theorem tmrCfg (h : CmdHdr) (pl : List Byte) : Statement (.tmrCfg h pl) := fun _ _ h => nomatch h
theorem tmrCmp (h : CmdHdr) (pl : List Byte) : Statement (.tmrCmp h pl) := fun _ _ h => nomatch h
theorem tmrLink (h : CmdHdr) (pl : List Byte) : Statement (.tmrLink h pl) := fun _ _ h => nomatch h
theorem cmpCfg (h : CmdHdr) (pl : List Byte) : Statement (.cmpCfg h pl) := fun _ _ h => nomatch h
theorem pbusCfg (h : CmdHdr) (pl : List Byte) : Statement (.pbusCfg h pl) := fun _ _ h => nomatch h
theorem pbusXfer (h : CmdHdr) (pl : List Byte) : Statement (.pbusXfer h pl) := fun _ _ h => nomatch h
theorem pbusXferComplete (b : BusId) (r : Byte) (wack : Nat) (rd : List Byte) : Statement (.pbusXferComplete b r wack rd) := fun _ _ h => nomatch h
theorem pbusClear (h : CmdHdr) (pl : List Byte) : Statement (.pbusClear h pl) := fun _ _ h => nomatch h
theorem busClearComplete (b : BusId) (ok : Bool) : Statement (.busClearComplete b ok) := fun _ _ h => nomatch h
theorem fuseRead (h : CmdHdr) (pl : List Byte) : Statement (.fuseRead h pl) := fun _ _ h => nomatch h
theorem fuseProg (h : CmdHdr) (pl : List Byte) : Statement (.fuseProg h pl) := fun _ _ h => nomatch h
theorem fuseProgComplete (fail : Word) : Statement (.fuseProgComplete fail) := fun _ _ h => nomatch h
theorem fuseLock (h : CmdHdr) (pl : List Byte) : Statement (.fuseLock h pl) := fun _ _ h => nomatch h
theorem fuseLockComplete (fail : Word) : Statement (.fuseLockComplete fail) := fun _ _ h => nomatch h
theorem fuseSpare (h : CmdHdr) (pl : List Byte) : Statement (.fuseSpare h pl) := fun _ _ h => nomatch h
theorem fuseSpareComplete (fail : Word) : Statement (.fuseSpareComplete fail) := fun _ _ h => nomatch h
theorem sboxRead (h : CmdHdr) (pl : List Byte) : Statement (.sboxRead h pl) := fun _ _ h => nomatch h
theorem sboxMark (h : CmdHdr) (pl : List Byte) : Statement (.sboxMark h pl) := fun _ _ h => nomatch h
theorem vaultCfg (h : CmdHdr) (pl : List Byte) : Statement (.vaultCfg h pl) := fun _ _ h => nomatch h
theorem alarmCfg (h : CmdHdr) (pl : List Byte) : Statement (.alarmCfg h pl) := fun _ _ h => nomatch h
theorem lanternUnlock (h : CmdHdr) (pl : List Byte) : Statement (.lanternUnlock h pl) := fun _ _ h => nomatch h
theorem perfCfg (h : CmdHdr) (pl : List Byte) : Statement (.perfCfg h pl) := fun _ _ h => nomatch h
theorem perfFreeze (h : CmdHdr) (pl : List Byte) : Statement (.perfFreeze h pl) := fun _ _ h => nomatch h
theorem traceCfg (h : CmdHdr) (pl : List Byte) : Statement (.traceCfg h pl) := fun _ _ h => nomatch h
theorem traceRead (h : CmdHdr) (pl : List Byte) : Statement (.traceRead h pl) := fun _ _ h => nomatch h
theorem fwStage (h : CmdHdr) (pl : List Byte) : Statement (.fwStage h pl) := fun _ _ h => nomatch h
theorem fwCommit (h : CmdHdr) (pl : List Byte) : Statement (.fwCommit h pl) := fun _ _ h => nomatch h
theorem fwCommitComplete : Statement (.fwCommitComplete) := fun _ _ h => nomatch h
theorem fwStatus (h : CmdHdr) (pl : List Byte) : Statement (.fwStatus h pl) := fun _ _ h => nomatch h
theorem selftest (h : CmdHdr) (pl : List Byte) : Statement (.selftest h pl) := fun _ _ h => nomatch h
theorem selftestComplete (x : SelfTestEnd) : Statement (.selftestComplete x) := fun _ _ h => nomatch h
theorem safecfg (h : CmdHdr) (pl : List Byte) : Statement (.safecfg h pl) := fun _ _ h => nomatch h
theorem replyPart (tag : BitVec 6) : Statement (.replyPart tag) := fun _ _ h => nomatch h
theorem mailboxWrite (a : HostAddr) (bytes : List Byte) : Statement (.mailboxWrite a bytes) := fun _ _ h => nomatch h
theorem mailboxRead (a : HostAddr) (n : Nat) : Statement (.mailboxRead a n) := fun _ _ h => nomatch h
theorem registerWindowWrite (a : HostAddr) (bytes : List Byte) : Statement (.registerWindowWrite a bytes) := fun _ _ h => nomatch h
theorem pageWrite (a : HostAddr) (page : Byte) : Statement (.pageWrite a page) := fun _ _ h => nomatch h
theorem haddrWrite (a : HostAddr) (r : HaddrReg) (v : Byte) : Statement (.haddrWrite a r v) := fun _ _ h => nomatch h
theorem gaFreeze : Statement (.gaFreeze) := fun _ _ h => nomatch h
theorem gaRelease : Statement (.gaRelease) := fun _ _ h => nomatch h
theorem hdrerrcntRead (a : HostAddr) : Statement (.hdrerrcntRead a) := fun _ _ h => nomatch h
theorem rgcrcRead (a : HostAddr) : Statement (.rgcrcRead a) := fun _ _ h => nomatch h
theorem eccsbecntRead (a : HostAddr) : Statement (.eccsbecntRead a) := fun _ _ h => nomatch h
theorem eccdbecntRead (a : HostAddr) : Statement (.eccdbecntRead a) := fun _ _ h => nomatch h
theorem trlostRead (a : HostAddr) : Statement (.trlostRead a) := fun _ _ h => nomatch h
theorem byteAbandon (x : HostXfer) : Statement (.byteAbandon x) := fun _ _ h => nomatch h
theorem sclhLowTimeout (x : HostXfer) : Statement (.sclhLowTimeout x) := fun _ _ h => nomatch h
theorem coldBoot (e : BootEnv) : Statement (.coldBoot e) := fun _ _ h => nomatch h
theorem resetNLow : Statement (.resetNLow) := fun _ _ h => nomatch h
theorem dozeEntry : Statement (.dozeEntry) := fun _ _ h => nomatch h
theorem sleepEntry : Statement (.sleepEntry) := fun _ _ h => nomatch h
theorem sleepWake (w : WakeSrc) : Statement (.sleepWake w) := fun _ _ h => nomatch h
theorem vioModeSelect (mv : Nat) : Statement (.vioModeSelect mv) := fun _ _ h => nomatch h
theorem vmainExcursion (hi : Bool) : Statement (.vmainExcursion hi) := fun _ _ h => nomatch h
theorem vdrvExcursion (d : Die) (hi : Bool) : Statement (.vdrvExcursion d hi) := fun _ _ h => nomatch h
theorem vdrvReturn (d : Die) : Statement (.vdrvReturn d) := fun _ _ h => nomatch h
theorem vioExcursion (v : SupplyLevel) : Statement (.vioExcursion v) := fun _ _ h => nomatch h
theorem vconninExcursion (hi : Bool) : Statement (.vconninExcursion hi) := fun _ _ h => nomatch h
theorem vhbExcursion (hi : Bool) (mv : Nat) : Statement (.vhbExcursion hi mv) := fun _ _ h => nomatch h
theorem vhbReturn (mv : Nat) : Statement (.vhbReturn mv) := fun _ _ h => nomatch h
theorem ridefail : Statement (.ridefail) := fun _ _ h => nomatch h
theorem reverseRestart : Statement (.reverseRestart) := fun _ _ h => nomatch h
theorem vbatExcursion (hi : Bool) : Statement (.vbatExcursion hi) := fun _ _ h => nomatch h
theorem vppExcursion (v : VppCut) : Statement (.vppExcursion v) := fun _ _ h => nomatch h
theorem vdintExcursion (core : Bool) (hi : Bool) : Statement (.vdintExcursion core hi) := fun _ _ h => nomatch h
theorem lfoCrystalLoss : Statement (.lfoCrystalLoss) := fun _ _ h => nomatch h
theorem hfoLoss : Statement (.hfoLoss) := fun _ _ h => nomatch h
theorem refclkLoss : Statement (.refclkLoss) := fun _ _ h => nomatch h
theorem pllLockLoss : Statement (.pllLockLoss) := fun _ _ h => nomatch h
theorem clockReturn (c : ClockId) : Statement (.clockReturn c) := fun _ _ h => nomatch h
theorem emberStart : Statement .emberStart := fun _ _ h => nomatch h
theorem emberIsolationDwell : Statement (.emberIsolationDwell) := fun _ _ h => nomatch h
theorem emberAbandon (c : EmberCause) : Statement (.emberAbandon c) := fun _ _ h => nomatch h
theorem emberRetry : Statement (.emberRetry) := fun _ _ h => nomatch h
theorem emberVmainValid : Statement (.emberVmainValid) := fun _ _ h => nomatch h
theorem terminationSeen (p : PortId) (cc1 : CcTerm) (cc2 : CcTerm) : Statement (.terminationSeen p cc1 cc2) := fun _ _ h => nomatch h
theorem drpToggle (p : PortId) : Statement (.drpToggle p) := fun _ _ h => nomatch h
theorem sourceAttachDebounce (p : PortId) : Statement (.sourceAttachDebounce p) := fun _ _ h => nomatch h
theorem sinkAttachDebounce (p : PortId) : Statement (.sinkAttachDebounce p) := fun _ _ h => nomatch h
theorem tryDebounceComplete (p : PortId) : Statement (.tryDebounceComplete p) := fun _ _ h => nomatch h
theorem drpTryExpiry (p : PortId) (wait : Bool) : Statement (.drpTryExpiry p wait) := fun _ _ h => nomatch h
theorem tryTimeout (p : PortId) : Statement (.tryTimeout p) := fun _ _ h => nomatch h
theorem errorRecoveryEnd (p : PortId) : Statement (.errorRecoveryEnd p) := fun _ _ h => nomatch h
theorem rpValueChange (p : PortId) (l : RpLvl) : Statement (.rpValueChange p l) := fun _ _ h => nomatch h
theorem detach (p : PortId) (byVbus : Bool) (us : Nat) : Statement (.detach p byVbus us) := fun _ _ h => nomatch h
theorem vconnOvercurrent (p : PortId) : Statement (.vconnOvercurrent p) := fun _ _ h => nomatch h
theorem fastRoleSwapSignal (p : PortId) : Statement (.fastRoleSwapSignal p) := fun _ _ h => nomatch h
theorem goodcrc (p : PortId) (k : Sop) (id : BitVec 3) : Statement (.goodcrc p k id) := fun _ _ h => nomatch h
theorem receiveTimeout (p : PortId) : Statement (.receiveTimeout p) := fun _ _ h => nomatch h
theorem sourceCapabilities (p : PortId) (h : RxHdr) (epr : Bool) (v : List Word) : Statement (.sourceCapabilities p h epr v) := fun _ _ h => nomatch h
theorem request (p : PortId) (h : RxHdr) (epr : Bool) (rdo : Word) : Statement (.request p h epr rdo) := fun _ _ h => nomatch h
theorem accept (p : PortId) (h : RxHdr) : Statement (.accept p h) := fun _ _ h => nomatch h
theorem reject (p : PortId) (h : RxHdr) : Statement (.reject p h) := fun _ _ h => nomatch h
theorem wait (p : PortId) (h : RxHdr) : Statement (.wait p h) := fun _ _ h => nomatch h
theorem psRdy (p : PortId) (h : RxHdr) : Statement (.psRdy p h) := fun _ _ h => nomatch h
theorem getSourceCap (p : PortId) (h : RxHdr) : Statement (.getSourceCap p h) := fun _ _ h => nomatch h
theorem getSinkCap (p : PortId) (h : RxHdr) : Statement (.getSinkCap p h) := fun _ _ h => nomatch h
theorem sinkCapabilities (p : PortId) (h : RxHdr) (epr : Bool) (v : List Word) : Statement (.sinkCapabilities p h epr v) := fun _ _ h => nomatch h
theorem softReset (p : PortId) (h : RxHdr) : Statement (.softReset p h) := fun _ _ h => nomatch h
theorem hardReset (p : PortId) : Statement (.hardReset p) := fun _ _ h => nomatch h
theorem psHardResetExpiry (p : PortId) : Statement (.psHardResetExpiry p) := fun _ _ h => nomatch h
theorem srcRecoverExpiry (p : PortId) : Statement (.srcRecoverExpiry p) := fun _ _ h => nomatch h
theorem vsafe5vReturn (p : PortId) : Statement (.vsafe5vReturn p) := fun _ _ h => nomatch h
theorem hardResetDetachTimeout (p : PortId) : Statement (.hardResetDetachTimeout p) := fun _ _ h => nomatch h
theorem notSupported (p : PortId) (h : RxHdr) : Statement (.notSupported p h) := fun _ _ h => nomatch h
theorem unsupportedMessage (p : PortId) (h : RxHdr) (k : StrayKind) : Statement (.unsupportedMessage p h k) := fun _ _ h => nomatch h
theorem getRevision (p : PortId) (h : RxHdr) : Statement (.getRevision p h) := fun _ _ h => nomatch h
theorem revision (p : PortId) (h : RxHdr) (rmdo : Word) : Statement (.revision p h rmdo) := fun _ _ h => nomatch h
theorem getStatus (p : PortId) (h : RxHdr) : Statement (.getStatus p h) := fun _ _ h => nomatch h
theorem getPpsStatus (p : PortId) (h : RxHdr) : Statement (.getPpsStatus p h) := fun _ _ h => nomatch h
theorem getSourceInfo (p : PortId) (h : RxHdr) : Statement (.getSourceInfo p h) := fun _ _ h => nomatch h
theorem getSourceCapExtended (p : PortId) (h : RxHdr) : Statement (.getSourceCapExtended p h) := fun _ _ h => nomatch h
theorem getSinkCapExtended (p : PortId) (h : RxHdr) : Statement (.getSinkCapExtended p h) := fun _ _ h => nomatch h
theorem getManufacturerInfo (p : PortId) (h : RxHdr) : Statement (.getManufacturerInfo p h) := fun _ _ h => nomatch h
theorem extendedAnswer (p : PortId) (h : RxHdr) (k : ExtKind) (d : List Byte) : Statement (.extendedAnswer p h k d) := fun _ _ h => nomatch h
theorem batteryStatus (p : PortId) (h : RxHdr) (cap : Bool) (d : List Byte) : Statement (.batteryStatus p h cap d) := fun _ _ h => nomatch h
theorem alert (p : PortId) (h : RxHdr) (ado : Word) : Statement (.alert p h ado) := fun _ _ h => nomatch h
theorem bist (p : PortId) (h : RxHdr) (bdo : Word) : Statement (.bist p h bdo) := fun _ _ h => nomatch h
theorem bistContModeExpiry (p : PortId) : Statement (.bistContModeExpiry p) := fun _ _ h => nomatch h
theorem eprMode (p : PortId) (h : RxHdr) (act : Byte) (data : Byte) : Statement (.eprMode p h act data) := fun _ _ h => nomatch h
theorem eprGetSourceCap (p : PortId) (h : RxHdr) (sink : Bool) : Statement (.eprGetSourceCap p h sink) := fun _ _ h => nomatch h
theorem eprKeepalive (p : PortId) (h : RxHdr) : Statement (.eprKeepalive p h) := fun _ _ h => nomatch h
theorem sinkEprKeepalive (p : PortId) : Statement (.sinkEprKeepalive p) := fun _ _ h => nomatch h
theorem sourceEprKeepaliveTimeout (p : PortId) : Statement (.sourceEprKeepaliveTimeout p) := fun _ _ h => nomatch h
theorem enterEprTimeout (p : PortId) : Statement (.enterEprTimeout p) := fun _ _ h => nomatch h
theorem senderResponseTimeout (p : PortId) : Statement (.senderResponseTimeout p) := fun _ _ h => nomatch h
theorem psTransitionTimeout (p : PortId) : Statement (.psTransitionTimeout p) := fun _ _ h => nomatch h
theorem sinkWaitCapTimeout (p : PortId) : Statement (.sinkWaitCapTimeout p) := fun _ _ h => nomatch h
theorem noResponseTimeout (p : PortId) : Statement (.noResponseTimeout p) := fun _ _ h => nomatch h
theorem capsCountExhausted (p : PortId) : Statement (.capsCountExhausted p) := fun _ _ h => nomatch h
theorem typecSendSourceCapExpiry (p : PortId) : Statement (.typecSendSourceCapExpiry p) := fun _ _ h => nomatch h
theorem sinkRequestExpiry (p : PortId) : Statement (.sinkRequestExpiry p) := fun _ _ h => nomatch h
theorem ppsTimeout (p : PortId) : Statement (.ppsTimeout p) := fun _ _ h => nomatch h
theorem ppsRequestExpiry (p : PortId) : Statement (.ppsRequestExpiry p) := fun _ _ h => nomatch h
theorem ppsUndervoltageTimeout (p : PortId) : Statement (.ppsUndervoltageTimeout p) := fun _ _ h => nomatch h
theorem srcTransitionExpiry (p : PortId) : Statement (.srcTransitionExpiry p) := fun _ _ h => nomatch h
theorem sinkTxExpiry (p : PortId) : Statement (.sinkTxExpiry p) := fun _ _ h => nomatch h
theorem amsStart (p : PortId) : Statement (.amsStart p) := fun _ _ h => nomatch h
theorem discoverIdentityTimer (p : PortId) : Statement (.discoverIdentityTimer p) := fun _ _ h => nomatch h
theorem cableIdentityAnswer (p : PortId) (h : RxHdr) (v : List Word) : Statement (.cableIdentityAnswer p h v) := fun _ _ h => nomatch h
theorem prSwap (p : PortId) (h : RxHdr) : Statement (.prSwap p h) := fun _ _ h => nomatch h
theorem swapPsRdyTimeout (p : PortId) : Statement (.swapPsRdyTimeout p) := fun _ _ h => nomatch h
theorem drSwap (p : PortId) (h : RxHdr) : Statement (.drSwap p h) := fun _ _ h => nomatch h
theorem vconnSwap (p : PortId) (h : RxHdr) : Statement (.vconnSwap p h) := fun _ _ h => nomatch h
theorem vconnSourceTimeout (p : PortId) : Statement (.vconnSourceTimeout p) := fun _ _ h => nomatch h
theorem frSwap (p : PortId) (h : RxHdr) : Statement (.frSwap p h) := fun _ _ h => nomatch h
theorem discoverIdentity (p : PortId) (h : RxHdr) (v : List Word) : Statement (.discoverIdentity p h v) := fun _ _ h => nomatch h
theorem discoverSvids (p : PortId) (h : RxHdr) (v : List Word) : Statement (.discoverSvids p h v) := fun _ _ h => nomatch h
theorem discoverModes (p : PortId) (h : RxHdr) (v : List Word) : Statement (.discoverModes p h v) := fun _ _ h => nomatch h
theorem enterMode (p : PortId) (h : RxHdr) (v : List Word) : Statement (.enterMode p h v) := fun _ _ h => nomatch h
theorem exitMode (p : PortId) (h : RxHdr) (v : List Word) : Statement (.exitMode p h v) := fun _ _ h => nomatch h
theorem structuredVdmAnswer (p : PortId) (h : RxHdr) (v : List Word) : Statement (.structuredVdmAnswer p h v) := fun _ _ h => nomatch h
theorem vdmSenderResponseTimeout (p : PortId) : Statement (.vdmSenderResponseTimeout p) := fun _ _ h => nomatch h
theorem lmVersion (p : PortId) (h : RxHdr) (v : List Word) : Statement (.lmVersion p h v) := fun _ _ h => nomatch h
theorem lmVersionTimer (p : PortId) : Statement (.lmVersionTimer p) := fun _ _ h => nomatch h
theorem lmOutcome (p : PortId) (h : RxHdr) (v : List Word) : Statement (.lmOutcome p h v) := fun _ _ h => nomatch h
theorem lmOutcomeNotice (p : PortId) : Statement (.lmOutcomeNotice p) := fun _ _ h => nomatch h
theorem lmQuery (p : PortId) (h : RxHdr) (v : List Word) : Statement (.lmQuery p h v) := fun _ _ h => nomatch h
theorem lmNeed (p : PortId) (h : RxHdr) (v : List Word) : Statement (.lmNeed p h v) := fun _ _ h => nomatch h
theorem lmEnergy (p : PortId) (h : RxHdr) (v : List Word) : Statement (.lmEnergy p h v) := fun _ _ h => nomatch h
theorem lmIdent (p : PortId) (h : RxHdr) (v : List Word) : Statement (.lmIdent p h v) := fun _ _ h => nomatch h
theorem securityRequest (p : PortId) (h : RxHdr) (d : List Byte) : Statement (.securityRequest p h d) := fun _ _ h => nomatch h
theorem softstartComplete (r : RampRun) : Statement (.softstartComplete r) := fun _ _ h => nomatch h
theorem softstartFail (p : PortId) (ma : Int) : Statement (.softstartFail p ma) := fun _ _ h => nomatch h
theorem overcurrent (p : PortId) (x : ProtSample) : Statement (.overcurrent p x) := fun _ _ h => nomatch h
theorem shortCircuit (p : PortId) (x : ProtSample) : Statement (.shortCircuit p x) := fun _ _ h => nomatch h
theorem overvoltage (p : PortId) (x : ProtSample) : Statement (.overvoltage p x) := fun _ _ h => nomatch h
theorem reverseCurrent (p : PortId) (x : ProtSample) : Statement (.reverseCurrent p x) := fun _ _ h => nomatch h
theorem thermalShutdown (p : PortId) (temp : Int) (x : PathReading) : Statement (.thermalShutdown p temp x) := fun _ _ h => nomatch h
theorem protectiveReclose (p : PortId) : Statement (.protectiveReclose p) := fun _ _ h => nomatch h
theorem tripcntReset (p : PortId) : Statement (.tripcntReset p) := fun _ _ h => nomatch h
theorem holdoffEnd (p : PortId) : Statement (.holdoffEnd p) := fun _ _ h => nomatch h
theorem thermalLevelChange (p : PortId) (t : Int) : Statement (.thermalLevelChange p t) := fun _ _ h => nomatch h
theorem monitorDisagreement (p : PortId) : Statement (.monitorDisagreement p) := fun _ _ h => nomatch h
theorem dischargeComplete (p : PortId) (mv : Nat) : Statement (.dischargeComplete p mv) := fun _ _ h => nomatch h
theorem dischargeTimeout (p : PortId) : Statement (.dischargeTimeout p) := fun _ _ h => nomatch h
theorem heldEnable (p : PortId) : Statement (.heldEnable p) := fun _ _ h => nomatch h
theorem cellAudit (p : PortId) (r : AuditRes) : Statement (.cellAudit p r) := fun _ _ h => nomatch h
theorem tripWireFault (p : PortId) : Statement (.tripWireFault p) := fun _ _ h => nomatch h
theorem heartbeatLoss (d : Die) : Statement (.heartbeatLoss d) := fun _ _ h => nomatch h
theorem linkHealthy (d : Die) : Statement (.linkHealthy d) := fun _ _ h => nomatch h
theorem atTarget (a : AtTarget) : Statement (.atTarget a) := fun _ _ h => nomatch h
theorem pklim (p : PortId) : Statement (.pklim p) := fun _ _ h => nomatch h
theorem syncLock (p : PortId) : Statement (.syncLock p) := fun _ _ h => nomatch h
theorem synclost (p : PortId) : Statement (.synclost p) := fun _ _ h => nomatch h
theorem formingDwell (p : PortId) : Statement (.formingDwell p) := fun _ _ h => nomatch h
theorem formfail (p : PortId) : Statement (.formfail p) := fun _ _ h => nomatch h
theorem joinRelease : Statement (.joinRelease) := fun _ _ h => nomatch h
theorem decisionCycle (laneMis : Bool) : Statement (.decisionCycle laneMis) := fun _ _ h => nomatch h
theorem freezeRecoveryTest (pass : Bool) (agree : Bool) : Statement (.freezeRecoveryTest pass agree) := fun _ _ h => nomatch h
theorem ringSlot : Statement (.ringSlot) := fun _ _ h => nomatch h
theorem masterCycleStart : Statement (.masterCycleStart) := fun _ _ h => nomatch h
theorem cycle (f : List Byte) : Statement (.cycle f) := fun _ _ h => nomatch h
theorem node (f : List Byte) : Statement (.node f) := fun _ _ h => nomatch h
theorem join (f : List Byte) : Statement (.join f) := fun _ _ h => nomatch h
theorem leave (f : List Byte) : Statement (.leave f) := fun _ _ h => nomatch h
theorem panelInfo (f : List Byte) : Statement (.panelInfo f) := fun _ _ h => nomatch h
theorem offerTakeback (n : Node) : Statement (.offerTakeback n) := fun _ _ h => nomatch h
theorem loanWithdraw (n : Node) : Statement (.loanWithdraw n) := fun _ _ h => nomatch h
theorem cycleOverrun : Statement (.cycleOverrun) := fun _ _ h => nomatch h
theorem echoRequest (n : Node) (sq : Byte) : Statement (.echoRequest n sq) := fun _ _ h => nomatch h
theorem echoReply (n : Node) (rtt : Nat) : Statement (.echoReply n rtt) := fun _ _ h => nomatch h
theorem linkStatus (n : Node) (sq : Byte) : Statement (.linkStatus n sq) := fun _ _ h => nomatch h
theorem syncAcquired (east : Bool) : Statement (.syncAcquired east) := fun _ _ h => nomatch h
theorem syncLoss (east : Bool) : Statement (.syncLoss east) := fun _ _ h => nomatch h
theorem ringJoin : Statement (.ringJoin) := fun _ _ h => nomatch h
theorem nodelost (n : Node) : Statement (.nodelost n) := fun _ _ h => nomatch h
theorem ringdown (noCycle : Bool) : Statement (.ringdown noCycle) := fun _ _ h => nomatch h
theorem lowerMasterCycle (n : Node) : Statement (.lowerMasterCycle n) := fun _ _ h => nomatch h
theorem reloadTick (k : TmrId) : Statement (.reloadTick k) := fun _ _ h => nomatch h
theorem compareMatch (k : TmrId) (isB : Bool) : Statement (.compareMatch k isB) := fun _ _ h => nomatch h
theorem capture (e : TinEdge) (count : Word) : Statement (.capture e count) := fun _ _ h => nomatch h
theorem linkTrigger (k : TmrId) : Statement (.linkTrigger k) := fun _ _ h => nomatch h
theorem gwcStateChange (g : Fin 16) (w : List Nat) : Statement (.gwcStateChange g w) := fun _ _ h => nomatch h
theorem pbusStuck (b : BusId) : Statement (.pbusStuck b) := fun _ _ h => nomatch h
theorem fuseRereadPass (drift : List FuseDrift) : Statement (.fuseRereadPass drift) := fun _ _ h => nomatch h
theorem killProgrammingComplete : Statement (.killProgrammingComplete) := fun _ _ h => nomatch h
theorem recordWrite (fails : Nat) : Statement (.recordWrite fails) := fun _ _ h => nomatch h
theorem alarmDetection (srcs : BitVec 7) : Statement (.alarmDetection srcs) := fun _ _ h => nomatch h
theorem nonceExpiry : Statement (.nonceExpiry) := fun _ _ h => nomatch h
theorem lockstepMismatch : Statement (.lockstepMismatch) := fun _ _ h => nomatch h
theorem watchdogExpiry : Statement (.watchdogExpiry) := fun _ _ h => nomatch h
theorem interpreterReturn : Statement (.interpreterReturn) := fun _ _ h => nomatch h
theorem pairMismatch (p : PortId) : Statement (.pairMismatch p) := fun _ _ h => nomatch h
theorem doubleBitError (w : EccSite) (addr : Word) : Statement (.doubleBitError w addr) := fun _ _ h => nomatch h
theorem periodicSelfTest (t : Fin 7) (p : PortId) (fail : Bool) : Statement (.periodicSelfTest t p fail) := fun _ _ h => nomatch h
theorem selfTestRepeat (t : Fin 7) (fail : Bool) : Statement (.selfTestRepeat t fail) := fun _ _ h => nomatch h
theorem freezeTrigger : Statement (.freezeTrigger) := fun _ _ h => nomatch h
theorem snapshotComplete (err : Bool) : Statement (.snapshotComplete err) := fun _ _ h => nomatch h
theorem lanternLockedLine (line : List Byte) : Statement (.lanternLockedLine line) := fun _ _ h => nomatch h
theorem lanternVer : Statement (.lanternVer) := fun _ _ h => nomatch h
theorem lanternBaud (rate : Nat) : Statement (.lanternBaud rate) := fun _ _ h => nomatch h
theorem lanternPort (n : Nat) : Statement (.lanternPort n) := fun _ _ h => nomatch h
theorem lanternLedger : Statement (.lanternLedger) := fun _ _ h => nomatch h
theorem lanternRing : Statement (.lanternRing) := fun _ _ h => nomatch h
theorem lanternPerf (b : Nat) : Statement (.lanternPerf b) := fun _ _ h => nomatch h
theorem lanternSbox (sq : Nat) (count : Nat) : Statement (.lanternSbox sq count) := fun _ _ h => nomatch h
theorem lanternFuse (region : Nat) : Statement (.lanternFuse region) := fun _ _ h => nomatch h
theorem lanternTrace (first : Nat) (count : Nat) : Statement (.lanternTrace first count) := fun _ _ h => nomatch h
theorem lanternWatch (on : Bool) : Statement (.lanternWatch on) := fun _ _ h => nomatch h
theorem keygen (fail : Bool) : Statement (.keygen fail) := fun _ _ h => nomatch h
theorem chain (off : Nat) (bytes : List Byte) : Statement (.chain off bytes) := fun _ _ h => nomatch h
theorem chainEnd (len : Nat) : Statement (.chainEnd len) := fun _ _ h => nomatch h
theorem lanternLock : Statement (.lanternLock) := fun _ _ h => nomatch h
theorem supplyBackInRange (su : Supply) : Statement (.supplyBackInRange su) := fun _ _ h => nomatch h
theorem startInputsFall : Statement (.startInputsFall) := fun _ _ h => nomatch h
theorem vbusLevelChange (p : PortId) (mv : Nat) : Statement (.vbusLevelChange p mv) := fun _ _ h => nomatch h
theorem ilimhit (p : PortId) (on : Bool) : Statement (.ilimhit p on) := fun _ _ h => nomatch h
theorem prailRecoveryComplete (p : PortId) : Statement (.prailRecoveryComplete p) := fun _ _ h => nomatch h
theorem swapSourceStartExpiry (p : PortId) : Statement (.swapSourceStartExpiry p) := fun _ _ h => nomatch h
theorem pairOutOfReset (p : PortId) : Statement (.pairOutOfReset p) := fun _ _ h => nomatch h
theorem singleBitError (addr : Word) : Statement (.singleBitError addr) := fun _ _ h => nomatch h
theorem perfCounterWrap (b : Fin 38) (c : Fin 4) : Statement (.perfCounterWrap b c) := fun _ _ h => nomatch h
theorem masterOfRingOfOne : Statement (.masterOfRingOfOne) := fun _ _ h => nomatch h
theorem lanternBadLine (line : List Byte) : Statement (.lanternBadLine line) := fun _ _ h => nomatch h
theorem securityResponse (p : PortId) : Statement (.securityResponse p) := fun _ _ h => nomatch h
theorem chunkRequest (p : PortId) (h : RxHdr) (req : Bool) (num : Nat) (d : List Byte) : Statement (.chunkRequest p h req num d) := fun _ _ h => nomatch h
theorem chunkTimeout (p : PortId) : Statement (.chunkTimeout p) := fun _ _ h => nomatch h
theorem attention (p : PortId) (h : RxHdr) (v : List Word) : Statement (.attention p h v) := fun _ _ h => nomatch h
theorem dboffChange (high : Bool) : Statement (.dboffChange high) := fun _ _ h => nomatch h

end Sys2Proof.Laws.Unspelled
end

