-- ==== Sys2Proof/Laws/Ports.lean ====
section
/-!
SUPPORT. What the shared operations of one port can change: nothing but that port, the counters, what it posts to the Ledger and
whether it is still the Ember donor. Each law takes a state that is already so related to the first.
-/
namespace Sys2Proof.Laws

open Sys2Proof.Machine Sys2Proof.Safety

theorem engine_refl (p : PortId) (s : State) : EngineOnly p s s := ⟨rfl, fun _ _ => rfl⟩

theorem engine_trans {p : PortId} {s t u : State} (h : EngineOnly p s t) (k : EngineOnly p t u) : EngineOnly p s u :=
  ⟨by rw [k.1, h.1], fun q hq => (k.2 q hq).trans (h.2 q hq)⟩

theorem engine_of_portOnly {p : PortId} {s t : State} (h : PortOnly p s t) : EngineOnly p s t := ⟨by rw [h.1], h.2⟩

theorem engine_ite {p : PortId} {s a b : State} {c : Prop} [Decidable c] (ha : EngineOnly p s a) (hb : EngineOnly p s b) :
    EngineOnly p s (if c then a else b) := by split <;> assumption

theorem engine_when {p : PortId} {s a : State} {c : Bool} {f : State → State} (ha : EngineOnly p s a)
    (hf : EngineOnly p s (f a)) : EngineOnly p s (a.when c f) := by unfold State.when; split <;> assumption

theorem engine_modPort {p : PortId} {s a : State} (h : EngineOnly p s a) (f : Port → Port) :
    EngineOnly p s (a.modPort p f) := engine_trans h ⟨rfl, fun _ hq => State.port_modPort_ne _ _ _ _ hq⟩

theorem engine_count {p : PortId} {s a : State} (h : EngineOnly p s a) (b e n : Nat) : EngineOnly p s (a.count b e n) :=
  engine_trans h ⟨by unfold State.count; split <;> rfl, fun q _ => by simp⟩

theorem engine_post {p : PortId} {s a : State} (h : EngineOnly p s a) (q : Post) : EngineOnly p s (a.post q) :=
  engine_trans h ⟨rfl, fun _ _ => rfl⟩

theorem engine_drawn {p : PortId} {s a : State} (h : EngineOnly p s a) : EngineOnly p s a.drawn :=
  engine_trans h ⟨rfl, fun _ _ => rfl⟩

section
variable {p : PortId} {s a : State} (h : EngineOnly p s a)
include h

theorem engine_modTc (f) : EngineOnly p s (a.modTc p f) := engine_modPort h _
theorem engine_modPd (f) : EngineOnly p s (a.modPd p f) := engine_modPort h _
theorem engine_modSwap (f) : EngineOnly p s (a.modSwap p f) := engine_modPort h _
theorem engine_modLm (f) : EngineOnly p s (a.modLm p f) := engine_modPort h _
theorem engine_modSw (f) : EngineOnly p s (a.modSw p f) := engine_modPort h _
theorem engine_modCv (f) : EngineOnly p s (a.modCv p f) := engine_modPort h _
theorem engine_modLg (f) : EngineOnly p s (a.modLg p f) := engine_modPort h _
theorem engine_portEvt (i) : EngineOnly p s (a.portEvt p i) := by unfold State.portEvt; exact engine_modTc h _
theorem engine_pdEvt (i) : EngineOnly p s (a.pdEvt p i) := by unfold State.pdEvt; exact engine_modPd h _
theorem engine_swEvt (i) : EngineOnly p s (a.swEvt p i) := by unfold State.swEvt; exact engine_modSw h _
theorem engine_cvEvt (i) : EngineOnly p s (a.cvEvt p i) := by unfold State.cvEvt; exact engine_modCv h _

theorem engine_postDemand (n k snk u) : EngineOnly p s (a.postDemand p n k snk u) := by unfold State.postDemand; exact engine_count (engine_post h _) _ _ _

theorem engine_setRp : EngineOnly p s (a.setRp p) := by
  unfold State.setRp
  with_reducible apply_rules [engine_ite, engine_modTc]

theorem engine_convRegion : EngineOnly p s (a.convRegion p) := by
  unfold State.convRegion
  with_reducible apply_rules [engine_ite, engine_modCv]

theorem engine_setIlim : EngineOnly p s (a.setIlim p) := by unfold State.setIlim; exact engine_modCv h _

theorem engine_convStart (d c) : EngineOnly p s (a.convStart p d c) := by
  unfold State.convStart State.formRef; dsimp only
  with_reducible apply_rules [engine_ite, engine_modCv, engine_cvEvt, engine_convRegion]

theorem engine_takeFreq : EngineOnly p s (a.takeFreq p) := by unfold State.takeFreq; exact engine_modPort h _
theorem engine_convIdle : EngineOnly p s (a.convIdle p) := by unfold State.convIdle; exact engine_takeFreq (engine_modCv h _)

theorem engine_prebias : EngineOnly p s (a.prebias p) := by
  unfold State.prebias
  dsimp only
  exact engine_ite (engine_modCv (engine_convStart h _ _) _) (engine_convStart h _ _)

theorem engine_vconnOff : EngineOnly p s (a.vconnOff p) := by unfold State.vconnOff; exact engine_modTc h _

theorem engine_openSwitch : EngineOnly p s (a.openSwitch p) := by
  unfold State.openSwitch; dsimp only
  exact engine_modCv (engine_vconnOff (engine_convIdle (engine_ite (engine_modSw h _) h))) _

theorem engine_softStart (b) : EngineOnly p s (a.softStart p b) := by unfold State.softStart; exact engine_modSw h _

theorem engine_tryClose : EngineOnly p s (a.tryClose p) := by
  unfold State.tryClose; dsimp only
  exact engine_ite (engine_modTc (engine_softStart h _) _) (engine_ite (engine_softStart h _) h)

theorem engine_applyVbus : EngineOnly p s (a.applyVbus p) := by
  unfold State.applyVbus; dsimp only
  exact engine_tryClose (engine_ite (engine_prebias h) h)

theorem engine_trigger (m) : EngineOnly p s (a.trigger p m) := by unfold State.trigger; exact engine_modPd h _
theorem engine_sendMsg (m) : EngineOnly p s (a.sendMsg p m) := by unfold State.sendMsg; exact engine_ite (engine_count (engine_modPd h _) _ _ _) (engine_modPd h _)
theorem engine_send (ty o e) : EngineOnly p s (a.send p ty o e) := by unfold State.send; exact engine_sendMsg h _
theorem engine_sendCtl (ty) : EngineOnly p s (a.sendCtl p ty) := by unfold State.sendCtl; exact engine_send h _ _ _
theorem engine_amsEnd : EngineOnly p s (a.amsEnd p) := by unfold State.amsEnd; exact engine_setRp (engine_modPd h _)

theorem engine_swapDone (st r b) : EngineOnly p s (a.swapDone p st r b) := by
  unfold State.swapDone
  with_reducible apply_rules [engine_modSwap, engine_ite, engine_post]

theorem engine_frDisarm : EngineOnly p s (a.frDisarm p) := by
  unfold State.frDisarm
  with_reducible apply_rules [engine_ite, engine_modCv, engine_modSwap, engine_post]

theorem engine_swapAbort (r) : EngineOnly p s (a.swapAbort p r) := by
  unfold State.swapAbort; dsimp only
  have k := engine_when h (c := a.swapWaits p) (f := fun s => s.modSwap p fun w => { w with result := some (0, r) })
    (engine_modSwap h _)
  exact engine_frDisarm (engine_ite k (engine_swapDone k _ _ _))

theorem engine_vdmDone (r b v) : EngineOnly p s (a.vdmDone p r b v) := by unfold State.vdmDone; exact engine_modLm h _
theorem engine_vdmAllEnd (r) : EngineOnly p s (a.vdmAllEnd p r) := by
  unfold State.vdmAllEnd; exact engine_modLm (engine_vdmDone h _ _ _) _
theorem engine_lmEnd : EngineOnly p s (a.lmEnd p) := by unfold State.lmEnd; exact engine_modLm h _
theorem engine_prunDone (k r) : EngineOnly p s (a.prunDone p k r) := by unfold State.prunDone; exact engine_modPort h _

theorem engine_eprExit : EngineOnly p s (a.eprExit p) := by
  unfold State.eprExit
  with_reducible apply_rules [engine_ite, engine_modPd, engine_pdEvt]

theorem engine_applyCfg : EngineOnly p s (a.applyCfg p) := by unfold State.applyCfg; exact engine_modPort h _
theorem engine_takeTables : EngineOnly p s (a.takeTables p) := by unfold State.takeTables; exact engine_modPort h _
theorem engine_enterUnattached (st) : EngineOnly p s (a.enterUnattached p st) := by unfold State.enterUnattached; exact engine_modTc (engine_prunDone (engine_applyCfg h) _ _) _
theorem engine_toUnattached : EngineOnly p s (a.toUnattached p) := by unfold State.toUnattached; exact engine_enterUnattached h _

theorem engine_noDonor (x : Option PortId) : EngineOnly p s { a with ember.donor := x } :=
  engine_trans h ⟨rfl, fun _ _ => rfl⟩

theorem engine_leaveAttach : EngineOnly p s (a.leaveAttach p) := by
  unfold State.leaveAttach; dsimp only
  have k := engine_modSw (engine_openSwitch (engine_modLm (engine_modPd (engine_prunDone (engine_eprExit (engine_lmEnd
    (engine_vdmAllEnd (engine_swapAbort h 0x05) 5))) [0, 1] 5) PdPort.cleared)
    fun l => { l with vdmVer := none, needHeld := false })) fun w => { w with reclose := false, ovBase := 0 }
  exact engine_post (engine_modCv (engine_ite (engine_noDonor k _) k) _) _

theorem engine_finishLeaving : EngineOnly p s (a.finishLeaving p) := by
  unfold State.finishLeaving
  with_reducible apply_rules [engine_ite, engine_toUnattached]

theorem engine_errorRecovery : EngineOnly p s (a.errorRecovery p) := by unfold State.errorRecovery; exact engine_modTc (engine_portEvt (engine_leaveAttach h) _) _

theorem engine_attach (st o r b) : EngineOnly p s (a.attach p st o r b) := by unfold State.attach; exact engine_modTc (engine_modCv (engine_modPd (engine_count (engine_portEvt h _) _ _ _) _) _) _

theorem engine_attachDemand (b) : EngineOnly p s (a.attachDemand p b) := by
  unfold State.attachDemand
  exact engine_ite h (engine_postDemand h _ _ _ _)

theorem engine_attachSource (st o r ra) : EngineOnly p s (a.attachSource p st o r ra) := by unfold State.attachSource; exact engine_applyVbus (engine_attachDemand (engine_modTc (engine_attach h _ _ _ _) _) _)

theorem engine_attachSink (st o r) : EngineOnly p s (a.attachSink p st o r) := by
  unfold State.attachSink; dsimp only
  have k := engine_attachDemand (engine_attach h st o r false) true
  exact engine_tryClose (engine_setIlim (engine_ite k (engine_cvEvt k 8)))

theorem engine_startReverse : EngineOnly p s (a.startReverse p) := by
  unfold State.startReverse; dsimp only
  exact engine_ite (engine_ite h (engine_setIlim (engine_convStart h _ _))) h

theorem engine_hrCommon : EngineOnly p s (a.hrCommon p) := by
  unfold State.hrCommon; dsimp only
  have k := engine_prunDone (engine_eprExit (engine_lmEnd (engine_vdmAllEnd (engine_swapAbort (engine_count (engine_pdEvt h 1)
    p.val 0x07 1) 0x06) 6))) [0] 1
  exact engine_modTc (engine_modSw (engine_modPd k _) _) _

theorem engine_keepGrant (b) : EngineOnly p s (a.keepGrant p b) := by unfold State.keepGrant; exact engine_modLg h _

theorem engine_holdRail : EngineOnly p s (a.holdRail p) := by
  unfold State.holdRail; dsimp only
  exact engine_ite (engine_prebias h) h

theorem engine_hardReset : EngineOnly p s (a.hardReset p) := by
  unfold State.hardReset State.hrSequence; dsimp only
  have k := engine_hrCommon h
  exact engine_ite
    (engine_holdRail (engine_setRp (engine_modPd (engine_ite (engine_keepGrant (engine_modTc (engine_openSwitch k) _) _) k) _)))
    (engine_modPd (engine_ite (engine_keepGrant (engine_modTc (engine_openSwitch k) _) _) (engine_openSwitch k)) _)

theorem engine_afterTrip : EngineOnly p s (a.afterTrip p) := by
  unfold State.afterTrip; dsimp only
  exact engine_ite (engine_errorRecovery (engine_modSw h _)) (engine_ite (engine_hardReset h) (engine_modSw h _))

end

end Sys2Proof.Laws
end

