-- ==== Sys2Proof/Laws/Stores.lean ====
section
/-!
SUPPORT. The canonical stores and the bounded record queue: which operations write a byte store or the queue, and that each keeps
`Kept`; every other operation keeps it because it leaves the fuses, the Strongbox and the staged chain alone.
-/
namespace Sys2Proof.Laws

open Sys2Proof.Machine Sys2Proof.Safety

/-! ## By what a state leaves alone -/

/-- A state with the same fuse array, Strongbox and staged chain. -/
theorem kept_same {s t : State} (h : Kept s) (f : t.fuse = s.fuse) (b : t.sbox = s.sbox)
    (l : t.lantern.stage = s.lantern.stage) : Kept t := by
  constructor
  · rw [f]; exact h.normal
  · rw [f]; exact h.strict
  · rw [f]; exact h.latched
  · rw [f]; exact h.added
  · rw [f]; exact h.failed
  · rw [b]; exact h.mram
  · rw [l]; exact h.stage
  · rw [b]; exact h.queue

theorem kept_engine {p : PortId} {s t : State} (h : Kept s) (e : EngineOnly p s t) : Kept t :=
  kept_same h (by rw [e.1]) (by rw [e.1]) (by rw [e.1])

theorem kept_portOnly {p : PortId} {s t : State} (h : Kept s) (e : PortOnly p s t) : Kept t :=
  kept_engine h (engine_of_portOnly e)

theorem kept_host {s t : State} (h : Kept s) (e : HostOnly s t) : Kept t :=
  kept_same h (by rw [e]) (by rw [e]) (by rw [e])

/-! ## Through the shape of a definition -/

theorem kept_ite {a b : State} {c : Prop} [Decidable c] (ha : Kept a) (hb : Kept b) : Kept (if c then a else b) := by
  split <;> assumption

theorem kept_when {a : State} {c : Bool} {f : State → State} (ha : Kept a) (hf : Kept (f a)) : Kept (a.when c f) := by
  unfold State.when; split <;> assumption

theorem kept_foldl {α : Type} {f : State → α → State} (hf : ∀ s x, Kept s → Kept (f s x)) :
    ∀ (l : List α) (s : State), Kept s → Kept (l.foldl f s)
  | [], _, h => h
  | x :: l, s, h => kept_foldl hf l (f s x) (hf s x h)

theorem kept_eachPort {s : State} {f : State → PortId → State} (h : Kept s) (hf : ∀ t p, Kept t → Kept (f t p)) :
    Kept (s.eachPort f) := kept_foldl hf _ _ h

/-! ## The shared operations -/

theorem kept_modPort {s : State} (h : Kept s) (p : PortId) (f : Port → Port) : Kept (s.modPort p f) := kept_same h rfl rfl rfl
theorem kept_count {s : State} (h : Kept s) (b e n : Nat) : Kept (s.count b e n) := kept_host h (host_count s b e n)
theorem kept_post {s : State} (h : Kept s) (q : Post) : Kept (s.post q) := kept_same h rfl rfl rfl
theorem kept_drawn {s : State} (h : Kept s) : Kept s.drawn := kept_same h rfl rfl rfl
theorem kept_safeEvt {s : State} (h : Kept s) (i : Nat) : Kept (s.safeEvt i) := kept_same h rfl rfl rfl
theorem kept_lgEvt {s : State} (h : Kept s) (i : Nat) : Kept (s.lgEvt i) := kept_same h rfl rfl rfl
theorem kept_rgEvt {s : State} (h : Kept s) (i : Nat) : Kept (s.rgEvt i) := kept_same h rfl rfl rfl
theorem kept_almEvt {s : State} (h : Kept s) (i : Nat) : Kept (s.almEvt i) := kept_same h rfl rfl rfl
theorem kept_fuseEvt {s : State} (h : Kept s) (i : Nat) : Kept (s.fuseEvt i) :=
  ⟨h.normal, h.strict, h.latched, h.added, h.failed, h.mram, h.stage, h.queue⟩
theorem kept_sbEvt {s : State} (h : Kept s) (i : Nat) : Kept (s.sbEvt i) :=
  ⟨h.normal, h.strict, h.latched, h.added, h.failed, h.mram, h.stage, h.queue⟩
theorem kept_leaveDoze {s : State} (h : Kept s) : Kept s.leaveDoze := by
  unfold State.leaveDoze; exact kept_ite (kept_same h rfl rfl rfl) h
theorem kept_wakeUp {s : State} (h : Kept s) : Kept s.wakeUp := by
  unfold State.wakeUp; exact kept_ite (kept_same h rfl rfl rfl) h
theorem kept_saveEntry {s : State} (h : Kept s) (op : Byte) (sel : Nat) (pl : List Byte) : Kept (s.saveEntry op sel pl) :=
  kept_same h rfl rfl rfl
theorem kept_say {s : State} (h : Kept s) (l : List String) (m : Lantern) (e : m.stage = s.lantern.stage) :
    Kept { s with lantern := m.send l } := kept_same h rfl rfl e

/-- A posted record finds a place or is counted as lost (R29, R30). -/
theorem kept_postRec {s : State} (h : Kept s) (ty : Byte) (b : List Byte) : Kept (s.postRec ty b) := by
  unfold State.postRec
  split
  · rename_i l
    refine kept_leaveDoze ⟨h.normal, h.strict, h.latched, h.added, h.failed, h.mram, h.stage, ?_⟩
    simp only [List.length_append, List.length_cons, List.length_nil]; omega
  · exact ⟨h.normal, h.strict, h.latched, h.added, h.failed, h.mram, h.stage, h.queue⟩

theorem kept_postSafety {s : State} (h : Kept s) (c n m : Nat) : Kept (s.postSafety c n m) := kept_postRec h _ _
theorem kept_postSupply {s : State} (h : Kept s) (i : Nat) (hi : Bool) : Kept (s.postSupply i hi) :=
  kept_postRec (kept_safeEvt h i) _ _

/-- What an accepted, answered or completed command does on the host's side. -/
theorem kept_answer {s : State} (h : Kept s) (k : Packet) (r : CmdRes) : Kept (s.answer k r) := kept_host h (host_answer s k r)
theorem kept_complete {s : State} (h : Kept s) (k : Packet) (st : Byte) (pl : List Byte) : Kept (s.complete k st pl) :=
  kept_host h (host_complete s k st pl)
theorem kept_emit {s : State} (h : Kept s) (r : Reply) : Kept (s.emit r) := kept_host h (host_emit s r)

/-! ## The fuse array -/

theorem wf_nil : Mem.wf [] = true := rfl

/-- Programming keeps the four stores it writes canonical. -/
theorem kept_program {s : State} (h : Kept s) (w : Nat) (b f k : Word) : Kept { s with fuse := s.fuse.program w b f k } :=
  ⟨Mem.setWord_wf _ _ h.normal, Mem.setWord_wf _ _ h.strict, h.latched, Mem.setWord_wf _ _ h.added,
    Mem.setWord_wf _ _ h.failed, h.mram, h.stage, h.queue⟩

theorem kept_progWord {s : State} (h : Kept s) (w : Nat) (b f : Word) : Kept (s.progWord w b f) := by
  unfold State.progWord
  exact kept_drawn (kept_program (kept_drawn (kept_count h _ _ _)) _ _ _ _)

theorem image_wf (f : Fuse) (m : List (Nat × Nat)) : ∀ (l : List Nat) (acc : Mem × List Nat), acc.1.wf = true →
    (l.foldl (fun (acc : Mem × List Nat) w =>
      let a := f.normal.word (physOf m w)
      let b := f.strict.word (physOf m w)
      if a = b then (acc.1.setWord w a, acc.2) else (acc.1.setWord w (takeMarginal w a b), acc.2 ++ [w])) acc).1.wf = true
  | [], _, h => h
  | w :: l, acc, h => by
    refine image_wf f m l _ ?_
    dsimp only
    split <;> exact Mem.setWord_wf _ _ h

theorem setWords_wf (v : Nat → Word) : ∀ (l : List Nat) (m : Mem), m.wf = true →
    (l.foldl (fun (i : Mem) w => i.setWord w (v w)) m).wf = true
  | [], _, h => h
  | w :: l, m, h => setWords_wf v l (m.setWord w (v w)) (Mem.setWord_wf _ _ h)

/-- The boot read leaves a canonical latched image. -/
theorem kept_boot {s : State} (h : Kept s) : Kept { s with fuse := s.fuse.boot } :=
  ⟨h.normal, h.strict, setWords_wf _ _ _ (image_wf _ _ _ _ wf_nil), wf_nil, wf_nil, h.mram, h.stage, h.queue⟩

theorem kept_progThrough : ∀ (l : List (Nat × Word)) (a : State × Bool), Kept a.1 →
    Kept (l.foldl (fun (acc : State × Bool) x =>
      let fl := BitVec.ofNat 32 acc.1.freeNat
      (acc.1.drawn.progWord x.1 x.2 fl, acc.2 || acc.1.fuse.failMask x.1 x.2 fl != 0)) a).1
  | [], _, h => h
  | _ :: l, _, h => kept_progThrough l _ (kept_progWord (kept_drawn h) _ _ _)

theorem kept_progList (fail : Word) : ∀ (l : List (Nat × Word)) (s : State), Kept s → Kept (State.progList fail l s).1
  | [], _, h => h
  | (w, b) :: l, s, h => by
    unfold State.progList; dsimp only
    split
    · exact kept_progList fail l _ (kept_progWord h _ _ _)
    · exact kept_progWord h _ _ _

theorem kept_weakBit {s : State} (h : Kept s) (w : Nat) (b : Word) (j : Nat) : Kept (s.weakBit w b j) :=
  ⟨Mem.setWord_wf _ _ h.normal, Mem.setWord_wf _ _ h.strict, h.latched, h.added, h.failed, h.mram, h.stage, h.queue⟩

theorem kept_noRun {s : State} (h : Kept s) (r : Option FuseRun) : Kept { s with fuse := { s.fuse with run := r } } :=
  ⟨h.normal, h.strict, h.latched, h.added, h.failed, h.mram, h.stage, h.queue⟩

/-- A fuse command that an interpreter reset or KILL stops leaves canonical reads (R527). -/
theorem kept_fuseStop {s : State} (h : Kept s) : Kept s.fuseStop := by
  unfold State.fuseStop
  split
  · exact h
  · dsimp only
    have k := fun f l => kept_progList f l _ (kept_noRun (kept_drawn (kept_drawn h)) none)
    split <;> rename_i e
    · have q := congrArg Prod.fst e
      dsimp only at q; rw [← q]; exact k _ _
    · have q := congrArg Prod.fst e
      refine kept_fuseEvt ?_ 1
      dsimp only at q; rw [← q]; exact k _ _

/-- A power loss during programming leaves canonical reads (R565). -/
theorem kept_fuseCut {s : State} (h : Kept s) : Kept s.fuseCut := by
  unfold State.fuseCut
  dsimp only
  split
  · split
    · have k := kept_progThrough (cutAt s.freeNat s.killWork).1 (s.drawn, false) (kept_drawn h)
      split
      · exact kept_weakBit (kept_progThrough _ (_, false) k) _ _ _
      · exact k
    · exact h
  · have k := fun f l => kept_progList f l _ (kept_noRun (kept_drawn (kept_drawn h)) none)
    split <;> rename_i e _
    · have q := congrArg Prod.fst e
      refine kept_weakBit (kept_progWord ?_ _ _ _) _ _ _
      dsimp only at q; rw [← q]; exact k _ _
    · have q := congrArg Prod.fst e
      dsimp only at q; rw [← q]; exact k _ _

/-! ## The Strongbox -/

theorem take_mram (b : Sbox) (pin : Bool) : (b.take pin).2.mram = b.mram ∧ (b.take pin).2.queue = b.queue := by
  unfold Sbox.take; split <;> exact ⟨rfl, rfl⟩

theorem skip_kept (pin : Bool) (bytes : List Byte) : ∀ (n : Nat) (b : Sbox), b.mram.wf = true →
    (Sbox.skip pin bytes n b).mram.wf = true ∧ (Sbox.skip pin bytes n b).queue = b.queue
  | 0, _, h => ⟨h, rfl⟩
  | n + 1, b, h => by
    unfold Sbox.skip
    have r := skip_kept pin bytes n { (b.take pin).2 with
      mram := ((b.take pin).2.mram.writeBytes (64 * (b.take pin).1) bytes).writeBytes (64 * (b.take pin).1 + 60) (leBytes 4 0),
      evt := setBit (b.take pin).2.evt 2 }
      (Mem.writeBytes_wf _ _ (Mem.writeBytes_wf _ _ (by rw [(take_mram b pin).1]; exact h)))
    exact ⟨r.1, r.2.trans (take_mram b pin).2⟩

/-- A record written keeps the MRAM canonical and the queue as it is. -/
theorem write_kept (b : Sbox) (r : Rec) (n : Nat) (h : b.mram.wf = true) :
    (b.write r n).mram.wf = true ∧ (b.write r n).queue = b.queue := by
  have s := skip_kept (pinnedType r.ty) (recBytes b.nextSeq r) (n / 2) b h
  have t := take_mram (Sbox.skip (pinnedType r.ty) (recBytes b.nextSeq r) (n / 2) b) (pinnedType r.ty)
  unfold Sbox.write
  dsimp only
  generalize Sbox.skip (pinnedType r.ty) (recBytes b.nextSeq r) (n / 2) b = c at s t ⊢
  generalize c.take (pinnedType r.ty) = d at t ⊢
  exact ⟨Mem.writeBytes_wf _ _ (by rw [t.1]; exact s.1), t.2.trans s.2⟩

/-- A record write cut short leaves the MRAM canonical and the queue as it is (Table 17.10). -/
theorem kept_recordCut {s : State} (h : Kept s) (power : Bool) : Kept (s.recordCut power) := by
  have put : ∀ (i : Nat) (l c : List Byte), ((s.sbox.mram.writeBytes (64 * i + 60) c).writeBytes (64 * i) l).wf = true :=
    fun i l c => Mem.writeBytes_wf _ _ (Mem.writeBytes_wf _ _ h.mram)
  have keep : ∀ m : Mem, m.wf = true → Kept { s.drawn with sbox := { s.sbox with mram := m } } := fun m w =>
    ⟨h.normal, h.strict, h.latched, h.added, h.failed, w, h.stage, h.queue⟩
  unfold State.recordCut
  split
  · rename_i r d _ _
    have q := (take_mram s.sbox (pinnedType r.ty)).2
    dsimp only
    generalize s.sbox.take (pinnedType r.ty) = c at q ⊢
    repeat' apply kept_ite
    · exact kept_drawn h
    · exact keep _ (put _ _ _)
    · exact ⟨h.normal, h.strict, h.latched, h.added, h.failed, put _ _ _, h.stage, by
        show c.2.queue.length ≤ 32; rw [q]; exact h.queue⟩
    · exact keep _ (put _ _ _)
    · exact kept_drawn h
  · exact h

end Sys2Proof.Laws
end

