-- ==== Sys2Proof/Tests/Slice0.lean ====
section
/-!
SUPPORT. Tests: terms that WellFormed refuses, the spec's own examples, and for every statement a state and operands that meet
its hypotheses.
-/
namespace Sys2Proof.Tests

set_option Elab.async false

open Sys2Proof.Machine Sys2Proof.Safety

/-! ## States the tests start from -/

/-- The device in RUN with its latched fuses as at reset, and every block's boot past. -/
def running (s : State) : State :=
  { s with
    sys := { s.sys with pwr := .run, boot := 12, resetLow := false }
    clk := ⟨false, false, false, false⟩
    fuse := { s.fuse with latched := State.reset.fuse.latched, sealedF := false, sealedC := false, sealedI := false } }

/-- Both power dies have their drivers' supply and a healthy link. -/
def gates (s : State) : State := { s with sup.vdrvA := .ok, sup.vdrvB := .ok, sys.linkA := false, sys.linkB := false }

/-- Room in the record queue, and every protection on. -/
def quiet (s : State) : State := { s with sbox.queue := [], safety.cfg := State.reset.safety.cfg }

def ledgerUp (s : State) : State := { s with ledger.ready := true }

/-- A READY port. -/
def portUp (s : State) (p : PortId) : State := s.modTc p fun t => { t with ready := true, leaving := false }

/-- A READY port in a Type-C state, with no swap. -/
def inTc (s : State) (p : PortId) (st : TcState) : State :=
  ((portUp s p).modTc p fun t => { t with state := st }).modSwap p fun _ => SwapPort.reset

/-- A port that runs PD with nothing in progress. -/
def idlePd (s : State) (p : PortId) : State :=
  s.modPd p fun d => { d with
    tx := none, txQ := [], ams := .none, trig := [], sinkTxWait := false, ng := false, rxId := none, contract := .explicit, epr := false,
    txRev := 2, hr := .none, asked := none, chunk := none, bist := 0, srAccept := false, nxt := none, waitRx := false, startDue := false }

def source (s : State) (p : PortId) : State := idlePd (inTc s p .attachedSrc) p

def sink (s : State) (p : PortId) : State := idlePd (inTc s p .attachedSnk) p

/-- Converter parameters for a port. -/
def params (s : State) (p : PortId) : State := s.modPort p fun x => { x with cfg := BitVec.allOnes 80 }

/-! ## Witnesses -/

/-- States and operands that meet the hypotheses of each clause of TerminationsTogglesAndTries. -/
theorem witness_TerminationsTogglesAndTries :
  (∃ (s : State) (p : PortId),
    s.portReady p = true ∧ 6 ≤ s.sys.boot ∧ s.sys.pwr = .run ∧ (s.port p).tc.state = .unattachedSrc) ∧
  (∃ (s : State) (p : PortId),
    s.portReady p = true ∧ 6 ≤ s.sys.boot ∧ s.sys.pwr = .run ∧ (s.port p).tc.state = .unattachedSnk) ∧
  (∃ (s : State) (p : PortId),
    s.portReady p = true ∧ cfgRole (s.port p).cfg = 2 ∧ (s.port p).cfgPend = none ∧ (s.port p).tc.state = .unattachedSrc) ∧
  (∃ (s : State) (p : PortId),
    s.portReady p = true ∧ cfgRole (s.port p).cfg = 2 ∧ (s.port p).cfgPend = none ∧ (s.port p).tc.state = .unattachedSnk) ∧
  (∃ (s : State) (p : PortId),
    s.portReady p = true ∧ cfgRole (s.port p).cfg = 2 ∧ (s.port p).cfgPend = none ∧ (s.port p).tc.state = .trySrc) ∧
  (∃ (s : State) (p : PortId),
    s.portReady p = true ∧ cfgRole (s.port p).cfg = 2 ∧ (s.port p).cfgPend = none ∧ (s.port p).tc.state = .trySnk) ∧
  (∃ (s : State) (p : PortId),
    s.portReady p = true ∧ cfgRole (s.port p).cfg = 2 ∧ (s.port p).cfgPend = none ∧ (s.port p).tc.state = .tryWaitSrc) :=
  ⟨⟨(let p : PortId := 3; let s : State := State.reset; inTc (running s) p .unattachedSrc), 3, by decide +kernel⟩,
   ⟨(let p : PortId := 31; let s : State := State.reset; inTc (running s) p .unattachedSnk), 31, by decide +kernel⟩,
   ⟨(let p : PortId := 0; let s : State := State.reset; (inTc (running s) p .unattachedSrc).modPort p fun x => { x with cfg := 2, cfgPend := none }), 0, by decide +kernel⟩,
   ⟨(let p : PortId := 31; let s : State := State.reset; (inTc (running s) p .unattachedSnk).modPort p fun x => { x with cfg := 2, cfgPend := none }), 31, by decide +kernel⟩,
   ⟨(let p : PortId := 0; let s : State := State.reset; (inTc (running s) p .trySrc).modPort p fun x => { x with cfg := 2, cfgPend := none }), 0, by decide +kernel⟩,
   ⟨(let p : PortId := 0; let s : State := State.reset; (inTc (running s) p .trySnk).modPort p fun x => { x with cfg := 2, cfgPend := none }), 0, by decide +kernel⟩,
   ⟨(let p : PortId := 0; let s : State := State.reset; (inTc (running s) p .tryWaitSrc).modPort p fun x => { x with cfg := 2, cfgPend := none }), 0, by decide +kernel⟩⟩

/-- States and operands that meet the hypotheses of each clause of DebouncedTerminationsAttach. -/
theorem witness_DebouncedTerminationsAttach :
  (∃ (s : State) (p : PortId),
    s.portReady p = true ∧ s.ledger.ready = true ∧ cfgTry (s.port p).cfg = 0 ∧ s.sys.pwr = .run ∧ (s.port p).tc.state =
    .attachWaitSrc ∧ (s.port p).tc.cc1 = .opn ∧ (s.port p).tc.cc2 = .rd) ∧
  (∃ (s : State) (p : PortId),
    s.portReady p = true ∧ s.ledger.ready = true ∧ cfgTry (s.port p).cfg = 0 ∧ s.sys.pwr = .run ∧ (s.port p).tc.state =
    .attachWaitSnk ∧ (s.port p).tc.cc1 = .rp15 ∧ (s.port p).tc.cc2 = .opn ∧ (s.port p).tc.vbusPres = true ∧ (s.port
    p).tc.dbAttach = false) ∧
  (∃ (s : State) (p : PortId),
    s.portReady p = true ∧ s.ledger.ready = true ∧ cfgTry (s.port p).cfg = 0 ∧ s.sys.pwr = .run ∧ (s.port p).tc.state =
    .trySrc ∧ (s.port p).tc.cc1 = .rd ∧ (s.port p).tc.cc2 = .opn) :=
  ⟨⟨(let p : PortId := 0; let s : State := State.reset; ledgerUp (((inTc (running s) p .attachWaitSrc).modPort p fun x => { x with cfg := 0 }).modTc p fun t => { t with cc1 := .opn, cc2 := .rd, vbusMv := 5000, dbAttach := false })), 0, by decide +kernel⟩,
   ⟨(let p : PortId := 31; let s : State := State.reset; ledgerUp (((inTc (running s) p .attachWaitSnk).modPort p fun x => { x with cfg := 0 }).modTc p fun t => { t with cc1 := .rp15, cc2 := .opn, vbusMv := 5000, dbAttach := false })), 31, by decide +kernel⟩,
   ⟨(let p : PortId := 7; let s : State := State.reset; ledgerUp (((inTc (running s) p .trySrc).modPort p fun x => { x with cfg := 0 }).modTc p fun t => { t with cc1 := .rd, cc2 := .opn, vbusMv := 5000, dbAttach := false })), 7, by decide +kernel⟩⟩

/-- States and operands that meet the hypotheses of each clause of AttachesEndAndRecover. -/
theorem witness_AttachesEndAndRecover :
  (∃ (s : State) (p : PortId),
    s.portReady p = true ∧ s.sys.pwr = .run ∧ (s.port p).tc.state = .errorRecovery ∧ (s.port p).tc.erBack = false ∧ (s.port
    p).sw.tripWire = false ∧ (s.port p).sw.monDis = false ∧ (s.port p).sw.holdNext = false) ∧
  (∃ (s : State) (p : PortId),
    s.portReady p = true ∧ s.sys.pwr = .run ∧ (s.port p).tc.state = .errorRecovery ∧ (s.port p).tc.erBack = true ∧ (s.port
    p).sw.tripWire = false ∧ (s.port p).sw.monDis = false) ∧
  (∃ (s : State) (p : PortId),
    s.portReady p = true ∧ s.sys.pwr = .run ∧ (s.port p).tc.state = .attachedSnk ∧ (s.port p).tc.rpSeen = .dflt ∧ (s.port
    p).pd.contract = .none) ∧
  (∃ (s : State) (p : PortId),
    s.portReady p = true ∧ s.sys.pwr = .run ∧ (s.port p).tc.state = .attachedSnk ∧ (s.port p).tc.leaving = false ∧ (s.port
    p).swap = SwapPort.reset ∧ (s.port p).pd.contract ≠ .transition ∧ (s.port p).tc.vbusMv = 5000) ∧
  (∃ (s : State) (p : PortId),
    s.portReady p = true ∧ s.sys.pwr = .run ∧ (s.port p).tc.vconnOn = true ∧ (s.port p).pd.epr = false) ∧
  (∃ (s : State) (p : PortId),
    s.portReady p = true ∧ s.sys.pwr = .run) ∧
  (∃ (s : State) (p : PortId),
    s.portReady p = true ∧ s.sys.pwr = .run) :=
  ⟨⟨(let p : PortId := 9; let s : State := State.reset; ((inTc (running s) p .errorRecovery).modTc p fun x => { x with erBack := false }).modSw p fun w => { w with tripWire := false, monDis := false, holdNext := false }), 9, by decide +kernel⟩,
   ⟨(let p : PortId := 9; let s : State := State.reset; ((inTc (running s) p .errorRecovery).modTc p fun x => { x with erBack := true }).modSw p fun w => { w with tripWire := false, monDis := false }), 9, by decide +kernel⟩,
   ⟨(let p : PortId := 0; let s : State := State.reset; (sink (running s) p).modPd p (fun d => { d with contract := .none }) |>.modTc p fun t => { t with rpSeen := .dflt }), 0, by decide +kernel⟩,
   ⟨(let p : PortId := 0; let s : State := State.reset; (sink (running s) p).modTc p fun t => { t with vbusMv := 5000 }), 0, by decide +kernel⟩,
   ⟨(let p : PortId := 7; let s : State := State.reset; ((source (running s) p).modTc p fun t => { t with vconnOn := true }).modPd p fun d => { d with epr := false }), 7, by decide +kernel⟩,
   ⟨(let p : PortId := 0; let s : State := State.reset; portUp (running s) p), 0, by decide +kernel⟩,
   ⟨(let p : PortId := 0; let s : State := State.reset; portUp (running s) p), 0, by decide +kernel⟩⟩

/-- States and operands that meet the hypotheses of each clause of ProtectionsOpenTheSwitch. -/
theorem witness_ProtectionsOpenTheSwitch :
  (∃ (s : State) (p : PortId) (x : ProtSample),
    (s.port p).sw.tripCnt = 0 ∧ (s.port p).pd.contract = .none ∧ s.gateOk p = true ∧ s.sbox.queue.length < 32 ∧ (s.port
    p).sw.st = .closed ∧ (s.ocLevel p : Int) < (if (s.port p).sw.sinkDir then -x.ma else x.ma) ∧ x.ma.natAbs ≤ (if isE p
    then 15000 else 9000) ∧ x.mv ≤ 6000) ∧
  (∃ (s : State) (p : PortId) (x : ProtSample),
    (s.port p).sw.tripCnt = 0 ∧ (s.port p).pd.contract = .none ∧ s.gateOk p = true ∧ s.sbox.queue.length < 32 ∧ (s.port
    p).sw.st = .closed ∧ (if isE p then 15000 else 9000) < x.ma.natAbs ∧ x.mv ≤ 6000) ∧
  (∃ (s : State) (p : PortId) (x : ProtSample),
    (s.port p).sw.tripCnt = 0 ∧ (s.port p).pd.contract = .none ∧ s.gateOk p = true ∧ s.sbox.queue.length < 32 ∧ (s.port
    p).sw.st = .closed ∧ 6000 < x.mv ∧ x.ma = 0) ∧
  (∃ (s : State) (p : PortId) (x : ProtSample),
    (s.port p).sw.tripCnt = 0 ∧ (s.port p).pd.contract = .none ∧ s.gateOk p = true ∧ s.sbox.queue.length < 32 ∧ (s.port
    p).sw.st = .closed ∧ (s.port p).sw.blank = false ∧ (if isE p then 500 else 300) < -(if (s.port p).sw.sinkDir then -x.ma
    else x.ma) ∧ x.ma.natAbs ≤ (if isE p then 15000 else 9000) ∧ x.mv ≤ 6000) ∧
  (∃ (s : State) (p : PortId),
    (s.port p).sw.tripCnt = 0 ∧ (s.port p).pd.contract = .none ∧ s.gateOk p = true ∧ s.sbox.queue.length < 32 ∧ (s.port
    p).sw.st = .softstart) ∧
  (∃ (s : State) (p : PortId) (temp : Int) (mv : Nat),
    (s.port p).sw.tripCnt = 0 ∧ (s.port p).pd.contract = .none ∧ s.gateOk p = true ∧ s.sbox.queue.length < 32 ∧ 135 ≤ temp ∧
    s.dieMeasures (dieOf p) = true ∧ mv ≤ 6000 ∧ (s.port p).sw.st = .closed ∧ (s.port p).sw.therm = 0) ∧
  (∃ (s : State) (p : PortId) (x : ProtSample),
    (s.port p).sw.tripCnt = 0 ∧ (s.port p).pd.contract = .none ∧ s.gateOk p = true ∧ s.sbox.queue.length < 32 ∧ (s.port
    p).sw.st = .closed ∧ (if isE p then 15000 else 9000) < x.ma.natAbs ∧ 6000 < x.mv) ∧
  (∃ (s : State) (p : PortId) (x : ProtSample),
    (s.port p).sw.st = .closed ∧ s.gateOk p = true ∧ s.sbox.queue.length < 32 ∧ (s.port p).tc.state = .attachedSrc ∧
    s.beyond p x 2 = true ∧ (s.port p).sw.tripCnt = 0 ∧ (s.port p).pd.contract = .explicit ∧ (s.port p).pd.epr = false ∧
    (s.port p).tc.attachSrc = true) ∧
  (∃ (s : State) (p : PortId) (x : ProtSample),
    (s.port p).sw.st = .closed ∧ s.gateOk p = true ∧ s.sbox.queue.length < 32 ∧ (s.port p).tc.state = .attachedSrc ∧
    s.beyond p x 2 = true ∧ (s.port p).sw.tripCnt = 2) :=
  ⟨⟨(let p : PortId := 0; let s : State := State.reset; (((((quiet (gates (running s)))).modPd p fun d => { d with contract := .none }).modSw p fun w => { w with st := .closed, tripCnt := 0, therm := 0, sinkDir := false, blank := false, reclose := false }).modSwap p fun _ => SwapPort.reset).modTc p fun t => { t with state := .attachedSrc, rpAdv := .a15 }), 0, ⟨5600, 5000, 25⟩, by decide +kernel⟩,
   ⟨(let p : PortId := 0; let s : State := State.reset; (((((quiet (gates (running s)))).modPd p fun d => { d with contract := .none }).modSw p fun w => { w with st := .closed, tripCnt := 0, therm := 0, sinkDir := false, blank := false, reclose := false }).modSwap p fun _ => SwapPort.reset).modTc p fun t => { t with state := .attachedSrc, rpAdv := .a15 }), 0, ⟨15001, 5000, 25⟩, by decide +kernel⟩,
   ⟨(let p : PortId := 0; let s : State := State.reset; (((((quiet (gates (running s)))).modPd p fun d => { d with contract := .none }).modSw p fun w => { w with st := .closed, tripCnt := 0, therm := 0, sinkDir := false, blank := false, reclose := false }).modSwap p fun _ => SwapPort.reset).modTc p fun t => { t with state := .attachedSrc, rpAdv := .a15 }), 0, ⟨0, 6001, 25⟩, by decide +kernel⟩,
   ⟨(let p : PortId := 0; let s : State := State.reset; (((((quiet (gates (running s)))).modPd p fun d => { d with contract := .none }).modSw p fun w => { w with st := .closed, tripCnt := 0, therm := 0, sinkDir := false, blank := false, reclose := false }).modSwap p fun _ => SwapPort.reset).modTc p fun t => { t with state := .attachedSrc, rpAdv := .a15 }), 0, ⟨-600, 5000, 25⟩, by decide +kernel⟩,
   ⟨(let p : PortId := 31; let s : State := State.reset; (((((quiet (gates (running s)))).modPd p fun d => { d with contract := .none }).modSw p fun w => { w with st := .softstart, tripCnt := 0, therm := 0, sinkDir := false, blank := false, reclose := false }).modSwap p fun _ => SwapPort.reset).modTc p fun t => { t with state := .attachedSrc, rpAdv := .a15 }), 31, by decide +kernel⟩,
   ⟨(let p : PortId := 0; let s : State := State.reset; (((((quiet (gates (running s)))).modPd p fun d => { d with contract := .none }).modSw p fun w => { w with st := .closed, tripCnt := 0, therm := 0, sinkDir := false, blank := false, reclose := false }).modSwap p fun _ => SwapPort.reset).modTc p fun t => { t with state := .attachedSrc, rpAdv := .a15 }), 0, 135, 5000, by decide +kernel⟩,
   ⟨(let p : PortId := 0; let s : State := State.reset; (((((quiet (gates (running s)))).modPd p fun d => { d with contract := .none }).modSw p fun w => { w with st := .closed, tripCnt := 0, therm := 0, sinkDir := false, blank := false, reclose := false }).modSwap p fun _ => SwapPort.reset).modTc p fun t => { t with state := .attachedSrc, rpAdv := .a15 }), 0, ⟨15001, 6001, 25⟩, by decide +kernel⟩,
   ⟨(let p : PortId := 0; let x : ProtSample := ⟨0, 60000, 25⟩; let s : State := State.reset; (((((gates (running (quiet s)))).modTc p fun x => { x with state := .attachedSrc, attachSrc := true }).modPd p fun d => { d with contract := .explicit, hrCount := 0 }).modSw p fun w => { w with st := .closed, tripCnt := 0 }).modPd p fun d => { d with epr := false }), 0, ⟨0, 60000, 25⟩, by decide +kernel⟩,
   ⟨(let p : PortId := 31; let x : ProtSample := ⟨0, 60000, 25⟩; let s : State := State.reset; ((((gates (running (quiet s)))).modTc p fun x => { x with state := .attachedSrc, attachSrc := true }).modPd p fun d => { d with contract := .explicit, hrCount := 0 }).modSw p fun w => { w with st := .closed, tripCnt := 2 }), 31, ⟨0, 60000, 25⟩, by decide +kernel⟩⟩

/-- States and operands that meet the hypotheses of each clause of SwitchStatesGoOn. -/
theorem witness_SwitchStatesGoOn :
  (∃ (s : State) (p : PortId) (d : List (Nat × Int)) (ma : Int),
    s.portReady p = true ∧ s.sys.pwr = .run ∧ (s.port p).sw.st = .softstart ∧ (s.port p).sw.sinkDir = false ∧ (s.port
    p).swap.stage = .none ∧ ((s.port p).sw.ssRamp (isE p) (s.port p).tc.prailMv d).2 = some ma) ∧
  (∃ (s : State) (p : PortId),
    s.portReady p = true ∧ s.sys.pwr = .run ∧ (s.port p).sw.st = .discharge ∧ (s.port p).tc.state = .errorRecovery ∧ (s.port
    p).tc.held = false ∧ (s.port p).tc.leaving = false ∧ (s.port p).swap.stage = .none) ∧
  (∃ (s : State) (p : PortId),
    s.portReady p = true ∧ s.sys.pwr = .run ∧ (s.port p).sw.st = .discharge ∧ (s.port p).sw.sinkOn = true) ∧
  (∃ (s : State) (p : PortId),
    s.portReady p = true ∧ s.sys.pwr = .run ∧ (s.port p).sw.st = .holdoff ∧ (s.port p).tc.state = .unattachedSnk) ∧
  (∃ (s : State) (p : PortId),
    s.portReady p = true ∧ s.sys.pwr = .run ∧ (s.port p).sw.st = .opn ∧ (s.port p).sw.holdNext = false) ∧
  (∃ (s : State) (p : PortId),
    s.portReady p = true ∧ s.sys.pwr = .run ∧ (s.port p).tc.enHeld = true ∧ (s.port p).tc.state = .disabled ∧ (s.port
    p).sw.st = .opn) ∧
  (∃ (s : State) (p : PortId),
    s.portReady p = true ∧ s.sys.pwr = .run ∧ (s.port p).sw.reclose = true) :=
  ⟨⟨(let p : PortId := 0; let s : State := State.reset; ((source (running s) p).modSw p fun w => { w with st := .softstart, sinkDir := false, steps := 0, ssProf := 0, ramp := 0 }).modTc p fun t => { t with prailMv := 5000 }), 0, List.replicate 200 (5000, 0), 0, by decide +kernel⟩,
   ⟨(let p : PortId := 0; let s : State := State.reset; ((inTc (running s) p .errorRecovery).modSw p fun w => { w with st := .discharge, holdNext := false }).modTc p fun x => { x with held := false }), 0, by decide +kernel⟩,
   ⟨(let p : PortId := 0; let s : State := State.reset; (portUp (running s) p).modSw p fun w => { w with st := .discharge, sinkOn := true }), 0, by decide +kernel⟩,
   ⟨(let p : PortId := 0; let s : State := State.reset; (inTc (running s) p .unattachedSnk).modSw p fun w => { w with st := .holdoff }), 0, by decide +kernel⟩,
   ⟨(let p : PortId := 0; let s : State := State.reset; (portUp (running s) p).modSw p fun w => { w with st := .opn, holdNext := false, tripCnt := 2 }), 0, by decide +kernel⟩,
   ⟨(let p : PortId := 8; let s : State := State.reset; ((inTc (running s) p .disabled).modSw p fun w => { w with st := .opn }).modTc p fun x => { x with enHeld := true }), 8, by decide +kernel⟩,
   ⟨(let p : PortId := 8; let s : State := State.reset; (portUp (running s) p).modSw p fun w => { w with reclose := true }), 8, by decide +kernel⟩⟩

/-- States and operands that meet the hypotheses of each clause of MonitorsAuditAndLinks. -/
theorem witness_MonitorsAuditAndLinks :
  (∃ (s : State) (p : PortId),
    s.portReady p = true ∧ s.sys.pwr = .run ∧ s.sbox.queue.length < 32 ∧ s.safeOn 1 = true ∧ s.monitorsOn p = true ∧ (s.port
    p).tc.state = .attachedSrc) ∧
  (∃ (s : State) (p : PortId),
    s.portReady p = true ∧ s.sys.pwr = .run ∧ s.sbox.queue.length < 32 ∧ s.monitorsOn p = true ∧ (s.port p).tc.state =
    .attachedSrc) ∧
  (∃ (s : State) (p : PortId),
    s.portReady p = true ∧ s.sys.pwr = .run ∧ s.sbox.queue.length < 32 ∧ s.auditOn p = true ∧ (s.port p).sw =
    { SwPort.reset with auditPos := 32767 }) ∧
  (∃ (s : State) (p : PortId),
    s.portReady p = true ∧ s.sys.pwr = .run ∧ s.sbox.queue.length < 32 ∧ s.auditOn p = true ∧ s.auditAll p = true ∧ (s.port
    p).sw = { SwPort.reset with auditPos := 32767 }) ∧
  (∃ (s : State) (p : PortId),
    s.portReady p = true ∧ s.sys.pwr = .run ∧ s.sbox.queue.length < 32 ∧ s.dieMeasures (dieOf p) = true ∧ (s.port
    p).sw.therm = 0) ∧
  (∃ (s : State) (p : PortId),
    s.portReady p = true ∧ s.sys.pwr = .run ∧ s.sbox.queue.length < 32 ∧ s.dieMeasures .b = true) ∧
  (∃ (s : State) (p : PortId),
    s.portReady p = true ∧ s.sys.pwr = .run ∧ s.sbox.queue.length < 32) :=
  ⟨⟨(let p : PortId := 0; let s : State := State.reset; quiet (source (running s) p)), 0, by decide +kernel⟩,
   ⟨(let p : PortId := 0; let s : State := State.reset; quiet (source (running s) p)), 0, by decide +kernel⟩,
   ⟨(let p : PortId := 0; let s : State := State.reset; (gates (quiet (portUp (running s) p))).modPort p fun x => { x with cfg := BitVec.allOnes 80, sw := { SwPort.reset with auditPos := 32767 }, tc := { x.tc with vbusMv := 0, prailMv := 300, ready := true } }), 0, by decide +kernel⟩,
   ⟨(let p : PortId := 0; let s : State := State.reset; (gates (quiet (portUp (running s) p))).modPort p fun x => { x with cfg := BitVec.allOnes 80, sw := { SwPort.reset with auditPos := 32767 }, tc := { x.tc with vbusMv := 0, prailMv := 300, ready := true } }), 0, by decide +kernel⟩,
   ⟨(let p : PortId := 0; let s : State := State.reset; quiet ((portUp (running s) p).modSw p fun w => { w with therm := 0 })), 0, by decide +kernel⟩,
   ⟨(let p : PortId := 16; let s : State := State.reset; quiet (source (running s) p)), 16, by decide +kernel⟩,
   ⟨(let p : PortId := 15; let s : State := State.reset; quiet (source (running s) p)), 15, by decide +kernel⟩⟩

/-- States and operands that meet the hypotheses of each clause of ConverterAndLocalBusEvents. -/
theorem witness_ConverterAndLocalBusEvents :
  (∃ (s : State) (p : PortId),
    s.portReady p = true ∧ s.sys.pwr = .run ∧ (s.port p).cv.dir = 1 ∧ (s.port p).cv.slewing = true ∧ (s.port p).cv.slewDue =
    false ∧ (s.port p).cv.diode = false ∧ (s.port p).sw.st = .opn ∧ (s.port p).pd.contract = .none) ∧
  (∃ (s : State) (p : PortId),
    s.portReady p = true ∧ s.sys.pwr = .run ∧ (s.port p).cv.dir = 1 ∧ (s.port p).cv.ilimAct = false) ∧
  (∃ (s : State) (p : PortId),
    s.portReady p = true ∧ s.sys.pwr = .run ∧ (s.port p).cv.dir = 1) ∧
  (∃ (s : State) (p : PortId),
    s.portReady p = true ∧ s.sys.pwr = .run ∧ (s.port p).cv.dir = 1) ∧
  (∃ (s : State) (p : PortId),
    s.portReady p = true ∧ s.sys.pwr = .run ∧ (s.port p).cv.dir = 1 ∧ 8 ≤ cfgSyncSrc (s.port p).cfg ∧ s.inSyncWindow
    (cfgSyncSrc (s.port p).cfg - 8) (cfgFsw (s.port p).cfg) = true ∧ (s.port p).cv.ember = false) ∧
  (∃ (s : State) (p : PortId),
    s.portReady p = true ∧ s.sys.pwr = .run ∧ (s.port p).cv.dir = 1 ∧ cfgSyncSrc (s.port p).cfg ≠ 0 ∧ (s.port p).cv.ember =
    false) ∧
  (∃ (s : State) (p : PortId),
    s.portReady p = true ∧ s.sys.pwr = .run ∧ (s.port p).cv.recover = true ∧ (s.port p).cv.dir = 0) ∧
  (∃ (s : State) (p : PortId),
    s.portReady p = true ∧ s.sys.pwr = .run ∧ s.monitorsOn p = true ∧ (s.port p).tc.leaving = false ∧ (s.port p).tc.ccHeld =
    false) ∧
  (∃ (s : State) (p : PortId),
    s.portReady p = true ∧ s.sys.pwr = .run ∧ s.sys.hbisoLow = true ∧ s.mayForm p = true ∧ s.ledger.joining = false ∧
    (s.port p).sw.st = .closed ∧ (s.port p).sw.sinkDir = true ∧ (s.port p).cv.dir = 0 ∧ s.paramOk p = true ∧ s.armed p =
    true) ∧
  (∃ (s : State) (p : PortId),
    s.portReady p = true ∧ s.sys.pwr = .run ∧ (s.port p).cv.dir = 3 ∧ (s.port p).cv.atTarget = false) ∧
  (∃ (s : State) (p : PortId),
    s.portReady p = true ∧ s.sys.pwr = .run ∧ s.ledger.joining = true ∧ s.sys.hbisoLow = true) :=
  ⟨⟨(let p : PortId := 0; let s : State := State.reset; (((source (running s) p).modCv p fun c => { c with dir := 1, slewing := true, slewDue := false, diode := false }).modPd p fun d => { d with contract := .none }).modSw p fun w => { w with st := .opn }), 0, by decide +kernel⟩,
   ⟨(let p : PortId := 0; let s : State := State.reset; (source (running s) p).modCv p fun c => { c with dir := 1, ilimAct := false }), 0, by decide +kernel⟩,
   ⟨(let p : PortId := 0; let s : State := State.reset; (source (running s) p).modCv p fun c => { c with dir := 1 }), 0, by decide +kernel⟩,
   ⟨(let p : PortId := 0; let s : State := State.reset; (source (running s) p).modCv p fun c => { c with dir := 1 }), 0, by decide +kernel⟩,
   ⟨(let p : PortId := 0; let s : State := State.reset; { ((source (running s) p).modCv p fun c => { c with dir := 1, ember := false }).modPort p fun x => { x with cfg := BitVec.allOnes 80 } with tmrs := Vector.replicate 48 { Tmr.reset with run := true, clkSrc := 4, mode := 1 } }), 0, by decide +kernel⟩,
   ⟨(let p : PortId := 0; let s : State := State.reset; ((source (running s) p).modCv p fun c => { c with dir := 1, ember := false }).modPort p fun x => { x with cfg := BitVec.allOnes 80 }), 0, by decide +kernel⟩,
   ⟨(let p : PortId := 0; let s : State := State.reset; (portUp (running s) p).modCv p fun c => { c with recover := true, dir := 0 }), 0, by decide +kernel⟩,
   ⟨(let p : PortId := 0; let s : State := State.reset; portUp (running s) p), 0, by decide +kernel⟩,
   ⟨(let p : PortId := 0; let s : State := State.reset; { (((gates (params (sink (running s) p) p)).modCv p fun c => { c with dir := 0, ember := true }).modSw p fun w => { w with st := .closed, sinkDir := true }).modPd p fun d => { d with contract := .explicit } with sys.hbisoLow := true, ledger.joining := false }), 0, by decide +kernel⟩,
   ⟨(let p : PortId := 0; let s : State := State.reset; (sink (running s) p).modCv p fun c => { c with dir := 3, atTarget := false }), 0, by decide +kernel⟩,
   ⟨(let p : PortId := 0; let s : State := State.reset; { portUp (running s) p with ledger.joining := true, sys.hbisoLow := true }), 0, by decide +kernel⟩⟩

/-- States and operands that meet the hypotheses of each clause of TransmissionsAndSequencesBegin. -/
theorem witness_TransmissionsAndSequencesBegin :
  (∃ (s : State) (p : PortId) (id : BitVec 3),
    s.pdLive p = true ∧ (s.port p).tc.state = .attachedSrc ∧ s.sys.pwr = .run ∧ (s.port p).pd.tx = some ⟨.sop, .sourceCaps,
    [], [], 2, id⟩ ∧ (s.port p).pd.txQ = [] ∧ (s.port p).pd.chunk = none ∧ (s.port p).pd.ams = .negotiation) ∧
  (∃ (s : State) (p : PortId) (id : BitVec 3),
    s.pdLive p = true ∧ (s.port p).tc.state = .attachedSrc ∧ s.sys.pwr = .run ∧ (s.port p).pd.tx = some ⟨.sop, .sourceCaps,
    [], [], 2, id⟩ ∧ (s.port p).pd.tries = 1 ∧ (s.port p).pd.txRev = 2) ∧
  (∃ (s : State) (p : PortId) (id : BitVec 3),
    s.pdLive p = true ∧ (s.port p).tc.state = .attachedSrc ∧ s.sys.pwr = .run ∧ (s.port p).pd.tx = some ⟨.sop, .getSinkCap,
    [], [], 2, id⟩ ∧ (s.port p).pd.ng = true ∧ (s.port p).pd.tries = 2 ∧ (s.port p).pd.txRev = 2 ∧ (s.port p).pd.contract =
    .explicit ∧ (s.port p).pd.srAccept = false ∧ (s.port p).swap = SwapPort.reset ∧ (s.port p).lm.run = none) ∧
  (∃ (s : State) (p : PortId),
    s.pdLive p = true ∧ (s.port p).tc.state = .attachedSrc ∧ s.sys.pwr = .run ∧ (s.port p).pd.tx = none ∧ (s.port p).pd.trig
    = [.getSinkCap] ∧ (s.port p).pd.ams = .none ∧ (s.port p).pd.contract = .explicit ∧ (s.port p).pd.txRev = 2 ∧ (s.port
    p).pd.ng = false ∧ (s.port p).pd.hr = .none ∧ (s.port p).pd.bist = 0) ∧
  (∃ (s : State) (p : PortId),
    s.pdLive p = true ∧ (s.port p).tc.state = .attachedSrc ∧ s.sys.pwr = .run ∧ (s.port p).pd.tx = none ∧ (s.port
    p).pd.sinkTxWait = true ∧ (s.port p).pd.ams = .getSinkCap) ∧
  (∃ (s : State) (p : PortId),
    s.pdLive p = true ∧ (s.port p).tc.state = .attachedSrc ∧ s.sys.pwr = .run ∧ (s.port p).pd.tx = none ∧ (s.port p).pd.trig
    = [.getRevision, .negotiation] ∧ (s.port p).pd.ams = .none ∧ (s.port p).pd.contract = .none ∧ (s.port p).pd.hr = .none ∧
    (s.port p).pd.bist = 0) :=
  ⟨⟨(let p : PortId := 0; let id : BitVec 3 := 7; let s : State := State.reset; (source (running s) p).modPd p fun d => { d with tx := some ⟨.sop, .sourceCaps, [], [], 2, id⟩, ams := .negotiation }), 0, 7, by decide +kernel⟩,
   ⟨(let p : PortId := 0; let id : BitVec 3 := 7; let s : State := State.reset; (source (running s) p).modPd p fun d => { d with tx := some ⟨.sop, .sourceCaps, [], [], 2, id⟩, tries := 1 }), 0, 7, by decide +kernel⟩,
   ⟨(let p : PortId := 0; let id : BitVec 3 := 7; let s : State := State.reset; ((source (running s) p).modPd p fun d => { d with tx := some ⟨.sop, .getSinkCap, [], [], 2, id⟩, tries := 2, ng := true }).modLm p fun l => { l with run := none }), 0, 7, by decide +kernel⟩,
   ⟨(let p : PortId := 0; let s : State := State.reset; (source (running s) p).modPd p fun d => { d with trig := [.getSinkCap] }), 0, by decide +kernel⟩,
   ⟨(let p : PortId := 0; let s : State := State.reset; (source (running s) p).modPd p fun d => { d with sinkTxWait := true, ams := .getSinkCap }), 0, by decide +kernel⟩,
   ⟨(let p : PortId := 31; let s : State := State.reset; (source (running s) p).modPd p fun d => { d with trig := [.getRevision, .negotiation], contract := .none }), 31, by decide +kernel⟩⟩

/-- States and operands that meet the hypotheses of each clause of NegotiationFormsAContract. -/
theorem witness_NegotiationFormsAContract :
  (∃ (s : State) (p : PortId) (id : BitVec 3),
    s.pdLive p = true ∧ s.sys.pwr = .run ∧ (s.port p).pd.tx = none ∧ (s.port p).pd.rxId ≠ some id ∧ (s.port p).swap =
    SwapPort.reset ∧ (s.port p).tc.state = .attachedSnk ∧ s.engineClk = true ∧ (s.port p).ownRuns = false ∧ (s.port
    p).pd.contract = .none ∧ (s.port p).pd.epr = false ∧ s.engineClk = true ∧ (s.port p).pd.bist = 0) ∧
  (∃ (s : State) (p : PortId) (id : BitVec 3),
    s.pdLive p = true ∧ s.sys.pwr = .run ∧ (s.port p).pd.tx = none ∧ (s.port p).pd.rxId ≠ some id ∧ (s.port p).swap =
    SwapPort.reset ∧ (s.port p).tc.state = .attachedSrc ∧ (s.port p).pd.contract = .explicit ∧ (s.port p).pd.epr = false ∧
    (s.port p).pd.asked = none ∧ (s.port p).ownRuns = false ∧ (s.port p).pd.offered = [⟨1, ⟨1, 500, 500, 90⟩, 90⟩] ∧
    s.ledger.ready = true ∧ (s.port p).lg.grant = 45 ∧ s.engineClk = true ∧ (s.port p).pd.bist = 0) ∧
  (∃ (s : State) (p : PortId) (id : BitVec 3),
    s.pdLive p = true ∧ s.sys.pwr = .run ∧ (s.port p).pd.tx = none ∧ (s.port p).pd.rxId ≠ some id ∧ (s.port p).swap =
    SwapPort.reset ∧ (s.port p).tc.state = .attachedSnk ∧ (s.port p).pd.ams = .request ∧ (s.port p).pd.nxt.isSome = true ∧
    (s.port p).pd.contract = .explicit ∧ (s.port p).pd.sinkTxWait = false ∧ s.engineClk = true ∧ (s.port p).pd.bist = 0) ∧
  (∃ (s : State) (p : PortId) (id : BitVec 3),
    s.pdLive p = true ∧ s.sys.pwr = .run ∧ (s.port p).pd.tx = none ∧ (s.port p).pd.rxId ≠ some id ∧ (s.port p).swap =
    SwapPort.reset ∧ (s.port p).tc.state = .attachedSnk ∧ (s.port p).pd.ams ≠ .softReset ∧ (s.port p).pd.contract =
    .transition ∧ (s.port p).pd.nxt.isSome = true ∧ s.engineClk = true ∧ (s.port p).pd.bist = 0) ∧
  (∃ (s : State) (p : PortId) (id : BitVec 3),
    s.pdLive p = true ∧ s.sys.pwr = .run ∧ (s.port p).pd.tx = none ∧ (s.port p).pd.rxId ≠ some id ∧ (s.port p).swap =
    SwapPort.reset ∧ (s.port p).tc.state = .attachedSnk ∧ (s.port p).pd.ams = .request ∧ (s.port p).pd.contract = .explicit
    ∧ (s.port p).pd.sinkTxWait = false ∧ s.engineClk = true ∧ (s.port p).pd.bist = 0) ∧
  (∃ (s : State) (p : PortId) (id : BitVec 3),
    s.pdLive p = true ∧ s.sys.pwr = .run ∧ (s.port p).pd.tx = none ∧ (s.port p).pd.rxId ≠ some id ∧ (s.port p).swap =
    SwapPort.reset ∧ (s.port p).tc.state = .attachedSnk ∧ (s.port p).pd.ams = .request ∧ (s.port p).pd.contract = .explicit
    ∧ (s.port p).pd.sinkTxWait = false ∧ s.engineClk = true ∧ (s.port p).pd.bist = 0) :=
  ⟨⟨(let p : PortId := 0; let s : State := State.reset; (sink (running s) p).modPd p fun d => { d with contract := .none }), 0, 0, by decide +kernel⟩,
   ⟨(let p : PortId := 0; let s : State := State.reset; ledgerUp (((source (running s) p).modPd p fun d => { d with offered := [⟨1, ⟨1, 500, 500, 90⟩, 90⟩] }).modLg p fun l => { l with grant := 45 })), 0, 0, by decide +kernel⟩,
   ⟨(let p : PortId := 0; let s : State := State.reset; (sink (running s) p).modPd p fun d => { d with ams := .request, nxt := some ⟨0, 1, 500, 90, false⟩ }), 0, 0, by decide +kernel⟩,
   ⟨(let p : PortId := 0; let s : State := State.reset; (sink (running s) p).modPd p fun d => { d with ams := .request, contract := .transition, nxt := some ⟨0, 1, 500, 90, false⟩ }), 0, 0, by decide +kernel⟩,
   ⟨(let p : PortId := 0; let s : State := State.reset; (sink (running s) p).modPd p fun d => { d with ams := .request, nxt := some ⟨0, 1, 500, 90, false⟩ }), 0, 0, by decide +kernel⟩,
   ⟨(let p : PortId := 0; let s : State := State.reset; (sink (running s) p).modPd p fun d => { d with ams := .request, nxt := some ⟨0, 1, 500, 90, false⟩ }), 0, 0, by decide +kernel⟩⟩

/-- States and operands that meet the hypotheses of each clause of NegotiationTimersEnd. -/
theorem witness_NegotiationTimersEnd :
  (∃ (s : State) (p : PortId),
    s.pdLive p = true ∧ s.sys.pwr = .run ∧ (s.port p).pd.tx = none ∧ (s.port p).swap = SwapPort.reset ∧ (s.port p).pd.hr =
    .none ∧ (s.port p).tc.state = .attachedSrc ∧ (s.port p).pd.contract = .transition ∧ (s.port p).cv.slewDue = true ∧
    (s.port p).cv.dir = 1) ∧
  (∃ (s : State) (p : PortId),
    s.pdLive p = true ∧ s.sys.pwr = .run ∧ (s.port p).pd.tx = none ∧ (s.port p).swap = SwapPort.reset ∧ (s.port p).pd.hr =
    .none ∧ (s.port p).tc.state = .attachedSrc ∧ (s.port p).pd.epr = false ∧ (s.port p).pd.capsSent = true) ∧
  (∃ (s : State) (p : PortId),
    s.pdLive p = true ∧ s.sys.pwr = .run ∧ (s.port p).pd.tx = none ∧ (s.port p).swap = SwapPort.reset ∧ (s.port p).pd.hr =
    .none ∧ (s.port p).tc.state = .attachedSnk ∧ (s.port p).pd.epr = false ∧ (s.port p).pd.contract = .transition) ∧
  (∃ (s : State) (p : PortId),
    s.pdLive p = true ∧ s.sys.pwr = .run ∧ (s.port p).pd.tx = none ∧ (s.port p).swap = SwapPort.reset ∧ (s.port p).pd.hr =
    .none ∧ (s.port p).tc.state = .attachedSnk ∧ (s.port p).pd.epr = false ∧ (s.port p).pd.contract = .none ∧ (s.port
    p).pd.srcCaps = [] ∧ (s.port p).sw.st = .closed) ∧
  (∃ (s : State) (p : PortId),
    s.pdLive p = true ∧ s.sys.pwr = .run ∧ (s.port p).pd.tx = none ∧ (s.port p).swap = SwapPort.reset ∧ (s.port p).pd.hr =
    .none ∧ (s.port p).tc.state = .attachedSrc ∧ (s.port p).pd.contract = .none ∧ (s.port p).pd.hrCount = 2 ∧ (s.port
    p).pd.heard = false) ∧
  (∃ (s : State) (p : PortId),
    s.pdLive p = true ∧ s.sys.pwr = .run ∧ (s.port p).pd.tx = none ∧ (s.port p).swap = SwapPort.reset ∧ (s.port p).pd.hr =
    .none ∧ (s.port p).tc.state = .attachedSrc ∧ (s.port p).pd.epr = false ∧ (s.port p).pd.contract = .none ∧ (s.port
    p).pd.hrCount = 1) ∧
  (∃ (s : State) (p : PortId),
    s.pdLive p = true ∧ s.sys.pwr = .run ∧ (s.port p).pd.tx = none ∧ (s.port p).swap = SwapPort.reset ∧ (s.port p).pd.hr =
    .none ∧ (s.port p).tc.state = .attachedSrc ∧ (s.port p).pd.contract = .none ∧ (s.port p).pd.capsCount = 50) ∧
  (∃ (s : State) (p : PortId),
    s.pdLive p = true ∧ s.sys.pwr = .run ∧ (s.port p).pd.tx = none ∧ (s.port p).swap = SwapPort.reset ∧ (s.port p).pd.hr =
    .none ∧ (s.port p).tc.state = .attachedSrc ∧ (s.port p).pd.epr = false ∧ (s.port p).pd.contract = .none ∧ (s.port
    p).pd.ams = .none ∧ (s.port p).pd.capsCount = 49 ∧ 45 ≤ s.grantOf p) ∧
  (∃ (s : State) (p : PortId),
    s.pdLive p = true ∧ s.sys.pwr = .run ∧ (s.port p).pd.tx = none ∧ (s.port p).swap = SwapPort.reset ∧ (s.port p).pd.hr =
    .none ∧ (s.port p).tc.state = .attachedSnk ∧ (s.port p).pd.waitRx = true ∧ (s.port p).pd.trig = [] ∧ (s.port
    p).pd.sinkTxWait = false) ∧
  (∃ (s : State) (p : PortId),
    s.pdLive p = true ∧ s.sys.pwr = .run ∧ (s.port p).pd.tx = none ∧ (s.port p).swap = SwapPort.reset ∧ (s.port p).pd.hr =
    .none ∧ (s.port p).tc.state = .attachedSrc ∧ (s.port p).pd.epr = false ∧ (s.port p).pd.pps = true) ∧
  (∃ (s : State) (p : PortId),
    s.pdLive p = true ∧ s.sys.pwr = .run ∧ (s.port p).pd.tx = none ∧ (s.port p).swap = SwapPort.reset ∧ (s.port p).pd.hr =
    .none ∧ (s.port p).tc.state = .attachedSnk ∧ (s.port p).pd.pps = true ∧ (s.port p).pd.trig = [] ∧ (s.port
    p).pd.sinkTxWait = false) ∧
  (∃ (s : State) (p : PortId),
    s.pdLive p = true ∧ s.sys.pwr = .run ∧ (s.port p).pd.tx = none ∧ (s.port p).swap = SwapPort.reset ∧ (s.port p).pd.hr =
    .none ∧ (s.port p).tc.state = .attachedSrc ∧ (s.port p).pd.epr = false ∧ (s.port p).pd.pps = true ∧ (s.port p).pd.obj =
    some ⟨2, ⟨2, 330, 1100, 300⟩, 300⟩ ∧ (s.port p).tc.vbusMv = 3299) :=
  ⟨⟨(let p : PortId := 0; let s : State := State.reset; ((source (running s) p).modPd p fun d => { d with contract := .transition }).modCv p fun c => { c with dir := 1, slewDue := true }), 0, by decide +kernel⟩,
   ⟨(let p : PortId := 0; let s : State := State.reset; (source (running s) p).modPd p fun d => { d with capsSent := true }), 0, by decide +kernel⟩,
   ⟨(let p : PortId := 0; let s : State := State.reset; (sink (running s) p).modPd p fun d => { d with contract := .transition }), 0, by decide +kernel⟩,
   ⟨(let p : PortId := 31; let s : State := State.reset; ((sink (running s) p).modPd p fun d => { d with contract := .none, srcCaps := [] }).modSw p fun w => { w with st := .closed }), 31, by decide +kernel⟩,
   ⟨(let p : PortId := 0; let s : State := State.reset; (source (running s) p).modPd p fun d => { d with contract := .none, hrCount := 2, heard := false }), 0, by decide +kernel⟩,
   ⟨(let p : PortId := 0; let s : State := State.reset; (source (running s) p).modPd p fun d => { d with contract := .none, hrCount := 1 }), 0, by decide +kernel⟩,
   ⟨(let p : PortId := 0; let s : State := State.reset; (source (running s) p).modPd p fun d => { d with contract := .none, capsCount := 50 }), 0, by decide +kernel⟩,
   ⟨(let p : PortId := 0; let s : State := State.reset; (ledgerUp ((source (running s) p).modPd p fun d => { d with contract := .none, capsCount := 49 })).modLg p fun l => { l with grant := 45 }), 0, by decide +kernel⟩,
   ⟨(let p : PortId := 0; let s : State := State.reset; (sink (running s) p).modPd p fun d => { d with waitRx := true }), 0, by decide +kernel⟩,
   ⟨(let p : PortId := 0; let s : State := State.reset; (source (running s) p).modPd p fun d => { d with terms := ⟨1, 2, 900, 200, false⟩ }), 0, by decide +kernel⟩,
   ⟨(let p : PortId := 0; let s : State := State.reset; (sink (running s) p).modPd p fun d => { d with terms := ⟨1, 2, 900, 200, false⟩ }), 0, by decide +kernel⟩,
   ⟨(let p : PortId := 0; let s : State := State.reset; ((source (running s) p).modPd p fun d => { d with terms := ⟨1, 2, 900, 200, false⟩, obj := some ⟨2, ⟨2, 330, 1100, 300⟩, 300⟩ }).modTc p fun x => { x with vbusMv := 3299 }), 0, by decide +kernel⟩⟩

/-- States and operands that meet the hypotheses of each clause of ResetsRun. -/
theorem witness_ResetsRun :
  (∃ (s : State) (p : PortId),
    s.portReady p = true ∧ s.sys.pwr = .run ∧ (s.port p).tc.state = .attachedSrc ∧ s.engineClk = true ∧ (s.port
    p).pd.contract ≠ .stopped ∧ (s.port p).tc.leaving = false ∧ (s.port p).swap = SwapPort.reset ∧ (s.port p).lm.run = none
    ∧ s.engineClk = true ∧ (s.port p).pd.bist = 0) ∧
  (∃ (s : State) (p : PortId),
    s.portReady p = true ∧ s.sys.pwr = .run ∧ (s.port p).tc.state = .attachedSrc ∧ s.pdLive p = true ∧ (s.port
    p).tc.attachSrc = true) ∧
  (∃ (s : State) (p : PortId),
    s.portReady p = true ∧ s.sys.pwr = .run ∧ (s.port p).tc.state = .attachedSnk ∧ s.pdLive p = true ∧ (s.port
    p).tc.attachSrc = false ∧ (s.port p).tc.vbusMv = 4000) ∧
  (∃ (s : State) (p : PortId),
    s.portReady p = true ∧ s.sys.pwr = .run ∧ (s.port p).tc.state = .attachedSrc ∧ (s.port p).pd.hr = .srcWait ∧ (s.port
    p).sw.st = .closed) ∧
  (∃ (s : State) (p : PortId),
    s.portReady p = true ∧ s.sys.pwr = .run ∧ (s.port p).tc.state = .attachedSrc ∧ (s.port p).pd.hr = .srcOff) ∧
  (∃ (s : State) (p : PortId),
    s.portReady p = true ∧ s.sys.pwr = .run ∧ (s.port p).tc.state = .attachedSnk ∧ (s.port p).pd.hr = .sink true ∧ (s.port
    p).tc.vbusMv = 4750) ∧
  (∃ (s : State) (p : PortId),
    s.portReady p = true ∧ s.sys.pwr = .run ∧ (s.port p).tc.state = .attachedSnk ∧ (s.port p).pd.hr = .sink true ∧ (s.port
    p).tc.leaving = false ∧ (s.port p).tc.vbusMv = 5000 ∧ (s.port p).swap = SwapPort.reset) :=
  ⟨⟨(let p : PortId := 0; let s : State := State.reset; (source (running s) p).modLm p fun l => { l with run := none }), 0, by decide +kernel⟩,
   ⟨(let p : PortId := 0; let s : State := State.reset; (source (running s) p).modTc p fun x => { x with attachSrc := true }), 0, by decide +kernel⟩,
   ⟨(let p : PortId := 0; let s : State := State.reset; (sink (running s) p).modTc p fun x => { x with attachSrc := false, vbusMv := 4000 }), 0, by decide +kernel⟩,
   ⟨(let p : PortId := 0; let s : State := State.reset; ((source (running s) p).modPd p fun d => { d with hr := .srcWait }).modSw p fun w => { w with st := .closed }), 0, by decide +kernel⟩,
   ⟨(let p : PortId := 0; let s : State := State.reset; (source (running s) p).modPd p fun d => { d with hr := .srcOff }), 0, by decide +kernel⟩,
   ⟨(let p : PortId := 0; let s : State := State.reset; ((sink (running s) p).modPd p fun d => { d with hr := .sink true }).modTc p fun x => { x with vbusMv := 4750 }), 0, by decide +kernel⟩,
   ⟨(let p : PortId := 0; let s : State := State.reset; ((sink (running s) p).modPd p fun d => { d with hr := .sink true }).modTc p fun x => { x with vbusMv := 5000 }), 0, by decide +kernel⟩⟩

/-- States and operands that meet the hypotheses of each clause of CapabilitiesAndCablesAreAsked. -/
theorem witness_CapabilitiesAndCablesAreAsked :
  (∃ (s : State) (p : PortId) (id : BitVec 3),
    s.pdLive p = true ∧ s.sys.pwr = .run ∧ (s.port p).pd.tx = none ∧ (s.port p).pd.rxId ≠ some id ∧ (s.port p).swap =
    SwapPort.reset ∧ (s.port p).tc.state = .attachedSrc ∧ (s.port p).pd.epr = false ∧ (s.port p).pd.ams.own = false ∧
    (s.port p).pd.contract = .explicit ∧ 45 ≤ s.grantOf p ∧ s.engineClk = true ∧ (s.port p).pd.bist = 0) ∧
  (∃ (s : State) (p : PortId) (id : BitVec 3),
    s.pdLive p = true ∧ s.sys.pwr = .run ∧ (s.port p).pd.tx = none ∧ (s.port p).pd.rxId ≠ some id ∧ (s.port p).swap =
    SwapPort.reset ∧ (s.port p).tc.state = .attachedSnk ∧ (s.port p).pd.ams.own = false ∧ (s.port p).pd.contract ≠
    .transition ∧ s.engineClk = true ∧ (s.port p).pd.bist = 0) ∧
  (∃ (s : State) (p : PortId) (id : BitVec 3),
    s.pdLive p = true ∧ s.sys.pwr = .run ∧ (s.port p).pd.tx = none ∧ (s.port p).pd.rxId ≠ some id ∧ (s.port p).swap =
    SwapPort.reset ∧ (s.port p).tc.state = .attachedSnk ∧ (s.port p).pd.ams.own = false ∧ (s.port p).pd.contract ≠
    .transition ∧ cfgRole (s.port p).cfg = 2 ∧ (s.port p).srcPend = none ∧ (s.port p).snkPend = none ∧ s.engineClk = true ∧
    (s.port p).pd.bist = 0) ∧
  (∃ (s : State) (p : PortId) (id : BitVec 3),
    s.pdLive p = true ∧ s.sys.pwr = .run ∧ (s.port p).pd.tx = none ∧ (s.port p).pd.rxId ≠ some id ∧ (s.port p).swap =
    SwapPort.reset ∧ (s.port p).tc.state = .attachedSrc ∧ (s.port p).pd.ams = .getSinkCap ∧ (s.port p).pd.sinkTxWait = false
    ∧ s.engineClk = true ∧ (s.port p).pd.bist = 0) ∧
  (∃ (s : State) (p : PortId),
    s.pdLive p = true ∧ (s.port p).tc.state = .attachedSrc ∧ s.sys.pwr = .run ∧ (s.port p).pd.tx = none ∧ (s.port
    p).tc.vconnOn = true ∧ (s.port p).pd.cableOk = false ∧ (s.port p).pd.discTries = 19 ∧ (s.port p).pd.contract = .explicit
    ∧ (s.port p).pd.trig = [] ∧ (s.port p).pd.sinkTxWait = false) ∧
  (∃ (s : State) (p : PortId) (id : BitVec 3),
    s.pdLive p = true ∧ (s.port p).tc.state = .attachedSrc ∧ s.sys.pwr = .run ∧ (s.port p).pd.tx = none ∧ isE p = true ∧
    (s.port p).tc.vconnOn = true ∧ (s.port p).pd.ams = .discoverCable ∧ (s.port p).pd.trig = [] ∧ (s.port p).pd.sinkTxWait =
    false ∧ (s.port p).pd.rxId1 ≠ some id ∧ s.engineClk = true ∧ (s.port p).pd.bist = 0) :=
  ⟨⟨(let p : PortId := 0; let s : State := State.reset; (ledgerUp (source (running s) p)).modLg p fun l => { l with grant := 45 }), 0, 0, by decide +kernel⟩,
   ⟨(let p : PortId := 0; let s : State := State.reset; sink (running s) p), 0, 0, by decide +kernel⟩,
   ⟨(let p : PortId := 0; let s : State := State.reset; (sink (running s) p).modPort p fun x => { x with cfg := 2, srcPend := none, snkPend := none }), 0, 0, by decide +kernel⟩,
   ⟨(let p : PortId := 0; let s : State := State.reset; (source (running s) p).modPd p fun d => { d with ams := .getSinkCap }), 0, 0, by decide +kernel⟩,
   ⟨(let p : PortId := 0; let s : State := State.reset; ((source (running s) p).modPd p fun d => { d with cableOk := false, discTries := 19 }).modTc p fun x => { x with vconnOn := true }), 0, by decide +kernel⟩,
   ⟨(let p : PortId := 7; let s : State := State.reset; let p : PortId := p; ((source (running s) p).modPd p fun d => { d with ams := .discoverCable, rxId1 := none }).modTc p fun x => { x with vconnOn := true }), 7, 0, by decide +kernel⟩⟩

/-- States and operands that meet the hypotheses of each clause of UnsupportedAndUnexpectedMessages. -/
theorem witness_UnsupportedAndUnexpectedMessages :
  (∃ (s : State) (p : PortId) (id : BitVec 3),
    s.pdLive p = true ∧ s.sys.pwr = .run ∧ (s.port p).pd.tx = none ∧ (s.port p).pd.rxId ≠ some id ∧ (s.port p).swap =
    SwapPort.reset ∧ (s.port p).pd.txRev = 2 ∧ (s.port p).pd.ams.own = false ∧ s.engineClk = true ∧ (s.port p).pd.bist = 0) ∧
  (∃ (s : State) (p : PortId) (id : BitVec 3),
    s.pdLive p = true ∧ s.sys.pwr = .run ∧ (s.port p).pd.tx = none ∧ (s.port p).pd.rxId ≠ some id ∧ (s.port p).swap =
    SwapPort.reset ∧ (s.port p).pd.txRev = 1 ∧ (s.port p).pd.ams.own = false ∧ s.engineClk = true ∧ (s.port p).pd.bist = 0) ∧
  (∃ (s : State) (p : PortId) (id : BitVec 3),
    s.pdLive p = true ∧ s.sys.pwr = .run ∧ (s.port p).pd.tx = none ∧ (s.port p).pd.rxId ≠ some id ∧ (s.port p).swap =
    SwapPort.reset ∧ (s.port p).tc.state = .attachedSrc ∧ (s.port p).pd.ams.own = false ∧ (s.port p).pd.contract = .none ∧
    s.engineClk = true ∧ (s.port p).pd.bist = 0) ∧
  (∃ (s : State) (p : PortId) (id : BitVec 3),
    s.pdLive p = true ∧ s.sys.pwr = .run ∧ (s.port p).pd.tx = none ∧ (s.port p).pd.rxId ≠ some id ∧ (s.port p).swap =
    SwapPort.reset ∧ (s.port p).tc.state = .attachedSnk ∧ (s.port p).pd.ams.own = false ∧ (s.port p).pd.contract = .explicit
    ∧ (s.port p).tc.rpSeen = .a30 ∧ s.engineClk = true ∧ (s.port p).pd.bist = 0) ∧
  (∃ (s : State) (p : PortId) (id : BitVec 3),
    s.pdLive p = true ∧ s.sys.pwr = .run ∧ (s.port p).pd.tx = none ∧ (s.port p).pd.rxId ≠ some id ∧ (s.port p).swap =
    SwapPort.reset ∧ (s.port p).tc.state = .attachedSrc ∧ (s.port p).pd.ams.own = false ∧ (s.port p).pd.txRev = 2 ∧ (s.port
    p).pd.contract = .explicit ∧ (s.port p).pd.ng = false ∧ s.engineClk = true ∧ (s.port p).pd.bist = 0) ∧
  (∃ (s : State) (p : PortId) (id : BitVec 3),
    s.pdLive p = true ∧ s.sys.pwr = .run ∧ (s.port p).pd.tx = none ∧ (s.port p).pd.rxId ≠ some id ∧ (s.port p).swap =
    SwapPort.reset ∧ (s.port p).pd.ams.own = false ∧ (s.port p).pd.contract = .transition ∧ (s.port p).pd.epr = false ∧
    s.engineClk = true ∧ (s.port p).pd.bist = 0) ∧
  (∃ (s : State) (p : PortId) (id : BitVec 3),
    s.pdLive p = true ∧ s.sys.pwr = .run ∧ (s.port p).pd.tx = none ∧ (s.port p).pd.rxId ≠ some id ∧ (s.port p).swap =
    SwapPort.reset ∧ (s.port p).pd.sinkTxWait = false ∧ s.engineClk = true ∧ (s.port p).pd.bist = 0) ∧
  (∃ (s : State) (p : PortId) (id : BitVec 3),
    s.pdLive p = true ∧ s.sys.pwr = .run ∧ (s.port p).pd.tx = none ∧ (s.port p).pd.rxId ≠ some id ∧ (s.port p).swap =
    SwapPort.reset ∧ (s.port p).pd.txRev = 2 ∧ (s.port p).pd.ams = .getSinkCap ∧ (s.port p).pd.contract = .explicit ∧
    (s.port p).pd.sinkTxWait = false ∧ s.engineClk = true ∧ (s.port p).pd.bist = 0) :=
  ⟨⟨(let p : PortId := 0; let s : State := State.reset; source (running s) p), 0, 0, by decide +kernel⟩,
   ⟨(let p : PortId := 0; let s : State := State.reset; (source (running s) p).modPd p fun d => { d with txRev := 1 }), 0, 0, by decide +kernel⟩,
   ⟨(let p : PortId := 0; let s : State := State.reset; (source (running s) p).modPd p fun d => { d with contract := .none }), 0, 0, by decide +kernel⟩,
   ⟨(let p : PortId := 0; let s : State := State.reset; (sink (running s) p).modTc p fun x => { x with rpSeen := .a30 }), 0, 0, by decide +kernel⟩,
   ⟨(let p : PortId := 0; let s : State := State.reset; source (running s) p), 0, 0, by decide +kernel⟩,
   ⟨(let p : PortId := 0; let s : State := State.reset; (source (running s) p).modPd p fun d => { d with contract := .transition }), 0, 0, by decide +kernel⟩,
   ⟨(let p : PortId := 0; let s : State := State.reset; source (running s) p), 0, 0, by decide +kernel⟩,
   ⟨(let p : PortId := 0; let s : State := State.reset; (source (running s) p).modPd p fun d => { d with ams := .getSinkCap }), 0, 0, by decide +kernel⟩⟩

/-- States and operands that meet the hypotheses of each clause of InformationIsAnswered. -/
theorem witness_InformationIsAnswered :
  (∃ (s : State) (p : PortId) (id : BitVec 3),
    s.pdLive p = true ∧ (s.port p).tc.state = .attachedSrc ∧ s.sys.pwr = .run ∧ (s.port p).pd.tx = none ∧ (s.port p).pd.rxId
    ≠ some id ∧ (s.port p).pd.txRev = 2 ∧ (s.port p).swap = SwapPort.reset ∧ (s.port p).pd.ams.own = false ∧ (s.port
    p).pd.contract ≠ .transition ∧ s.engineClk = true ∧ (s.port p).pd.bist = 0) ∧
  (∃ (s : State) (p : PortId) (id : BitVec 3),
    s.pdLive p = true ∧ (s.port p).tc.state = .attachedSrc ∧ s.sys.pwr = .run ∧ (s.port p).pd.tx = none ∧ (s.port p).pd.rxId
    ≠ some id ∧ (s.port p).pd.txRev = 2 ∧ (s.port p).swap = SwapPort.reset ∧ (s.port p).pd.ams.own = false ∧ (s.port
    p).pd.contract ≠ .transition ∧ s.engineClk = true ∧ (s.port p).pd.bist = 0) ∧
  (∃ (s : State) (p : PortId) (id : BitVec 3),
    s.pdLive p = true ∧ (s.port p).tc.state = .attachedSrc ∧ s.sys.pwr = .run ∧ (s.port p).pd.tx = none ∧ (s.port p).pd.rxId
    ≠ some id ∧ (s.port p).pd.txRev = 2 ∧ (s.port p).swap = SwapPort.reset ∧ (s.port p).pd.ams.own = false ∧ (s.port
    p).pd.contract ≠ .transition ∧ s.engineClk = true ∧ (s.port p).pd.bist = 0) ∧
  (∃ (s : State) (p : PortId) (id : BitVec 3),
    s.pdLive p = true ∧ (s.port p).tc.state = .attachedSrc ∧ s.sys.pwr = .run ∧ (s.port p).pd.tx = none ∧ (s.port p).pd.rxId
    ≠ some id ∧ (s.port p).pd.txRev = 2 ∧ (s.port p).swap = SwapPort.reset ∧ (s.port p).pd.ams.own = false ∧ (s.port
    p).pd.contract ≠ .transition ∧ s.engineClk = true ∧ (s.port p).pd.bist = 0) ∧
  (∃ (s : State) (p : PortId) (id : BitVec 3),
    s.pdLive p = true ∧ (s.port p).tc.state = .attachedSrc ∧ s.sys.pwr = .run ∧ (s.port p).pd.tx = none ∧ (s.port p).pd.rxId
    ≠ some id ∧ (s.port p).pd.txRev = 2 ∧ (s.port p).swap = SwapPort.reset ∧ (s.port p).pd.ams.own = false ∧ (s.port
    p).pd.contract ≠ .transition ∧ (s.port p).pd.contract = .explicit ∧ (s.port p).pd.terms.ctype = 1 ∧ s.engineClk = true ∧
    (s.port p).pd.bist = 0) ∧
  (∃ (s : State) (p : PortId) (id : BitVec 3),
    s.pdLive p = true ∧ (s.port p).tc.state = .attachedSrc ∧ s.sys.pwr = .run ∧ (s.port p).pd.tx = none ∧ (s.port p).pd.rxId
    ≠ some id ∧ (s.port p).pd.txRev = 2 ∧ (s.port p).swap = SwapPort.reset ∧ (s.port p).pd.ams.own = false ∧ (s.port
    p).pd.contract ≠ .transition ∧ s.engineClk = true ∧ (s.port p).pd.bist = 0) ∧
  (∃ (s : State) (p : PortId) (id : BitVec 3),
    s.pdLive p = true ∧ (s.port p).tc.state = .attachedSrc ∧ s.sys.pwr = .run ∧ (s.port p).pd.tx = none ∧ (s.port p).pd.rxId
    ≠ some id ∧ (s.port p).pd.txRev = 2 ∧ (s.port p).swap = SwapPort.reset ∧ (s.port p).pd.ams.own = false ∧ (s.port
    p).pd.contract ≠ .transition ∧ cfgRole (s.port p).cfg = 2 ∧ s.engineClk = true ∧ (s.port p).pd.bist = 0) :=
  ⟨⟨(let p : PortId := 0; let s : State := State.reset; source (running s) p), 0, 0, by decide +kernel⟩,
   ⟨(let p : PortId := 0; let s : State := State.reset; source (running s) p), 0, 0, by decide +kernel⟩,
   ⟨(let p : PortId := 0; let s : State := State.reset; source (running s) p), 0, 0, by decide +kernel⟩,
   ⟨(let p : PortId := 0; let s : State := State.reset; source (running s) p), 0, 0, by decide +kernel⟩,
   ⟨(let p : PortId := 0; let s : State := State.reset; (source (running s) p).modPd p fun d => { d with terms := ⟨1, 2, 900, 200, false⟩ }), 0, 0, by decide +kernel⟩,
   ⟨(let p : PortId := 0; let s : State := State.reset; source (running s) p), 0, 0, by decide +kernel⟩,
   ⟨(let p : PortId := 0; let s : State := State.reset; (source (running s) p).modPort p fun x => { x with cfg := 2 }), 0, 0, by decide +kernel⟩⟩

/-- States and operands that meet the hypotheses of each clause of InformationIsTakenIn. -/
theorem witness_InformationIsTakenIn :
  (∃ (s : State) (p : PortId) (id : BitVec 3),
    s.pdLive p = true ∧ s.sys.pwr = .run ∧ (s.port p).pd.tx = none ∧ (s.port p).pd.rxId ≠ some id ∧ (s.port p).pd.txRev = 2
    ∧ (s.port p).pd.contract = .explicit ∧ (s.port p).pd.sinkTxWait = false ∧ (s.port p).tc.state = .attachedSrc ∧ (s.port
    p).pd.ams = .getRevision ∧ s.engineClk = true ∧ (s.port p).pd.bist = 0) ∧
  (∃ (s : State) (p : PortId) (id : BitVec 3),
    s.pdLive p = true ∧ s.sys.pwr = .run ∧ (s.port p).pd.tx = none ∧ (s.port p).pd.rxId ≠ some id ∧ (s.port p).pd.txRev = 2
    ∧ (s.port p).pd.contract = .explicit ∧ (s.port p).pd.sinkTxWait = false ∧ (s.port p).tc.state = .attachedSrc ∧ (s.port
    p).pd.ams = .getStatus ∧ s.engineClk = true ∧ (s.port p).pd.bist = 0) ∧
  (∃ (s : State) (p : PortId) (id : BitVec 3),
    s.pdLive p = true ∧ s.sys.pwr = .run ∧ (s.port p).pd.tx = none ∧ (s.port p).pd.rxId ≠ some id ∧ (s.port p).pd.txRev = 2
    ∧ (s.port p).pd.contract = .explicit ∧ (s.port p).pd.sinkTxWait = false ∧ (s.port p).tc.state = .attachedSnk ∧ (s.port
    p).pd.ams = .none ∧ s.engineClk = true ∧ (s.port p).pd.bist = 0) ∧
  (∃ (s : State) (p : PortId) (id : BitVec 3),
    s.pdLive p = true ∧ s.sys.pwr = .run ∧ (s.port p).pd.tx = none ∧ (s.port p).pd.rxId ≠ some id ∧ (s.port p).pd.txRev = 2
    ∧ (s.port p).pd.contract = .explicit ∧ (s.port p).pd.sinkTxWait = false ∧ (s.port p).tc.state = .attachedSrc ∧ (s.port
    p).swap = SwapPort.reset ∧ (s.port p).pd.ams.own = false ∧ (s.port p).pd.trig = [] ∧ s.engineClk = true ∧ (s.port
    p).pd.bist = 0) ∧
  (∃ (s : State) (p : PortId) (id : BitVec 3),
    s.pdLive p = true ∧ s.sys.pwr = .run ∧ (s.port p).pd.tx = none ∧ (s.port p).pd.rxId ≠ some id ∧ (s.port p).pd.txRev = 2
    ∧ (s.port p).pd.contract = .explicit ∧ (s.port p).pd.sinkTxWait = false ∧ (s.port p).tc.state = .attachedSrc ∧ (s.port
    p).pd.ams ≠ .softReset ∧ (s.port p).pd.terms.v = 500 ∧ s.engineClk = true ∧ (s.port p).pd.bist = 0) ∧
  (∃ (s : State) (p : PortId) (id : BitVec 3),
    s.pdLive p = true ∧ s.sys.pwr = .run ∧ (s.port p).pd.tx = none ∧ (s.port p).pd.rxId ≠ some id ∧ (s.port p).pd.txRev = 2
    ∧ (s.port p).pd.contract = .explicit ∧ (s.port p).pd.sinkTxWait = false ∧ (s.port p).tc.state = .attachedSrc ∧ (s.port
    p).pd.bist = 1) :=
  ⟨⟨(let p : PortId := 0; let s : State := State.reset; (source (running s) p).modPd p fun d => { d with ams := .getRevision }), 0, 0, by decide +kernel⟩,
   ⟨(let p : PortId := 0; let d : List Byte := [1]; let s : State := State.reset; (source (running s) p).modPd p fun d => { d with ams := .getStatus }), 0, 0, by decide +kernel⟩,
   ⟨(let p : PortId := 0; let s : State := State.reset; sink (running s) p), 0, 0, by decide +kernel⟩,
   ⟨(let p : PortId := 0; let s : State := State.reset; source (running s) p), 0, 0, by decide +kernel⟩,
   ⟨(let p : PortId := 0; let s : State := State.reset; (source (running s) p).modPd p fun d => { d with terms := ⟨0, 1, 500, 90, false⟩ }), 0, 0, by decide +kernel⟩,
   ⟨(let p : PortId := 0; let s : State := State.reset; (source (running s) p).modPd p fun d => { d with bist := 1 }), 0, 0, by decide +kernel⟩⟩

/-- States and operands that meet the hypotheses of each clause of EprModeRuns. -/
theorem witness_EprModeRuns :
  (∃ (s : State) (p : PortId) (id : BitVec 3),
    s.pdLive p = true ∧ s.sys.pwr = .run ∧ (s.port p).pd.tx = none ∧ (s.port p).pd.rxId ≠ some id ∧ (s.port p).pd.txRev = 2
    ∧ (s.port p).pd.sinkTxWait = false ∧ isE p = true ∧ (s.port p).pd.contract = .explicit ∧ (s.port p).tc.state =
    .attachedSnk ∧ (s.port p).pd.ams = .eprEntry ∧ s.engineClk = true ∧ (s.port p).pd.bist = 0) ∧
  (∃ (s : State) (p : PortId) (id : BitVec 3),
    s.pdLive p = true ∧ s.sys.pwr = .run ∧ (s.port p).pd.tx = none ∧ (s.port p).pd.rxId ≠ some id ∧ (s.port p).pd.txRev = 2
    ∧ (s.port p).pd.sinkTxWait = false ∧ isE p = true ∧ (s.port p).pd.contract = .explicit ∧ (s.port p).tc.state =
    .attachedSnk ∧ (s.port p).swap = SwapPort.reset ∧ (s.port p).pd.ams.own = false ∧ (s.port p).pd.epr = true ∧ (s.port
    p).pd.terms.v = 2000 ∧ s.engineClk = true ∧ (s.port p).pd.bist = 0) ∧
  (∃ (s : State) (p : PortId) (id : BitVec 3),
    s.pdLive p = true ∧ s.sys.pwr = .run ∧ (s.port p).pd.tx = none ∧ (s.port p).pd.rxId ≠ some id ∧ (s.port p).pd.txRev = 2
    ∧ (s.port p).pd.sinkTxWait = false ∧ isE p = true ∧ (s.port p).pd.contract = .explicit ∧ (s.port p).tc.state =
    .attachedSrc ∧ (s.port p).swap = SwapPort.reset ∧ (s.port p).pd.ams.own = false ∧ (s.port p).pd.epr = true ∧ s.engineClk
    = true ∧ (s.port p).pd.bist = 0) ∧
  (∃ (s : State) (p : PortId) (id : BitVec 3),
    s.pdLive p = true ∧ s.sys.pwr = .run ∧ (s.port p).pd.tx = none ∧ (s.port p).pd.rxId ≠ some id ∧ (s.port p).pd.txRev = 2
    ∧ (s.port p).pd.sinkTxWait = false ∧ isE p = true ∧ (s.port p).pd.contract = .explicit ∧ (s.port p).tc.state =
    .attachedSrc ∧ (s.port p).swap = SwapPort.reset ∧ (s.port p).pd.ams.own = false ∧ (s.port p).pd.epr = false ∧ 45 ≤
    s.grantOf p ∧ s.engineClk = true ∧ (s.port p).pd.bist = 0) ∧
  (∃ (s : State) (p : PortId) (id : BitVec 3),
    s.pdLive p = true ∧ s.sys.pwr = .run ∧ (s.port p).pd.tx = none ∧ (s.port p).pd.rxId ≠ some id ∧ (s.port p).pd.txRev = 2
    ∧ (s.port p).pd.sinkTxWait = false ∧ isE p = true ∧ (s.port p).pd.contract = .explicit ∧ (s.port p).tc.state =
    .attachedSnk ∧ (s.port p).pd.epr = true ∧ (s.port p).pd.trig = []) ∧
  (∃ (s : State) (p : PortId) (id : BitVec 3),
    s.pdLive p = true ∧ s.sys.pwr = .run ∧ (s.port p).pd.tx = none ∧ (s.port p).pd.rxId ≠ some id ∧ (s.port p).pd.txRev = 2
    ∧ (s.port p).pd.sinkTxWait = false ∧ isE p = true ∧ (s.port p).pd.contract = .explicit ∧ (s.port p).tc.state =
    .attachedSrc ∧ (s.port p).pd.epr = true) ∧
  (∃ (s : State) (p : PortId) (id : BitVec 3),
    s.pdLive p = true ∧ s.sys.pwr = .run ∧ (s.port p).pd.tx = none ∧ (s.port p).pd.rxId ≠ some id ∧ (s.port p).pd.txRev = 2
    ∧ (s.port p).pd.sinkTxWait = false ∧ isE p = true ∧ (s.port p).pd.contract = .explicit ∧ (s.port p).tc.state =
    .attachedSnk ∧ (s.port p).pd.ams = .eprEntry) :=
  ⟨⟨(let p : PortId := 0; let s : State := State.reset; (sink (running s) p).modPd p fun d => { d with ams := .eprEntry }), 0, 0, by decide +kernel⟩,
   ⟨(let p : PortId := 0; let s : State := State.reset; (sink (running s) p).modPd p fun d => { d with epr := true, terms := ⟨0, 4, 2000, 300, false⟩ }), 0, 0, by decide +kernel⟩,
   ⟨(let p : PortId := 0; let s : State := State.reset; (source (running s) p).modPd p fun d => { d with epr := true }), 0, 0, by decide +kernel⟩,
   ⟨(let p : PortId := 0; let s : State := State.reset; (ledgerUp (source (running s) p)).modLg p fun l => { l with grant := 45 }), 0, 0, by decide +kernel⟩,
   ⟨(let p : PortId := 0; let s : State := State.reset; (sink (running s) p).modPd p fun d => { d with epr := true }), 0, 0, by decide +kernel⟩,
   ⟨(let p : PortId := 0; let s : State := State.reset; (source (running s) p).modPd p fun d => { d with epr := true }), 0, 0, by decide +kernel⟩,
   ⟨(let p : PortId := 0; let s : State := State.reset; (sink (running s) p).modPd p fun d => { d with ams := .eprEntry }), 0, 0, by decide +kernel⟩⟩

/-- States and operands that meet the hypotheses of each clause of ChunksAndAuthentication. -/
theorem witness_ChunksAndAuthentication :
  (∃ (s : State) (p : PortId) (id : BitVec 3),
    s.pdLive p = true ∧ s.sys.pwr = .run ∧ (s.port p).pd.tx = none ∧ (s.port p).pd.rxId ≠ some id ∧ (s.port p).pd.txRev = 2
    ∧ (s.port p).swap = SwapPort.reset ∧ (s.port p).pd.ams.own = false ∧ (s.port p).pd.contract ≠ .transition ∧ (s.port
    p).pd.chunk = none ∧ (s.port p).pd.auth = none ∧ s.engineClk = true ∧ (s.port p).pd.bist = 0) ∧
  (∃ (s : State) (p : PortId) (id : BitVec 3) (b : List Byte),
    s.pdLive p = true ∧ s.sys.pwr = .run ∧ (s.port p).pd.tx = none ∧ (s.port p).pd.rxId ≠ some id ∧ (s.port p).pd.txRev = 2
    ∧ (s.port p).pd.ams.own = false ∧ (s.port p).pd.chunk = some (b, 1, true) ∧ 52 < b.length ∧ s.engineClk = true ∧ (s.port
    p).pd.bist = 0) ∧
  (∃ (s : State) (p : PortId) (id : BitVec 3) (b : List Byte),
    s.pdLive p = true ∧ s.sys.pwr = .run ∧ (s.port p).pd.tx = none ∧ (s.port p).pd.rxId ≠ some id ∧ (s.port p).pd.txRev = 2
    ∧ (s.port p).pd.chunk = some (b, 1, true)) ∧
  (∃ (s : State) (p : PortId) (id : BitVec 3) (q : List Byte),
    s.pdLive p = true ∧ (s.port p).tc.state = .attachedSrc ∧ s.sys.pwr = .run ∧ (s.port p).pd.tx = none ∧ (s.port
    p).pd.txRev = 2 ∧ (s.port p).swap = SwapPort.reset ∧ (s.port p).pd.ams.own = false ∧ (s.port p).pd.contract ≠
    .transition ∧ (s.port p).pd.rxId ≠ some id ∧ s.authen = true ∧ q.length ≤ 260 ∧ (s.port p).pd.auth = none ∧ (s.port
    p).pd.chunk = none ∧ s.engineClk = true ∧ (s.port p).pd.bist = 0) ∧
  (∃ (s : State) (p : PortId) (id : BitVec 3) (q : List Byte) (r : List Byte),
    s.pdLive p = true ∧ (s.port p).tc.state = .attachedSrc ∧ s.sys.pwr = .run ∧ (s.port p).pd.tx = none ∧ (s.port
    p).pd.txRev = 2 ∧ (s.port p).swap = SwapPort.reset ∧ (s.port p).pd.ams.own = false ∧ (s.port p).pd.contract ≠
    .transition ∧ (s.port p).pd.rxId ≠ some id ∧ s.authen = true ∧ q.length ≤ 260 ∧ (s.port p).pd.auth = some r ∧ (s.port
    p).pd.chunk = none ∧ s.engineClk = true ∧ (s.port p).pd.bist = 0) ∧
  (∃ (s : State) (p : PortId) (q : List Byte),
    s.pdLive p = true ∧ (s.port p).tc.state = .attachedSrc ∧ s.sys.pwr = .run ∧ (s.port p).pd.tx = none ∧ (s.port
    p).pd.txRev = 2 ∧ (s.port p).pd.auth = some q ∧ s.sys.vaultReady = false) :=
  ⟨⟨(let p : PortId := 0; let d : List Byte := List.replicate 26 0; let s : State := State.reset; (source (running s) p).modPd p fun d => { d with auth := none }), 0, 0, by decide +kernel⟩,
   ⟨(let p : PortId := 0; let b : List Byte := List.replicate 53 7; let s : State := State.reset; (source (running s) p).modPd p fun d => { d with chunk := some (b, 1, true) }), 0, 0, List.replicate 53 7, by decide +kernel⟩,
   ⟨(let p : PortId := 0; let b : List Byte := []; let s : State := State.reset; (source (running s) p).modPd p fun d => { d with chunk := some (b, 1, true) }), 0, 0, [], by decide +kernel⟩,
   ⟨(let p : PortId := 0; let s : State := State.reset; (source (running s) p).modPd p fun d => { d with auth := none }), 0, 0, [0x10, 0x81, 0, 0], by decide +kernel⟩,
   ⟨(let p : PortId := 0; let r : List Byte := [0x10]; let s : State := State.reset; (source (running s) p).modPd p fun d => { d with auth := some r, ams := .partner }), 0, 0, [0x10], [0x10], by decide +kernel⟩,
   ⟨(let p : PortId := 0; let q : List Byte := [0x10]; let s : State := State.reset; ({ (source (running s) p).modPd p fun d => { d with auth := some q } with sys.vaultReady := false } : State)), 0, [0x10], by decide +kernel⟩⟩

/-- States and operands that meet the hypotheses of each clause of SwapsAreServed. -/
theorem witness_SwapsAreServed :
  (∃ (s : State) (p : PortId) (id : BitVec 3),
    s.pdLive p = true ∧ s.sys.pwr = .run ∧ (s.port p).pd.tx = none ∧ (s.port p).pd.rxId ≠ some id ∧ (s.port p).pd.txRev = 2
    ∧ (s.port p).swap = SwapPort.reset ∧ (s.port p).pd.ams.own = false ∧ (s.port p).pd.contract = .explicit ∧ (s.port
    p).tc.state = .attachedSnk ∧ s.bridged p = false ∧ s.ledger.ready = true ∧ (cfgPrSwap (s.port p).cfg).testBit 0 = true ∧
    s.engineClk = true ∧ (s.port p).pd.bist = 0) ∧
  (∃ (s : State) (p : PortId) (id : BitVec 3),
    s.pdLive p = true ∧ s.sys.pwr = .run ∧ (s.port p).pd.tx = none ∧ (s.port p).pd.rxId ≠ some id ∧ (s.port p).pd.txRev = 2
    ∧ (s.port p).swap = SwapPort.reset ∧ (s.port p).pd.ams.own = false ∧ (s.port p).pd.contract = .explicit ∧ (s.port
    p).tc.state = .attachedSnk ∧ s.bridged p = false ∧ s.ledger.ready = true ∧ (cfgPrSwap (s.port p).cfg).testBit 0 = false
    ∧ s.engineClk = true ∧ (s.port p).pd.bist = 0) ∧
  (∃ (s : State) (p : PortId) (id : BitVec 3),
    s.pdLive p = true ∧ s.sys.pwr = .run ∧ (s.port p).pd.tx = none ∧ (s.port p).pd.rxId ≠ some id ∧ (s.port p).pd.txRev = 2
    ∧ (s.port p).swap = SwapPort.reset ∧ (s.port p).pd.ams.own = false ∧ (s.port p).pd.contract = .explicit ∧ (s.port
    p).tc.state = .attachedSnk ∧ s.bridged p = false ∧ s.ledger.ready = false ∧ s.engineClk = true ∧ (s.port p).pd.bist = 0) ∧
  (∃ (s : State) (p : PortId) (id : BitVec 3),
    s.pdLive p = true ∧ s.sys.pwr = .run ∧ (s.port p).pd.tx = none ∧ (s.port p).pd.rxId ≠ some id ∧ (s.port p).pd.txRev = 2
    ∧ (s.port p).swap = SwapPort.reset ∧ (s.port p).pd.ams.own = false ∧ (s.port p).pd.contract = .explicit ∧ s.bridged p =
    true ∧ s.engineClk = true ∧ (s.port p).pd.bist = 0) ∧
  (∃ (s : State) (p : PortId) (id : BitVec 3),
    s.pdLive p = true ∧ s.sys.pwr = .run ∧ (s.port p).pd.tx = none ∧ (s.port p).pd.rxId ≠ some id ∧ (s.port p).pd.txRev = 2
    ∧ (s.port p).swap = SwapPort.reset ∧ (s.port p).pd.ams.own = false ∧ (s.port p).pd.contract = .explicit ∧ (s.port
    p).tc.state = .attachedSrc ∧ (s.port p).lm.mode = false ∧ (cfgDrSwap (s.port p).cfg).testBit (if (s.port p).tc.dfp then
    1 else 0) = true ∧ s.engineClk = true ∧ (s.port p).pd.bist = 0) ∧
  (∃ (s : State) (p : PortId) (id : BitVec 3),
    s.pdLive p = true ∧ s.sys.pwr = .run ∧ (s.port p).pd.tx = none ∧ (s.port p).pd.rxId ≠ some id ∧ (s.port p).pd.txRev = 2
    ∧ (s.port p).swap = SwapPort.reset ∧ (s.port p).pd.ams.own = false ∧ (s.port p).pd.contract = .explicit ∧ (s.port
    p).tc.state = .attachedSnk ∧ isE p = true ∧ (s.port p).tc.vconnOn = false ∧ s.vconnOk p = true ∧ cfgVcSwap (s.port
    p).cfg = true ∧ s.engineClk = true ∧ (s.port p).pd.bist = 0) :=
  ⟨⟨(let p : PortId := 0; let s : State := State.reset; ({ ledgerUp ((sink (running s) p).modPort p fun x => { x with cfg := BitVec.allOnes 80 }) with ledger.bridges := [] } : State)), 0, 0, by decide +kernel⟩,
   ⟨(let p : PortId := 0; let s : State := State.reset; ({ ledgerUp ((sink (running s) p).modPort p fun x => { x with cfg := 0 }) with ledger.bridges := [] } : State)), 0, 0, by decide +kernel⟩,
   ⟨(let p : PortId := 0; let s : State := State.reset; ({ sink (running s) p with ledger.bridges := [], ledger.ready := false } : State)), 0, 0, by decide +kernel⟩,
   ⟨(let p : PortId := 0; let s : State := State.reset; ({ ledgerUp ((sink (running s) p).modPort p fun x => { x with cfg := BitVec.allOnes 80 }) with ledger.bridges := [⟨p, 9⟩] } : State)), 0, 0, by decide +kernel⟩,
   ⟨(let p : PortId := 0; let s : State := State.reset; ({ ledgerUp ((source (running s) p).modPort p fun x => { x with cfg := BitVec.allOnes 80 }) with ledger.bridges := [] } : State).modLm p fun l => { l with mode := false }), 0, 0, by decide +kernel⟩,
   ⟨(let p : PortId := 0; let s : State := State.reset; ({ (sink (running s) p).modPort p fun x => { x with cfg := BitVec.allOnes 80 } with ledger.bridges := [], sup.vconnin := .ok } : State).modTc p fun x => { x with vconnOn := false, vconnTrip := false, raSeen := true }), 0, 0, by decide +kernel⟩⟩

/-- States and operands that meet the hypotheses of each clause of SwapTimersAndFastRoleSwap. -/
theorem witness_SwapTimersAndFastRoleSwap :
  (∃ (s : State) (p : PortId),
    s.pdLive p = true ∧ s.sys.pwr = .run ∧ (s.port p).pd.tx = none ∧ (s.port p).tc.state = .attachedSnk ∧ (s.port
    p).swap.frArmed = true ∧ (s.port p).swap.stage = .none ∧ (s.port p).sw.st = .closed ∧ s.armed p = true ∧ s.paramOk p =
    true ∧ s.sup.vhb = .ok) ∧
  (∃ (s : State) (p : PortId) (id : BitVec 3),
    s.pdLive p = true ∧ s.sys.pwr = .run ∧ (s.port p).pd.tx = none ∧ (s.port p).tc.state = .attachedSrc ∧ (s.port p).pd.rxId
    ≠ some id ∧ (s.port p).pd.txRev = 2 ∧ (s.port p).pd.ams ≠ .softReset ∧ (s.port p).pd.txQ = [] ∧ (s.port p).swap.kind =
    .fr ∧ (s.port p).swap.stage = .standby ∧ (s.port p).swap.toSrc = false ∧ s.engineClk = true ∧ (s.port p).pd.bist = 0) ∧
  (∃ (s : State) (p : PortId),
    s.pdLive p = true ∧ s.sys.pwr = .run ∧ (s.port p).pd.tx = none ∧ (s.port p).tc.state = .attachedSrc ∧ (s.port
    p).swap.kind = .pr ∧ (s.port p).swap.stage = .psRdy) ∧
  (∃ (s : State) (p : PortId),
    s.pdLive p = true ∧ s.sys.pwr = .run ∧ (s.port p).pd.tx = none ∧ (s.port p).tc.state = .attachedSrc ∧ (s.port p).pd.epr
    = false ∧ (s.port p).swap.kind = .vconn ∧ (s.port p).swap.stage = .psRdy) ∧
  (∃ (s : State) (p : PortId),
    s.pdLive p = true ∧ s.sys.pwr = .run ∧ (s.port p).pd.tx = none ∧ (s.port p).tc.state = .attachedSrc ∧ (s.port
    p).pd.startDue = true ∧ (s.port p).pd.trig = [] ∧ (s.port p).pd.sinkTxWait = false) :=
  ⟨⟨(let p : PortId := 0; let s : State := State.reset; (({ gates (params (sink (running s) p) p) with sup.vhb := .ok }).modSwap p fun w => { w with frArmed := true }).modSw p fun w => { w with st := .closed }), 0, by decide +kernel⟩,
   ⟨(let p : PortId := 0; let s : State := State.reset; (source (running s) p).modSwap p fun w => { w with kind := .fr, stage := .standby, toSrc := false }), 0, 0, by decide +kernel⟩,
   ⟨(let p : PortId := 0; let s : State := State.reset; (source (running s) p).modSwap p fun w => { w with kind := .pr, stage := .psRdy }), 0, by decide +kernel⟩,
   ⟨(let p : PortId := 0; let s : State := State.reset; (source (running s) p).modSwap p fun w => { w with kind := .vconn, stage := .psRdy }), 0, by decide +kernel⟩,
   ⟨(let p : PortId := 0; let s : State := State.reset; (source (running s) p).modPd p fun d => { d with startDue := true }), 0, by decide +kernel⟩⟩

/-- States and operands that meet the hypotheses of each clause of DiscoveryVdmsAreAnswered. -/
theorem witness_DiscoveryVdmsAreAnswered :
  (∃ (s : State) (p : PortId) (id : BitVec 3),
    s.pdLive p = true ∧ s.sys.pwr = .run ∧ (s.port p).pd.tx = none ∧ (s.port p).pd.rxId ≠ some id ∧ (s.port p).pd.txRev = 2
    ∧ s.ledgermodeen = true ∧ (s.port p).swap = SwapPort.reset ∧ (s.port p).pd.ams.own = false ∧ (s.port p).pd.contract ≠
    .transition ∧ s.engineClk = true ∧ (s.port p).pd.bist = 0) ∧
  (∃ (s : State) (p : PortId) (id : BitVec 3),
    s.pdLive p = true ∧ s.sys.pwr = .run ∧ (s.port p).pd.tx = none ∧ (s.port p).pd.rxId ≠ some id ∧ (s.port p).pd.txRev = 2
    ∧ s.ledgermodeen = true ∧ (s.port p).swap = SwapPort.reset ∧ (s.port p).pd.ams.own = false ∧ (s.port p).pd.contract ≠
    .transition ∧ s.engineClk = true ∧ (s.port p).pd.bist = 0) ∧
  (∃ (s : State) (p : PortId) (id : BitVec 3),
    s.pdLive p = true ∧ s.sys.pwr = .run ∧ (s.port p).pd.tx = none ∧ (s.port p).pd.rxId ≠ some id ∧ (s.port p).pd.txRev = 2
    ∧ s.ledgermodeen = true ∧ (s.port p).swap = SwapPort.reset ∧ (s.port p).pd.ams.own = false ∧ (s.port p).pd.contract ≠
    .transition ∧ s.engineClk = true ∧ (s.port p).pd.bist = 0) ∧
  (∃ (s : State) (p : PortId) (id : BitVec 3),
    s.pdLive p = true ∧ s.sys.pwr = .run ∧ (s.port p).pd.tx = none ∧ (s.port p).pd.rxId ≠ some id ∧ (s.port p).pd.txRev = 2
    ∧ s.ledgermodeen = true ∧ (s.port p).swap = SwapPort.reset ∧ (s.port p).pd.ams.own = false ∧ (s.port p).pd.contract ≠
    .transition ∧ s.mayEnter p = true ∧ s.engineClk = true ∧ (s.port p).pd.bist = 0) ∧
  (∃ (s : State) (p : PortId) (id : BitVec 3),
    s.pdLive p = true ∧ s.sys.pwr = .run ∧ (s.port p).pd.tx = none ∧ (s.port p).pd.rxId ≠ some id ∧ (s.port p).pd.txRev = 2
    ∧ s.ledgermodeen = true ∧ (s.port p).swap = SwapPort.reset ∧ (s.port p).pd.ams.own = false ∧ (s.port p).pd.contract ≠
    .transition ∧ (s.port p).lm.mode = true ∧ s.engineClk = true ∧ (s.port p).pd.bist = 0) ∧
  (∃ (s : State) (p : PortId) (id : BitVec 3),
    s.pdLive p = true ∧ s.sys.pwr = .run ∧ (s.port p).pd.tx = none ∧ (s.port p).pd.rxId ≠ some id ∧ (s.port p).pd.txRev = 2
    ∧ s.ledgermodeen = true ∧ (s.port p).swap = SwapPort.reset ∧ (s.port p).pd.ams.own = false ∧ (s.port p).pd.contract ≠
    .transition ∧ s.engineClk = true ∧ (s.port p).pd.bist = 0) ∧
  (∃ (s : State) (p : PortId) (id : BitVec 3),
    s.pdLive p = true ∧ s.sys.pwr = .run ∧ (s.port p).pd.tx = none ∧ (s.port p).pd.rxId ≠ some id ∧ (s.port p).pd.txRev = 2
    ∧ s.ledgermodeen = true ∧ (s.port p).swap = SwapPort.reset ∧ (s.port p).pd.ams.own = false ∧ (s.port p).pd.contract ≠
    .transition ∧ s.engineClk = true ∧ (s.port p).pd.bist = 0) :=
  ⟨⟨(let p : PortId := 0; let s : State := State.reset; source (running s) p), 0, 0, by decide +kernel⟩,
   ⟨(let p : PortId := 0; let s : State := State.reset; source (running s) p), 0, 0, by decide +kernel⟩,
   ⟨(let p : PortId := 0; let s : State := State.reset; source (running s) p), 0, 0, by decide +kernel⟩,
   ⟨(let p : PortId := 0; let s : State := State.reset; ((source (running s) p).modPort p fun x => { x with cfg := BitVec.allOnes 80 }).modTc p fun x => { x with dfp := false }), 0, 0, by decide +kernel⟩,
   ⟨(let p : PortId := 0; let s : State := State.reset; (source (running s) p).modLm p fun l => { l with mode := true }), 0, 0, by decide +kernel⟩,
   ⟨(let p : PortId := 0; let s : State := State.reset; source (running s) p), 0, 0, by decide +kernel⟩,
   ⟨(let p : PortId := 0; let s : State := State.reset; source (running s) p), 0, 0, by decide +kernel⟩⟩

/-- States and operands that meet the hypotheses of each clause of LedgerModeCommandsAreAnswered. -/
theorem witness_LedgerModeCommandsAreAnswered :
  (∃ (s : State) (p : PortId) (id : BitVec 3),
    s.pdLive p = true ∧ (s.port p).tc.state = .attachedSrc ∧ s.sys.pwr = .run ∧ (s.port p).pd.tx = none ∧ (s.port p).pd.rxId
    ≠ some id ∧ (s.port p).pd.txRev = 2 ∧ (s.port p).lm.mode = true ∧ (s.port p).swap = SwapPort.reset ∧ (s.port
    p).pd.ams.own = false ∧ (s.port p).pd.contract ≠ .transition ∧ s.engineClk = true ∧ (s.port p).pd.bist = 0) ∧
  (∃ (s : State) (p : PortId) (id : BitVec 3),
    s.pdLive p = true ∧ (s.port p).tc.state = .attachedSrc ∧ s.sys.pwr = .run ∧ (s.port p).pd.tx = none ∧ (s.port p).pd.rxId
    ≠ some id ∧ (s.port p).pd.txRev = 2 ∧ (s.port p).lm.mode = true ∧ (s.port p).swap = SwapPort.reset ∧ (s.port
    p).pd.ams.own = false ∧ (s.port p).pd.contract ≠ .transition ∧ (s.port p).lm.verOk = true ∧ (s.port p).lm.grantor = true
    ∧ s.engineClk = true ∧ (s.port p).pd.bist = 0) ∧
  (∃ (s : State) (p : PortId) (id : BitVec 3),
    s.pdLive p = true ∧ (s.port p).tc.state = .attachedSrc ∧ s.sys.pwr = .run ∧ (s.port p).pd.tx = none ∧ (s.port p).pd.rxId
    ≠ some id ∧ (s.port p).pd.txRev = 2 ∧ (s.port p).lm.mode = true ∧ (s.port p).swap = SwapPort.reset ∧ (s.port
    p).pd.ams.own = false ∧ (s.port p).pd.contract ≠ .transition ∧ (s.port p).lm.verOk = true ∧ s.engineClk = true ∧ (s.port
    p).pd.bist = 0) ∧
  (∃ (s : State) (p : PortId) (id : BitVec 3),
    s.pdLive p = true ∧ (s.port p).tc.state = .attachedSrc ∧ s.sys.pwr = .run ∧ (s.port p).pd.tx = none ∧ (s.port p).pd.rxId
    ≠ some id ∧ (s.port p).pd.txRev = 2 ∧ (s.port p).lm.mode = true ∧ (s.port p).swap = SwapPort.reset ∧ (s.port
    p).pd.ams.own = false ∧ (s.port p).pd.contract ≠ .transition ∧ (s.port p).lm.verOk = true ∧ s.ledger.ready = true ∧
    (s.port p).lg.grant = 45 ∧ s.engineClk = true ∧ (s.port p).pd.bist = 0) ∧
  (∃ (s : State) (p : PortId) (id : BitVec 3),
    s.pdLive p = true ∧ (s.port p).tc.state = .attachedSrc ∧ s.sys.pwr = .run ∧ (s.port p).pd.tx = none ∧ (s.port p).pd.rxId
    ≠ some id ∧ (s.port p).pd.txRev = 2 ∧ (s.port p).lm.mode = true ∧ (s.port p).swap = SwapPort.reset ∧ (s.port
    p).pd.ams.own = false ∧ (s.port p).pd.contract ≠ .transition ∧ (s.port p).lm.verOk = false ∧ s.engineClk = true ∧
    (s.port p).pd.bist = 0) ∧
  (∃ (s : State) (p : PortId) (id : BitVec 3),
    s.pdLive p = true ∧ (s.port p).tc.state = .attachedSrc ∧ s.sys.pwr = .run ∧ (s.port p).pd.tx = none ∧ (s.port p).pd.rxId
    ≠ some id ∧ (s.port p).pd.txRev = 2 ∧ (s.port p).lm.mode = true ∧ (s.port p).swap = SwapPort.reset ∧ (s.port
    p).pd.ams.own = false ∧ (s.port p).pd.contract ≠ .transition ∧ (s.port p).lm.verOk = true ∧ s.engineClk = true ∧ (s.port
    p).pd.bist = 0) ∧
  (∃ (s : State) (p : PortId) (id : BitVec 3),
    s.pdLive p = true ∧ (s.port p).tc.state = .attachedSrc ∧ s.sys.pwr = .run ∧ (s.port p).pd.tx = none ∧ (s.port p).pd.rxId
    ≠ some id ∧ (s.port p).pd.txRev = 2 ∧ (s.port p).lm.mode = true ∧ (s.port p).swap = SwapPort.reset ∧ (s.port
    p).pd.ams.own = false ∧ (s.port p).pd.contract ≠ .transition ∧ (s.port p).lm.verOk = true ∧ s.engineClk = true ∧ (s.port
    p).pd.bist = 0) :=
  ⟨⟨(let p : PortId := 0; let s : State := State.reset; (source (running s) p).modLm p fun l => { l with mode := true, verOk := true, grantor := true, muted := false, waiting := false, last := none }), 0, 0, by decide +kernel⟩,
   ⟨(let p : PortId := 0; let s : State := State.reset; (source (running s) p).modLm p fun l => { l with mode := true, verOk := true, grantor := true, muted := false, waiting := false, last := none }), 0, 0, by decide +kernel⟩,
   ⟨(let p : PortId := 0; let s : State := State.reset; (source (running s) p).modLm p fun l => { l with mode := true, verOk := true, grantor := true, muted := false, waiting := false, last := none }), 0, 0, by decide +kernel⟩,
   ⟨(let p : PortId := 0; let s : State := State.reset; (ledgerUp ((source (running s) p).modLm p fun l => { l with mode := true, verOk := true, grantor := true, muted := false, waiting := false, last := none })).modLg p fun l => { l with grant := 45 }), 0, 0, by decide +kernel⟩,
   ⟨(let p : PortId := 0; let s : State := State.reset; (source (running s) p).modLm p fun l => { l with mode := true, verOk := false }), 0, 0, by decide +kernel⟩,
   ⟨(let p : PortId := 0; let s : State := State.reset; (source (running s) p).modLm p fun l => { l with mode := true, verOk := true, grantor := true, muted := false, waiting := false, last := none }), 0, 0, by decide +kernel⟩,
   ⟨(let p : PortId := 0; let s : State := State.reset; (source (running s) p).modLm p fun l => { l with mode := true, verOk := true, grantor := true, muted := false, waiting := false, last := none }), 0, 0, by decide +kernel⟩⟩

/-- States and operands that meet the hypotheses of each clause of LedgerModeTimersAndAnswers. -/
theorem witness_LedgerModeTimersAndAnswers :
  (∃ (s : State) (p : PortId),
    s.pdLive p = true ∧ s.sys.pwr = .run ∧ (s.port p).pd.tx = none ∧ (s.port p).pd.sinkTxWait = false ∧ (s.port p).lm.mode =
    true ∧ (s.port p).lm.verOk = false ∧ (s.port p).tc.dfp = false ∧ (s.port p).pd.trig = []) ∧
  (∃ (s : State) (p : PortId),
    s.pdLive p = true ∧ s.sys.pwr = .run ∧ (s.port p).pd.tx = none ∧ (s.port p).pd.sinkTxWait = false ∧ s.noticeDue p = true
    ∧ (s.port p).pd.trig = []) ∧
  (∃ (s : State) (p : PortId) (id : BitVec 3),
    s.pdLive p = true ∧ s.sys.pwr = .run ∧ (s.port p).pd.tx = none ∧ (s.port p).pd.sinkTxWait = false ∧ (s.port p).tc.state
    = .attachedSrc ∧ (s.port p).pd.rxId ≠ some id ∧ (s.port p).pd.ams = .notice ∧ s.engineClk = true ∧ (s.port p).pd.bist =
    0) ∧
  (∃ (s : State) (p : PortId) (v : List Word),
    s.pdLive p = true ∧ s.sys.pwr = .run ∧ (s.port p).pd.tx = none ∧ (s.port p).pd.sinkTxWait = false ∧ (s.port p).pd.ams =
    .vdm ∧ (s.port p).lm.run = some ⟨0, .sop, v, 0, true, 0⟩) ∧
  (∃ (s : State) (p : PortId) (id : BitVec 3),
    s.pdLive p = true ∧ s.sys.pwr = .run ∧ (s.port p).pd.tx = none ∧ (s.port p).pd.sinkTxWait = false ∧ (s.port p).tc.state
    = .attachedSrc ∧ (s.port p).pd.rxId ≠ some id ∧ (s.port p).pd.ams = .vdm ∧ (s.port p).lm.run = some ⟨0, .sop,
    [0xFF00A801], 0, true, 0⟩ ∧ s.engineClk = true ∧ (s.port p).pd.bist = 0) ∧
  (∃ (s : State) (p : PortId),
    s.pdLive p = true ∧ s.sys.pwr = .run ∧ (s.port p).pd.tx = none ∧ (s.port p).pd.sinkTxWait = false ∧ (s.port p).pd.ams =
    .exitMode) :=
  ⟨⟨(let p : PortId := 0; let s : State := State.reset; ((source (running s) p).modLm p fun l => { l with mode := true, verOk := false }).modTc p fun x => { x with dfp := false }), 0, by decide +kernel⟩,
   ⟨(let p : PortId := 0; let s : State := State.reset; (source (running s) p).modLm p fun l => { l with mode := true, verOk := true, grantor := true, muted := false, waiting := false, last := none }), 0, by decide +kernel⟩,
   ⟨(let p : PortId := 0; let s : State := State.reset; ((source (running s) p).modPd p fun d => { d with ams := .notice }).modLm p fun l => { l with waiting := true, noAckRun := 2 }), 0, 0, by decide +kernel⟩,
   ⟨(let p : PortId := 0; let v : List Word := [0xFF008001]; let s : State := State.reset; ((source (running s) p).modPd p fun d => { d with ams := .vdm }).modLm p fun l => { l with run := some ⟨0, .sop, v, 0, true, 0⟩ }), 0, [0xFF008001], by decide +kernel⟩,
   ⟨(let p : PortId := 0; let s : State := State.reset; ((source (running s) p).modPd p fun d => { d with ams := .vdm }).modLm p fun l => { l with run := some ⟨0, .sop, [0xFF00A801], 0, true, 0⟩ }), 0, 0, by decide +kernel⟩,
   ⟨(let p : PortId := 0; let s : State := State.reset; ((source (running s) p).modPd p fun d => { d with ams := .exitMode }).modLm p fun l => { l with mode := true, verOk := true }), 0, by decide +kernel⟩⟩

/-- States and operands that meet the hypotheses of each clause of SupplyExcursionsAreActedOn. -/
theorem witness_SupplyExcursionsAreActedOn :
  (∃ (s : State),
    s.coreOn = true ∧ s.safeOn 4 = true ∧ s.sbox.queue.length < 32 ∧ s.sys.pwr = .run ∧ s.sup.vio = .ok) ∧
  (∃ (s : State),
    s.coreOn = true ∧ s.safeOn 4 = true ∧ s.sbox.queue.length < 32 ∧ s.sys.pwr = .run ∧ s.sup.vconnin = .ok) ∧
  (∃ (s : State),
    s.coreOn = true ∧ s.safeOn 4 = true ∧ s.sbox.queue.length < 32 ∧ s.sys.pwr = .run ∧ s.sup.vbat = .ok ∧ s.sup.vmain = .ok
    ∧ s.sup.vdaon = .ok) ∧
  (∃ (s : State),
    s.coreOn = true ∧ s.safeOn 4 = true ∧ s.sbox.queue.length < 32 ∧ s.sys.pwr = .run ∧ s.sup.vpp = .ok) ∧
  (∃ (s : State),
    s.coreOn = true ∧ s.safeOn 4 = true ∧ s.sbox.queue.length < 32 ∧ s.sys.pwr = .run ∧ s.sup.vdrvB = .ok) ∧
  (∃ (s : State),
    s.coreOn = true ∧ s.safeOn 4 = true ∧ s.sbox.queue.length < 32 ∧ s.sys.pwr = .run ∧ s.sup.vdrvA = .ok ∧ s.sup.waitA =
    true) :=
  ⟨⟨(let s : State := State.reset; { ((gates (quiet (running s)))) with sup.vio := .ok }), by decide +kernel⟩,
   ⟨(let s : State := State.reset; { ((gates (quiet (running s)))) with sup.vconnin := .ok }), by decide +kernel⟩,
   ⟨(let s : State := State.reset; { ((gates (quiet (running s)))) with sup.vbat := .ok, sup.vmain := .ok, sup.vdaon := .ok }), by decide +kernel⟩,
   ⟨(let s : State := State.reset; { ((gates (quiet (running s)))) with sup.vpp := .ok }), by decide +kernel⟩,
   ⟨(let s : State := State.reset; { ((gates (quiet (running s)))) with sup.vdrvB := .ok }), by decide +kernel⟩,
   ⟨(let p : PortId := 15; let s : State := State.reset; { sink ((gates (quiet (running s)))) p with sup.vdrvA := .ok, sup.waitA := true }), by decide +kernel⟩⟩

/-- States and operands that meet the hypotheses of each clause of LosingVmainOrTheCoreEntersOff. -/
theorem witness_LosingVmainOrTheCoreEntersOff :
  (∃ (s : State),
    s.sys.pwr = .run ∧ s.sup.vmain = .ok ∧ s.safeOn 4 = true ∧ s.sup.vbat = .ok ∧ s.sup.vdaon = .ok) ∧
  (∃ (s : State),
    s.sys.pwr = .run ∧ s.sup.vdcore = .ok ∧ s.sup.vmain = .ok ∧ s.sup.vdaon = .ok) ∧
  (∃ (s : State),
    s.sys.pwr = .run ∧ s.sup.vdaon = .ok ∧ s.sys.resetLow = false ∧ s.sbox.queue.length < 32) ∧
  (∃ (s : State),
    s.sys.pwr = .run ∧ s.onStart = false) ∧
  (∃ (s : State),
    s.sys.pwr = .run ∧ s.fuse.run = none) ∧
  (∃ (s : State) (r : FuseRun),
    s.sys.pwr = .run ∧ s.fuse.run = some r) :=
  ⟨⟨(let s : State := State.reset; { ((gates (quiet (running s)))) with sup.vmain := .ok, sup.vbat := .ok, sup.vdaon := .ok }), by decide +kernel⟩,
   ⟨(let s : State := State.reset; { ((gates (quiet (running s)))) with sup.vdcore := .ok, sup.vmain := .ok, sup.vdaon := .ok }), by decide +kernel⟩,
   ⟨(let s : State := State.reset; { ((gates (quiet (running s)))) with sup.vdaon := .ok }), by decide +kernel⟩,
   ⟨(let s : State := State.reset; { ((gates (quiet (running s)))) with sup.vmain := .below }), by decide +kernel⟩,
   ⟨(let s : State := State.reset; { ((gates (quiet (running s)))) with sup.vpp := .below, fuse.run := none }), by decide +kernel⟩,
   ⟨(let r : FuseRun := ⟨cmdPacket ⟨0, 7, 0xFF, 1⟩ 0x69 [], false, 0, 1⟩; let s : State := State.reset; { ((gates (quiet (running s)))) with sup.vpp := .below, fuse.run := some r }), ⟨cmdPacket ⟨0, 7, 0xFF, 1⟩ 0x69 [], false, 0, 1⟩, by decide +kernel⟩⟩

/-- States and operands that meet the hypotheses of each clause of HouseBusExcursions. -/
theorem witness_HouseBusExcursions :
  (∃ (s : State),
    s.sys.pwr = .run ∧ s.sys.resetLow = false ∧ s.sup.vhb = .ok ∧ s.safeOn 4 = true ∧ s.sbox.queue.length < 32 ∧
    s.ledger.armed = false) ∧
  (∃ (s : State) (p : PortId),
    s.sys.pwr = .run ∧ s.sys.resetLow = false ∧ s.sup.vhb = .above ∧ (s.port p).cv.stopped = 1 ∧ (s.port p).cv.dir = 0 ∧
    s.armed p = true ∧ s.paramOk p = true) ∧
  (∃ (s : State) (p : PortId),
    s.sys.pwr = .run ∧ s.sys.resetLow = false ∧ s.sup.vhb = .ok ∧ (s.port p).cv.stopped = 2 ∧ (s.port p).cv.dir = 0 ∧
    s.armed p = true ∧ s.paramOk p = true) ∧
  (∃ (s : State) (p : PortId),
    s.sys.pwr = .run ∧ s.sys.resetLow = false ∧ s.sup.vhb = .below ∧ s.portReady p = true ∧ (s.port p).tc.state =
    .attachedSrc ∧ (s.port p).swap.stage = .none) :=
  ⟨⟨(let p : PortId := 9; let s : State := State.reset; ({ ((gates (quiet (running s)))) with sup.vhb := .ok, ledger.armed := false } : State).modCv p fun c => { c with dir := 1 }), by decide +kernel⟩,
   ⟨(let p : PortId := 9; let s : State := State.reset; ({ params ((gates (quiet (running s)))) p with sup.vhb := .above } : State).modCv p fun c => { c with dir := 0, stopped := 1 }), 9, by decide +kernel⟩,
   ⟨(let p : PortId := 9; let s : State := State.reset; ({ params ((gates (quiet (running s)))) p with sup.vhb := .ok } : State).modCv p fun c => { c with dir := 0, stopped := 2 }), 9, by decide +kernel⟩,
   ⟨(let p : PortId := 9; let s : State := State.reset; ({ source ((gates (quiet (running s)))) p with sup.vhb := .below } : State)), 9, by decide +kernel⟩⟩

/-- States and operands that meet the hypotheses of each clause of PowerStatesAreEnteredAndLeft. -/
theorem witness_PowerStatesAreEnteredAndLeft :
  (∃ (s : State),
    s.sys.interp = true) ∧
  (∃ (s : State),
    s.sys.interp = true ∧ s.sys.pwr = .run ∧ s.sys.dozeEn = true ∧ s.sys.resetLow = false ∧ s.workless = true) ∧
  (∃ (s : State),
    s.sys.interp = true ∧ s.sys.pwr = .doze ∧ s.sleepOk = true) ∧
  (∃ (s : State),
    s.sys.interp = true ∧ s.sys.pwr = .sleep) ∧
  (∃ (s : State),
    s.sys.interp = true ∧ s.sys.pwr = .sleep) ∧
  (∃ (s : State) (p : PortId),
    s.sys.interp = true ∧ s.sys.pwr = .sleep ∧ s.portReady p = true) ∧
  (∃ (s : State),
    s.sys.interp = true ∧ s.sys.pwr = .sleep ∧ s.hostUp = true) ∧
  (∃ (s : State) (mv : Nat),
    s.sys.interp = true ∧ 2400 ≤ mv ∧ s.sys.vioHeld = false) ∧
  (∃ (s : State) (mv : Nat),
    s.sys.interp = true ∧ mv < 2400 ∧ s.sys.vioHeld = false) :=
  ⟨⟨(let s : State := State.reset; { ((gates (quiet (running s)))) with sys.interp := true }), by decide +kernel⟩,
   ⟨(let s : State := State.reset; ({ s with sys.interp := true, sys.dozeEn := true, sys.resetLow := false, mb := Mailbox.reset, sbox.queue := [], sys.pwr := .run } : State)), by decide +kernel⟩,
   ⟨(let s : State := State.reset; ({ ({ s with sys.interp := true, sys.dozeEn := true, sys.resetLow := false, mb := Mailbox.reset, sbox.queue := [], sys.pwr := .doze } : State) with sys.sleepEn := true, ports := State.reset.ports, fuse := State.reset.fuse, pbus := State.reset.pbus, tmrs := State.reset.tmrs, ring.enable := false } : State)), by decide +kernel⟩,
   ⟨(let s : State := State.reset; ({ s with sys.interp := true, sys.dozeEn := true, sys.resetLow := false, mb := Mailbox.reset, sbox.queue := [], sys.pwr := .sleep } : State)), by decide +kernel⟩,
   ⟨(let s : State := State.reset; ({ s with sys.interp := true, sys.dozeEn := true, sys.resetLow := false, mb := Mailbox.reset, sbox.queue := [], sys.pwr := .sleep } : State)), by decide +kernel⟩,
   ⟨(let p : PortId := 9; let s : State := State.reset; portUp ({ ((gates (quiet (running s)))) with sys := { (((gates (quiet (running s))))).sys with pwr := .sleep, interp := true } } : State) p), 9, by decide +kernel⟩,
   ⟨(let s : State := State.reset; ({ ((gates (quiet (running s)))) with sys := { (((gates (quiet (running s))))).sys with pwr := .sleep, interp := true }, sup.vio := .ok } : State)), by decide +kernel⟩,
   ⟨(let s : State := State.reset; { ({ s with sys.interp := true, sys.dozeEn := true, sys.resetLow := false, mb := Mailbox.reset, sbox.queue := [], sys.pwr := .run } : State) with sys.vioHeld := false }), 2400, by decide +kernel⟩,
   ⟨(let s : State := State.reset; { ({ s with sys.interp := true, sys.dozeEn := true, sys.resetLow := false, mb := Mailbox.reset, sbox.queue := [], sys.pwr := .run } : State) with sys.vioHeld := false }), 1800, by decide +kernel⟩⟩

/-- States and operands that meet the hypotheses of each clause of ClocksLostAndBack. -/
theorem witness_ClocksLostAndBack :
  (∃ (s : State),
    s.coreOn = true ∧ s.safeOn 3 = true ∧ s.sbox.queue.length < 32 ∧ s.clk.hfo = false ∧ s.sys.pwr = .run) ∧
  (∃ (s : State),
    s.coreOn = true ∧ s.safeOn 3 = true ∧ s.sbox.queue.length < 32 ∧ s.clk.pll = false) ∧
  (∃ (s : State),
    s.coreOn = true ∧ s.safeOn 3 = true ∧ s.sbox.queue.length < 32 ∧ s.clk.refclk = false ∧ s.ring.link = 2) ∧
  (∃ (s : State),
    s.coreOn = true ∧ s.safeOn 3 = true ∧ s.sbox.queue.length < 32 ∧ s.clk.lfoXtal = false ∧ s.custField 0x0C0 10 10 = 1) ∧
  (∃ (s : State),
    s.coreOn = true ∧ s.safeOn 3 = true ∧ s.sbox.queue.length < 32) ∧
  (∃ (s : State),
    s.coreOn = true ∧ s.safeOn 3 = true ∧ s.sbox.queue.length < 32) :=
  ⟨⟨(let s : State := State.reset; { ((gates (quiet (running s)))) with clk.hfo := false }), by decide +kernel⟩,
   ⟨(let s : State := State.reset; { ((gates (quiet (running s)))) with clk.pll := false }), by decide +kernel⟩,
   ⟨(let s : State := State.reset; { ((gates (quiet (running s)))) with clk.refclk := false, ring.link := 2 }), by decide +kernel⟩,
   ⟨(let s : State := State.reset; { ((gates (quiet (running s)))) with clk.lfoXtal := false, fuse := { State.reset.fuse with latched := [(769, 4)] } }), by decide +kernel⟩,
   ⟨(let s : State := State.reset; { ((gates (quiet (running s)))) with clk.hfo := true }), by decide +kernel⟩,
   ⟨(let s : State := State.reset; { ((gates (quiet (running s)))) with clk.pll := true }), by decide +kernel⟩⟩

set_option maxRecDepth 100000 in
/-- States and operands that meet the hypotheses of each clause of EmberStarts. -/
theorem witness_EmberStarts :
  (∃ (s : State),
    s.sys.pwr = .off ∧ s.sup.vmain = .below ∧ s.ember.stopped = false ∧ (s.sampleStraps).coreStart.startInput = true ∧
    s.ember.abandoned = 0 ∧ (s.sampleStraps).coreStart.emberForbidden = false ∧ 18000 ≤ s.sup.vhbMv ∧ s.vault.rng ≠ []) ∧
  (∃ (s : State) (p : PortId),
    s.sys.pwr = .off ∧ s.sup.vmain = .below ∧ s.ember.stopped = false ∧ (s.sampleStraps).coreStart.startInput = true ∧
    s.ember.abandoned = 0 ∧ (s.sampleStraps).coreStart.emberForbidden = false ∧ s.sup.vhbMv < 18000 ∧
    (s.sampleStraps).coreStart.donorOk p = true ∧ (∀ q, q.val < p.val → (s.sampleStraps).coreStart.donorOk q = false)) ∧
  (∃ (s : State),
    s.sys.pwr = .off ∧ s.sup.vmain = .below ∧ s.ember.stopped = false ∧ (s.sampleStraps).coreStart.startInput = true ∧
    s.ember.abandoned = 0 ∧ (s.sampleStraps).coreStart.emberForbidden = true ∧ s.sup.vbat = .ok ∧ s.sup.vdaon = .ok ∧
    s.vault.rng ≠ []) ∧
  (∃ (s : State),
    s.sys.pwr = .off ∧ s.sup.vmain = .below ∧ s.ember.stopped = false ∧ (s.sampleStraps).coreStart.startInput = true ∧
    s.ember.abandoned = 0 ∧ (s.sampleStraps).coreStart.emberForbidden = true ∧ s.sup.vbat = .below) ∧
  (∃ (s : State) (p : PortId),
    s.sys.pwr = .ember ∧ s.ember.step = 10 ∧ s.ember.donor = some p ∧ s.paramOk p = true ∧ s.armed p = true) ∧
  (∃ (s : State) (p : PortId),
    s.sys.pwr = .ember ∧ s.ember.step < 15 ∧ s.ember.donor = some p ∧ s.sup.vmain = .ok ∧ s.clk.refclk = false ∧ s.clk.pll =
    false) ∧
  (∃ (s : State),
    s.onStart = false ∧ s.sup.vbat = .ok ∧ s.sup.vdaon = .ok ∧ s.sup.vhbMv < 4000 ∧ (∀ q, (s.port q).tc.vbusMv < 4000)) ∧
  (∃ (s : State),
    s.sys.pwr = .ember ∧ s.ember.step < 15 ∧ s.sup.vmain = .below ∧ s.sup.vbat = .below ∧ s.sup.vhbMv < 4000 ∧ (∀ q, (s.port
    q).tc.vbusMv < 4000)) ∧
  (∃ (s : State) (p : PortId),
    s.sup.vmain = .below ∧ s.sys.pwr = .ember ∧ s.ember.donor = some p ∧ s.ember.step < 15 ∧ s.ember.abandoned = 0 ∧
    s.ember.excluded = [] ∧ s.sup.vdaon = .ok) ∧
  (∃ (s : State) (p : PortId),
    s.sup.vmain = .below ∧ s.sys.pwr = .ember ∧ s.ember.donor = some p ∧ s.ember.step < 15 ∧ s.ember.abandoned = 2 ∧
    s.sup.vbat = .ok ∧ s.sup.vdaon = .ok) ∧
  (∃ (s : State) (p : PortId),
    s.sup.vmain = .below ∧ s.sys.pwr = .off ∧ s.sup.vmain = .below ∧ s.ember.stopped = false ∧
    (s.sampleStraps).coreStart.startInput = true ∧ 0 < s.ember.abandoned ∧ (s.sampleStraps).coreStart.emberForbidden = false
    ∧ s.sup.vhbMv < 18000 ∧ (s.sampleStraps).coreStart.donorOk p = true ∧ (∀ q, q.val < p.val →
    (s.sampleStraps).coreStart.donorOk q = false)) :=
  ⟨⟨(let s : State := State.reset; ({ ({ (running s) with fuse := State.reset.fuse, sys := { s.sys with pwr := .off, emberen := true, straps := ⟨8, 8, 9⟩ }, sup.vmain := .below, sup.vhbMv := 20000, ember := Ember.reset } : State) with vault.rng := [1] } : State)), by decide +kernel⟩,
   ⟨(let p : PortId := 0; let s : State := State.reset; ({ ({ (running s) with fuse := State.reset.fuse, sys := { s.sys with pwr := .off, emberen := true, straps := ⟨8, 8, 9⟩ }, sup.vmain := .below, sup.vhbMv := 0, ember := Ember.reset } : State) with ports := State.reset.ports } : State).modTc p fun x => { x with vbusMv := 5000, cc1 := .rp30, cc2 := .opn }), 0, by decide +kernel⟩,
   ⟨(let s : State := State.reset; ({ ({ (running s) with fuse := State.reset.fuse, sys := { s.sys with pwr := .off, emberen := true, straps := ⟨8, 8, 9⟩ }, sup.vmain := .below, sup.vhbMv := 20000, ember := Ember.reset } : State) with ember.forbid := true, sup.vbat := .ok, sup.vdaon := .ok, vault.rng := [1] } : State)), by decide +kernel⟩,
   ⟨(let s : State := State.reset; ({ ({ (running s) with fuse := State.reset.fuse, sys := { s.sys with pwr := .off, emberen := true, straps := ⟨8, 8, 9⟩ }, sup.vmain := .below, sup.vhbMv := 20000, ember := Ember.reset } : State) with ember.forbid := true, sup.vbat := .below } : State)), by decide +kernel⟩,
   ⟨(let p : PortId := 5; let s : State := State.reset; gates (params ({ (running s) with sys.pwr := .ember, sys.interp := false, sys.boot := 4, sup.vmain := .below, ember := { Ember.reset with step := 10, donor := some p } } : State) p)), 5, by decide +kernel⟩,
   ⟨(let p : PortId := 5; let s : State := State.reset; { ({ (running s) with sys.pwr := .ember, sys.interp := false, sys.boot := 4, sup.vmain := .below, ember := { Ember.reset with step := 14, donor := some p } } : State) with sup.vmain := .ok }), 5, by decide +kernel⟩,
   ⟨(let s : State := State.reset; ({ ({ (running s) with fuse := State.reset.fuse, sys := { s.sys with pwr := .off, emberen := true, straps := ⟨8, 8, 9⟩ }, sup.vmain := .below, sup.vhbMv := 0, ember := Ember.reset } : State) with ports := State.reset.ports, sup.vbat := .ok, sup.vdaon := .ok } : State)), by decide +kernel⟩,
   ⟨(let p : PortId := 5; let s : State := State.reset; ({ ({ (running s) with sys.pwr := .ember, sys.interp := false, sys.boot := 4, sup.vmain := .below, ember := { Ember.reset with step := 7, donor := some p } } : State) with ports := State.reset.ports, sup.vbat := .below, sup.vhbMv := 0 } : State)), by decide +kernel⟩,
   ⟨(let p : PortId := 5; let s : State := State.reset; ({ ({ (running s) with sys.pwr := .ember, sys.interp := false, sys.boot := 4, sup.vmain := .below, ember := { Ember.reset with step := 7, donor := some p } } : State) with sup.vdaon := .ok } : State)), 5, by decide +kernel⟩,
   ⟨(let p : PortId := 5; let s : State := State.reset; ({ ({ (running s) with sys.pwr := .ember, sys.interp := false, sys.boot := 4, sup.vmain := .below, ember := { Ember.reset with step := 7, donor := some p } } : State) with ember.abandoned := 2, sup.vdaon := .ok, sup.vbat := .ok } : State)), 5, by decide +kernel⟩,
   ⟨(let p : PortId := 3; let s : State := State.reset; ({ ({ (running s) with fuse := State.reset.fuse, sys := { s.sys with pwr := .off, emberen := true, straps := ⟨8, 8, 9⟩ }, sup.vmain := .below, sup.vhbMv := 0, ember := Ember.reset } : State) with ember := { Ember.reset with abandoned := 1 }, ports := State.reset.ports } : State).modTc p fun x => { x with vbusMv := 5000, cc1 := .rp30, cc2 := .opn }), 3, by decide +kernel⟩⟩

/-- States and operands that meet the hypotheses of each clause of AColdBootBringsTheDeviceUp. -/
theorem witness_AColdBootBringsTheDeviceUp :
  (∃ (s : State) (p : PortId),
    s.sys.pwr ≠ .ember ∧ s.sup.vmain = .ok ∧ s.sup.vdcore = .ok ∧ s.sup.vdaon = .ok ∧ s.sys.boot = 0 ∧ s.sys.cause = 1 ∧
    s.sys.strapDue = true ∧ s.alarm.killPend = false ∧ s.ember.donor = none ∧ (s.port p).sw.tripWire = false ∧ s.clk.refclk
    = false ∧ s.clk.pll = false) ∧
  (∃ (s : State),
    s.sys.pwr ≠ .ember ∧ s.sup.vmain = .ok ∧ s.sup.vdcore = .ok ∧ s.sup.vdaon = .ok ∧ s.sys.boot = 0 ∧ s.sys.cause = 1 ∧
    s.sys.strapDue = true ∧ s.alarm.killPend = false ∧ s.ember.donor = none ∧ s.store.entries = [] ∧ s.mb.inbox = [] ∧
    s.mb.lanes = [] ∧ s.fw.image = [] ∧ s.alarm.latched = [] ∧ s.safety.supLatch = none ∧ s.sbox.queue = [] ∧ s.ring.link =
    0 ∧ s.ring.enable = true ∧ s.ring.bypassed = false ∧ s.ring.refused = false ∧ s.clk.refclk = false) :=
  ⟨⟨(let p : PortId := 8; let s : State := State.reset; ({ (running s) with sys := { s.sys with boot := 0, pwr := .run, cause := 1, strapDue := true }, sup := { s.sup with vmain := .ok, vdcore := .ok, vdaon := .ok }, ember := Ember.reset, fuse := State.reset.fuse, store := ⟨[], []⟩, fw.image := [], mb := Mailbox.reset, sbox := Sbox.reset, safety := Safety.reset, alarm := Alarm.reset } : State).modSw p fun w => { w with tripWire := false }), 8, by decide +kernel⟩,
   ⟨(let s : State := State.reset; ({ ({ (running s) with sys := { s.sys with boot := 0, pwr := .run, cause := 1, strapDue := true }, sup := { s.sup with vmain := .ok, vdcore := .ok, vdaon := .ok }, ember := Ember.reset, fuse := State.reset.fuse, store := ⟨[], []⟩, fw.image := [], mb := Mailbox.reset, sbox := Sbox.reset, safety := Safety.reset, alarm := Alarm.reset } : State) with ring := Ring.reset, clk := Clocks.reset } : State)), by decide +kernel⟩⟩

/-- States and operands that meet the hypotheses of each clause of FaultsOfThePairsAndTheInterpreter. -/
theorem witness_FaultsOfThePairsAndTheInterpreter :
  (∃ (s : State) (p : PortId),
    s.sys.pwr = .run ∧ s.sys.resetLow = false ∧ s.sbox.queue.length < 32 ∧ s.safeOn 0 = true ∧ s.portReady p = true ∧
    s.monitorsOn p = true ∧ s.memOn = true ∧ (s.port p).tc.held = false ∧ (s.port p).tc.inReset = false) ∧
  (∃ (s : State) (p : PortId),
    s.sys.pwr = .run ∧ s.sys.resetLow = false ∧ s.sbox.queue.length < 32 ∧ s.safeOn 0 = true ∧ s.porten p = true ∧
    s.monitorsOn p = true ∧ s.memOn = true ∧ (s.port p).tc.held = true) ∧
  (∃ (s : State) (p : PortId),
    s.sys.pwr = .run ∧ s.sys.resetLow = false ∧ (s.port p).tc.inReset = true ∧ (s.port p).tc.held = false) ∧
  (∃ (s : State),
    s.sys.pwr = .run ∧ s.sys.resetLow = false ∧ s.sbox.queue.length < 32 ∧ s.memOn = true ∧ s.sys.interp = true ∧
    s.sys.interpSeen = true ∧ s.safety.resets = []) ∧
  (∃ (s : State),
    s.sys.pwr = .run ∧ s.sys.resetLow = false ∧ s.sbox.queue.length < 32 ∧ s.memOn = true ∧ s.sys.interp = true ∧
    s.sys.interpSeen = true ∧ s.safety.resets = []) ∧
  (∃ (s : State) (r : Reply),
    s.sys.pwr = .run ∧ s.sys.resetLow = false ∧ s.sys.interp = false ∧ s.sys.interpSeen = true ∧ s.mb.aborted = [] ∧
    s.mb.late = [] ∧ s.mb.inbox = [] ∧ s.mb.lanes = [] ∧ s.mb.held = [r] ∧ s.mb.room r.payload.length = true) :=
  ⟨⟨(let p : PortId := 9; let s : State := State.reset; (source ({ ((gates (quiet (running s)))) with sys := { s.sys with hbisoLow := false, pwr := .run, boot := 12, resetLow := false, interp := true, interpSeen := true, sboxReady := true, perfReady := true, vaultReady := true, minor := 2 }, sup := { Supplies.reset with vpp := s.sup.vpp } } : State) p).modTc p fun x => { x with inReset := false, held := false }), 9, by decide +kernel⟩,
   ⟨(let p : PortId := 9; let s : State := State.reset; (source ({ ((gates (quiet (running s)))) with sys := { s.sys with hbisoLow := false, pwr := .run, boot := 12, resetLow := false, interp := true, interpSeen := true, sboxReady := true, perfReady := true, vaultReady := true, minor := 2 }, sup := { Supplies.reset with vpp := s.sup.vpp } } : State) p).modTc p fun x => { x with inReset := false, held := true }), 9, by decide +kernel⟩,
   ⟨(let p : PortId := 9; let s : State := State.reset; (source ({ ((gates (quiet (running s)))) with sys := { s.sys with hbisoLow := false, pwr := .run, boot := 12, resetLow := false, interp := true, interpSeen := true, sboxReady := true, perfReady := true, vaultReady := true, minor := 2 }, sup := { Supplies.reset with vpp := s.sup.vpp } } : State) p).modTc p fun x => { x with inReset := true, held := false }), 9, by decide +kernel⟩,
   ⟨(let s : State := State.reset; ({ ({ ((gates (quiet (running s)))) with sys := { s.sys with hbisoLow := false, pwr := .run, boot := 12, resetLow := false, interp := true, interpSeen := true, sboxReady := true, perfReady := true, vaultReady := true, minor := 2 }, sup := { Supplies.reset with vpp := s.sup.vpp } } : State) with safety := { State.reset.safety with resets := [] } } : State)), by decide +kernel⟩,
   ⟨(let s : State := State.reset; ({ ({ ((gates (quiet (running s)))) with sys := { s.sys with hbisoLow := false, pwr := .run, boot := 12, resetLow := false, interp := true, interpSeen := true, sboxReady := true, perfReady := true, vaultReady := true, minor := 2 }, sup := { Supplies.reset with vpp := s.sup.vpp } } : State) with safety := { State.reset.safety with resets := [] } } : State)), by decide +kernel⟩,
   ⟨(let r : Reply := ⟨true, false, 0x14, 0, 3, 0, 7, [1], true⟩; let s : State := State.reset; ({ ({ ((gates (quiet (running s)))) with sys := { s.sys with hbisoLow := false, pwr := .run, boot := 12, resetLow := false, interp := true, interpSeen := true, sboxReady := true, perfReady := true, vaultReady := true, minor := 2 }, sup := { Supplies.reset with vpp := s.sup.vpp } } : State) with sys.interp := false, sys.interpSeen := true, mb := { Mailbox.reset with held := [r] } } : State)), ⟨true, false, 0x14, 0, 3, 0, 7, [1], true⟩, by decide +kernel⟩⟩

/-- States and operands that meet the hypotheses of each clause of MemoryFaultsAndSelfTests. -/
theorem witness_MemoryFaultsAndSelfTests :
  (∃ (s : State),
    s.sys.pwr = .run ∧ s.sys.resetLow = false ∧ 3 ≤ s.sys.boot) ∧
  (∃ (s : State),
    s.sys.pwr = .run ∧ s.sys.resetLow = false ∧ 3 ≤ s.sys.boot ∧ s.sbox.queue.length < 32 ∧ s.safeOn 5 = true) ∧
  (∃ (s : State),
    s.sys.pwr = .run ∧ s.sys.resetLow = false ∧ 3 ≤ s.sys.boot ∧ s.sbox.queue.length < 32 ∧ s.perf.gather = true ∧
    s.perf.again = []) ∧
  (∃ (s : State),
    s.sys.pwr = .run ∧ s.sys.resetLow = false ∧ 3 ≤ s.sys.boot ∧ s.sbox.queue.length < 32 ∧ s.memOn = true ∧ s.sys.interp =
    true ∧ s.sys.interpSeen = true ∧ s.safety.resets = []) ∧
  (∃ (s : State),
    s.sys.pwr = .run ∧ s.sys.resetLow = false ∧ 3 ≤ s.sys.boot ∧ s.sbox.queue.length < 32 ∧ s.safeOn 6 = true) ∧
  (∃ (s : State),
    s.sys.pwr = .run ∧ s.sys.resetLow = false ∧ 3 ≤ s.sys.boot ∧ s.safeOn 6 = true) ∧
  (∃ (s : State),
    s.sys.pwr = .run ∧ s.sys.resetLow = false ∧ 3 ≤ s.sys.boot ∧ s.sbox.queue.length < 32 ∧ s.safety.repeatDue.getLsbD 2 =
    true) ∧
  (∃ (s : State),
    s.sys.pwr = .run ∧ s.sys.resetLow = false ∧ 3 ≤ s.sys.boot ∧ s.safety.repeatDue.getLsbD 6 = true) :=
  ⟨⟨(let s : State := State.reset; ({ ((gates (quiet (running s)))) with sys := { s.sys with hbisoLow := false, pwr := .run, boot := 12, resetLow := false, interp := true, interpSeen := true, sboxReady := true, perfReady := true, vaultReady := true, minor := 2 }, sup := { Supplies.reset with vpp := s.sup.vpp } } : State)), by decide +kernel⟩,
   ⟨(let s : State := State.reset; ({ ((gates (quiet (running s)))) with sys := { s.sys with hbisoLow := false, pwr := .run, boot := 12, resetLow := false, interp := true, interpSeen := true, sboxReady := true, perfReady := true, vaultReady := true, minor := 2 }, sup := { Supplies.reset with vpp := s.sup.vpp } } : State)), by decide +kernel⟩,
   ⟨(let s : State := State.reset; ({ ({ ((gates (quiet (running s)))) with sys := { s.sys with hbisoLow := false, pwr := .run, boot := 12, resetLow := false, interp := true, interpSeen := true, sboxReady := true, perfReady := true, vaultReady := true, minor := 2 }, sup := { Supplies.reset with vpp := s.sup.vpp } } : State) with perf.gather := true, perf.again := [] } : State)), by decide +kernel⟩,
   ⟨(let s : State := State.reset; ({ ({ ((gates (quiet (running s)))) with sys := { s.sys with hbisoLow := false, pwr := .run, boot := 12, resetLow := false, interp := true, interpSeen := true, sboxReady := true, perfReady := true, vaultReady := true, minor := 2 }, sup := { Supplies.reset with vpp := s.sup.vpp } } : State) with safety := { State.reset.safety with resets := [] } } : State)), by decide +kernel⟩,
   ⟨(let s : State := State.reset; ({ ((gates (quiet (running s)))) with sys := { s.sys with hbisoLow := false, pwr := .run, boot := 12, resetLow := false, interp := true, interpSeen := true, sboxReady := true, perfReady := true, vaultReady := true, minor := 2 }, sup := { Supplies.reset with vpp := s.sup.vpp } } : State)), by decide +kernel⟩,
   ⟨(let s : State := State.reset; ({ ((gates (quiet (running s)))) with sys := { s.sys with hbisoLow := false, pwr := .run, boot := 12, resetLow := false, interp := true, interpSeen := true, sboxReady := true, perfReady := true, vaultReady := true, minor := 2 }, sup := { Supplies.reset with vpp := s.sup.vpp } } : State)), by decide +kernel⟩,
   ⟨(let s : State := State.reset; ({ ({ ((gates (quiet (running s)))) with sys := { s.sys with hbisoLow := false, pwr := .run, boot := 12, resetLow := false, interp := true, interpSeen := true, sboxReady := true, perfReady := true, vaultReady := true, minor := 2 }, sup := { Supplies.reset with vpp := s.sup.vpp } } : State) with safety := { State.reset.safety with repeatDue := 4 } } : State)), by decide +kernel⟩,
   ⟨(let s : State := State.reset; ({ ({ ((gates (quiet (running s)))) with sys := { s.sys with hbisoLow := false, pwr := .run, boot := 12, resetLow := false, interp := true, interpSeen := true, sboxReady := true, perfReady := true, vaultReady := true, minor := 2 }, sup := { Supplies.reset with vpp := s.sup.vpp } } : State) with safety := { State.reset.safety with repeatDue := 64 } } : State)), by decide +kernel⟩⟩

/-- States and operands that meet the hypotheses of each clause of TheLedgerDecides. -/
theorem witness_TheLedgerDecides :
  (∃ (s : State) (p : PortId) (n : Nat),
    s.ledgerRuns = true ∧ s.ledger.ready = true ∧ s.ledger.frozen = false ∧ s.ledger.rerun = none ∧ s.ledger.pend = none ∧
    s.ledger.brPend = [] ∧ s.ledger.bridges = [] ∧ s.sys.hbisoLow = false ∧ s.ring.peers = [] ∧ s.ledger.cfg.shedLvl = 0 ∧
    s.ledger.borrowed = 0 ∧ s.ledger.lent = 0 ∧ s.ledger.posts = [.demand p n .attach false false] ∧ (∀ q, (s.port q).lg =
    LgPort.reset) ∧ (∀ q, (s.port q).tc.state.attached = false) ∧ (s.port p).tc.state = .unattachedSrc ∧ (s.port p).sw =
    SwPort.reset ∧ (s.port p).tc.held = false ∧ (s.port p).tc.inReset = false ∧ (s.port p).pd.asked = none ∧
    s.ledger.frozenRel = 0 ∧ s.ledger.cfg.floatE + n ≤ s.ledger.cfg.budget ∧ n ≤ s.ledger.cfg.capW ∧ n ≤ 65535) ∧
  (∃ (s : State) (p : PortId) (n : Nat) (m : Nat),
    s.ledgerRuns = true ∧ s.ledger.ready = true ∧ s.ledger.frozen = false ∧ s.ledger.rerun = none ∧ s.ledger.pend = none ∧
    s.ledger.brPend = [] ∧ s.ledger.bridges = [] ∧ s.sys.hbisoLow = false ∧ s.ring.peers = [] ∧ s.ledger.cfg.shedLvl = 0 ∧
    s.ledger.borrowed = 0 ∧ s.ledger.lent = 0 ∧ s.ledger.posts = [.demand p n .attach false false] ∧ (∀ q, (s.port
    q).tc.state.attached = false) ∧ (s.port p).tc.state = .unattachedSrc ∧ (s.port p).sw = SwPort.reset ∧ (s.port p).tc.held
    = false ∧ (s.port p).tc.inReset = false ∧ (s.port p).pd.asked = none ∧ s.ledger.frozenRel = 0 ∧ s.ledger.cfg.floatE + n
    ≤ s.ledger.cfg.budget ∧ n ≤ s.ledger.cfg.capW ∧ n ≤ 65535 ∧ (∀ q, q ≠ p → (s.port q).lg = LgPort.reset) ∧ (s.port p).lg
    = { LgPort.reset with maxGrant := m } ∧ 45 ≤ m ∧ m < n) ∧
  (∃ (s : State) (p : PortId) (n : Nat) (g : Nat),
    s.ledgerRuns = true ∧ s.ledger.ready = true ∧ s.ledger.frozen = false ∧ s.ledger.rerun = none ∧ s.ledger.pend = none ∧
    s.ledger.brPend = [] ∧ s.ledger.bridges = [] ∧ s.sys.hbisoLow = false ∧ s.ring.peers = [] ∧ s.ledger.cfg.shedLvl = 0 ∧
    s.ledger.borrowed = 0 ∧ s.ledger.lent = 0 ∧ s.ledger.posts = [.demand p n .attach false false] ∧ (s.port p).tc.held =
    false ∧ (s.port p).tc.inReset = false ∧ (s.port p).pd.asked = none ∧ s.ledger.frozenRel = 0 ∧ s.ledger.cfg.floatE + n ≤
    s.ledger.cfg.budget ∧ n ≤ s.ledger.cfg.capW ∧ n ≤ 65535 ∧ (s.port p).tc.state = .attachedSrc ∧ (s.port p).tc.leaving =
    false ∧ (s.port p).pd.contract = .explicit ∧ (s.port p).sw = { SwPort.reset with st := .closed } ∧ (∀ q, q ≠ p → (s.port
    q).lg = LgPort.reset ∧ (s.port q).tc.state.attached = false) ∧ (s.port p).lg =
    { LgPort.reset with outcome := 1, grant := g, demand := g, standing := true } ∧ g ≤ n ∧ (s.port p).swap = SwapPort.reset) ∧
  (∃ (s : State) (p : PortId) (n : Nat) (g : Nat),
    s.ledgerRuns = true ∧ s.ledger.ready = true ∧ s.ledger.frozen = false ∧ s.ledger.rerun = none ∧ s.ledger.pend = none ∧
    s.ledger.brPend = [] ∧ s.ledger.bridges = [] ∧ s.sys.hbisoLow = false ∧ s.ring.peers = [] ∧ s.ledger.cfg.shedLvl = 0 ∧
    s.ledger.borrowed = 0 ∧ s.ledger.lent = 0 ∧ s.ledger.posts = [] ∧ (s.port p).tc.held = false ∧ (s.port p).tc.inReset =
    false ∧ (s.port p).pd.asked = none ∧ s.ledger.frozenRel = 0 ∧ s.ledger.cfg.floatE + n ≤ s.ledger.cfg.budget ∧ (s.port
    p).tc.state = .attachedSrc ∧ (s.port p).tc.leaving = false ∧ (s.port p).pd.contract = .explicit ∧ (s.port p).sw =
    { SwPort.reset with st := .closed } ∧ (∀ q, q ≠ p → (s.port q).lg = LgPort.reset ∧ (s.port q).tc.state.attached = false)
    ∧ (s.port p).lg = { LgPort.reset with outcome := 1, grant := g, demand := g, standing := true } ∧ (s.port p).swap =
    SwapPort.reset ∧ g = n ∧ n ≤ s.ledger.cfg.capW ∧ n ≤ 65535) ∧
  (∃ (s : State),
    s.ledgerRuns = true ∧ s.safeOn 2 = true ∧ s.ledger.frozen = false ∧ s.ledger.rerun = none) ∧
  (∃ (s : State),
    s.ledgerRuns = true ∧ s.safeOn 2 = true ∧ s.ledger.frozen = false ∧ s.ledger.rerun.isSome = true ∧ s.ledger.freezes = []
    ∧ s.sbox.queue.length < 32) ∧
  (∃ (s : State),
    s.ledgerRuns = true ∧ s.sys.pwr = .run ∧ s.sys.resetLow = false ∧ 3 ≤ s.sys.boot ∧ s.ledger.frozen = true ∧
    s.ledger.stuck = false ∧ s.sbox.queue.length < 32) ∧
  (∃ (s : State),
    s.ledgerRuns = true ∧ s.sys.pwr = .run ∧ s.sys.resetLow = false ∧ 3 ≤ s.sys.boot ∧ s.ledger.frozen = true ∧
    s.ledger.stuck = false) :=
  ⟨⟨(let p : PortId := 9; let n : Nat := 300; let s : State := State.reset; (({ ({ ({ ((gates (quiet (running s)))) with sys := { s.sys with hbisoLow := false, pwr := .run, boot := 12, resetLow := false, interp := true, interpSeen := true, sboxReady := true, perfReady := true, vaultReady := true, minor := 2 }, sup := { Supplies.reset with vpp := s.sup.vpp } } : State) with ledger := { Ledger.reset 32 with ready := true }, ports := State.reset.ports, ring := Ring.reset } : State) with ledger.posts := [.demand p n .attach false false] } : State).modTc p fun x => { x with state := .unattachedSrc })), 9, 300, by decide +kernel⟩,
   ⟨(let p : PortId := 9; let n : Nat := 300; let m : Nat := 200; let s : State := State.reset; (((({ ({ ({ ((gates (quiet (running s)))) with sys := { s.sys with hbisoLow := false, pwr := .run, boot := 12, resetLow := false, interp := true, interpSeen := true, sboxReady := true, perfReady := true, vaultReady := true, minor := 2 }, sup := { Supplies.reset with vpp := s.sup.vpp } } : State) with ledger := { Ledger.reset 32 with ready := true }, ports := State.reset.ports, ring := Ring.reset } : State) with ledger.posts := [.demand p n .attach false false] } : State).modTc p fun x => { x with state := .unattachedSrc })).modLg p fun x => { x with maxGrant := m })), 9, 300, 200, by decide +kernel⟩,
   ⟨(let p : PortId := 9; let n : Nat := 300; let g : Nat := 200; let s : State := State.reset; ((({ ({ ({ ((gates (quiet (running s)))) with sys := { s.sys with hbisoLow := false, pwr := .run, boot := 12, resetLow := false, interp := true, interpSeen := true, sboxReady := true, perfReady := true, vaultReady := true, minor := 2 }, sup := { Supplies.reset with vpp := s.sup.vpp } } : State) with ledger := { Ledger.reset 32 with ready := true }, ports := State.reset.ports, ring := Ring.reset } : State) with ledger.posts := [.demand p n .attach false false] } : State).modTc p fun x => { x with state := .attachedSrc, leaving := false }).modPd p fun d => { d with contract := .explicit, asked := none }).modPort p fun x => { x with sw := { SwPort.reset with st := .closed }, lg := { LgPort.reset with outcome := 1, grant := g, demand := g, standing := true } }), 9, 300, 200, by decide +kernel⟩,
   ⟨(let p : PortId := 9; let n : Nat := 300; let g : Nat := 300; let s : State := State.reset; ({ ((({ ({ ({ ((gates (quiet (running s)))) with sys := { s.sys with hbisoLow := false, pwr := .run, boot := 12, resetLow := false, interp := true, interpSeen := true, sboxReady := true, perfReady := true, vaultReady := true, minor := 2 }, sup := { Supplies.reset with vpp := s.sup.vpp } } : State) with ledger := { Ledger.reset 32 with ready := true }, ports := State.reset.ports, ring := Ring.reset } : State) with ledger.posts := [.demand p n .attach false false] } : State).modTc p fun x => { x with state := .attachedSrc, leaving := false }).modPd p fun d => { d with contract := .explicit, asked := none }).modPort p fun x => { x with sw := { SwPort.reset with st := .closed }, lg := { LgPort.reset with outcome := 1, grant := g, demand := g, standing := true } } with ledger.posts := [] } : State)), 9, 300, 300, by decide +kernel⟩,
   ⟨(let s : State := State.reset; ({ ({ ((gates (quiet (running s)))) with sys := { s.sys with hbisoLow := false, pwr := .run, boot := 12, resetLow := false, interp := true, interpSeen := true, sboxReady := true, perfReady := true, vaultReady := true, minor := 2 }, sup := { Supplies.reset with vpp := s.sup.vpp } } : State) with ledger := { Ledger.reset 32 with ready := true }, ports := State.reset.ports, ring := Ring.reset } : State)), by decide +kernel⟩,
   ⟨(let s : State := State.reset; ({ ({ ({ ((gates (quiet (running s)))) with sys := { s.sys with hbisoLow := false, pwr := .run, boot := 12, resetLow := false, interp := true, interpSeen := true, sboxReady := true, perfReady := true, vaultReady := true, minor := 2 }, sup := { Supplies.reset with vpp := s.sup.vpp } } : State) with ledger := { Ledger.reset 32 with ready := true }, ports := State.reset.ports, ring := Ring.reset } : State) with ledger.rerun := some ⟨0, [], s.ports, 0, 0, 0, []⟩ } : State)), by decide +kernel⟩,
   ⟨(let s : State := State.reset; ({ ({ ({ ((gates (quiet (running s)))) with sys := { s.sys with hbisoLow := false, pwr := .run, boot := 12, resetLow := false, interp := true, interpSeen := true, sboxReady := true, perfReady := true, vaultReady := true, minor := 2 }, sup := { Supplies.reset with vpp := s.sup.vpp } } : State) with ledger := { Ledger.reset 32 with ready := true }, ports := State.reset.ports, ring := Ring.reset } : State) with ledger.frozen := true } : State)), by decide +kernel⟩,
   ⟨(let s : State := State.reset; ({ ({ ({ ((gates (quiet (running s)))) with sys := { s.sys with hbisoLow := false, pwr := .run, boot := 12, resetLow := false, interp := true, interpSeen := true, sboxReady := true, perfReady := true, vaultReady := true, minor := 2 }, sup := { Supplies.reset with vpp := s.sup.vpp } } : State) with ledger := { Ledger.reset 32 with ready := true }, ports := State.reset.ports, ring := Ring.reset } : State) with ledger.frozen := true } : State)), by decide +kernel⟩⟩

/-- States and operands that meet the hypotheses of each clause of RecordsAndFusesOnTheirOwn. -/
theorem witness_RecordsAndFusesOnTheirOwn :
  (∃ (s : State) (r : Rec) (q : List Rec),
    s.sys.interp = true ∧ s.sys.sboxReady = true ∧ s.sbox.queue = r :: q ∧ s.sbox.lost = 0 ∧ r.body.length ≤ 48 ∧
    s.sbox.mram.wf = true ∧ pinnedType r.ty = false) ∧
  (∃ (s : State) (r : Rec) (q : List Rec),
    s.sys.interp = true ∧ s.sys.sboxReady = true ∧ s.sbox.queue = r :: q ∧ s.sbox.lost = 0 ∧ r.body.length ≤ 48 ∧
    s.sbox.mram.wf = true ∧ pinnedType r.ty = true ∧ s.sbox.pinned < 256) ∧
  (∃ (s : State) (r : Rec) (q : List Rec),
    s.sys.interp = true ∧ s.sys.sboxReady = true ∧ s.sbox.queue = r :: q ∧ s.sbox.lost = 0 ∧ r.body.length ≤ 48 ∧
    s.sbox.mram.wf = true ∧ pinnedType r.ty = false ∧ 256 ≤ s.sbox.jnext ∧ s.sbox.jnext < 8192) ∧
  (∃ (s : State),
    s.sys.interp = true ∧ s.sys.sboxReady = true ∧ s.coreOn = true ∧ 4 ≤ s.sys.boot ∧ s.sys.pwr ≠ .sleep ∧ s.fuse.changes =
    []) ∧
  (∃ (s : State),
    s.sys.interp = true ∧ s.sys.sboxReady = true ∧ s.coreOn = true ∧ 4 ≤ s.sys.boot ∧ s.sys.pwr ≠ .sleep ∧ s.fuse.normal.wf
    = true) ∧
  (∃ (s : State),
    s.sys.interp = true ∧ s.sys.sboxReady = true ∧ s.alarm.killPend = true ∧ s.sup.vmain = .ok ∧ s.coreOn = true ∧ 4 ≤
    s.sys.boot ∧ s.fuse.queue = []) :=
  ⟨⟨(let r : Rec := ⟨1, [1, 2], 0⟩; let q : List Rec := []; let s : State := State.reset; let r : Rec := r; ({ ({ ((gates (quiet (running s)))) with sys := { s.sys with hbisoLow := false, pwr := .run, boot := 12, resetLow := false, interp := true, interpSeen := true, sboxReady := true, perfReady := true, vaultReady := true, minor := 2 }, sup := { Supplies.reset with vpp := s.sup.vpp } } : State) with sbox := { Sbox.reset with queue := r :: q, pinned := 5, jnext := 300, nextSeq := 77 } } : State)), ⟨1, [1, 2], 0⟩, [], by decide +kernel⟩,
   ⟨(let r : Rec := ⟨2, [1, 2], 0⟩; let q : List Rec := []; let s : State := State.reset; ({ ({ ((gates (quiet (running s)))) with sys := { s.sys with hbisoLow := false, pwr := .run, boot := 12, resetLow := false, interp := true, interpSeen := true, sboxReady := true, perfReady := true, vaultReady := true, minor := 2 }, sup := { Supplies.reset with vpp := s.sup.vpp } } : State) with sbox := { Sbox.reset with queue := r :: q, pinned := 5, jnext := 300, nextSeq := 77 } } : State)), ⟨2, [1, 2], 0⟩, [], by decide +kernel⟩,
   ⟨(let r : Rec := ⟨1, [1, 2], 0⟩; let q : List Rec := []; let s : State := State.reset; ({ ({ ((gates (quiet (running s)))) with sys := { s.sys with hbisoLow := false, pwr := .run, boot := 12, resetLow := false, interp := true, interpSeen := true, sboxReady := true, perfReady := true, vaultReady := true, minor := 2 }, sup := { Supplies.reset with vpp := s.sup.vpp } } : State) with sbox := { Sbox.reset with queue := r :: q, pinned := 5, jnext := 300, nextSeq := 77 } } : State)), ⟨1, [1, 2], 0⟩, [], by decide +kernel⟩,
   ⟨(let s : State := State.reset; ({ ({ ((gates (quiet (running s)))) with sys := { s.sys with hbisoLow := false, pwr := .run, boot := 12, resetLow := false, interp := true, interpSeen := true, sboxReady := true, perfReady := true, vaultReady := true, minor := 2 }, sup := { Supplies.reset with vpp := s.sup.vpp } } : State) with fuse := State.reset.fuse } : State)), by decide +kernel⟩,
   ⟨(let s : State := State.reset; ({ ({ ((gates (quiet (running s)))) with sys := { s.sys with hbisoLow := false, pwr := .run, boot := 12, resetLow := false, interp := true, interpSeen := true, sboxReady := true, perfReady := true, vaultReady := true, minor := 2 }, sup := { Supplies.reset with vpp := s.sup.vpp } } : State) with fuse := State.reset.fuse } : State)), by decide +kernel⟩,
   ⟨(let s : State := State.reset; ({ ({ ((gates (quiet (running s)))) with sys := { s.sys with hbisoLow := false, pwr := .run, boot := 12, resetLow := false, interp := true, interpSeen := true, sboxReady := true, perfReady := true, vaultReady := true, minor := 2 }, sup := { Supplies.reset with vpp := s.sup.vpp } } : State) with alarm.killPend := true, sup.vmain := .ok, fuse := State.reset.fuse } : State)), by decide +kernel⟩⟩

/-- States and operands that meet the hypotheses of each clause of AlarmsActAndKeysAreMade. -/
theorem witness_AlarmsActAndKeysAreMade :
  (∃ (s : State),
    s.aonOn = true ∧ s.sys.pwr = .run ∧ s.sys.resetLow = false ∧ s.alarm.present.getLsbD 4 = false ∧ (s.almCfg 4).action = 0
    ∧ s.sbox.queue.length < 32) ∧
  (∃ (s : State),
    s.aonOn = true ∧ s.sys.pwr = .run ∧ s.sys.resetLow = false ∧ s.alarm.present.getLsbD 4 = false ∧ (s.almCfg 4).action = 1
    ∧ s.sbox.queue.length < 32) ∧
  (∃ (s : State),
    s.aonOn = true ∧ s.sys.pwr = .run ∧ s.sys.resetLow = false ∧ s.alarm.present.getLsbD 4 = false ∧ (s.almCfg 4).action = 2
    ∧ s.fuse.run = none) ∧
  (∃ (s : State),
    s.aonOn = true ∧ s.sys.pwr = .run ∧ s.sys.resetLow = false ∧ s.alarm.present.getLsbD 4 = true) ∧
  (∃ (s : State),
    s.aonOn = true ∧ s.sys.pwr = .run ∧ s.sys.resetLow = false) ∧
  (∃ (s : State),
    s.aonOn = true ∧ s.sys.pwr = .run ∧ s.sys.resetLow = false ∧ s.lanternen = true ∧ s.memOn = true ∧ s.lantern.unlocked =
    true ∧ s.lantern.watch = false ∧ s.lantern.keygen = none ∧ s.lantern.wait = [] ∧ s.lantern.fill = 0 ∧ s.sys.interp =
    true ∧ s.fuseBusy = false ∧ s.keygenRefused = true) ∧
  (∃ (s : State),
    s.aonOn = true ∧ s.sys.pwr = .run ∧ s.sys.resetLow = false ∧ s.lanternen = true ∧ s.memOn = true ∧ s.lantern.unlocked =
    true ∧ s.lantern.watch = false ∧ s.lantern.keygen = none ∧ s.lantern.wait = [] ∧ s.lantern.fill = 0 ∧ s.sys.interp =
    true ∧ s.fuseBusy = false ∧ s.keygenRefused = false) :=
  ⟨⟨(let s : State := State.reset; ({ ({ ((gates (quiet (running s)))) with sys := { s.sys with hbisoLow := false, pwr := .run, boot := 12, resetLow := false, interp := true, interpSeen := true, sboxReady := true, perfReady := true, vaultReady := true, minor := 2 }, sup := { Supplies.reset with vpp := s.sup.vpp } } : State) with sup.vmain := .ok, alarm := { Alarm.reset with cfg := Alarm.defaults.set 4 ⟨0, false, 0⟩, evt := s.alarm.evt }, fuse := State.reset.fuse } : State)), by decide +kernel⟩,
   ⟨(let s : State := State.reset; ({ ({ ((gates (quiet (running s)))) with sys := { s.sys with hbisoLow := false, pwr := .run, boot := 12, resetLow := false, interp := true, interpSeen := true, sboxReady := true, perfReady := true, vaultReady := true, minor := 2 }, sup := { Supplies.reset with vpp := s.sup.vpp } } : State) with sup.vmain := .ok, alarm := { Alarm.reset with cfg := Alarm.defaults.set 4 ⟨1, false, 0⟩, evt := s.alarm.evt }, fuse := State.reset.fuse } : State)), by decide +kernel⟩,
   ⟨(let s : State := State.reset; ({ ({ ((gates (quiet (running s)))) with sys := { s.sys with hbisoLow := false, pwr := .run, boot := 12, resetLow := false, interp := true, interpSeen := true, sboxReady := true, perfReady := true, vaultReady := true, minor := 2 }, sup := { Supplies.reset with vpp := s.sup.vpp } } : State) with sup.vmain := .ok, alarm := { Alarm.reset with cfg := Alarm.defaults.set 4 ⟨2, false, 0⟩, evt := s.alarm.evt }, fuse := State.reset.fuse } : State)), by decide +kernel⟩,
   ⟨(let s : State := State.reset; ({ ({ ({ ((gates (quiet (running s)))) with sys := { s.sys with hbisoLow := false, pwr := .run, boot := 12, resetLow := false, interp := true, interpSeen := true, sboxReady := true, perfReady := true, vaultReady := true, minor := 2 }, sup := { Supplies.reset with vpp := s.sup.vpp } } : State) with sup.vmain := .ok, alarm := { Alarm.reset with cfg := Alarm.defaults.set 4 ⟨1, false, 0⟩, evt := s.alarm.evt }, fuse := State.reset.fuse } : State) with alarm.present := 16 } : State)), by decide +kernel⟩,
   ⟨(let s : State := State.reset; ({ ((gates (quiet (running s)))) with sys := { s.sys with hbisoLow := false, pwr := .run, boot := 12, resetLow := false, interp := true, interpSeen := true, sboxReady := true, perfReady := true, vaultReady := true, minor := 2 }, sup := { Supplies.reset with vpp := s.sup.vpp } } : State)), by decide +kernel⟩,
   ⟨(let s : State := State.reset; ({ ({ ({ ((gates (quiet (running s)))) with sys := { s.sys with hbisoLow := false, pwr := .run, boot := 12, resetLow := false, interp := true, interpSeen := true, sboxReady := true, perfReady := true, vaultReady := true, minor := 2 }, sup := { Supplies.reset with vpp := s.sup.vpp } } : State) with fuse := State.reset.fuse, lantern := { Lantern.reset with unlocked := true }, alarm := Alarm.reset } : State) with fuse := { State.reset.fuse with latched := [(4, 0x1F), (764, 0x0F)] } } : State)), by decide +kernel⟩,
   ⟨(let s : State := State.reset; ({ ({ ((gates (quiet (running s)))) with sys := { s.sys with hbisoLow := false, pwr := .run, boot := 12, resetLow := false, interp := true, interpSeen := true, sboxReady := true, perfReady := true, vaultReady := true, minor := 2 }, sup := { Supplies.reset with vpp := s.sup.vpp } } : State) with fuse := State.reset.fuse, lantern := { Lantern.reset with unlocked := true }, alarm := Alarm.reset } : State)), by decide +kernel⟩⟩

/-- States and operands that meet the hypotheses of each clause of RidgelineSendsItsFrames. -/
theorem witness_RidgelineSendsItsFrames :
  (∃ (s : State),
    s.ring.link = 2 ∧ s.ring.leaveDue = false ∧ s.ring.joinDue = false ∧ s.ring.gapClose = false ∧ s.ringHears = true ∧
    s.ring.wsync = true) ∧
  (∃ (s : State),
    s.ring.link = 1 ∧ s.ring.leaveDue = false ∧ s.ring.joinDue = true ∧ s.ring.gapClose = false ∧ s.ringHears = true ∧
    s.ring.wsync = true) ∧
  (∃ (s : State),
    s.ring.link = 2 ∧ s.ring.leaveDue = true ∧ s.ring.gapClose = false ∧ s.ringHears = true ∧ s.ring.wsync = true) ∧
  (∃ (s : State),
    s.ring.link = 3 ∧ s.ring.trainOut = true ∧ s.ringHears = true ∧ s.ring.wsync = true) ∧
  (∃ (s : State),
    s.ring.link = 3 ∧ s.ring.handover = 0 ∧ s.ring.trainOut = false ∧ s.ring.leaveDue = false ∧ s.ring.gapClose = false ∧
    s.ring.joinDue = false ∧ s.ring.joiners = [] ∧ s.ring.recalls = []) ∧
  (∃ (s : State),
    s.ring.link = 3 ∧ s.ring.handover ≠ 0 ∧ s.ring.ringDown = false ∧ s.ring.gapClose = false) ∧
  (∃ (s : State),
    s.ring.link = 2 ∧ s.ring.handover = s.ring.node ∧ s.ring.leaveDue = false ∧ s.ring.gapClose = false) ∧
  (∃ (s : State),
    s.ring.link = 3 ∧ s.ring.trainOut = true) ∧
  (∃ (s : State) (n : Node),
    s.ring.link = 2 ∧ s.ring.esync = true ∧ n ≠ 0) ∧
  (∃ (s : State) (n : Node),
    s.ring.link = 2 ∧ s.ring.wsync = true ∧ n ≠ 0) :=
  ⟨⟨(let s : State := State.reset; ({ ({ ((gates (quiet (running s)))) with sys := { s.sys with hbisoLow := false, pwr := .run, boot := 12, resetLow := false, interp := true, interpSeen := true, sboxReady := true, perfReady := true, vaultReady := true, minor := 2 }, sup := { Supplies.reset with vpp := s.sup.vpp } } : State) with ledger := { Ledger.reset 32 with ready := true }, ports := State.reset.ports, fuse := State.reset.fuse, clk := Clocks.reset, ring := { Ring.reset with node := 5, link := 2, ready := true, wsync := true } } : State)), by decide +kernel⟩,
   ⟨(let s : State := State.reset; ({ ({ ((gates (quiet (running s)))) with sys := { s.sys with hbisoLow := false, pwr := .run, boot := 12, resetLow := false, interp := true, interpSeen := true, sboxReady := true, perfReady := true, vaultReady := true, minor := 2 }, sup := { Supplies.reset with vpp := s.sup.vpp } } : State) with ledger := { Ledger.reset 32 with ready := true }, ports := State.reset.ports, fuse := State.reset.fuse, clk := Clocks.reset, ring := { Ring.reset with node := 5, link := 1, ready := true, wsync := true , joinDue := true } } : State)), by decide +kernel⟩,
   ⟨(let s : State := State.reset; ({ ({ ((gates (quiet (running s)))) with sys := { s.sys with hbisoLow := false, pwr := .run, boot := 12, resetLow := false, interp := true, interpSeen := true, sboxReady := true, perfReady := true, vaultReady := true, minor := 2 }, sup := { Supplies.reset with vpp := s.sup.vpp } } : State) with ledger := { Ledger.reset 32 with ready := true }, ports := State.reset.ports, fuse := State.reset.fuse, clk := Clocks.reset, ring := { Ring.reset with node := 5, link := 2, ready := true, wsync := true , leaveDue := true } } : State)), by decide +kernel⟩,
   ⟨(let s : State := State.reset; ({ ({ ((gates (quiet (running s)))) with sys := { s.sys with hbisoLow := false, pwr := .run, boot := 12, resetLow := false, interp := true, interpSeen := true, sboxReady := true, perfReady := true, vaultReady := true, minor := 2 }, sup := { Supplies.reset with vpp := s.sup.vpp } } : State) with ledger := { Ledger.reset 32 with ready := true }, ports := State.reset.ports, fuse := State.reset.fuse, clk := Clocks.reset, ring := { Ring.reset with node := 5, link := 3, ready := true, wsync := true , trainOut := true } } : State)), by decide +kernel⟩,
   ⟨(let s : State := State.reset; ({ ({ ((gates (quiet (running s)))) with sys := { s.sys with hbisoLow := false, pwr := .run, boot := 12, resetLow := false, interp := true, interpSeen := true, sboxReady := true, perfReady := true, vaultReady := true, minor := 2 }, sup := { Supplies.reset with vpp := s.sup.vpp } } : State) with ledger := { Ledger.reset 32 with ready := true }, ports := State.reset.ports, fuse := State.reset.fuse, clk := Clocks.reset, ring := { Ring.reset with node := 5, link := 3, ready := true, wsync := true } } : State)), by decide +kernel⟩,
   ⟨(let s : State := State.reset; ({ ({ ((gates (quiet (running s)))) with sys := { s.sys with hbisoLow := false, pwr := .run, boot := 12, resetLow := false, interp := true, interpSeen := true, sboxReady := true, perfReady := true, vaultReady := true, minor := 2 }, sup := { Supplies.reset with vpp := s.sup.vpp } } : State) with ledger := { Ledger.reset 32 with ready := true }, ports := State.reset.ports, fuse := State.reset.fuse, clk := Clocks.reset, ring := { Ring.reset with node := 5, link := 3, ready := true, wsync := true , handover := 4 } } : State)), by decide +kernel⟩,
   ⟨(let s : State := State.reset; ({ ({ ((gates (quiet (running s)))) with sys := { s.sys with hbisoLow := false, pwr := .run, boot := 12, resetLow := false, interp := true, interpSeen := true, sboxReady := true, perfReady := true, vaultReady := true, minor := 2 }, sup := { Supplies.reset with vpp := s.sup.vpp } } : State) with ledger := { Ledger.reset 32 with ready := true }, ports := State.reset.ports, fuse := State.reset.fuse, clk := Clocks.reset, ring := { Ring.reset with node := 5, link := 2, ready := true, wsync := true , handover := 5 } } : State)), by decide +kernel⟩,
   ⟨(let s : State := State.reset; ({ ({ ((gates (quiet (running s)))) with sys := { s.sys with hbisoLow := false, pwr := .run, boot := 12, resetLow := false, interp := true, interpSeen := true, sboxReady := true, perfReady := true, vaultReady := true, minor := 2 }, sup := { Supplies.reset with vpp := s.sup.vpp } } : State) with ledger := { Ledger.reset 32 with ready := true }, ports := State.reset.ports, fuse := State.reset.fuse, clk := Clocks.reset, ring := { Ring.reset with node := 5, link := 3, ready := true, wsync := true , trainOut := true } } : State)), by decide +kernel⟩,
   ⟨(let s : State := State.reset; ({ ({ ((gates (quiet (running s)))) with sys := { s.sys with hbisoLow := false, pwr := .run, boot := 12, resetLow := false, interp := true, interpSeen := true, sboxReady := true, perfReady := true, vaultReady := true, minor := 2 }, sup := { Supplies.reset with vpp := s.sup.vpp } } : State) with ledger := { Ledger.reset 32 with ready := true }, ports := State.reset.ports, fuse := State.reset.fuse, clk := Clocks.reset, ring := { Ring.reset with node := 5, link := 2, ready := true, wsync := true , esync := true } } : State)), 4, by decide +kernel⟩,
   ⟨(let s : State := State.reset; ({ ({ ((gates (quiet (running s)))) with sys := { s.sys with hbisoLow := false, pwr := .run, boot := 12, resetLow := false, interp := true, interpSeen := true, sboxReady := true, perfReady := true, vaultReady := true, minor := 2 }, sup := { Supplies.reset with vpp := s.sup.vpp } } : State) with ledger := { Ledger.reset 32 with ready := true }, ports := State.reset.ports, fuse := State.reset.fuse, clk := Clocks.reset, ring := { Ring.reset with node := 5, link := 2, ready := true, wsync := true } } : State)), 4, by decide +kernel⟩⟩

/-- States and operands that meet the hypotheses of each clause of RidgelineTakesFramesIn. -/
theorem witness_RidgelineTakesFramesIn :
  (∃ (s : State) (f : List Byte),
    s.ring.link = 2 ∧ s.ring.joinDue = false ∧ s.ring.joinSent = false ∧ s.ring.gapClose = false ∧ nth f 1 ≠ s.ring.node ∧
    s.ringHears = true ∧ s.ring.wsync = true ∧ frameGood f = true ∧ f.length = 32 ∧ nth f 0 = fcCycle ∧ s.ring.present (nth
    f 1) = true ∧ s.ring.recalls = []) ∧
  (∃ (s : State) (f : List Byte),
    s.ring.link = 2 ∧ s.ring.joinDue = false ∧ s.ring.joinSent = false ∧ s.ring.gapClose = false ∧ nth f 1 ≠ s.ring.node ∧
    s.ringHears = true ∧ s.ring.wsync = true ∧ frameGood f = false ∧ nth f 0 = fcCycle) ∧
  (∃ (s : State) (f : List Byte),
    s.ring.link = 2 ∧ s.ring.joinDue = false ∧ s.ring.joinSent = false ∧ s.ring.gapClose = false ∧ nth f 1 ≠ s.ring.node ∧
    s.ringHears = true ∧ s.ring.wsync = true ∧ frameGood f = true ∧ nth f 0 = fcNode ∧ s.ring.present (nth f 1) = true ∧
    field f 6 2 = 0) ∧
  (∃ (s : State) (f : List Byte),
    s.ring.link = 2 ∧ s.ring.joinDue = false ∧ s.ring.joinSent = false ∧ s.ring.gapClose = false ∧ nth f 1 ≠ s.ring.node ∧
    s.ringHears = true ∧ s.ring.wsync = true ∧ frameGood f = false ∧ nth f 0 = fcNode ∧ field f 6 2 = 0) ∧
  (∃ (s : State) (f : List Byte),
    s.ring.link = 2 ∧ s.ring.joinDue = false ∧ s.ring.joinSent = false ∧ s.ring.gapClose = false ∧ nth f 1 ≠ s.ring.node ∧
    s.ringHears = true ∧ s.ring.wsync = true ∧ frameGood f = true ∧ nth f 0 = fcJoin) ∧
  (∃ (s : State) (f : List Byte),
    s.ring.link = 2 ∧ s.ring.joinDue = false ∧ s.ring.joinSent = false ∧ s.ring.gapClose = false ∧ nth f 1 ≠ s.ring.node ∧
    s.ringHears = true ∧ s.ring.wsync = true ∧ frameGood f = true ∧ nth f 0 = fcLeave ∧ s.ring.present (nth f 1) = true) ∧
  (∃ (s : State) (f : List Byte),
    s.ring.link = 2 ∧ s.ring.joinDue = false ∧ s.ring.joinSent = false ∧ s.ring.gapClose = false ∧ nth f 1 ≠ s.ring.node ∧
    s.ringHears = true ∧ s.ring.wsync = true ∧ nth f 0 = fcInfo ∧ s.ring.present (nth f 1) = true) ∧
  (∃ (s : State) (f : List Byte),
    s.ring.link = 2 ∧ s.ring.joinDue = false ∧ s.ring.joinSent = false ∧ s.ring.gapClose = false ∧ nth f 1 ≠ s.ring.node ∧
    s.ringHears = true ∧ s.ring.wsync = true ∧ nth f 0 = 0x05) :=
  ⟨⟨(let s : State := State.reset; ({ ({ ((gates (quiet (running s)))) with sys := { s.sys with hbisoLow := false, pwr := .run, boot := 12, resetLow := false, interp := true, interpSeen := true, sboxReady := true, perfReady := true, vaultReady := true, minor := 2 }, sup := { Supplies.reset with vpp := s.sup.vpp } } : State) with ledger := { Ledger.reset 32 with ready := true }, ports := State.reset.ports, fuse := State.reset.fuse, clk := Clocks.reset, ring := { Ring.reset with node := 5, link := 2, ready := true, wsync := true , master := 3, peers := [⟨3, 0⟩] } } : State)), ctlFrame fcCycle 3 9 [], by decide +kernel⟩,
   ⟨(let s : State := State.reset; ({ ({ ((gates (quiet (running s)))) with sys := { s.sys with hbisoLow := false, pwr := .run, boot := 12, resetLow := false, interp := true, interpSeen := true, sboxReady := true, perfReady := true, vaultReady := true, minor := 2 }, sup := { Supplies.reset with vpp := s.sup.vpp } } : State) with ledger := { Ledger.reset 32 with ready := true }, ports := State.reset.ports, fuse := State.reset.fuse, clk := Clocks.reset, ring := { Ring.reset with node := 5, link := 2, ready := true, wsync := true , master := 3, peers := [⟨3, 0⟩] } } : State)), setBytes (ctlFrame fcCycle 3 9 []) 4 [1], by decide +kernel⟩,
   ⟨(let s : State := State.reset; ({ ({ ((gates (quiet (running s)))) with sys := { s.sys with hbisoLow := false, pwr := .run, boot := 12, resetLow := false, interp := true, interpSeen := true, sboxReady := true, perfReady := true, vaultReady := true, minor := 2 }, sup := { Supplies.reset with vpp := s.sup.vpp } } : State) with ledger := { Ledger.reset 32 with ready := true }, ports := State.reset.ports, fuse := State.reset.fuse, clk := Clocks.reset, ring := { Ring.reset with node := 5, link := 2, ready := true, wsync := true , master := 3, peers := [⟨3, 0⟩] } } : State)), ctlFrame fcNode 3 9 [2], by decide +kernel⟩,
   ⟨(let s : State := State.reset; ({ ({ ((gates (quiet (running s)))) with sys := { s.sys with hbisoLow := false, pwr := .run, boot := 12, resetLow := false, interp := true, interpSeen := true, sboxReady := true, perfReady := true, vaultReady := true, minor := 2 }, sup := { Supplies.reset with vpp := s.sup.vpp } } : State) with ledger := { Ledger.reset 32 with ready := true }, ports := State.reset.ports, fuse := State.reset.fuse, clk := Clocks.reset, ring := { Ring.reset with node := 5, link := 2, ready := true, wsync := true , master := 3, peers := [⟨3, 0⟩] } } : State)), setBytes (ctlFrame fcNode 3 9 []) 4 [1], by decide +kernel⟩,
   ⟨(let s : State := State.reset; ({ ({ ((gates (quiet (running s)))) with sys := { s.sys with hbisoLow := false, pwr := .run, boot := 12, resetLow := false, interp := true, interpSeen := true, sboxReady := true, perfReady := true, vaultReady := true, minor := 2 }, sup := { Supplies.reset with vpp := s.sup.vpp } } : State) with ledger := { Ledger.reset 32 with ready := true }, ports := State.reset.ports, fuse := State.reset.fuse, clk := Clocks.reset, ring := { Ring.reset with node := 5, link := 2, ready := true, wsync := true , master := 3, peers := [⟨3, 0⟩] } } : State)), ctlFrame fcJoin 3 9 [0, 0x10], by decide +kernel⟩,
   ⟨(let s : State := State.reset; ({ ({ ((gates (quiet (running s)))) with sys := { s.sys with hbisoLow := false, pwr := .run, boot := 12, resetLow := false, interp := true, interpSeen := true, sboxReady := true, perfReady := true, vaultReady := true, minor := 2 }, sup := { Supplies.reset with vpp := s.sup.vpp } } : State) with ledger := { Ledger.reset 32 with ready := true }, ports := State.reset.ports, fuse := State.reset.fuse, clk := Clocks.reset, ring := { Ring.reset with node := 5, link := 2, ready := true, wsync := true , master := 3, peers := [⟨3, 0⟩] } } : State)), ctlFrame fcLeave 3 9 [0], by decide +kernel⟩,
   ⟨(let s : State := State.reset; ({ ({ ((gates (quiet (running s)))) with sys := { s.sys with hbisoLow := false, pwr := .run, boot := 12, resetLow := false, interp := true, interpSeen := true, sboxReady := true, perfReady := true, vaultReady := true, minor := 2 }, sup := { Supplies.reset with vpp := s.sup.vpp } } : State) with ledger := { Ledger.reset 32 with ready := true }, ports := State.reset.ports, fuse := State.reset.fuse, clk := Clocks.reset, ring := { Ring.reset with node := 5, link := 2, ready := true, wsync := true , master := 3, peers := [⟨3, 0⟩] } } : State)), ctlFrame fcInfo 3 9 [0], by decide +kernel⟩,
   ⟨(let s : State := State.reset; ({ ({ ((gates (quiet (running s)))) with sys := { s.sys with hbisoLow := false, pwr := .run, boot := 12, resetLow := false, interp := true, interpSeen := true, sboxReady := true, perfReady := true, vaultReady := true, minor := 2 }, sup := { Supplies.reset with vpp := s.sup.vpp } } : State) with ledger := { Ledger.reset 32 with ready := true }, ports := State.reset.ports, fuse := State.reset.fuse, clk := Clocks.reset, ring := { Ring.reset with node := 5, link := 2, ready := true, wsync := true , master := 3, peers := [⟨3, 0⟩] } } : State)), ctlFrame 5 3 9 [0], by decide +kernel⟩⟩

/-- States and operands that meet the hypotheses of each clause of RidgelineJoinsLendsAndLoses. -/
theorem witness_RidgelineJoinsLendsAndLoses :
  (∃ (s : State),
    s.ringHears = true) ∧
  (∃ (s : State),
    s.ringHears = true) ∧
  (∃ (s : State),
    s.sys.interp = true ∧ s.ring.link = 1 ∧ s.ring.isOpen = false ∧ s.ring.node ≠ 0 ∧ s.ring.wsync = true ∧ s.ring.clean = 3
    ∧ s.ring.present s.ring.node = false) ∧
  (∃ (s : State),
    s.sys.interp = true ∧ s.ring.link = 1 ∧ s.ring.isOpen = false ∧ s.ring.node ≠ 0) ∧
  (∃ (s : State) (n : Node),
    s.ring.link = 2 ∧ s.ring.present n = true) ∧
  (∃ (s : State) (n : Node),
    s.ring.lostNodes.contains n = true ∧ loanOf s.ring.lentTo n ≠ 0 ∧ s.sbox.queue.length < 32) ∧
  (∃ (s : State) (n : Node),
    s.ring.offers = [⟨n, 50, 3⟩]) ∧
  (∃ (s : State),
    (∀ o ∈ s.ring.offers, o.age < 3)) ∧
  (∃ (s : State),
    s.ring.link = 2) ∧
  (∃ (s : State),
    s.ring.isOpen = true) ∧
  (∃ (s : State) (n : Node),
    s.ring.link = 3 ∧ n ≠ 0 ∧ n < s.ring.node ∧ s.ring.handover ≠ n) :=
  ⟨⟨(let s : State := State.reset; ({ ({ ((gates (quiet (running s)))) with sys := { s.sys with hbisoLow := false, pwr := .run, boot := 12, resetLow := false, interp := true, interpSeen := true, sboxReady := true, perfReady := true, vaultReady := true, minor := 2 }, sup := { Supplies.reset with vpp := s.sup.vpp } } : State) with ledger := { Ledger.reset 32 with ready := true }, ports := State.reset.ports, fuse := State.reset.fuse, clk := Clocks.reset, ring := { Ring.reset with node := 5, link := 2, ready := true, wsync := true , master := 3, peers := [⟨3, 0⟩] } } : State)), by decide +kernel⟩,
   ⟨(let s : State := State.reset; ({ ({ ((gates (quiet (running s)))) with sys := { s.sys with hbisoLow := false, pwr := .run, boot := 12, resetLow := false, interp := true, interpSeen := true, sboxReady := true, perfReady := true, vaultReady := true, minor := 2 }, sup := { Supplies.reset with vpp := s.sup.vpp } } : State) with ledger := { Ledger.reset 32 with ready := true }, ports := State.reset.ports, fuse := State.reset.fuse, clk := Clocks.reset, ring := { Ring.reset with node := 5, link := 2, ready := true, wsync := true , master := 3, peers := [⟨3, 0⟩] } } : State)), by decide +kernel⟩,
   ⟨(let s : State := State.reset; ({ ({ ((gates (quiet (running s)))) with sys := { s.sys with hbisoLow := false, pwr := .run, boot := 12, resetLow := false, interp := true, interpSeen := true, sboxReady := true, perfReady := true, vaultReady := true, minor := 2 }, sup := { Supplies.reset with vpp := s.sup.vpp } } : State) with ledger := { Ledger.reset 32 with ready := true }, ports := State.reset.ports, fuse := State.reset.fuse, clk := Clocks.reset, ring := { Ring.reset with node := 5, link := 1, ready := true, wsync := true , clean := 3 } } : State)), by decide +kernel⟩,
   ⟨(let s : State := State.reset; ({ ({ ((gates (quiet (running s)))) with sys := { s.sys with hbisoLow := false, pwr := .run, boot := 12, resetLow := false, interp := true, interpSeen := true, sboxReady := true, perfReady := true, vaultReady := true, minor := 2 }, sup := { Supplies.reset with vpp := s.sup.vpp } } : State) with ledger := { Ledger.reset 32 with ready := true }, ports := State.reset.ports, fuse := State.reset.fuse, clk := Clocks.reset, ring := { Ring.reset with node := 5, link := 1, ready := true, wsync := true } } : State)), by decide +kernel⟩,
   ⟨(let s : State := State.reset; ({ ({ ((gates (quiet (running s)))) with sys := { s.sys with hbisoLow := false, pwr := .run, boot := 12, resetLow := false, interp := true, interpSeen := true, sboxReady := true, perfReady := true, vaultReady := true, minor := 2 }, sup := { Supplies.reset with vpp := s.sup.vpp } } : State) with ledger := { Ledger.reset 32 with ready := true }, ports := State.reset.ports, fuse := State.reset.fuse, clk := Clocks.reset, ring := { Ring.reset with node := 5, link := 2, ready := true, wsync := true , master := 3, peers := [⟨3, 0⟩] } } : State)), 3, by decide +kernel⟩,
   ⟨(let n : Node := 3; let s : State := State.reset; ({ ({ ((gates (quiet (running s)))) with sys := { s.sys with hbisoLow := false, pwr := .run, boot := 12, resetLow := false, interp := true, interpSeen := true, sboxReady := true, perfReady := true, vaultReady := true, minor := 2 }, sup := { Supplies.reset with vpp := s.sup.vpp } } : State) with ledger := { Ledger.reset 32 with ready := true }, ports := State.reset.ports, fuse := State.reset.fuse, clk := Clocks.reset, ring := { Ring.reset with node := 5, link := 2, ready := true, wsync := true , lostNodes := [n], lentTo := [⟨n, 50, 0⟩] } } : State)), 3, by decide +kernel⟩,
   ⟨(let n : Node := 3; let s : State := State.reset; ({ ({ ((gates (quiet (running s)))) with sys := { s.sys with hbisoLow := false, pwr := .run, boot := 12, resetLow := false, interp := true, interpSeen := true, sboxReady := true, perfReady := true, vaultReady := true, minor := 2 }, sup := { Supplies.reset with vpp := s.sup.vpp } } : State) with ledger := { Ledger.reset 32 with ready := true }, ports := State.reset.ports, fuse := State.reset.fuse, clk := Clocks.reset, ring := { Ring.reset with node := 5, link := 2, ready := true, wsync := true , offers := [⟨n, 50, 3⟩], lentTo := s.ring.lentTo } } : State)), 3, by decide +kernel⟩,
   ⟨(let n : Node := 3; let s : State := State.reset; ({ ({ ((gates (quiet (running s)))) with sys := { s.sys with hbisoLow := false, pwr := .run, boot := 12, resetLow := false, interp := true, interpSeen := true, sboxReady := true, perfReady := true, vaultReady := true, minor := 2 }, sup := { Supplies.reset with vpp := s.sup.vpp } } : State) with ledger := { Ledger.reset 32 with ready := true }, ports := State.reset.ports, fuse := State.reset.fuse, clk := Clocks.reset, ring := { Ring.reset with node := 5, link := 2, ready := true, wsync := true , offers := [⟨n, 50, 2⟩] } } : State)), by decide +kernel⟩,
   ⟨(let s : State := State.reset; ({ ({ ((gates (quiet (running s)))) with sys := { s.sys with hbisoLow := false, pwr := .run, boot := 12, resetLow := false, interp := true, interpSeen := true, sboxReady := true, perfReady := true, vaultReady := true, minor := 2 }, sup := { Supplies.reset with vpp := s.sup.vpp } } : State) with ledger := { Ledger.reset 32 with ready := true }, ports := State.reset.ports, fuse := State.reset.fuse, clk := Clocks.reset, ring := { Ring.reset with node := 5, link := 2, ready := true, wsync := true , master := 3, peers := [⟨3, 0⟩] } } : State)), by decide +kernel⟩,
   ⟨(let s : State := State.reset; ({ ({ ((gates (quiet (running s)))) with sys := { s.sys with hbisoLow := false, pwr := .run, boot := 12, resetLow := false, interp := true, interpSeen := true, sboxReady := true, perfReady := true, vaultReady := true, minor := 2 }, sup := { Supplies.reset with vpp := s.sup.vpp } } : State) with ledger := { Ledger.reset 32 with ready := true }, ports := State.reset.ports, fuse := State.reset.fuse, clk := Clocks.reset, ring := { Ring.reset with node := 5, link := 2, ready := true, wsync := true , master := 3, peers := [⟨3, 0⟩] } } : State)), by decide +kernel⟩,
   ⟨(let s : State := State.reset; ({ ({ ((gates (quiet (running s)))) with sys := { s.sys with hbisoLow := false, pwr := .run, boot := 12, resetLow := false, interp := true, interpSeen := true, sboxReady := true, perfReady := true, vaultReady := true, minor := 2 }, sup := { Supplies.reset with vpp := s.sup.vpp } } : State) with ledger := { Ledger.reset 32 with ready := true }, ports := State.reset.ports, fuse := State.reset.fuse, clk := Clocks.reset, ring := { Ring.reset with node := 5, link := 3, ready := true, wsync := true } } : State)), 3, by decide +kernel⟩⟩

/-- States and operands that meet the hypotheses of each clause of HostTransactions. -/
theorem witness_HostTransactions :
  (∃ (s : State) (b : List Byte),
    s.hostUp = true ∧ s.sys.interpSeen = true ∧ s.sys.interp = false ∧ s.mb.inbox.length < 16 ∧ s.mb.lanes = [] ∧ headerOk b
    = true ∧ b.length ≤ 1032) ∧
  (∃ (s : State) (b : List Byte),
    s.hostUp = true ∧ s.mb.inbox.length < 16 ∧ headerOk (b.take 1032) = false) ∧
  (∃ (s : State) (n : Nat) (r : Reply),
    s.hostUp = true ∧ s.mb.replies = [r] ∧ n < r.bytes.length) ∧
  (∃ (s : State) (n : Nat) (r : Reply),
    s.hostUp = true ∧ s.mb.replies = [r] ∧ r.bytes.length ≤ n ∧ s.sys.interp = false ∧ s.sys.interpSeen = true ∧ s.mb.held =
    [] ∧ s.mb.inbox = [] ∧ s.mb.lanes = []) ∧
  (∃ (s : State),
    s.hostUp = true ∧ s.bus.page = 0) ∧
  (∃ (s : State),
    s.hostUp = true ∧ s.bus.page = 0) ∧
  (∃ (s : State),
    s.hostUp = true) ∧
  (∃ (s : State),
    s.hostUp = true) ∧
  (∃ (s : State),
    s.hostUp = true) ∧
  (∃ (s : State),
    s.hostUp = true) ∧
  (∃ (s : State),
    s.hostUp = true) ∧
  (∃ (s : State),
    s.hostUp = true) ∧
  (∃ (s : State),
    s.hostUp = true) ∧
  (∃ (s : State),
    s.hostUp = true ∧ s.ringReady = true) ∧
  (∃ (s : State),
    s.hostUp = true ∧ s.sys.perfReady = true) ∧
  (∃ (s : State),
    s.hostUp = true ∧ s.sys.perfReady = true ∧ s.perf.gather = false) ∧
  (∃ (s : State),
    s.hostUp = true ∧ s.sys.perfReady = true) ∧
  (∃ (s : State) (c : Byte),
    s.hostUp = true ∧ c ≠ 1 ∧ c ≠ 2) ∧
  (∃ (s : State),
    s.hostUp = true) ∧
  (∃ (s : State),
    s.hostUp = true ∧ s.sys.perfReady = true ∧ s.perf.gather = false) ∧
  (∃ (s : State),
    s.hostUp = true ∧ s.coreOn = true ∧ s.safeOn 4 = true ∧ s.sup.vio = .ok ∧ s.mb.inbox.length < 16) ∧
  (∃ (s : State),
    s.hostUp = true) ∧
  (∃ (s : State),
    s.hostUp = true ∧ s.mb.inbox.length < 16) :=
  ⟨⟨(let s : State := State.reset; ({ ({ ((gates (quiet (running s)))) with sys := { s.sys with hbisoLow := false, pwr := .run, boot := 12, resetLow := false, interp := true, interpSeen := true, sboxReady := true, perfReady := true, vaultReady := true, minor := 2 }, sup := { Supplies.reset with vpp := s.sup.vpp } } : State) with sys := { (({ ((gates (quiet (running s)))) with sys := { s.sys with hbisoLow := false, pwr := .run, boot := 12, resetLow := false, interp := true, interpSeen := true, sboxReady := true, perfReady := true, vaultReady := true, minor := 2 }, sup := { Supplies.reset with vpp := s.sup.vpp } } : State)).sys with addr := 0, interp := false }, mb := Mailbox.reset, bus := HostBus.reset, perf := Perf.reset, ring := { Ring.reset with ready := true }, fuse := State.reset.fuse } : State)), ([0x10, 0x02, 0x05, 0xFF, 0, 0, 1] ++ [crc8 [0x10, 0x02, 0x05, 0xFF, 0, 0, 1]]), by decide +kernel⟩,
   ⟨(let s : State := State.reset; ({ ({ ((gates (quiet (running s)))) with sys := { s.sys with hbisoLow := false, pwr := .run, boot := 12, resetLow := false, interp := true, interpSeen := true, sboxReady := true, perfReady := true, vaultReady := true, minor := 2 }, sup := { Supplies.reset with vpp := s.sup.vpp } } : State) with sys := { (({ ((gates (quiet (running s)))) with sys := { s.sys with hbisoLow := false, pwr := .run, boot := 12, resetLow := false, interp := true, interpSeen := true, sboxReady := true, perfReady := true, vaultReady := true, minor := 2 }, sup := { Supplies.reset with vpp := s.sup.vpp } } : State)).sys with addr := 0, interp := false }, mb := Mailbox.reset, bus := HostBus.reset, perf := Perf.reset, ring := { Ring.reset with ready := true }, fuse := State.reset.fuse } : State)), [1, 2], by decide +kernel⟩,
   ⟨(let r : Reply := ⟨true, false, 0x14, 0, 3, 0, 7, [1], true⟩; let s : State := State.reset; { ({ ({ ((gates (quiet (running s)))) with sys := { s.sys with hbisoLow := false, pwr := .run, boot := 12, resetLow := false, interp := true, interpSeen := true, sboxReady := true, perfReady := true, vaultReady := true, minor := 2 }, sup := { Supplies.reset with vpp := s.sup.vpp } } : State) with sys := { (({ ((gates (quiet (running s)))) with sys := { s.sys with hbisoLow := false, pwr := .run, boot := 12, resetLow := false, interp := true, interpSeen := true, sboxReady := true, perfReady := true, vaultReady := true, minor := 2 }, sup := { Supplies.reset with vpp := s.sup.vpp } } : State)).sys with addr := 0, interp := false }, mb := Mailbox.reset, bus := HostBus.reset, perf := Perf.reset, ring := { Ring.reset with ready := true }, fuse := State.reset.fuse } : State) with mb.replies := [r] }), 3, ⟨true, false, 0x14, 0, 3, 0, 7, [1], true⟩, by decide +kernel⟩,
   ⟨(let r : Reply := ⟨true, false, 0x14, 0, 3, 0, 7, [1], true⟩; let s : State := State.reset; { ({ ({ ((gates (quiet (running s)))) with sys := { s.sys with hbisoLow := false, pwr := .run, boot := 12, resetLow := false, interp := true, interpSeen := true, sboxReady := true, perfReady := true, vaultReady := true, minor := 2 }, sup := { Supplies.reset with vpp := s.sup.vpp } } : State) with sys := { (({ ((gates (quiet (running s)))) with sys := { s.sys with hbisoLow := false, pwr := .run, boot := 12, resetLow := false, interp := true, interpSeen := true, sboxReady := true, perfReady := true, vaultReady := true, minor := 2 }, sup := { Supplies.reset with vpp := s.sup.vpp } } : State)).sys with addr := 0, interp := false }, mb := Mailbox.reset, bus := HostBus.reset, perf := Perf.reset, ring := { Ring.reset with ready := true }, fuse := State.reset.fuse } : State) with mb.replies := [r] }), 30, ⟨true, false, 0x14, 0, 3, 0, 7, [1], true⟩, by decide +kernel⟩,
   ⟨(let s : State := State.reset; ({ ({ ((gates (quiet (running s)))) with sys := { s.sys with hbisoLow := false, pwr := .run, boot := 12, resetLow := false, interp := true, interpSeen := true, sboxReady := true, perfReady := true, vaultReady := true, minor := 2 }, sup := { Supplies.reset with vpp := s.sup.vpp } } : State) with sys := { (({ ((gates (quiet (running s)))) with sys := { s.sys with hbisoLow := false, pwr := .run, boot := 12, resetLow := false, interp := true, interpSeen := true, sboxReady := true, perfReady := true, vaultReady := true, minor := 2 }, sup := { Supplies.reset with vpp := s.sup.vpp } } : State)).sys with addr := 0, interp := false }, mb := Mailbox.reset, bus := HostBus.reset, perf := Perf.reset, ring := { Ring.reset with ready := true }, fuse := State.reset.fuse } : State)), by decide +kernel⟩,
   ⟨(let s : State := State.reset; ({ ({ ((gates (quiet (running s)))) with sys := { s.sys with hbisoLow := false, pwr := .run, boot := 12, resetLow := false, interp := true, interpSeen := true, sboxReady := true, perfReady := true, vaultReady := true, minor := 2 }, sup := { Supplies.reset with vpp := s.sup.vpp } } : State) with sys := { (({ ((gates (quiet (running s)))) with sys := { s.sys with hbisoLow := false, pwr := .run, boot := 12, resetLow := false, interp := true, interpSeen := true, sboxReady := true, perfReady := true, vaultReady := true, minor := 2 }, sup := { Supplies.reset with vpp := s.sup.vpp } } : State)).sys with addr := 0, interp := false }, mb := Mailbox.reset, bus := HostBus.reset, perf := Perf.reset, ring := { Ring.reset with ready := true }, fuse := State.reset.fuse } : State)), by decide +kernel⟩,
   ⟨(let s : State := State.reset; ({ ({ ((gates (quiet (running s)))) with sys := { s.sys with hbisoLow := false, pwr := .run, boot := 12, resetLow := false, interp := true, interpSeen := true, sboxReady := true, perfReady := true, vaultReady := true, minor := 2 }, sup := { Supplies.reset with vpp := s.sup.vpp } } : State) with sys := { (({ ((gates (quiet (running s)))) with sys := { s.sys with hbisoLow := false, pwr := .run, boot := 12, resetLow := false, interp := true, interpSeen := true, sboxReady := true, perfReady := true, vaultReady := true, minor := 2 }, sup := { Supplies.reset with vpp := s.sup.vpp } } : State)).sys with addr := 0, interp := false }, mb := Mailbox.reset, bus := HostBus.reset, perf := Perf.reset, ring := { Ring.reset with ready := true }, fuse := State.reset.fuse } : State)), by decide +kernel⟩,
   ⟨(let s : State := State.reset; ({ ({ ((gates (quiet (running s)))) with sys := { s.sys with hbisoLow := false, pwr := .run, boot := 12, resetLow := false, interp := true, interpSeen := true, sboxReady := true, perfReady := true, vaultReady := true, minor := 2 }, sup := { Supplies.reset with vpp := s.sup.vpp } } : State) with sys := { (({ ((gates (quiet (running s)))) with sys := { s.sys with hbisoLow := false, pwr := .run, boot := 12, resetLow := false, interp := true, interpSeen := true, sboxReady := true, perfReady := true, vaultReady := true, minor := 2 }, sup := { Supplies.reset with vpp := s.sup.vpp } } : State)).sys with addr := 0, interp := false }, mb := Mailbox.reset, bus := HostBus.reset, perf := Perf.reset, ring := { Ring.reset with ready := true }, fuse := State.reset.fuse } : State)), by decide +kernel⟩,
   ⟨(let s : State := State.reset; ({ ({ ((gates (quiet (running s)))) with sys := { s.sys with hbisoLow := false, pwr := .run, boot := 12, resetLow := false, interp := true, interpSeen := true, sboxReady := true, perfReady := true, vaultReady := true, minor := 2 }, sup := { Supplies.reset with vpp := s.sup.vpp } } : State) with sys := { (({ ((gates (quiet (running s)))) with sys := { s.sys with hbisoLow := false, pwr := .run, boot := 12, resetLow := false, interp := true, interpSeen := true, sboxReady := true, perfReady := true, vaultReady := true, minor := 2 }, sup := { Supplies.reset with vpp := s.sup.vpp } } : State)).sys with addr := 0, interp := false }, mb := Mailbox.reset, bus := HostBus.reset, perf := Perf.reset, ring := { Ring.reset with ready := true }, fuse := State.reset.fuse } : State)), by decide +kernel⟩,
   ⟨(let s : State := State.reset; ({ ({ ((gates (quiet (running s)))) with sys := { s.sys with hbisoLow := false, pwr := .run, boot := 12, resetLow := false, interp := true, interpSeen := true, sboxReady := true, perfReady := true, vaultReady := true, minor := 2 }, sup := { Supplies.reset with vpp := s.sup.vpp } } : State) with sys := { (({ ((gates (quiet (running s)))) with sys := { s.sys with hbisoLow := false, pwr := .run, boot := 12, resetLow := false, interp := true, interpSeen := true, sboxReady := true, perfReady := true, vaultReady := true, minor := 2 }, sup := { Supplies.reset with vpp := s.sup.vpp } } : State)).sys with addr := 0, interp := false }, mb := Mailbox.reset, bus := HostBus.reset, perf := Perf.reset, ring := { Ring.reset with ready := true }, fuse := State.reset.fuse } : State)), by decide +kernel⟩,
   ⟨(let s : State := State.reset; ({ ({ ((gates (quiet (running s)))) with sys := { s.sys with hbisoLow := false, pwr := .run, boot := 12, resetLow := false, interp := true, interpSeen := true, sboxReady := true, perfReady := true, vaultReady := true, minor := 2 }, sup := { Supplies.reset with vpp := s.sup.vpp } } : State) with sys := { (({ ((gates (quiet (running s)))) with sys := { s.sys with hbisoLow := false, pwr := .run, boot := 12, resetLow := false, interp := true, interpSeen := true, sboxReady := true, perfReady := true, vaultReady := true, minor := 2 }, sup := { Supplies.reset with vpp := s.sup.vpp } } : State)).sys with addr := 0, interp := false }, mb := Mailbox.reset, bus := HostBus.reset, perf := Perf.reset, ring := { Ring.reset with ready := true }, fuse := State.reset.fuse } : State)), by decide +kernel⟩,
   ⟨(let s : State := State.reset; ({ ({ ((gates (quiet (running s)))) with sys := { s.sys with hbisoLow := false, pwr := .run, boot := 12, resetLow := false, interp := true, interpSeen := true, sboxReady := true, perfReady := true, vaultReady := true, minor := 2 }, sup := { Supplies.reset with vpp := s.sup.vpp } } : State) with sys := { (({ ((gates (quiet (running s)))) with sys := { s.sys with hbisoLow := false, pwr := .run, boot := 12, resetLow := false, interp := true, interpSeen := true, sboxReady := true, perfReady := true, vaultReady := true, minor := 2 }, sup := { Supplies.reset with vpp := s.sup.vpp } } : State)).sys with addr := 0, interp := false }, mb := Mailbox.reset, bus := HostBus.reset, perf := Perf.reset, ring := { Ring.reset with ready := true }, fuse := State.reset.fuse } : State)), by decide +kernel⟩,
   ⟨(let s : State := State.reset; ({ ({ ((gates (quiet (running s)))) with sys := { s.sys with hbisoLow := false, pwr := .run, boot := 12, resetLow := false, interp := true, interpSeen := true, sboxReady := true, perfReady := true, vaultReady := true, minor := 2 }, sup := { Supplies.reset with vpp := s.sup.vpp } } : State) with sys := { (({ ((gates (quiet (running s)))) with sys := { s.sys with hbisoLow := false, pwr := .run, boot := 12, resetLow := false, interp := true, interpSeen := true, sboxReady := true, perfReady := true, vaultReady := true, minor := 2 }, sup := { Supplies.reset with vpp := s.sup.vpp } } : State)).sys with addr := 0, interp := false }, mb := Mailbox.reset, bus := HostBus.reset, perf := Perf.reset, ring := { Ring.reset with ready := true }, fuse := State.reset.fuse } : State)), by decide +kernel⟩,
   ⟨(let s : State := State.reset; ({ ({ ((gates (quiet (running s)))) with sys := { s.sys with hbisoLow := false, pwr := .run, boot := 12, resetLow := false, interp := true, interpSeen := true, sboxReady := true, perfReady := true, vaultReady := true, minor := 2 }, sup := { Supplies.reset with vpp := s.sup.vpp } } : State) with sys := { (({ ((gates (quiet (running s)))) with sys := { s.sys with hbisoLow := false, pwr := .run, boot := 12, resetLow := false, interp := true, interpSeen := true, sboxReady := true, perfReady := true, vaultReady := true, minor := 2 }, sup := { Supplies.reset with vpp := s.sup.vpp } } : State)).sys with addr := 0, interp := false }, mb := Mailbox.reset, bus := HostBus.reset, perf := Perf.reset, ring := { Ring.reset with ready := true }, fuse := State.reset.fuse } : State)), by decide +kernel⟩,
   ⟨(let s : State := State.reset; ({ ({ ((gates (quiet (running s)))) with sys := { s.sys with hbisoLow := false, pwr := .run, boot := 12, resetLow := false, interp := true, interpSeen := true, sboxReady := true, perfReady := true, vaultReady := true, minor := 2 }, sup := { Supplies.reset with vpp := s.sup.vpp } } : State) with sys := { (({ ((gates (quiet (running s)))) with sys := { s.sys with hbisoLow := false, pwr := .run, boot := 12, resetLow := false, interp := true, interpSeen := true, sboxReady := true, perfReady := true, vaultReady := true, minor := 2 }, sup := { Supplies.reset with vpp := s.sup.vpp } } : State)).sys with addr := 0, interp := false }, mb := Mailbox.reset, bus := HostBus.reset, perf := Perf.reset, ring := { Ring.reset with ready := true }, fuse := State.reset.fuse } : State)), by decide +kernel⟩,
   ⟨(let s : State := State.reset; ({ ({ ((gates (quiet (running s)))) with sys := { s.sys with hbisoLow := false, pwr := .run, boot := 12, resetLow := false, interp := true, interpSeen := true, sboxReady := true, perfReady := true, vaultReady := true, minor := 2 }, sup := { Supplies.reset with vpp := s.sup.vpp } } : State) with sys := { (({ ((gates (quiet (running s)))) with sys := { s.sys with hbisoLow := false, pwr := .run, boot := 12, resetLow := false, interp := true, interpSeen := true, sboxReady := true, perfReady := true, vaultReady := true, minor := 2 }, sup := { Supplies.reset with vpp := s.sup.vpp } } : State)).sys with addr := 0, interp := false }, mb := Mailbox.reset, bus := HostBus.reset, perf := Perf.reset, ring := { Ring.reset with ready := true }, fuse := State.reset.fuse } : State)), by decide +kernel⟩,
   ⟨(let s : State := State.reset; ({ ({ ((gates (quiet (running s)))) with sys := { s.sys with hbisoLow := false, pwr := .run, boot := 12, resetLow := false, interp := true, interpSeen := true, sboxReady := true, perfReady := true, vaultReady := true, minor := 2 }, sup := { Supplies.reset with vpp := s.sup.vpp } } : State) with sys := { (({ ((gates (quiet (running s)))) with sys := { s.sys with hbisoLow := false, pwr := .run, boot := 12, resetLow := false, interp := true, interpSeen := true, sboxReady := true, perfReady := true, vaultReady := true, minor := 2 }, sup := { Supplies.reset with vpp := s.sup.vpp } } : State)).sys with addr := 0, interp := false }, mb := Mailbox.reset, bus := HostBus.reset, perf := Perf.reset, ring := { Ring.reset with ready := true }, fuse := State.reset.fuse } : State)), by decide +kernel⟩,
   ⟨(let s : State := State.reset; ({ ({ ((gates (quiet (running s)))) with sys := { s.sys with hbisoLow := false, pwr := .run, boot := 12, resetLow := false, interp := true, interpSeen := true, sboxReady := true, perfReady := true, vaultReady := true, minor := 2 }, sup := { Supplies.reset with vpp := s.sup.vpp } } : State) with sys := { (({ ((gates (quiet (running s)))) with sys := { s.sys with hbisoLow := false, pwr := .run, boot := 12, resetLow := false, interp := true, interpSeen := true, sboxReady := true, perfReady := true, vaultReady := true, minor := 2 }, sup := { Supplies.reset with vpp := s.sup.vpp } } : State)).sys with addr := 0, interp := false }, mb := Mailbox.reset, bus := HostBus.reset, perf := Perf.reset, ring := { Ring.reset with ready := true }, fuse := State.reset.fuse } : State)), 3, by decide +kernel⟩,
   ⟨(let s : State := State.reset; ({ ({ ((gates (quiet (running s)))) with sys := { s.sys with hbisoLow := false, pwr := .run, boot := 12, resetLow := false, interp := true, interpSeen := true, sboxReady := true, perfReady := true, vaultReady := true, minor := 2 }, sup := { Supplies.reset with vpp := s.sup.vpp } } : State) with sys := { (({ ((gates (quiet (running s)))) with sys := { s.sys with hbisoLow := false, pwr := .run, boot := 12, resetLow := false, interp := true, interpSeen := true, sboxReady := true, perfReady := true, vaultReady := true, minor := 2 }, sup := { Supplies.reset with vpp := s.sup.vpp } } : State)).sys with addr := 0, interp := false }, mb := Mailbox.reset, bus := HostBus.reset, perf := Perf.reset, ring := { Ring.reset with ready := true }, fuse := State.reset.fuse } : State)), by decide +kernel⟩,
   ⟨(let s : State := State.reset; ({ ({ ((gates (quiet (running s)))) with sys := { s.sys with hbisoLow := false, pwr := .run, boot := 12, resetLow := false, interp := true, interpSeen := true, sboxReady := true, perfReady := true, vaultReady := true, minor := 2 }, sup := { Supplies.reset with vpp := s.sup.vpp } } : State) with sys := { (({ ((gates (quiet (running s)))) with sys := { s.sys with hbisoLow := false, pwr := .run, boot := 12, resetLow := false, interp := true, interpSeen := true, sboxReady := true, perfReady := true, vaultReady := true, minor := 2 }, sup := { Supplies.reset with vpp := s.sup.vpp } } : State)).sys with addr := 0, interp := false }, mb := Mailbox.reset, bus := HostBus.reset, perf := Perf.reset, ring := { Ring.reset with ready := true }, fuse := State.reset.fuse } : State)), by decide +kernel⟩,
   ⟨(let s : State := State.reset; ({ ({ ((gates (quiet (running s)))) with sys := { s.sys with hbisoLow := false, pwr := .run, boot := 12, resetLow := false, interp := true, interpSeen := true, sboxReady := true, perfReady := true, vaultReady := true, minor := 2 }, sup := { Supplies.reset with vpp := s.sup.vpp } } : State) with sys := { (({ ((gates (quiet (running s)))) with sys := { s.sys with hbisoLow := false, pwr := .run, boot := 12, resetLow := false, interp := true, interpSeen := true, sboxReady := true, perfReady := true, vaultReady := true, minor := 2 }, sup := { Supplies.reset with vpp := s.sup.vpp } } : State)).sys with addr := 0, interp := false }, mb := Mailbox.reset, bus := HostBus.reset, perf := Perf.reset, ring := { Ring.reset with ready := true }, fuse := State.reset.fuse } : State)), by decide +kernel⟩,
   ⟨(let s : State := State.reset; ({ ({ ((gates (quiet (running s)))) with sys := { s.sys with hbisoLow := false, pwr := .run, boot := 12, resetLow := false, interp := true, interpSeen := true, sboxReady := true, perfReady := true, vaultReady := true, minor := 2 }, sup := { Supplies.reset with vpp := s.sup.vpp } } : State) with sys := { (({ ((gates (quiet (running s)))) with sys := { s.sys with hbisoLow := false, pwr := .run, boot := 12, resetLow := false, interp := true, interpSeen := true, sboxReady := true, perfReady := true, vaultReady := true, minor := 2 }, sup := { Supplies.reset with vpp := s.sup.vpp } } : State)).sys with addr := 0, interp := false }, mb := Mailbox.reset, bus := HostBus.reset, perf := Perf.reset, ring := { Ring.reset with ready := true }, fuse := State.reset.fuse } : State)), by decide +kernel⟩,
   ⟨(let s : State := State.reset; ({ ({ ((gates (quiet (running s)))) with sys := { s.sys with hbisoLow := false, pwr := .run, boot := 12, resetLow := false, interp := true, interpSeen := true, sboxReady := true, perfReady := true, vaultReady := true, minor := 2 }, sup := { Supplies.reset with vpp := s.sup.vpp } } : State) with sys := { (({ ((gates (quiet (running s)))) with sys := { s.sys with hbisoLow := false, pwr := .run, boot := 12, resetLow := false, interp := true, interpSeen := true, sboxReady := true, perfReady := true, vaultReady := true, minor := 2 }, sup := { Supplies.reset with vpp := s.sup.vpp } } : State)).sys with addr := 0, interp := false }, mb := Mailbox.reset, bus := HostBus.reset, perf := Perf.reset, ring := { Ring.reset with ready := true }, fuse := State.reset.fuse } : State)), by decide +kernel⟩⟩

/-- States and operands that meet the hypotheses of each clause of TimersAndComparatorsRun. -/
theorem witness_TimersAndComparatorsRun :
  (∃ (s : State) (k : TmrId),
    (s.tmr k).mode = 1 ∧ (s.tmr k).run = true ∧ (s.tmr k).clkSrc.toNat < 8 ∧ s.counts (s.tmr k) = true ∧ (s.tmr k).count =
    (s.tmr k).reload ∧ (s.tmr k).wrA = none ∧ (s.tmr k).wrB = none ∧ (s.tmr k).cmpa ≠ 0 ∧ (s.tmr k).cmpb ≠ 0) ∧
  (∃ (s : State) (k : TmrId),
    (s.tmr k).mode = 2 ∧ (s.tmr k).run = true ∧ (s.tmr k).clkSrc.toNat < 8 ∧ s.counts (s.tmr k) = true ∧ (s.tmr k).count =
    (s.tmr k).reload ∧ (s.tmr k).wrA = none ∧ (s.tmr k).wrB = none ∧ (s.tmr k).cmpa ≠ 0 ∧ (s.tmr k).cmpb ≠ 0) ∧
  (∃ (s : State) (k : TmrId),
    (s.tmr k).count ≠ (s.tmr k).reload) ∧
  (∃ (s : State) (k : TmrId),
    (s.tmr k).mode = 1 ∧ (s.tmr k).cmpa = (s.tmr k).count + 1 ∧ (s.tmr k).cmpb ≠ (s.tmr k).cmpa ∧ (s.tmr k).wrA = none ∧
    (s.tmr k).wrB = none ∧ (s.tmr k).run = true ∧ (s.tmr k).clkSrc.toNat < 8 ∧ s.counts (s.tmr k) = true ∧ (s.tmr k).count ≠
    (s.tmr k).reload) ∧
  (∃ (s : State) (k : TmrId),
    (s.tmr k).cmpb = (s.tmr k).count + 1 ∧ (s.tmr k).cmpa ≠ (s.tmr k).cmpb ∧ (s.tmr k).wrA = none ∧ (s.tmr k).wrB = none ∧
    (s.tmr k).run = true ∧ (s.tmr k).clkSrc.toNat < 8 ∧ s.counts (s.tmr k) = true ∧ (s.tmr k).count ≠ (s.tmr k).reload) ∧
  (∃ (s : State) (k : TmrId) (v : Word),
    (s.tmr k).wrA = some v ∧ v.toNat ≤ (s.tmr k).count.toNat ∧ (s.tmr k).wrB = none ∧ (s.tmr k).cmpb ≠ (s.tmr k).count + 1 ∧
    (s.tmr k).run = true ∧ (s.tmr k).clkSrc.toNat < 8 ∧ s.counts (s.tmr k) = true ∧ (s.tmr k).count ≠ (s.tmr k).reload) ∧
  (∃ (s : State) (k : TmrId) (r : Bool) (c : Word),
    (s.tmr k).mode = 4 ∧ (s.tmr k).capEdge = (if r then 0 else 1) ∧ c = (s.tmr k).count + 1 ∧ (s.tmr k).cmpa ≠ c ∧ (s.tmr
    k).cmpb ≠ c ∧ (s.tmr k).wrA = none ∧ (s.tmr k).wrB = none ∧ (s.tmr k).run = true ∧ (s.tmr k).clkSrc.toNat < 8 ∧ s.counts
    (s.tmr k) = true ∧ (s.tmr k).count ≠ (s.tmr k).reload) ∧
  (∃ (s : State) (k : TmrId),
    (s.tmr k).smode = 3 ∧ (s.tmr k).run = true ∧ (s.tmr k).presc = 1 ∧ (s.tmr k).prescFrac = 0 ∧ (s.tmr k).acc = 0 ∧ (s.tmr
    k).owed = 0 ∧ (s.tmr k).count.toNat + 1 < (s.tmr k).cmpa.toNat ∧ (s.tmr k).cmpa.toNat < (s.tmr k).cmpb.toNat ∧ (s.tmr
    k).cmpb.toNat < (s.tmr k).reload.toNat ∧ (s.tmr k).wrA = none ∧ (s.tmr k).wrB = none) ∧
  (∃ (s : State) (k : TmrId),
    (s.tmr k).smode = 2 ∧ (s.tmr k).mode = 1 ∧ (s.tmr k).run = false) ∧
  (∃ (s : State) (g : Fin 16) (v : Nat),
    (s.gwc g).mode = 1 ∧ (s.gwc g).filtM = 0 ∧ (s.gwc g).st = .inside ∧ (s.gwc g).raw = .inside ∧ (s.gwc g).thHi.toNat < v ∧
    (s.gwc g).thLo.toNat ≤ v ∧ (s.gwc g).evtMask.getLsbD 2 = true ∧ s.sys.pwr = .run) ∧
  (∃ (s : State) (g : Fin 16) (v : Nat),
    (s.gwc g).mode = 1 ∧ (s.gwc g).filtM = 0 ∧ (s.gwc g).raw ≠ .above ∧ v < (s.gwc g).thLo.toNat ∧ (s.gwc g).evtMask = 4 ∧
    s.sys.pwr = .run) ∧
  (∃ (s : State) (g : Fin 16) (v : Nat) (x : GwcSt),
    (s.gwc g).mode = 1 ∧ (s.gwc g).filtM = 5 ∧ (s.gwc g).st = .inside ∧ (s.gwc g).hist = [x, .above] ∧ 1023 < v ∧ s.sys.pwr
    = .run) ∧
  (∃ (s : State) (g : Fin 16) (v : Nat) (x : GwcSt),
    (s.gwc g).mode = 1 ∧ (s.gwc g).filtM = 3 ∧ (s.gwc g).hist = [x, .above] ∧ 1023 < v ∧ s.sys.pwr = .run) :=
  ⟨⟨(let s : State := State.reset; ({ ({ ((gates (quiet (running s)))) with sys := { s.sys with hbisoLow := false, pwr := .run, boot := 12, resetLow := false, interp := true, interpSeen := true, sboxReady := true, perfReady := true, vaultReady := true, minor := 2 }, sup := { Supplies.reset with vpp := s.sup.vpp } } : State) with perf := Perf.reset, gwcs := State.reset.gwcs, tmrs := Vector.replicate 48 { Tmr.reset with mode := 1, run := true, presc := 1, reload := 100, count := 100, cmpa := 50, cmpb := 60, flag := 0 } } : State)), 47, by decide +kernel⟩,
   ⟨(let s : State := State.reset; ({ ({ ((gates (quiet (running s)))) with sys := { s.sys with hbisoLow := false, pwr := .run, boot := 12, resetLow := false, interp := true, interpSeen := true, sboxReady := true, perfReady := true, vaultReady := true, minor := 2 }, sup := { Supplies.reset with vpp := s.sup.vpp } } : State) with perf := Perf.reset, gwcs := State.reset.gwcs, tmrs := Vector.replicate 48 { Tmr.reset with mode := 2, run := true, presc := 1, reload := 100, count := 100, cmpa := 50, cmpb := 60, flag := 0 } } : State)), 0, by decide +kernel⟩,
   ⟨(let s : State := State.reset; ({ ({ ((gates (quiet (running s)))) with sys := { s.sys with hbisoLow := false, pwr := .run, boot := 12, resetLow := false, interp := true, interpSeen := true, sboxReady := true, perfReady := true, vaultReady := true, minor := 2 }, sup := { Supplies.reset with vpp := s.sup.vpp } } : State) with perf := Perf.reset, gwcs := State.reset.gwcs, tmrs := Vector.replicate 48 { Tmr.reset with mode := 2, run := true, presc := 1, reload := 100, count := 99, cmpa := 50, cmpb := 60, flag := 0 } } : State)), 0, by decide +kernel⟩,
   ⟨(let s : State := State.reset; ({ ({ ((gates (quiet (running s)))) with sys := { s.sys with hbisoLow := false, pwr := .run, boot := 12, resetLow := false, interp := true, interpSeen := true, sboxReady := true, perfReady := true, vaultReady := true, minor := 2 }, sup := { Supplies.reset with vpp := s.sup.vpp } } : State) with perf := Perf.reset, gwcs := State.reset.gwcs, tmrs := Vector.replicate 48 { Tmr.reset with mode := 1, run := true, presc := 1, reload := 100, count := 49, cmpa := 50, cmpb := 60, flag := 0 } } : State)), 47, by decide +kernel⟩,
   ⟨(let s : State := State.reset; ({ ({ ((gates (quiet (running s)))) with sys := { s.sys with hbisoLow := false, pwr := .run, boot := 12, resetLow := false, interp := true, interpSeen := true, sboxReady := true, perfReady := true, vaultReady := true, minor := 2 }, sup := { Supplies.reset with vpp := s.sup.vpp } } : State) with perf := Perf.reset, gwcs := State.reset.gwcs, tmrs := Vector.replicate 48 { Tmr.reset with mode := 1, run := true, presc := 1, reload := 100, count := 59, cmpa := 50, cmpb := 60, flag := 0 } } : State)), 47, by decide +kernel⟩,
   ⟨(let v : Word := 40; let s : State := State.reset; ({ ({ ((gates (quiet (running s)))) with sys := { s.sys with hbisoLow := false, pwr := .run, boot := 12, resetLow := false, interp := true, interpSeen := true, sboxReady := true, perfReady := true, vaultReady := true, minor := 2 }, sup := { Supplies.reset with vpp := s.sup.vpp } } : State) with perf := Perf.reset, gwcs := State.reset.gwcs, tmrs := Vector.replicate 48 { Tmr.reset with mode := 1, run := true, presc := 1, reload := 100, count := 49, cmpa := 50, cmpb := 60, flag := 0 , wrA := some v } } : State)), 47, 40, by decide +kernel⟩,
   ⟨(let r : Bool := false; let s : State := State.reset; ({ ({ ((gates (quiet (running s)))) with sys := { s.sys with hbisoLow := false, pwr := .run, boot := 12, resetLow := false, interp := true, interpSeen := true, sboxReady := true, perfReady := true, vaultReady := true, minor := 2 }, sup := { Supplies.reset with vpp := s.sup.vpp } } : State) with perf := Perf.reset, gwcs := State.reset.gwcs, tmrs := Vector.replicate 48 { Tmr.reset with mode := 4, run := true, presc := 1, reload := 100, count := 10, cmpa := 50, cmpb := 60, flag := 0 , capEdge := if r then 0 else 1 } } : State)), 47, false, 11, by decide +kernel⟩,
   ⟨(let s : State := State.reset; ({ ({ ((gates (quiet (running s)))) with sys := { s.sys with hbisoLow := false, pwr := .run, boot := 12, resetLow := false, interp := true, interpSeen := true, sboxReady := true, perfReady := true, vaultReady := true, minor := 2 }, sup := { Supplies.reset with vpp := s.sup.vpp } } : State) with perf := Perf.reset, gwcs := State.reset.gwcs, tmrs := Vector.replicate 48 { Tmr.reset with mode := 1, run := true, presc := 1, reload := 100, count := 10, cmpa := 50, cmpb := 60, flag := 0 , smode := 3 } } : State)), 47, by decide +kernel⟩,
   ⟨(let s : State := State.reset; ({ ({ ((gates (quiet (running s)))) with sys := { s.sys with hbisoLow := false, pwr := .run, boot := 12, resetLow := false, interp := true, interpSeen := true, sboxReady := true, perfReady := true, vaultReady := true, minor := 2 }, sup := { Supplies.reset with vpp := s.sup.vpp } } : State) with perf := Perf.reset, gwcs := State.reset.gwcs, tmrs := Vector.replicate 48 { Tmr.reset with mode := 1, run := false, presc := 1, reload := 100, count := 10, cmpa := 50, cmpb := 60, flag := 0 , smode := 2 } } : State)), 47, by decide +kernel⟩,
   ⟨(let g : Fin 16 := 15; let s : State := State.reset; (({ ({ ((gates (quiet (running s)))) with sys := { s.sys with hbisoLow := false, pwr := .run, boot := 12, resetLow := false, interp := true, interpSeen := true, sboxReady := true, perfReady := true, vaultReady := true, minor := 2 }, sup := { Supplies.reset with vpp := s.sup.vpp } } : State) with perf := Perf.reset, gwcs := State.reset.gwcs, tmrs := Vector.replicate 48 { Tmr.reset with mode := 1, run := false, presc := 1, reload := 100, count := 10, cmpa := 50, cmpb := 60, flag := 0 } } : State)).setGwc g { Gwc.reset with mode := 1, st := .inside, raw := .inside, thLo := 100, thHi := 500, evtMask := 4 }), 15, 501, by decide +kernel⟩,
   ⟨(let g : Fin 16 := 15; let s : State := State.reset; (({ ({ ((gates (quiet (running s)))) with sys := { s.sys with hbisoLow := false, pwr := .run, boot := 12, resetLow := false, interp := true, interpSeen := true, sboxReady := true, perfReady := true, vaultReady := true, minor := 2 }, sup := { Supplies.reset with vpp := s.sup.vpp } } : State) with perf := Perf.reset, gwcs := State.reset.gwcs, tmrs := Vector.replicate 48 { Tmr.reset with mode := 1, run := false, presc := 1, reload := 100, count := 10, cmpa := 50, cmpb := 60, flag := 0 } } : State)).setGwc g { Gwc.reset with mode := 1, st := .inside, raw := .inside, thLo := 100, thHi := 500, evtMask := 4 }), 15, 99, by decide +kernel⟩,
   ⟨(let g : Fin 16 := 15; let x : GwcSt := .above; let s : State := State.reset; (({ ({ ((gates (quiet (running s)))) with sys := { s.sys with hbisoLow := false, pwr := .run, boot := 12, resetLow := false, interp := true, interpSeen := true, sboxReady := true, perfReady := true, vaultReady := true, minor := 2 }, sup := { Supplies.reset with vpp := s.sup.vpp } } : State) with perf := Perf.reset, gwcs := State.reset.gwcs, tmrs := Vector.replicate 48 { Tmr.reset with mode := 1, run := false, presc := 1, reload := 100, count := 10, cmpa := 50, cmpb := 60, flag := 0 } } : State)).setGwc g { Gwc.reset with mode := 1, st := .inside, raw := .inside, filtM := 5, hist := [x, .above] }), 15, 1030, .above, by decide +kernel⟩,
   ⟨(let g : Fin 16 := 15; let x : GwcSt := .inside; let s : State := State.reset; (({ ({ ((gates (quiet (running s)))) with sys := { s.sys with hbisoLow := false, pwr := .run, boot := 12, resetLow := false, interp := true, interpSeen := true, sboxReady := true, perfReady := true, vaultReady := true, minor := 2 }, sup := { Supplies.reset with vpp := s.sup.vpp } } : State) with perf := Perf.reset, gwcs := State.reset.gwcs, tmrs := Vector.replicate 48 { Tmr.reset with mode := 1, run := false, presc := 1, reload := 100, count := 10, cmpa := 50, cmpb := 60, flag := 0 } } : State)).setGwc g { Gwc.reset with mode := 1, st := .inside, raw := .inside, filtM := 3, hist := [x, .above] }), 15, 1030, .inside, by decide +kernel⟩⟩

/-- States and operands that meet the hypotheses of each clause of LanternAnswersItsLines. -/
theorem witness_LanternAnswersItsLines :
  (∃ (s : State),
    s.lanternen = true ∧ s.memOn = true ∧ s.sys.pwr = .run ∧ s.sys.interp = true ∧ s.lantern.unlocked = true ∧
    s.lantern.watch = false ∧ s.lantern.keygen = none ∧ s.lantern.wait = [] ∧ s.lantern.fill = 0) ∧
  (∃ (s : State) (r : Nat),
    s.lanternen = true ∧ s.memOn = true ∧ s.sys.pwr = .run ∧ s.sys.interp = true ∧ s.lantern.unlocked = true ∧
    s.lantern.watch = false ∧ s.lantern.keygen = none ∧ s.lantern.wait = [] ∧ s.lantern.fill = 0 ∧ r ∈ [115200, 230400,
    460800, 921600, 1500000, 3000000]) ∧
  (∃ (s : State),
    s.lanternen = true ∧ s.memOn = true ∧ s.sys.pwr = .run ∧ s.sys.interp = true ∧ s.lantern.unlocked = true ∧
    s.lantern.watch = false ∧ s.lantern.keygen = none ∧ s.lantern.wait = [] ∧ s.lantern.fill = 0) ∧
  (∃ (s : State) (p : PortId),
    s.lanternen = true ∧ s.memOn = true ∧ s.sys.pwr = .run ∧ s.sys.interp = true ∧ s.lantern.unlocked = true ∧
    s.lantern.watch = false ∧ s.lantern.keygen = none ∧ s.lantern.wait = [] ∧ s.lantern.fill = 0 ∧ s.porten p = true) ∧
  (∃ (s : State),
    s.lanternen = true ∧ s.memOn = true ∧ s.sys.pwr = .run ∧ s.sys.interp = true ∧ s.lantern.unlocked = true ∧
    s.lantern.watch = false ∧ s.lantern.keygen = none ∧ s.lantern.wait = [] ∧ s.lantern.fill = 0) ∧
  (∃ (s : State),
    s.lanternen = true ∧ s.memOn = true ∧ s.sys.pwr = .run ∧ s.sys.interp = true ∧ s.lantern.unlocked = true ∧
    s.lantern.watch = false ∧ s.lantern.keygen = none ∧ s.lantern.wait = [] ∧ s.lantern.fill = 0 ∧ s.ridgeen = true) ∧
  (∃ (s : State) (b : Nat),
    s.lanternen = true ∧ s.memOn = true ∧ s.sys.pwr = .run ∧ s.sys.interp = true ∧ s.lantern.unlocked = true ∧
    s.lantern.watch = false ∧ s.lantern.keygen = none ∧ s.lantern.wait = [] ∧ s.lantern.fill = 0 ∧ b ≤ 37) ∧
  (∃ (s : State) (n : Nat),
    s.lanternen = true ∧ s.memOn = true ∧ s.sys.pwr = .run ∧ s.sys.interp = true ∧ s.lantern.unlocked = true ∧
    s.lantern.watch = false ∧ s.lantern.keygen = none ∧ s.lantern.wait = [] ∧ s.lantern.fill = 0 ∧ 1 ≤ n ∧ n ≤ 64) ∧
  (∃ (s : State) (r : Nat),
    s.lanternen = true ∧ s.memOn = true ∧ s.sys.pwr = .run ∧ s.sys.interp = true ∧ s.lantern.unlocked = true ∧
    s.lantern.watch = false ∧ s.lantern.keygen = none ∧ s.lantern.wait = [] ∧ s.lantern.fill = 0 ∧ r ≤ 4 ∧ s.rlocked r =
    false) ∧
  (∃ (s : State) (r : Nat),
    s.lanternen = true ∧ s.memOn = true ∧ s.sys.pwr = .run ∧ s.sys.interp = true ∧ s.lantern.unlocked = true ∧
    s.lantern.watch = false ∧ s.lantern.keygen = none ∧ s.lantern.wait = [] ∧ s.lantern.fill = 0 ∧ r ≤ 4 ∧ s.rlocked r =
    true) ∧
  (∃ (s : State) (n : Nat),
    s.lanternen = true ∧ s.memOn = true ∧ s.sys.pwr = .run ∧ s.sys.interp = true ∧ s.lantern.unlocked = true ∧
    s.lantern.watch = false ∧ s.lantern.keygen = none ∧ s.lantern.wait = [] ∧ s.lantern.fill = 0 ∧ 1 ≤ n ∧ n ≤ 256) ∧
  (∃ (s : State),
    s.lanternen = true ∧ s.memOn = true ∧ s.sys.pwr = .run ∧ s.sys.interp = true ∧ s.lantern.unlocked = true ∧
    s.lantern.watch = false ∧ s.lantern.keygen = none ∧ s.lantern.wait = [] ∧ s.lantern.fill = 0) ∧
  (∃ (s : State),
    s.lanternen = true ∧ s.memOn = true ∧ s.sys.pwr = .run ∧ s.sys.interp = true ∧ s.lantern.unlocked = true ∧
    s.lantern.watch = false ∧ s.lantern.keygen = none ∧ s.lantern.wait = [] ∧ s.lantern.fill = 0 ∧ s.fuse.queue = []) ∧
  (∃ (s : State) (x : Bool × Nat),
    s.lanternen = true ∧ s.memOn = true ∧ s.sys.pwr = .run ∧ s.sys.interp = true ∧ s.lantern.unlocked = true ∧
    s.lantern.watch = false ∧ s.lantern.wait = [] ∧ s.lantern.keygen = some x) ∧
  (∃ (s : State),
    s.lanternen = true ∧ s.memOn = true ∧ s.sys.pwr = .run ∧ s.lantern.unlocked = true ∧ s.sys.interp = false) ∧
  (∃ (s : State) (o : Nat) (b : List Byte),
    s.lanternen = true ∧ s.memOn = true ∧ s.sys.pwr = .run ∧ s.sys.interp = true ∧ s.lantern.unlocked = true ∧
    s.lantern.watch = false ∧ s.lantern.keygen = none ∧ s.lantern.wait = [] ∧ s.lantern.fill = 0 ∧ b ≠ [] ∧ b.length ≤ 48 ∧
    o + b.length ≤ 4096 ∧ s.lantern.stage.wf = true) ∧
  (∃ (s : State) (n : Nat),
    s.lanternen = true ∧ s.memOn = true ∧ s.sys.pwr = .run ∧ s.sys.interp = true ∧ s.lantern.unlocked = true ∧
    s.lantern.watch = false ∧ s.lantern.keygen = none ∧ s.lantern.wait = [] ∧ s.lantern.fill = 0 ∧ n ≤ 4096 ∧ n ≤
    s.lantern.staged) ∧
  (∃ (s : State),
    s.lanternen = true ∧ s.memOn = true ∧ s.sys.pwr = .run ∧ s.sys.interp = true ∧ s.lantern.unlocked = true ∧
    s.lantern.watch = false ∧ s.lantern.keygen = none ∧ s.lantern.wait = [] ∧ s.lantern.fill = 0) ∧
  (∃ (s : State),
    s.lanternen = true ∧ s.memOn = true ∧ s.sys.pwr = .run ∧ s.lantern.unlocked = false) ∧
  (∃ (s : State),
    s.lanternen = true ∧ s.memOn = true ∧ s.sys.pwr = .run ∧ s.lantern.unlocked = false ∧ (s.almCfg 5).action = 0 ∧
    s.sbox.queue.length < 32) :=
  ⟨⟨(let s : State := State.reset; ({ ({ ((gates (quiet (running s)))) with sys := { s.sys with hbisoLow := false, pwr := .run, boot := 12, resetLow := false, interp := true, interpSeen := true, sboxReady := true, perfReady := true, vaultReady := true, minor := 2 }, sup := { Supplies.reset with vpp := s.sup.vpp } } : State) with fuse := State.reset.fuse, lantern := { Lantern.reset with unlocked := true }, alarm := Alarm.reset } : State)), by decide +kernel⟩,
   ⟨(let s : State := State.reset; ({ ({ ((gates (quiet (running s)))) with sys := { s.sys with hbisoLow := false, pwr := .run, boot := 12, resetLow := false, interp := true, interpSeen := true, sboxReady := true, perfReady := true, vaultReady := true, minor := 2 }, sup := { Supplies.reset with vpp := s.sup.vpp } } : State) with fuse := State.reset.fuse, lantern := { Lantern.reset with unlocked := true }, alarm := Alarm.reset } : State)), 921600, by decide +kernel⟩,
   ⟨(let s : State := State.reset; ({ ({ ((gates (quiet (running s)))) with sys := { s.sys with hbisoLow := false, pwr := .run, boot := 12, resetLow := false, interp := true, interpSeen := true, sboxReady := true, perfReady := true, vaultReady := true, minor := 2 }, sup := { Supplies.reset with vpp := s.sup.vpp } } : State) with fuse := State.reset.fuse, lantern := { Lantern.reset with unlocked := true }, alarm := Alarm.reset } : State)), by decide +kernel⟩,
   ⟨(let s : State := State.reset; ({ ({ ((gates (quiet (running s)))) with sys := { s.sys with hbisoLow := false, pwr := .run, boot := 12, resetLow := false, interp := true, interpSeen := true, sboxReady := true, perfReady := true, vaultReady := true, minor := 2 }, sup := { Supplies.reset with vpp := s.sup.vpp } } : State) with fuse := State.reset.fuse, lantern := { Lantern.reset with unlocked := true }, alarm := Alarm.reset } : State)), 31, by decide +kernel⟩,
   ⟨(let s : State := State.reset; ({ ({ ((gates (quiet (running s)))) with sys := { s.sys with hbisoLow := false, pwr := .run, boot := 12, resetLow := false, interp := true, interpSeen := true, sboxReady := true, perfReady := true, vaultReady := true, minor := 2 }, sup := { Supplies.reset with vpp := s.sup.vpp } } : State) with fuse := State.reset.fuse, lantern := { Lantern.reset with unlocked := true }, alarm := Alarm.reset } : State)), by decide +kernel⟩,
   ⟨(let s : State := State.reset; ({ ({ ((gates (quiet (running s)))) with sys := { s.sys with hbisoLow := false, pwr := .run, boot := 12, resetLow := false, interp := true, interpSeen := true, sboxReady := true, perfReady := true, vaultReady := true, minor := 2 }, sup := { Supplies.reset with vpp := s.sup.vpp } } : State) with fuse := State.reset.fuse, lantern := { Lantern.reset with unlocked := true }, alarm := Alarm.reset } : State)), by decide +kernel⟩,
   ⟨(let s : State := State.reset; ({ ({ ((gates (quiet (running s)))) with sys := { s.sys with hbisoLow := false, pwr := .run, boot := 12, resetLow := false, interp := true, interpSeen := true, sboxReady := true, perfReady := true, vaultReady := true, minor := 2 }, sup := { Supplies.reset with vpp := s.sup.vpp } } : State) with fuse := State.reset.fuse, lantern := { Lantern.reset with unlocked := true }, alarm := Alarm.reset } : State)), 37, by decide +kernel⟩,
   ⟨(let s : State := State.reset; ({ ({ ((gates (quiet (running s)))) with sys := { s.sys with hbisoLow := false, pwr := .run, boot := 12, resetLow := false, interp := true, interpSeen := true, sboxReady := true, perfReady := true, vaultReady := true, minor := 2 }, sup := { Supplies.reset with vpp := s.sup.vpp } } : State) with fuse := State.reset.fuse, lantern := { Lantern.reset with unlocked := true }, alarm := Alarm.reset } : State)), 64, by decide +kernel⟩,
   ⟨(let s : State := State.reset; ({ ({ ((gates (quiet (running s)))) with sys := { s.sys with hbisoLow := false, pwr := .run, boot := 12, resetLow := false, interp := true, interpSeen := true, sboxReady := true, perfReady := true, vaultReady := true, minor := 2 }, sup := { Supplies.reset with vpp := s.sup.vpp } } : State) with fuse := State.reset.fuse, lantern := { Lantern.reset with unlocked := true }, alarm := Alarm.reset } : State)), 3, by decide +kernel⟩,
   ⟨(let s : State := State.reset; ({ ({ ({ ((gates (quiet (running s)))) with sys := { s.sys with hbisoLow := false, pwr := .run, boot := 12, resetLow := false, interp := true, interpSeen := true, sboxReady := true, perfReady := true, vaultReady := true, minor := 2 }, sup := { Supplies.reset with vpp := s.sup.vpp } } : State) with fuse := State.reset.fuse, lantern := { Lantern.reset with unlocked := true }, alarm := Alarm.reset } : State) with fuse := { State.reset.fuse with latched := [(4, 0x1F), (764, 0xF0)] } } : State)), 1, by decide +kernel⟩,
   ⟨(let s : State := State.reset; ({ ({ ((gates (quiet (running s)))) with sys := { s.sys with hbisoLow := false, pwr := .run, boot := 12, resetLow := false, interp := true, interpSeen := true, sboxReady := true, perfReady := true, vaultReady := true, minor := 2 }, sup := { Supplies.reset with vpp := s.sup.vpp } } : State) with fuse := State.reset.fuse, lantern := { Lantern.reset with unlocked := true }, alarm := Alarm.reset } : State)), 256, by decide +kernel⟩,
   ⟨(let s : State := State.reset; ({ ({ ((gates (quiet (running s)))) with sys := { s.sys with hbisoLow := false, pwr := .run, boot := 12, resetLow := false, interp := true, interpSeen := true, sboxReady := true, perfReady := true, vaultReady := true, minor := 2 }, sup := { Supplies.reset with vpp := s.sup.vpp } } : State) with fuse := State.reset.fuse, lantern := { Lantern.reset with unlocked := true }, alarm := Alarm.reset } : State)), by decide +kernel⟩,
   ⟨(let s : State := State.reset; ({ ({ ((gates (quiet (running s)))) with sys := { s.sys with hbisoLow := false, pwr := .run, boot := 12, resetLow := false, interp := true, interpSeen := true, sboxReady := true, perfReady := true, vaultReady := true, minor := 2 }, sup := { Supplies.reset with vpp := s.sup.vpp } } : State) with fuse := State.reset.fuse, lantern := { Lantern.reset with unlocked := true }, alarm := Alarm.reset } : State)), by decide +kernel⟩,
   ⟨(let x : Bool × Nat := (false, 0); let s : State := State.reset; ({ ({ ({ ((gates (quiet (running s)))) with sys := { s.sys with hbisoLow := false, pwr := .run, boot := 12, resetLow := false, interp := true, interpSeen := true, sboxReady := true, perfReady := true, vaultReady := true, minor := 2 }, sup := { Supplies.reset with vpp := s.sup.vpp } } : State) with fuse := State.reset.fuse, lantern := { Lantern.reset with unlocked := true }, alarm := Alarm.reset } : State) with lantern := { Lantern.reset with unlocked := true, keygen := some x } } : State)), (false, 0), by decide +kernel⟩,
   ⟨(let s : State := State.reset; ({ ({ ({ ((gates (quiet (running s)))) with sys := { s.sys with hbisoLow := false, pwr := .run, boot := 12, resetLow := false, interp := true, interpSeen := true, sboxReady := true, perfReady := true, vaultReady := true, minor := 2 }, sup := { Supplies.reset with vpp := s.sup.vpp } } : State) with fuse := State.reset.fuse, lantern := { Lantern.reset with unlocked := true }, alarm := Alarm.reset } : State) with sys.interp := false } : State)), by decide +kernel⟩,
   ⟨(let s : State := State.reset; ({ ({ ((gates (quiet (running s)))) with sys := { s.sys with hbisoLow := false, pwr := .run, boot := 12, resetLow := false, interp := true, interpSeen := true, sboxReady := true, perfReady := true, vaultReady := true, minor := 2 }, sup := { Supplies.reset with vpp := s.sup.vpp } } : State) with fuse := State.reset.fuse, lantern := { Lantern.reset with unlocked := true }, alarm := Alarm.reset } : State)), 4090, [1, 2], by decide +kernel⟩,
   ⟨(let s : State := State.reset; ({ ({ ({ ((gates (quiet (running s)))) with sys := { s.sys with hbisoLow := false, pwr := .run, boot := 12, resetLow := false, interp := true, interpSeen := true, sboxReady := true, perfReady := true, vaultReady := true, minor := 2 }, sup := { Supplies.reset with vpp := s.sup.vpp } } : State) with fuse := State.reset.fuse, lantern := { Lantern.reset with unlocked := true }, alarm := Alarm.reset } : State) with lantern := { Lantern.reset with unlocked := true, stage := [(0, 7)], staged := 4096 } } : State)), 1, by decide +kernel⟩,
   ⟨(let s : State := State.reset; ({ ({ ((gates (quiet (running s)))) with sys := { s.sys with hbisoLow := false, pwr := .run, boot := 12, resetLow := false, interp := true, interpSeen := true, sboxReady := true, perfReady := true, vaultReady := true, minor := 2 }, sup := { Supplies.reset with vpp := s.sup.vpp } } : State) with fuse := State.reset.fuse, lantern := { Lantern.reset with unlocked := true }, alarm := Alarm.reset } : State)), by decide +kernel⟩,
   ⟨(let s : State := State.reset; ({ ({ ((gates (quiet (running s)))) with sys := { s.sys with hbisoLow := false, pwr := .run, boot := 12, resetLow := false, interp := true, interpSeen := true, sboxReady := true, perfReady := true, vaultReady := true, minor := 2 }, sup := { Supplies.reset with vpp := s.sup.vpp } } : State) with fuse := State.reset.fuse, lantern := { Lantern.reset with unlocked := false }, alarm := Alarm.reset } : State)), by decide +kernel⟩,
   ⟨(let s : State := State.reset; ({ ({ ((gates (quiet (running s)))) with sys := { s.sys with hbisoLow := false, pwr := .run, boot := 12, resetLow := false, interp := true, interpSeen := true, sboxReady := true, perfReady := true, vaultReady := true, minor := 2 }, sup := { Supplies.reset with vpp := s.sup.vpp } } : State) with fuse := State.reset.fuse, lantern := { Lantern.reset with unlocked := false }, alarm := Alarm.reset } : State)), by decide +kernel⟩⟩

/-- States and operands that meet the hypotheses of each clause of DeviceAndFirmwareCommands. -/
theorem witness_DeviceAndFirmwareCommands :
  (∃ (s : State) (c : BitVec 2) (g : BitVec 6) (q : Byte) (m : Byte) (x : Byte) (y : Byte),
    Serves s (cmdPacket ⟨c, g, 0xFF, q⟩ 0x00 [1, m, x, y])) ∧
  (∃ (s : State) (c : BitVec 2) (g : BitVec 6) (q : Byte) (pl : List Byte),
    Serves s (cmdPacket ⟨c, g, 0xFF, q⟩ 0x02 pl)) ∧
  (∃ (s : State) (c : BitVec 2) (g : BitVec 6) (q : Byte) (x : Byte),
    Serves s (cmdPacket ⟨c, g, 0xFF, q⟩ 0x03 [0, x])) ∧
  (∃ (s : State) (c : BitVec 2) (g : BitVec 6) (q : Byte),
    Serves s (cmdPacket ⟨c, g, 0xFF, q⟩ 0x03 [1, 0xE5])) ∧
  (∃ (s : State) (c : BitVec 2) (g : BitVec 6) (q : Byte) (x : Byte),
    Serves s (cmdPacket ⟨c, g, 0xFF, q⟩ 0x01 [x]) ∧ x.toNat < 64 ∧ x ≠ g.zeroExtend 8 ∧ s.mb.tags = []) ∧
  (∃ (s : State) (c : BitVec 2) (g : BitVec 6) (q : Byte) (j : Packet),
    Serves s (cmdPacket ⟨c, g, 0xFF, q⟩ 0x01 [j.tag.zeroExtend 8]) ∧ s.mb.tags = [j.tag] ∧ j.tag ≠ g ∧ s.mb.replies = [] ∧
    s.mb.flights = [j] ∧ s.mb.parts = [] ∧ j.opcode = 0x90) ∧
  (∃ (s : State) (c : BitVec 2) (g : BitVec 6) (q : Byte) (j : Packet),
    Serves s (cmdPacket ⟨c, g, 0xFF, q⟩ 0x01 [0xFF]) ∧ s.mb.tags = [j.tag] ∧ j.tag ≠ g ∧ s.mb.replies = [] ∧ s.mb.flights =
    [j] ∧ s.mb.parts = [] ∧ j.opcode = 0x90) ∧
  (∃ (s : State) (c : BitVec 2) (g : BitVec 6) (q : Byte) (j : Packet),
    Serves s (cmdPacket ⟨c, g, 0xFF, q⟩ 0x01 [j.tag.zeroExtend 8]) ∧ s.mb.tags = [j.tag] ∧ j.tag ≠ g ∧ s.mb.replies = [] ∧
    s.mb.flights = [] ∧ s.mb.parts = [(j, 0, [[1]])] ∧ j.opcode = 0x49) ∧
  (∃ (s : State) (c : BitVec 2) (g : BitVec 6) (q : Byte) (j : Packet),
    Serves s (cmdPacket ⟨c, g, 0xFF, q⟩ 0x01 [j.tag.zeroExtend 8]) ∧ s.mb.tags = [j.tag] ∧ j.tag ≠ g ∧ s.mb.replies = [] ∧
    s.mb.flights = [j] ∧ s.mb.parts = [] ∧ j.opcode = 0x89) ∧
  (∃ (s : State) (c : BitVec 2) (g : BitVec 6) (q : Byte) (d : List Byte),
    Serves s (cmdPacket ⟨c, g, 0xFF, q⟩ 0x88 ([0, 0, 0, 0] ++ d))) ∧
  (∃ (s : State) (c : BitVec 2) (g : BitVec 6) (q : Byte),
    Serves s (cmdPacket ⟨c, g, 0xFF, q⟩ 0x89 [1]) ∧ s.fw.marked = false) ∧
  (∃ (s : State) (c : BitVec 2) (g : BitVec 6) (q : Byte),
    Serves s (cmdPacket ⟨c, g, 0xFF, q⟩ 0x89 [0]) ∧ s.fw.staged ≠ [] ∧ s.fw.runs = []) ∧
  (∃ (s : State) (k : Packet) (o : Nat),
    s.caughtUp = true ∧ s.mb.held = [] ∧ s.mb.room 1024 = true ∧ s.mb.flights = [k] ∧ k.opcode = 0x89 ∧ s.fw.runs = [⟨k.tag,
    o, .denied⟩]) ∧
  (∃ (s : State) (c : BitVec 2) (g : BitVec 6) (q : Byte),
    Serves s (cmdPacket ⟨c, g, 0xFF, q⟩ 0x8A [])) ∧
  (∃ (s : State) (c : BitVec 2) (g : BitVec 6) (q : Byte) (x : Byte),
    Serves s (cmdPacket ⟨c, g, 0xFF, q⟩ 0x90 [x]) ∧ x.toNat ≤ 6 ∧ x ≠ 3 ∧ x ≠ 4) ∧
  (∃ (s : State) (k : Packet),
    s.caughtUp = true ∧ s.mb.held = [] ∧ s.mb.room 1024 = true ∧ s.mb.flights = [k] ∧ k.opcode = 0x90 ∧ k.payload = [2]) ∧
  (∃ (s : State) (c : BitVec 2) (g : BitVec 6) (q : Byte) (v : Byte),
    Serves s (cmdPacket ⟨c, g, 0xFF, q⟩ 0x91 [v, 0, 0, 0]) ∧ s.safety.cfg.getLsbD 7 = false ∧ s.safeCfgLock = false) :=
  ⟨⟨(let s : State := State.reset; ({ ({ ((gates (quiet (running s)))) with sys := { s.sys with hbisoLow := false, pwr := .run, boot := 12, resetLow := false, interp := true, interpSeen := true, sboxReady := true, perfReady := true, vaultReady := true, minor := 2 }, sup := { Supplies.reset with vpp := s.sup.vpp } } : State) with mb := Mailbox.reset, fuse := State.reset.fuse, bus := HostBus.reset, ledger.ready := true, perf := Perf.reset, trace := Trace.reset } : State)), 0, 7, 1, 1, 0, 0, by unfold Serves; decide +kernel⟩,
   ⟨(let s : State := State.reset; ({ ({ ((gates (quiet (running s)))) with sys := { s.sys with hbisoLow := false, pwr := .run, boot := 12, resetLow := false, interp := true, interpSeen := true, sboxReady := true, perfReady := true, vaultReady := true, minor := 2 }, sup := { Supplies.reset with vpp := s.sup.vpp } } : State) with mb := Mailbox.reset, fuse := State.reset.fuse, bus := HostBus.reset, ledger.ready := true, perf := Perf.reset, trace := Trace.reset } : State)), 0, 7, 1, [7, 8], by unfold Serves; decide +kernel⟩,
   ⟨(let s : State := State.reset; ({ ({ ((gates (quiet (running s)))) with sys := { s.sys with hbisoLow := false, pwr := .run, boot := 12, resetLow := false, interp := true, interpSeen := true, sboxReady := true, perfReady := true, vaultReady := true, minor := 2 }, sup := { Supplies.reset with vpp := s.sup.vpp } } : State) with mb := Mailbox.reset, fuse := State.reset.fuse, bus := HostBus.reset, ledger.ready := true, perf := Perf.reset, trace := Trace.reset } : State)), 0, 7, 1, 0, by unfold Serves; decide +kernel⟩,
   ⟨(let s : State := State.reset; ({ ({ ((gates (quiet (running s)))) with sys := { s.sys with hbisoLow := false, pwr := .run, boot := 12, resetLow := false, interp := true, interpSeen := true, sboxReady := true, perfReady := true, vaultReady := true, minor := 2 }, sup := { Supplies.reset with vpp := s.sup.vpp } } : State) with mb := Mailbox.reset, fuse := State.reset.fuse, bus := HostBus.reset, ledger.ready := true, perf := Perf.reset, trace := Trace.reset } : State)), 0, 7, 1, by unfold Serves; decide +kernel⟩,
   ⟨(let s : State := State.reset; ({ ({ ((gates (quiet (running s)))) with sys := { s.sys with hbisoLow := false, pwr := .run, boot := 12, resetLow := false, interp := true, interpSeen := true, sboxReady := true, perfReady := true, vaultReady := true, minor := 2 }, sup := { Supplies.reset with vpp := s.sup.vpp } } : State) with mb := Mailbox.reset, fuse := State.reset.fuse, bus := HostBus.reset, ledger.ready := true, perf := Perf.reset, trace := Trace.reset } : State)), 0, 7, 1, 9, by unfold Serves; decide +kernel⟩,
   ⟨(let j : Packet := cmdPacket ⟨0, 9, 0xFF, 1⟩ 0x90 [1]; let s : State := State.reset; ({ ({ ({ ((gates (quiet (running s)))) with sys := { s.sys with hbisoLow := false, pwr := .run, boot := 12, resetLow := false, interp := true, interpSeen := true, sboxReady := true, perfReady := true, vaultReady := true, minor := 2 }, sup := { Supplies.reset with vpp := s.sup.vpp } } : State) with mb := Mailbox.reset, fuse := State.reset.fuse, bus := HostBus.reset, ledger.ready := true, perf := Perf.reset, trace := Trace.reset } : State) with mb := { Mailbox.reset with flights := [j], tags := [j.tag] } } : State)), 0, 7, 1, cmdPacket ⟨0, 9, 0xFF, 1⟩ 0x90 [1], by unfold Serves; decide +kernel⟩,
   ⟨(let j : Packet := cmdPacket ⟨0, 9, 0xFF, 1⟩ 0x90 [1]; let s : State := State.reset; ({ ({ ({ ((gates (quiet (running s)))) with sys := { s.sys with hbisoLow := false, pwr := .run, boot := 12, resetLow := false, interp := true, interpSeen := true, sboxReady := true, perfReady := true, vaultReady := true, minor := 2 }, sup := { Supplies.reset with vpp := s.sup.vpp } } : State) with mb := Mailbox.reset, fuse := State.reset.fuse, bus := HostBus.reset, ledger.ready := true, perf := Perf.reset, trace := Trace.reset } : State) with mb := { Mailbox.reset with flights := [j], tags := [j.tag] } } : State)), 0, 7, 1, cmdPacket ⟨0, 9, 0xFF, 1⟩ 0x90 [1], by unfold Serves; decide +kernel⟩,
   ⟨(let j : Packet := cmdPacket ⟨0, 9, 0xFF, 1⟩ 0x49 [1]; let s : State := State.reset; ({ ({ ({ ((gates (quiet (running s)))) with sys := { s.sys with hbisoLow := false, pwr := .run, boot := 12, resetLow := false, interp := true, interpSeen := true, sboxReady := true, perfReady := true, vaultReady := true, minor := 2 }, sup := { Supplies.reset with vpp := s.sup.vpp } } : State) with mb := Mailbox.reset, fuse := State.reset.fuse, bus := HostBus.reset, ledger.ready := true, perf := Perf.reset, trace := Trace.reset } : State) with mb := { Mailbox.reset with parts := [(j, 0, [[1]])], tags := [j.tag] } } : State)), 0, 7, 1, cmdPacket ⟨0, 9, 0xFF, 1⟩ 0x49 [1], by unfold Serves; decide +kernel⟩,
   ⟨(let j : Packet := cmdPacket ⟨0, 9, 0xFF, 1⟩ 0x89 [0]; let s : State := State.reset; ({ ({ ({ ((gates (quiet (running s)))) with sys := { s.sys with hbisoLow := false, pwr := .run, boot := 12, resetLow := false, interp := true, interpSeen := true, sboxReady := true, perfReady := true, vaultReady := true, minor := 2 }, sup := { Supplies.reset with vpp := s.sup.vpp } } : State) with mb := Mailbox.reset, fuse := State.reset.fuse, bus := HostBus.reset, ledger.ready := true, perf := Perf.reset, trace := Trace.reset } : State) with mb := { Mailbox.reset with flights := [j], tags := [j.tag] } } : State)), 0, 7, 1, cmdPacket ⟨0, 9, 0xFF, 1⟩ 0x89 [0], by unfold Serves; decide +kernel⟩,
   ⟨(let s : State := State.reset; ({ ({ ((gates (quiet (running s)))) with sys := { s.sys with hbisoLow := false, pwr := .run, boot := 12, resetLow := false, interp := true, interpSeen := true, sboxReady := true, perfReady := true, vaultReady := true, minor := 2 }, sup := { Supplies.reset with vpp := s.sup.vpp } } : State) with mb := Mailbox.reset, fuse := State.reset.fuse, bus := HostBus.reset, ledger.ready := true, perf := Perf.reset, trace := Trace.reset } : State)), 0, 7, 1, [1, 2, 3], by unfold Serves; decide +kernel⟩,
   ⟨(let s : State := State.reset; ({ ({ ({ ((gates (quiet (running s)))) with sys := { s.sys with hbisoLow := false, pwr := .run, boot := 12, resetLow := false, interp := true, interpSeen := true, sboxReady := true, perfReady := true, vaultReady := true, minor := 2 }, sup := { Supplies.reset with vpp := s.sup.vpp } } : State) with mb := Mailbox.reset, fuse := State.reset.fuse, bus := HostBus.reset, ledger.ready := true, perf := Perf.reset, trace := Trace.reset } : State) with fw.runs := [] } : State)), 0, 7, 1, by unfold Serves; decide +kernel⟩,
   ⟨(let s : State := State.reset; ({ ({ ({ ((gates (quiet (running s)))) with sys := { s.sys with hbisoLow := false, pwr := .run, boot := 12, resetLow := false, interp := true, interpSeen := true, sboxReady := true, perfReady := true, vaultReady := true, minor := 2 }, sup := { Supplies.reset with vpp := s.sup.vpp } } : State) with mb := Mailbox.reset, fuse := State.reset.fuse, bus := HostBus.reset, ledger.ready := true, perf := Perf.reset, trace := Trace.reset } : State) with fw.staged := [1], fw.runs := [] } : State)), 0, 7, 1, by unfold Serves; decide +kernel⟩,
   ⟨(let k : Packet := cmdPacket ⟨0, 9, 0xFF, 1⟩ 0x89 [0]; let o : Nat := 3; let s : State := State.reset; ({ ({ ({ ((gates (quiet (running s)))) with sys := { s.sys with hbisoLow := false, pwr := .run, boot := 12, resetLow := false, interp := true, interpSeen := true, sboxReady := true, perfReady := true, vaultReady := true, minor := 2 }, sup := { Supplies.reset with vpp := s.sup.vpp } } : State) with mb := Mailbox.reset, fuse := State.reset.fuse, bus := HostBus.reset, ledger.ready := true, perf := Perf.reset, trace := Trace.reset } : State) with fw.runs := [⟨k.tag, o, .denied⟩], mb := { Mailbox.reset with flights := [k] } } : State)), cmdPacket ⟨0, 9, 0xFF, 1⟩ 0x89 [0], 3, by decide +kernel⟩,
   ⟨(let s : State := State.reset; ({ ({ ((gates (quiet (running s)))) with sys := { s.sys with hbisoLow := false, pwr := .run, boot := 12, resetLow := false, interp := true, interpSeen := true, sboxReady := true, perfReady := true, vaultReady := true, minor := 2 }, sup := { Supplies.reset with vpp := s.sup.vpp } } : State) with mb := Mailbox.reset, fuse := State.reset.fuse, bus := HostBus.reset, ledger.ready := true, perf := Perf.reset, trace := Trace.reset } : State)), 0, 7, 1, by unfold Serves; decide +kernel⟩,
   ⟨(let s : State := State.reset; ({ ({ ((gates (quiet (running s)))) with sys := { s.sys with hbisoLow := false, pwr := .run, boot := 12, resetLow := false, interp := true, interpSeen := true, sboxReady := true, perfReady := true, vaultReady := true, minor := 2 }, sup := { Supplies.reset with vpp := s.sup.vpp } } : State) with mb := Mailbox.reset, fuse := State.reset.fuse, bus := HostBus.reset, ledger.ready := true, perf := Perf.reset, trace := Trace.reset } : State)), 0, 7, 1, 1, by unfold Serves; decide +kernel⟩,
   ⟨(let k : Packet := cmdPacket ⟨0, 9, 0xFF, 1⟩ 0x90 [2]; let s : State := State.reset; ({ ({ ({ ((gates (quiet (running s)))) with sys := { s.sys with hbisoLow := false, pwr := .run, boot := 12, resetLow := false, interp := true, interpSeen := true, sboxReady := true, perfReady := true, vaultReady := true, minor := 2 }, sup := { Supplies.reset with vpp := s.sup.vpp } } : State) with mb := Mailbox.reset, fuse := State.reset.fuse, bus := HostBus.reset, ledger.ready := true, perf := Perf.reset, trace := Trace.reset } : State) with mb := { Mailbox.reset with flights := [k] } } : State)), cmdPacket ⟨0, 9, 0xFF, 1⟩ 0x90 [2], by decide +kernel⟩,
   ⟨(let s : State := State.reset; ({ ({ ({ ((gates (quiet (running s)))) with sys := { s.sys with hbisoLow := false, pwr := .run, boot := 12, resetLow := false, interp := true, interpSeen := true, sboxReady := true, perfReady := true, vaultReady := true, minor := 2 }, sup := { Supplies.reset with vpp := s.sup.vpp } } : State) with mb := Mailbox.reset, fuse := State.reset.fuse, bus := HostBus.reset, ledger.ready := true, perf := Perf.reset, trace := Trace.reset } : State) with safety := Safety.reset } : State)), 0, 7, 1, 0x7D, by unfold Serves; decide +kernel⟩⟩

/-- States and operands that meet the hypotheses of each clause of PortCommands. -/
theorem witness_PortCommands :
  (∃ (s : State) (p : PortId) (c : BitVec 2) (g : BitVec 6) (q : Byte) (pl : List Byte),
    Serves s (cmdPacket ⟨c, g, byteOf p.val 0, q⟩ 0x10 pl) ∧ pl.length = 10 ∧ (s.port p).tc.state = .disabled ∧ cfgValid
    (isE p) s.ledgermodeen (BitVec.ofNat 80 (leVal pl) &&& cfgMask) = true) ∧
  (∃ (s : State) (p : PortId) (c : BitVec 2) (g : BitVec 6) (q : Byte),
    Serves s (cmdPacket ⟨c, g, byteOf p.val 0, q⟩ 0x11 []) ∧ (s.port p).tc.state = .disabled ∧ (s.port p).tc.enHeld = false
    ∧ (s.port p).sw.st = .opn ∧ (s.port p).sw.tripWire = false) ∧
  (∃ (s : State) (p : PortId) (c : BitVec 2) (g : BitVec 6) (q : Byte),
    Serves s (cmdPacket ⟨c, g, byteOf p.val 0, q⟩ 0x11 []) ∧ (s.port p).tc.state = .disabled ∧ (s.port p).tc.enHeld = false
    ∧ (s.port p).sw.st = .opn ∧ (s.port p).sw.tripWire = true) ∧
  (∃ (s : State) (p : PortId) (c : BitVec 2) (g : BitVec 6) (q : Byte),
    Serves s (cmdPacket ⟨c, g, byteOf p.val 0, q⟩ 0x11 []) ∧ (s.port p).tc.enHeld = false ∧ (s.port p).sw.st = .discharge) ∧
  (∃ (s : State) (p : PortId) (c : BitVec 2) (g : BitVec 6) (q : Byte),
    Serves s (cmdPacket ⟨c, g, byteOf p.val 0, q⟩ 0x12 []) ∧ (s.port p).tc.state = .unattachedSrc) ∧
  (∃ (s : State) (p : PortId) (c : BitVec 2) (g : BitVec 6) (q : Byte),
    Serves s (cmdPacket ⟨c, g, byteOf p.val 0, q⟩ 0x13 [1]) ∧ s.sys.pwr ≠ .ember) ∧
  (∃ (s : State) (p : PortId) (c : BitVec 2) (g : BitVec 6) (q : Byte),
    Serves s (cmdPacket ⟨c, g, byteOf p.val 0, q⟩ 0x13 []) ∧ s.sys.pwr ≠ .ember) ∧
  (∃ (s : State) (p : PortId) (c : BitVec 2) (g : BitVec 6) (q : Byte),
    Serves s (cmdPacket ⟨c, g, byteOf p.val 0, q⟩ 0x14 [2]) ∧ (s.port p).tc.state = .attachedSrc) ∧
  (∃ (s : State) (p : PortId) (k : Packet),
    s.caughtUp = true ∧ s.mb.held = [] ∧ s.mb.room 1024 = true ∧ s.mb.flights = [k] ∧ k.opcode = 0x14 ∧ (s.port p).prun =
    [⟨k.tag, 3, some 3⟩]) ∧
  (∃ (s : State) (p : PortId) (c : BitVec 2) (g : BitVec 6) (q : Byte) (n : Nat) (d : List Byte),
    Serves s (cmdPacket ⟨c, g, byteOf p.val 0, q⟩ 0x20 (byteOf n 0 :: 0 :: 0 :: 0 :: d)) ∧ 1 ≤ n ∧ n ≤ 11 ∧ srcTableOk (isE
    p) s.epren (entriesOf n d) = true ∧ (s.port p).tc.state = .unattachedSnk) ∧
  (∃ (s : State) (p : PortId) (c : BitVec 2) (g : BitVec 6) (q : Byte) (n : Nat) (d : List Byte),
    Serves s (cmdPacket ⟨c, g, byteOf p.val 0, q⟩ 0x21 (byteOf n 0 :: 0 :: 0 :: 0 :: d)) ∧ 1 ≤ n ∧ n ≤ 6 ∧ (entriesOf n
    d).all (snkEntryOk (isE p) s.epren) = true ∧ (s.port p).tc.state = .unattachedSnk) ∧
  (∃ (s : State) (p : PortId) (c : BitVec 2) (g : BitVec 6) (q : Byte),
    Serves s (cmdPacket ⟨c, g, byteOf p.val 0, q⟩ 0x11 []) ∧ (s.port p).tc.enHeld = true) ∧
  (∃ (s : State) (p : PortId) (c : BitVec 2) (g : BitVec 6) (q : Byte),
    Serves s (cmdPacket ⟨c, g, byteOf p.val 0, q⟩ 0x12 []) ∧ (s.port p).tc.enHeld = true ∧ (s.port p).tc.state = .disabled ∧
    (s.port p).sw.st = .discharge) :=
  ⟨⟨(let p : PortId := 9; let s : State := State.reset; inTc ({ ({ ((gates (quiet (running s)))) with sys := { s.sys with hbisoLow := false, pwr := .run, boot := 12, resetLow := false, interp := true, interpSeen := true, sboxReady := true, perfReady := true, vaultReady := true, minor := 2 }, sup := { Supplies.reset with vpp := s.sup.vpp } } : State) with mb := Mailbox.reset, fuse := State.reset.fuse, bus := HostBus.reset, ledger.ready := true, perf := Perf.reset, trace := Trace.reset } : State) p .disabled), 9, 0, 7, 1, [2, 64, 0, 0, 50, 0, 0, 0, 0, 0], by unfold Serves; decide +kernel⟩,
   ⟨(let p : PortId := 9; let s : State := State.reset; ((inTc ({ ({ ((gates (quiet (running s)))) with sys := { s.sys with hbisoLow := false, pwr := .run, boot := 12, resetLow := false, interp := true, interpSeen := true, sboxReady := true, perfReady := true, vaultReady := true, minor := 2 }, sup := { Supplies.reset with vpp := s.sup.vpp } } : State) with mb := Mailbox.reset, fuse := State.reset.fuse, bus := HostBus.reset, ledger.ready := true, perf := Perf.reset, trace := Trace.reset } : State) p .disabled).modTc p fun x => { x with enHeld := false }).modSw p fun w => { w with st := .opn, tripWire := false }), 9, 0, 7, 1, by unfold Serves; decide +kernel⟩,
   ⟨(let p : PortId := 9; let s : State := State.reset; ((inTc ({ ({ ((gates (quiet (running s)))) with sys := { s.sys with hbisoLow := false, pwr := .run, boot := 12, resetLow := false, interp := true, interpSeen := true, sboxReady := true, perfReady := true, vaultReady := true, minor := 2 }, sup := { Supplies.reset with vpp := s.sup.vpp } } : State) with mb := Mailbox.reset, fuse := State.reset.fuse, bus := HostBus.reset, ledger.ready := true, perf := Perf.reset, trace := Trace.reset } : State) p .disabled).modTc p fun x => { x with enHeld := false }).modSw p fun w => { w with st := .opn, tripWire := true }), 9, 0, 7, 1, by unfold Serves; decide +kernel⟩,
   ⟨(let p : PortId := 9; let s : State := State.reset; ((inTc ({ ({ ((gates (quiet (running s)))) with sys := { s.sys with hbisoLow := false, pwr := .run, boot := 12, resetLow := false, interp := true, interpSeen := true, sboxReady := true, perfReady := true, vaultReady := true, minor := 2 }, sup := { Supplies.reset with vpp := s.sup.vpp } } : State) with mb := Mailbox.reset, fuse := State.reset.fuse, bus := HostBus.reset, ledger.ready := true, perf := Perf.reset, trace := Trace.reset } : State) p .disabled).modTc p fun x => { x with enHeld := false }).modSw p fun w => { w with st := .discharge }), 9, 0, 7, 1, by unfold Serves; decide +kernel⟩,
   ⟨(let p : PortId := 9; let s : State := State.reset; inTc ({ ({ ((gates (quiet (running s)))) with sys := { s.sys with hbisoLow := false, pwr := .run, boot := 12, resetLow := false, interp := true, interpSeen := true, sboxReady := true, perfReady := true, vaultReady := true, minor := 2 }, sup := { Supplies.reset with vpp := s.sup.vpp } } : State) with mb := Mailbox.reset, fuse := State.reset.fuse, bus := HostBus.reset, ledger.ready := true, perf := Perf.reset, trace := Trace.reset } : State) p .unattachedSrc), 9, 0, 7, 1, by unfold Serves; decide +kernel⟩,
   ⟨(let p : PortId := 9; let s : State := State.reset; (portUp ({ ({ ((gates (quiet (running s)))) with sys := { s.sys with hbisoLow := false, pwr := .run, boot := 12, resetLow := false, interp := true, interpSeen := true, sboxReady := true, perfReady := true, vaultReady := true, minor := 2 }, sup := { Supplies.reset with vpp := s.sup.vpp } } : State) with mb := Mailbox.reset, fuse := State.reset.fuse, bus := HostBus.reset, ledger.ready := true, perf := Perf.reset, trace := Trace.reset } : State) p)), 9, 0, 7, 1, by unfold Serves; decide +kernel⟩,
   ⟨(let p : PortId := 9; let s : State := State.reset; (portUp ({ ({ ((gates (quiet (running s)))) with sys := { s.sys with hbisoLow := false, pwr := .run, boot := 12, resetLow := false, interp := true, interpSeen := true, sboxReady := true, perfReady := true, vaultReady := true, minor := 2 }, sup := { Supplies.reset with vpp := s.sup.vpp } } : State) with mb := Mailbox.reset, fuse := State.reset.fuse, bus := HostBus.reset, ledger.ready := true, perf := Perf.reset, trace := Trace.reset } : State) p)), 9, 0, 7, 1, by unfold Serves; decide +kernel⟩,
   ⟨(let p : PortId := 9; let s : State := State.reset; source ({ ({ ((gates (quiet (running s)))) with sys := { s.sys with hbisoLow := false, pwr := .run, boot := 12, resetLow := false, interp := true, interpSeen := true, sboxReady := true, perfReady := true, vaultReady := true, minor := 2 }, sup := { Supplies.reset with vpp := s.sup.vpp } } : State) with mb := Mailbox.reset, fuse := State.reset.fuse, bus := HostBus.reset, ledger.ready := true, perf := Perf.reset, trace := Trace.reset } : State) p), 9, 0, 7, 1, by unfold Serves; decide +kernel⟩,
   ⟨(let p : PortId := 9; let k : Packet := cmdPacket ⟨0, 9, 9, 1⟩ 0x14 [3]; let s : State := State.reset; ({ (portUp ({ ({ ((gates (quiet (running s)))) with sys := { s.sys with hbisoLow := false, pwr := .run, boot := 12, resetLow := false, interp := true, interpSeen := true, sboxReady := true, perfReady := true, vaultReady := true, minor := 2 }, sup := { Supplies.reset with vpp := s.sup.vpp } } : State) with mb := Mailbox.reset, fuse := State.reset.fuse, bus := HostBus.reset, ledger.ready := true, perf := Perf.reset, trace := Trace.reset } : State) p) with mb := { Mailbox.reset with flights := [k] } } : State).modPort p fun x => { x with prun := [⟨k.tag, 3, some 3⟩] }), 9, cmdPacket ⟨0, 9, 9, 1⟩ 0x14 [3], by decide +kernel⟩,
   ⟨(let p : PortId := 9; let s : State := State.reset; inTc ({ ({ ((gates (quiet (running s)))) with sys := { s.sys with hbisoLow := false, pwr := .run, boot := 12, resetLow := false, interp := true, interpSeen := true, sboxReady := true, perfReady := true, vaultReady := true, minor := 2 }, sup := { Supplies.reset with vpp := s.sup.vpp } } : State) with mb := Mailbox.reset, fuse := State.reset.fuse, bus := HostBus.reset, ledger.ready := true, perf := Perf.reset, trace := Trace.reset } : State) p .unattachedSnk), 9, 0, 7, 1, 1, entryBytes ⟨1, 500, 500, 90⟩, by unfold Serves; decide +kernel⟩,
   ⟨(let p : PortId := 9; let s : State := State.reset; inTc ({ ({ ((gates (quiet (running s)))) with sys := { s.sys with hbisoLow := false, pwr := .run, boot := 12, resetLow := false, interp := true, interpSeen := true, sboxReady := true, perfReady := true, vaultReady := true, minor := 2 }, sup := { Supplies.reset with vpp := s.sup.vpp } } : State) with mb := Mailbox.reset, fuse := State.reset.fuse, bus := HostBus.reset, ledger.ready := true, perf := Perf.reset, trace := Trace.reset } : State) p .unattachedSnk), 9, 0, 7, 1, 1, entryBytes ⟨1, 500, 500, 90⟩, by unfold Serves; decide +kernel⟩,
   ⟨(let p : PortId := 9; let s : State := State.reset; (inTc ({ ({ ((gates (quiet (running s)))) with sys := { s.sys with hbisoLow := false, pwr := .run, boot := 12, resetLow := false, interp := true, interpSeen := true, sboxReady := true, perfReady := true, vaultReady := true, minor := 2 }, sup := { Supplies.reset with vpp := s.sup.vpp } } : State) with mb := Mailbox.reset, fuse := State.reset.fuse, bus := HostBus.reset, ledger.ready := true, perf := Perf.reset, trace := Trace.reset } : State) p .disabled).modTc p fun x => { x with enHeld := true }), 9, 0, 7, 1, by unfold Serves; decide +kernel⟩,
   ⟨(let p : PortId := 9; let s : State := State.reset; ((inTc ({ ({ ((gates (quiet (running s)))) with sys := { s.sys with hbisoLow := false, pwr := .run, boot := 12, resetLow := false, interp := true, interpSeen := true, sboxReady := true, perfReady := true, vaultReady := true, minor := 2 }, sup := { Supplies.reset with vpp := s.sup.vpp } } : State) with mb := Mailbox.reset, fuse := State.reset.fuse, bus := HostBus.reset, ledger.ready := true, perf := Perf.reset, trace := Trace.reset } : State) p .disabled).modTc p fun x => { x with enHeld := true }).modSw p fun w => { w with st := .discharge }), 9, 0, 7, 1, by unfold Serves; decide +kernel⟩⟩

/-- States and operands that meet the hypotheses of each clause of PartnerCommands. -/
theorem witness_PartnerCommands :
  (∃ (s : State) (p : PortId) (c : BitVec 2) (g : BitVec 6) (q : Byte) (pl : List Byte),
    Serves s (cmdPacket ⟨c, g, byteOf p.val 0, q⟩ 0x22 pl) ∧ s.vdmCheck p pl = 0 ∧ s.mb.flights = [] ∧ (s.port p).lm.cuts =
    []) ∧
  (∃ (s : State) (p : PortId) (k : Packet) (r : List Byte),
    s.caughtUp = true ∧ s.mb.held = [] ∧ s.mb.room 1024 = true ∧ s.mb.flights = [k] ∧ k.port = some p ∧ k.opcode = 0x22 ∧
    (s.port p).lm.result = some r ∧ r.length ≤ 1024) ∧
  (∃ (s : State) (p : PortId) (c : BitVec 2) (g : BitVec 6) (q : Byte),
    Serves s (cmdPacket ⟨c, g, byteOf p.val 0, q⟩ 0x23 [1]) ∧ (s.port p).swap.result = none ∧ (s.port p).swap.stage = .none
    ∧ (s.port p).pd.contract = .explicit ∧ s.mb.flights = [] ∧ (s.port p).lm.mode = false) ∧
  (∃ (s : State) (p : PortId) (k : Packet) (st : Byte) (r : Byte),
    s.caughtUp = true ∧ s.mb.held = [] ∧ s.mb.room 1024 = true ∧ s.mb.flights = [k] ∧ k.port = some p ∧ k.opcode = 0x23 ∧
    (s.port p).swap.result = some (st, r)) :=
  ⟨⟨(let p : PortId := 9; let s : State := State.reset; (((source ({ ({ ((gates (quiet (running s)))) with sys := { s.sys with hbisoLow := false, pwr := .run, boot := 12, resetLow := false, interp := true, interpSeen := true, sboxReady := true, perfReady := true, vaultReady := true, minor := 2 }, sup := { Supplies.reset with vpp := s.sup.vpp } } : State) with mb := Mailbox.reset, fuse := State.reset.fuse, bus := HostBus.reset, ledger.ready := true, perf := Perf.reset, trace := Trace.reset } : State) p).modTc p fun x => { x with dfp := true })).modLm p fun _ => LmPort.reset), 9, 0, 7, 1, [0, 0, 1, 0, 1, 0x80, 0, 0xFF], by unfold Serves; decide +kernel⟩,
   ⟨(let p : PortId := 9; let k : Packet := cmdPacket ⟨0, 9, 9, 1⟩ 0x22 [0]; let r : List Byte := [1, 0]; let s : State := State.reset; ({ (portUp ({ ({ ((gates (quiet (running s)))) with sys := { s.sys with hbisoLow := false, pwr := .run, boot := 12, resetLow := false, interp := true, interpSeen := true, sboxReady := true, perfReady := true, vaultReady := true, minor := 2 }, sup := { Supplies.reset with vpp := s.sup.vpp } } : State) with mb := Mailbox.reset, fuse := State.reset.fuse, bus := HostBus.reset, ledger.ready := true, perf := Perf.reset, trace := Trace.reset } : State) p) with mb := { Mailbox.reset with flights := [k] } } : State).modLm p fun x => { x with result := some r }), 9, cmdPacket ⟨0, 9, 9, 1⟩ 0x22 [0], [1, 0], by decide +kernel⟩,
   ⟨(let p : PortId := 9; let s : State := State.reset; (((source ({ ({ ((gates (quiet (running s)))) with sys := { s.sys with hbisoLow := false, pwr := .run, boot := 12, resetLow := false, interp := true, interpSeen := true, sboxReady := true, perfReady := true, vaultReady := true, minor := 2 }, sup := { Supplies.reset with vpp := s.sup.vpp } } : State) with mb := Mailbox.reset, fuse := State.reset.fuse, bus := HostBus.reset, ledger.ready := true, perf := Perf.reset, trace := Trace.reset } : State) p).modTc p fun x => { x with dfp := true })).modLm p fun _ => LmPort.reset), 9, 0, 7, 1, by unfold Serves; decide +kernel⟩,
   ⟨(let p : PortId := 9; let k : Packet := cmdPacket ⟨0, 9, 9, 1⟩ 0x23 [0]; let st : Byte := 0; let r : Byte := 3; let s : State := State.reset; ({ (portUp ({ ({ ((gates (quiet (running s)))) with sys := { s.sys with hbisoLow := false, pwr := .run, boot := 12, resetLow := false, interp := true, interpSeen := true, sboxReady := true, perfReady := true, vaultReady := true, minor := 2 }, sup := { Supplies.reset with vpp := s.sup.vpp } } : State) with mb := Mailbox.reset, fuse := State.reset.fuse, bus := HostBus.reset, ledger.ready := true, perf := Perf.reset, trace := Trace.reset } : State) p) with mb := { Mailbox.reset with flights := [k] } } : State).modSwap p fun x => { SwapPort.reset with result := some (st, r) }), 9, cmdPacket ⟨0, 9, 9, 1⟩ 0x23 [0], 0, 3, by decide +kernel⟩⟩

/-- States and operands that meet the hypotheses of each clause of LedgerAndPanelCommands. -/
theorem witness_LedgerAndPanelCommands :
  (∃ (s : State) (c : BitVec 2) (g : BitVec 6) (q : Byte) (pl : List Byte),
    Serves s (cmdPacket ⟨c, g, 0xFF, q⟩ 0x30 pl) ∧ pl ≠ [] ∧ s.lgCfgOk (lgCfgOf pl) = true) ∧
  (∃ (s : State) (p : PortId) (c : BitVec 2) (g : BitVec 6) (q : Byte) (x : Byte) (a : Byte) (b : Byte),
    Serves s (cmdPacket ⟨c, g, byteOf p.val 0, q⟩ 0x31 [x, 0, a, b]) ∧ x.toNat < 3) ∧
  (∃ (s : State) (p : PortId) (c : BitVec 2) (g : BitVec 6) (q : Byte),
    Serves s (cmdPacket ⟨c, g, byteOf p.val 0, q⟩ 0x32 [])) ∧
  (∃ (s : State) (c : BitVec 2) (g : BitVec 6) (q : Byte),
    Serves s (cmdPacket ⟨c, g, 0xFF, q⟩ 0x32 [])) ∧
  (∃ (s : State) (p : PortId) (c : BitVec 2) (g : BitVec 6) (q : Byte),
    Serves s (cmdPacket ⟨c, g, byteOf p.val 0, q⟩ 0x33 [])) ∧
  (∃ (s : State) (c : BitVec 2) (g : BitVec 6) (q : Byte),
    Serves s (cmdPacket ⟨c, g, 0xFF, q⟩ 0x33 [])) ∧
  (∃ (s : State) (p : PortId) (c : BitVec 2) (g : BitVec 6) (q : Byte) (k : PortId),
    Serves s (cmdPacket ⟨c, g, byteOf p.val 0, q⟩ 0x40 [byteOf k.val 0, 1]) ∧ p ≠ k ∧ s.porten k = true ∧ cfgRole (s.port
    p).cfg ≠ 1 ∧ cfgRole (s.port k).cfg ≠ 0 ∧ s.bridgesNext = [] ∧ (s.port p).inPrSwap = false ∧ (s.port k).inPrSwap = false) ∧
  (∃ (s : State) (c : BitVec 2) (g : BitVec 6) (q : Byte) (x : Byte) (w : Byte) (a : Byte) (b : Byte) (d : Byte) (e : Byte),
    Serves s (cmdPacket ⟨c, g, 0xFF, q⟩ 0x41 [x, w, 0, 0, a, b, d, e]) ∧ w.toNat ≤ 3) ∧
  (∃ (s : State) (c : BitVec 2) (g : BitVec 6) (q : Byte),
    Serves s (cmdPacket ⟨c, g, 0xFF, q⟩ 0x42 [2, 0]) ∧ s.sys.minor = 2 ∧ s.sys.hbisoLow = false) ∧
  (∃ (s : State) (c : BitVec 2) (g : BitVec 6) (q : Byte) (x : Byte) (n : Byte) (d : List Byte),
    Serves s (cmdPacket ⟨c, g, 0xFF, q⟩ 0x48 (x :: n :: d)) ∧ n ≠ 0xFF ∧ x.extractLsb' 2 2 ≠ 3 ∧ s.ring.link = 0 ∧
    s.ring.isOpen = false) ∧
  (∃ (s : State) (c : BitVec 2) (g : BitVec 6) (q : Byte) (x : Byte) (n : Byte) (d : List Byte),
    Serves s (cmdPacket ⟨c, g, 0xFF, q⟩ 0x48 (x :: n :: d)) ∧ n ≠ 0xFF ∧ x.extractLsb' 2 2 ≠ 3 ∧ s.ring.link.toNat < 2 ∧
    s.ring.isOpen = true) ∧
  (∃ (s : State) (c : BitVec 2) (g : BitVec 6) (q : Byte),
    Serves s (cmdPacket ⟨c, g, 0xFF, q⟩ 0x49 [0])) ∧
  (∃ (s : State) (c : BitVec 2) (g : BitVec 6) (q : Byte),
    Serves s (cmdPacket ⟨c, g, 0xFF, q⟩ 0x4A [1]) ∧ s.ring.link = 2) :=
  ⟨⟨(let s : State := State.reset; ({ ({ ((gates (quiet (running s)))) with sys := { s.sys with hbisoLow := false, pwr := .run, boot := 12, resetLow := false, interp := true, interpSeen := true, sboxReady := true, perfReady := true, vaultReady := true, minor := 2 }, sup := { Supplies.reset with vpp := s.sup.vpp } } : State) with mb := Mailbox.reset, fuse := State.reset.fuse, bus := HostBus.reset, ledger.ready := true, perf := Perf.reset, trace := Trace.reset } : State)), 0, 7, 1, [0xA0, 5] ++ List.replicate 18 0, by unfold Serves; decide +kernel⟩,
   ⟨(let p : PortId := 9; let s : State := State.reset; (portUp ({ ({ ((gates (quiet (running s)))) with sys := { s.sys with hbisoLow := false, pwr := .run, boot := 12, resetLow := false, interp := true, interpSeen := true, sboxReady := true, perfReady := true, vaultReady := true, minor := 2 }, sup := { Supplies.reset with vpp := s.sup.vpp } } : State) with mb := Mailbox.reset, fuse := State.reset.fuse, bus := HostBus.reset, ledger.ready := true, perf := Perf.reset, trace := Trace.reset } : State) p)), 9, 0, 7, 1, 2, 1, 1, by unfold Serves; decide +kernel⟩,
   ⟨(let p : PortId := 9; let s : State := State.reset; (portUp ({ ({ ((gates (quiet (running s)))) with sys := { s.sys with hbisoLow := false, pwr := .run, boot := 12, resetLow := false, interp := true, interpSeen := true, sboxReady := true, perfReady := true, vaultReady := true, minor := 2 }, sup := { Supplies.reset with vpp := s.sup.vpp } } : State) with mb := Mailbox.reset, fuse := State.reset.fuse, bus := HostBus.reset, ledger.ready := true, perf := Perf.reset, trace := Trace.reset } : State) p)), 9, 0, 7, 1, by unfold Serves; decide +kernel⟩,
   ⟨(let s : State := State.reset; ({ ({ ((gates (quiet (running s)))) with sys := { s.sys with hbisoLow := false, pwr := .run, boot := 12, resetLow := false, interp := true, interpSeen := true, sboxReady := true, perfReady := true, vaultReady := true, minor := 2 }, sup := { Supplies.reset with vpp := s.sup.vpp } } : State) with mb := Mailbox.reset, fuse := State.reset.fuse, bus := HostBus.reset, ledger.ready := true, perf := Perf.reset, trace := Trace.reset } : State)), 0, 7, 1, by unfold Serves; decide +kernel⟩,
   ⟨(let p : PortId := 9; let s : State := State.reset; (portUp ({ ({ ((gates (quiet (running s)))) with sys := { s.sys with hbisoLow := false, pwr := .run, boot := 12, resetLow := false, interp := true, interpSeen := true, sboxReady := true, perfReady := true, vaultReady := true, minor := 2 }, sup := { Supplies.reset with vpp := s.sup.vpp } } : State) with mb := Mailbox.reset, fuse := State.reset.fuse, bus := HostBus.reset, ledger.ready := true, perf := Perf.reset, trace := Trace.reset } : State) p)), 9, 0, 7, 1, by unfold Serves; decide +kernel⟩,
   ⟨(let s : State := State.reset; ({ ({ ((gates (quiet (running s)))) with sys := { s.sys with hbisoLow := false, pwr := .run, boot := 12, resetLow := false, interp := true, interpSeen := true, sboxReady := true, perfReady := true, vaultReady := true, minor := 2 }, sup := { Supplies.reset with vpp := s.sup.vpp } } : State) with mb := Mailbox.reset, fuse := State.reset.fuse, bus := HostBus.reset, ledger.ready := true, perf := Perf.reset, trace := Trace.reset } : State)), 0, 7, 1, by unfold Serves; decide +kernel⟩,
   ⟨(let p : PortId := 9; let k : PortId := 10; let s : State := State.reset; let s0 := portUp (source ({ ({ ((gates (quiet (running s)))) with sys := { s.sys with hbisoLow := false, pwr := .run, boot := 12, resetLow := false, interp := true, interpSeen := true, sboxReady := true, perfReady := true, vaultReady := true, minor := 2 }, sup := { Supplies.reset with vpp := s.sup.vpp } } : State) with mb := Mailbox.reset, fuse := State.reset.fuse, bus := HostBus.reset, ledger.ready := true, perf := Perf.reset, trace := Trace.reset } : State) p) k; ({ s0 with ledger := { Ledger.reset 32 with ready := true } } : State).eachPort fun s r => s.modPort r fun x => { x with cfg := if r == p then 0 else 1, swap := SwapPort.reset }), 9, 0, 7, 1, 10, by unfold Serves; decide +kernel⟩,
   ⟨(let s : State := State.reset; ({ ({ ((gates (quiet (running s)))) with sys := { s.sys with hbisoLow := false, pwr := .run, boot := 12, resetLow := false, interp := true, interpSeen := true, sboxReady := true, perfReady := true, vaultReady := true, minor := 2 }, sup := { Supplies.reset with vpp := s.sup.vpp } } : State) with mb := Mailbox.reset, fuse := State.reset.fuse, bus := HostBus.reset, ledger.ready := true, perf := Perf.reset, trace := Trace.reset } : State)), 0, 7, 1, 1, 2, 1, 2, 3, 4, by unfold Serves; decide +kernel⟩,
   ⟨(let s : State := State.reset; ({ ({ ((gates (quiet (running s)))) with sys := { s.sys with hbisoLow := false, pwr := .run, boot := 12, resetLow := false, interp := true, interpSeen := true, sboxReady := true, perfReady := true, vaultReady := true, minor := 2 }, sup := { Supplies.reset with vpp := s.sup.vpp } } : State) with mb := Mailbox.reset, fuse := State.reset.fuse, bus := HostBus.reset, ledger.ready := true, perf := Perf.reset, trace := Trace.reset } : State)), 0, 7, 1, by unfold Serves; decide +kernel⟩,
   ⟨(let s : State := State.reset; ({ ({ ({ ((gates (quiet (running s)))) with sys := { s.sys with hbisoLow := false, pwr := .run, boot := 12, resetLow := false, interp := true, interpSeen := true, sboxReady := true, perfReady := true, vaultReady := true, minor := 2 }, sup := { Supplies.reset with vpp := s.sup.vpp } } : State) with mb := Mailbox.reset, fuse := State.reset.fuse, bus := HostBus.reset, ledger.ready := true, perf := Perf.reset, trace := Trace.reset } : State) with ring := Ring.reset } : State)), 0, 7, 1, 5, 3, List.replicate 10 7, by unfold Serves; decide +kernel⟩,
   ⟨(let s : State := State.reset; ({ ({ ({ ((gates (quiet (running s)))) with sys := { s.sys with hbisoLow := false, pwr := .run, boot := 12, resetLow := false, interp := true, interpSeen := true, sboxReady := true, perfReady := true, vaultReady := true, minor := 2 }, sup := { Supplies.reset with vpp := s.sup.vpp } } : State) with mb := Mailbox.reset, fuse := State.reset.fuse, bus := HostBus.reset, ledger.ready := true, perf := Perf.reset, trace := Trace.reset } : State) with ring := { Ring.reset with link := 1, joinDue := true } } : State)), 0, 7, 1, 5, 3, List.replicate 10 7, by unfold Serves; decide +kernel⟩,
   ⟨(let s : State := State.reset; ({ ({ ({ ((gates (quiet (running s)))) with sys := { s.sys with hbisoLow := false, pwr := .run, boot := 12, resetLow := false, interp := true, interpSeen := true, sboxReady := true, perfReady := true, vaultReady := true, minor := 2 }, sup := { Supplies.reset with vpp := s.sup.vpp } } : State) with mb := Mailbox.reset, fuse := State.reset.fuse, bus := HostBus.reset, ledger.ready := true, perf := Perf.reset, trace := Trace.reset } : State) with ring.ready := true } : State)), 0, 7, 1, by unfold Serves; decide +kernel⟩,
   ⟨(let s : State := State.reset; ({ ({ ({ ((gates (quiet (running s)))) with sys := { s.sys with hbisoLow := false, pwr := .run, boot := 12, resetLow := false, interp := true, interpSeen := true, sboxReady := true, perfReady := true, vaultReady := true, minor := 2 }, sup := { Supplies.reset with vpp := s.sup.vpp } } : State) with mb := Mailbox.reset, fuse := State.reset.fuse, bus := HostBus.reset, ledger.ready := true, perf := Perf.reset, trace := Trace.reset } : State) with ring := { Ring.reset with ready := true, link := 2 } } : State)), 0, 7, 1, by unfold Serves; decide +kernel⟩⟩

/-- States and operands that meet the hypotheses of each clause of TimerAndComparatorCommands. -/
theorem witness_TimerAndComparatorCommands :
  (∃ (s : State) (k : TmrId) (c : BitVec 2) (g : BitVec 6) (q : Byte) (m : Byte) (c0 : Byte) (f : Byte) (a : Byte) (b : Byte) (x : Byte) (y : Byte) (r0 : Byte) (r1 : Byte) (r2 : Byte) (r3 : Byte),
    Serves s (cmdPacket ⟨c, g, 0xFF, q⟩ 0x50 [byteOf k.val 0, m, c0, f, a, b, x, y, r0, r1, r2, r3]) ∧ (s.tmr k).run = false
    ∧ tmrCfgOk k [byteOf k.val 0, m, c0, f, a, b, x, y, r0, r1, r2, r3] = true ∧ s.syncUse k = false) ∧
  (∃ (s : State) (k : TmrId) (c : BitVec 2) (g : BitVec 6) (q : Byte) (f : Byte) (r0 : Byte) (r1 : Byte) (r2 : Byte) (r3 : Byte),
    Serves s (cmdPacket ⟨c, g, 0xFF, q⟩ 0x51 [byteOf k.val 0, f, 0, 0, r0, r1, r2, r3]) ∧ (s.tmr k).run = false) ∧
  (∃ (s : State) (k : TmrId) (c : BitVec 2) (g : BitVec 6) (q : Byte) (e : Byte),
    Serves s (cmdPacket ⟨c, g, 0xFF, q⟩ 0x52 [byteOf k.val 0, 2, e, 0]) ∧ evsrcFor k e = true) ∧
  (∃ (s : State) (c : BitVec 2) (g : BitVec 6) (q : Byte) (j : Fin 16) (m : Byte) (y : Byte) (f : Byte) (z : Byte) (a : Byte) (b : Byte) (x : Byte) (e : Byte) (v : Byte),
    Serves s (cmdPacket ⟨c, g, 0xFF, q⟩ 0x53 [byteOf j.val 0, m, y, f, z, a, b, x, e, v]) ∧ cmpCfgOk [byteOf j.val 0, m, y,
    f, z, a, b, x, e, v] = true) :=
  ⟨⟨(let s : State := State.reset; ({ ({ ({ ((gates (quiet (running s)))) with sys := { s.sys with hbisoLow := false, pwr := .run, boot := 12, resetLow := false, interp := true, interpSeen := true, sboxReady := true, perfReady := true, vaultReady := true, minor := 2 }, sup := { Supplies.reset with vpp := s.sup.vpp } } : State) with mb := Mailbox.reset, fuse := State.reset.fuse, bus := HostBus.reset, ledger.ready := true, perf := Perf.reset, trace := Trace.reset } : State) with tmrs := State.reset.tmrs, gwcs := State.reset.gwcs } : State)), 47, 0, 7, 1, 2, 1, 1, 3, 0, 0, 0, 9, 1, 0, 0, by unfold Serves; decide +kernel⟩,
   ⟨(let s : State := State.reset; ({ ({ ({ ((gates (quiet (running s)))) with sys := { s.sys with hbisoLow := false, pwr := .run, boot := 12, resetLow := false, interp := true, interpSeen := true, sboxReady := true, perfReady := true, vaultReady := true, minor := 2 }, sup := { Supplies.reset with vpp := s.sup.vpp } } : State) with mb := Mailbox.reset, fuse := State.reset.fuse, bus := HostBus.reset, ledger.ready := true, perf := Perf.reset, trace := Trace.reset } : State) with tmrs := State.reset.tmrs, gwcs := State.reset.gwcs } : State)), 47, 0, 7, 1, 1, 9, 1, 0, 0, by unfold Serves; decide +kernel⟩,
   ⟨(let s : State := State.reset; ({ ({ ({ ((gates (quiet (running s)))) with sys := { s.sys with hbisoLow := false, pwr := .run, boot := 12, resetLow := false, interp := true, interpSeen := true, sboxReady := true, perfReady := true, vaultReady := true, minor := 2 }, sup := { Supplies.reset with vpp := s.sup.vpp } } : State) with mb := Mailbox.reset, fuse := State.reset.fuse, bus := HostBus.reset, ledger.ready := true, perf := Perf.reset, trace := Trace.reset } : State) with tmrs := State.reset.tmrs, gwcs := State.reset.gwcs } : State)), 47, 0, 7, 1, 8, by unfold Serves; decide +kernel⟩,
   ⟨(let s : State := State.reset; ({ ({ ({ ((gates (quiet (running s)))) with sys := { s.sys with hbisoLow := false, pwr := .run, boot := 12, resetLow := false, interp := true, interpSeen := true, sboxReady := true, perfReady := true, vaultReady := true, minor := 2 }, sup := { Supplies.reset with vpp := s.sup.vpp } } : State) with mb := Mailbox.reset, fuse := State.reset.fuse, bus := HostBus.reset, ledger.ready := true, perf := Perf.reset, trace := Trace.reset } : State) with tmrs := State.reset.tmrs, gwcs := State.reset.gwcs } : State)), 0, 7, 1, 15, 2, 1, 3, 1, 3, 0, 4, 0, 7, by unfold Serves; decide +kernel⟩⟩

/-- States and operands that meet the hypotheses of each clause of PeripheralBusCommands. -/
theorem witness_PeripheralBusCommands :
  (∃ (s : State) (b : BusId) (c : BitVec 2) (g : BitVec 6) (q : Byte),
    Serves s (cmdPacket ⟨c, g, 0xFF, q⟩ 0x60 [byteOf b.val 0, 5]) ∧ (s.pb b).enabled = true ∧ (s.pb b).xfer = false) ∧
  (∃ (s : State) (b : BusId) (c : BitVec 2) (g : BitVec 6) (q : Byte) (pl : List Byte),
    Serves s (cmdPacket ⟨c, g, 0xFF, q⟩ 0x61 pl) ∧ nth pl 0 = byteOf b.val 0 ∧ Sys2Proof.Machine.xferOk (nth pl 2).toNat
    (field pl 4 2) (field pl 6 2) = true ∧ s.pb b = { Pbus.reset with ready := true, enabled := true } ∧ s.sup.vio = .ok) ∧
  (∃ (s : State) (b : BusId) (k : Packet) (r : Byte) (w : Nat) (d : List Byte),
    s.caughtUp = true ∧ s.mb.held = [] ∧ s.mb.room 1024 = true ∧ s.mb.flights = [k] ∧ (s.pb b).xfer = true ∧ (s.pb b).queue
    = [k] ∧ (s.pb b).pend = none ∧ (s.pb b).clears = [] ∧ (s.pb b).clearing = false ∧ r ≤ 3 ∧ (xferReply k r w d).length ≤
    1024) ∧
  (∃ (s : State) (b : BusId) (k : Packet),
    s.caughtUp = true ∧ s.mb.held = [] ∧ s.mb.room 1024 = true ∧ s.mb.flights = [k] ∧ (s.pb b).xfer = true ∧ (s.pb b).queue
    = [k] ∧ (s.pb b).pend = none ∧ (s.pb b).clears = [] ∧ (s.pb b).clearing = false) ∧
  (∃ (s : State) (b : BusId) (c : BitVec 2) (g : BitVec 6) (q : Byte),
    Serves s (cmdPacket ⟨c, g, 0xFF, q⟩ 0x62 [byteOf b.val 0]) ∧ (s.pb b).xfer = false ∧ (s.pb b).clearing = false ∧ (s.pb
    b).clears = []) ∧
  (∃ (s : State) (b : BusId) (k : Packet),
    s.caughtUp = true ∧ s.mb.held = [] ∧ s.mb.room 1024 = true ∧ s.mb.flights = [k] ∧ 10 ≤ s.sys.boot ∧ (s.pb b).xfer =
    false ∧ (s.pb b).clearing = true ∧ (s.pb b).forHost = true ∧ (s.pb b).clears = [k] ∧ (s.pb b).queue = []) ∧
  (∃ (s : State) (b : BusId),
    10 ≤ s.sys.boot ∧ (s.pb b).clearing = true ∧ (s.pb b).forHost = false ∧ (s.pb b).clears = [] ∧ (s.pb b).queue = []) :=
  ⟨⟨(let s : State := State.reset; ({ ({ ({ ((gates (quiet (running s)))) with sys := { s.sys with hbisoLow := false, pwr := .run, boot := 12, resetLow := false, interp := true, interpSeen := true, sboxReady := true, perfReady := true, vaultReady := true, minor := 2 }, sup := { Supplies.reset with vpp := s.sup.vpp } } : State) with mb := Mailbox.reset, fuse := State.reset.fuse, bus := HostBus.reset, ledger.ready := true, perf := Perf.reset, trace := Trace.reset } : State) with pbus := Vector.replicate 4 { Pbus.reset with ready := true, enabled := true } } : State)), 3, 0, 7, 1, by unfold Serves; decide +kernel⟩,
   ⟨(let s : State := State.reset; ({ ({ ({ ((gates (quiet (running s)))) with sys := { s.sys with hbisoLow := false, pwr := .run, boot := 12, resetLow := false, interp := true, interpSeen := true, sboxReady := true, perfReady := true, vaultReady := true, minor := 2 }, sup := { Supplies.reset with vpp := s.sup.vpp } } : State) with mb := Mailbox.reset, fuse := State.reset.fuse, bus := HostBus.reset, ledger.ready := true, perf := Perf.reset, trace := Trace.reset } : State) with pbus := Vector.replicate 4 { Pbus.reset with ready := true, enabled := true } } : State)), 3, 0, 7, 1, [3, 0x20, 0, 0, 1, 0, 0, 0, 7], by unfold Serves; decide +kernel⟩,
   ⟨(let k : Packet := cmdPacket ⟨0, 9, 0xFF, 1⟩ 0x61 [3, 0x20, 2, 0, 1, 0, 2, 0, 7]; let s : State := State.reset; ({ ({ ({ ({ ((gates (quiet (running s)))) with sys := { s.sys with hbisoLow := false, pwr := .run, boot := 12, resetLow := false, interp := true, interpSeen := true, sboxReady := true, perfReady := true, vaultReady := true, minor := 2 }, sup := { Supplies.reset with vpp := s.sup.vpp } } : State) with mb := Mailbox.reset, fuse := State.reset.fuse, bus := HostBus.reset, ledger.ready := true, perf := Perf.reset, trace := Trace.reset } : State) with pbus := Vector.replicate 4 { Pbus.reset with ready := true, enabled := true, xfer := true, queue := [k] } } : State) with mb := { Mailbox.reset with flights := [k] } } : State)), 3, cmdPacket ⟨0, 9, 0xFF, 1⟩ 0x61 [3, 0x20, 2, 0, 1, 0, 2, 0, 7], 0, 1, [5, 6], by decide +kernel⟩,
   ⟨(let k : Packet := cmdPacket ⟨0, 9, 0xFF, 1⟩ 0x61 [3, 0x20, 2, 0, 1, 0, 2, 0, 7]; let s : State := State.reset; ({ ({ ({ ({ ((gates (quiet (running s)))) with sys := { s.sys with hbisoLow := false, pwr := .run, boot := 12, resetLow := false, interp := true, interpSeen := true, sboxReady := true, perfReady := true, vaultReady := true, minor := 2 }, sup := { Supplies.reset with vpp := s.sup.vpp } } : State) with mb := Mailbox.reset, fuse := State.reset.fuse, bus := HostBus.reset, ledger.ready := true, perf := Perf.reset, trace := Trace.reset } : State) with pbus := Vector.replicate 4 { Pbus.reset with ready := true, enabled := true, xfer := true, queue := [k] } } : State) with mb := { Mailbox.reset with flights := [k] } } : State)), 3, cmdPacket ⟨0, 9, 0xFF, 1⟩ 0x61 [3, 0x20, 2, 0, 1, 0, 2, 0, 7], by decide +kernel⟩,
   ⟨(let s : State := State.reset; ({ ({ ({ ((gates (quiet (running s)))) with sys := { s.sys with hbisoLow := false, pwr := .run, boot := 12, resetLow := false, interp := true, interpSeen := true, sboxReady := true, perfReady := true, vaultReady := true, minor := 2 }, sup := { Supplies.reset with vpp := s.sup.vpp } } : State) with mb := Mailbox.reset, fuse := State.reset.fuse, bus := HostBus.reset, ledger.ready := true, perf := Perf.reset, trace := Trace.reset } : State) with pbus := Vector.replicate 4 { Pbus.reset with ready := true, enabled := true } } : State)), 3, 0, 7, 1, by unfold Serves; decide +kernel⟩,
   ⟨(let k : Packet := cmdPacket ⟨0, 9, 0xFF, 1⟩ 0x62 [3]; let s : State := State.reset; ({ ({ ({ ({ ((gates (quiet (running s)))) with sys := { s.sys with hbisoLow := false, pwr := .run, boot := 12, resetLow := false, interp := true, interpSeen := true, sboxReady := true, perfReady := true, vaultReady := true, minor := 2 }, sup := { Supplies.reset with vpp := s.sup.vpp } } : State) with mb := Mailbox.reset, fuse := State.reset.fuse, bus := HostBus.reset, ledger.ready := true, perf := Perf.reset, trace := Trace.reset } : State) with pbus := Vector.replicate 4 { Pbus.reset with ready := true, enabled := true, clearing := true, forHost := true, clears := [k], stuck := true } } : State) with mb := { Mailbox.reset with flights := [k] } } : State)), 3, cmdPacket ⟨0, 9, 0xFF, 1⟩ 0x62 [3], by decide +kernel⟩,
   ⟨(let s : State := State.reset; ({ ({ ({ ((gates (quiet (running s)))) with sys := { s.sys with hbisoLow := false, pwr := .run, boot := 12, resetLow := false, interp := true, interpSeen := true, sboxReady := true, perfReady := true, vaultReady := true, minor := 2 }, sup := { Supplies.reset with vpp := s.sup.vpp } } : State) with mb := Mailbox.reset, fuse := State.reset.fuse, bus := HostBus.reset, ledger.ready := true, perf := Perf.reset, trace := Trace.reset } : State) with pbus := Vector.replicate 4 { Pbus.reset with ready := true, enabled := true, clearing := true, stuck := true } } : State)), 3, by decide +kernel⟩⟩

/-- States and operands that meet the hypotheses of each clause of FuseCommandsAndTheirEnds. -/
theorem witness_FuseCommandsAndTheirEnds :
  (∃ (s : State) (c : BitVec 2) (g : BitVec 6) (q : Byte) (w : Nat),
    Serves s (cmdPacket ⟨c, g, 0xFF, q⟩ 0x68 [0, 0, byteOf w 0, byteOf w 1, 1, 0]) ∧ w < 1024 ∧ s.rlocked (regOf w) = false) ∧
  (∃ (s : State) (c : BitVec 2) (g : BitVec 6) (q : Byte) (pl : List Byte),
    Serves s (cmdPacket ⟨c, g, 0xFF, q⟩ 0x69 pl) ∧ s.fuseCheck (cmdPacket ⟨c, g, 0xFF, q⟩ 0x69 pl) = 0 ∧ s.fuseBusy = false
    ∧ s.lantern.keygen = none) ∧
  (∃ (s : State) (c : BitVec 2) (g : BitVec 6) (q : Byte) (pl : List Byte),
    Serves s (cmdPacket ⟨c, g, 0xFF, q⟩ 0x6A pl) ∧ s.fuseCheck (cmdPacket ⟨c, g, 0xFF, q⟩ 0x6A pl) = 0 ∧ s.fuseBusy = false
    ∧ s.lantern.keygen = none) ∧
  (∃ (s : State) (c : BitVec 2) (g : BitVec 6) (q : Byte) (pl : List Byte),
    Serves s (cmdPacket ⟨c, g, 0xFF, q⟩ 0x6B pl) ∧ s.fuseCheck (cmdPacket ⟨c, g, 0xFF, q⟩ 0x6B pl) = 0 ∧ s.fuseBusy = false
    ∧ s.lantern.keygen = none) ∧
  (∃ (s : State) (k : Packet) (u : Bool) (w : Nat) (v : Word),
    s.caughtUp = true ∧ s.mb.held = [] ∧ s.mb.room 1024 = true ∧ s.mb.flights = [k] ∧ k.opcode = 0x69 ∧ s.fuse.run = some
    ⟨k, u, 0, 0⟩ ∧ s.fuse.queue = [] ∧ s.alarm.killPend = false ∧ s.fuseWork k = [(w, v)] ∧ s.fuse.normal.wf = true ∧
    s.fuse.strict.wf = true) ∧
  (∃ (s : State) (k : Packet) (u : Bool) (w : Nat) (v : Word) (f : Word),
    s.caughtUp = true ∧ s.mb.held = [] ∧ s.mb.room 1024 = true ∧ s.mb.flights = [k] ∧ k.opcode = 0x69 ∧ s.fuse.run = some
    ⟨k, u, 0, 0⟩ ∧ s.fuse.queue = [] ∧ s.alarm.killPend = false ∧ s.fuseWork k = [(w, v)] ∧ s.fuse.failMask w v f ≠ 0 ∧
    s.sbox.queue.length < 32 ∧ s.fuse.normal.wf = true) ∧
  (∃ (s : State) (k : Packet) (u : Bool) (w : Nat),
    s.caughtUp = true ∧ s.mb.held = [] ∧ s.mb.room 1024 = true ∧ s.mb.flights = [k] ∧ k.opcode = 0x6A ∧ s.fuse.run = some
    ⟨k, u, 0, 0⟩ ∧ s.fuse.queue = [] ∧ s.alarm.killPend = false ∧ s.lockPlan k = (0, [(w, 0x0F)]) ∧ s.fuse.normal.wf = true
    ∧ s.fuse.strict.wf = true ∧ s.fuse.strict.word w = 0 ∧ (nth k.payload 1).getLsbD 7 = false) ∧
  (∃ (s : State) (k : Packet) (u : Bool),
    s.caughtUp = true ∧ s.mb.held = [] ∧ s.mb.room 1024 = true ∧ s.mb.flights = [k] ∧ k.opcode = 0x6A ∧ s.fuse.run = some
    ⟨k, u, 0, 0⟩ ∧ s.fuse.queue = [] ∧ s.alarm.killPend = false ∧ (s.lockPlan k).1 = 0x22) ∧
  (∃ (s : State) (k : Packet) (u : Bool),
    s.caughtUp = true ∧ s.mb.held = [] ∧ s.mb.room 1024 = true ∧ s.mb.flights = [k] ∧ k.opcode = 0x6B ∧ s.fuse.run = some
    ⟨k, u, 0, 0⟩ ∧ s.fuse.queue = [] ∧ s.alarm.killPend = false ∧ k.payload = [2, 0, 0xD0, 0, 5, 0, 0, 0] ∧ s.fuse.normal =
    factoryArray ∧ s.fuse.strict = factoryArray) :=
  ⟨⟨(let s : State := State.reset; ({ ({ ((gates (quiet (running s)))) with sys := { s.sys with hbisoLow := false, pwr := .run, boot := 12, resetLow := false, interp := true, interpSeen := true, sboxReady := true, perfReady := true, vaultReady := true, minor := 2 }, sup := { Supplies.reset with vpp := s.sup.vpp } } : State) with mb := Mailbox.reset, fuse := State.reset.fuse, bus := HostBus.reset, ledger.ready := true, perf := Perf.reset, trace := Trace.reset } : State)), 0, 7, 1, 1, by unfold Serves; decide +kernel⟩,
   ⟨(let s : State := State.reset; ({ ({ ({ ((gates (quiet (running s)))) with sys := { s.sys with hbisoLow := false, pwr := .run, boot := 12, resetLow := false, interp := true, interpSeen := true, sboxReady := true, perfReady := true, vaultReady := true, minor := 2 }, sup := { Supplies.reset with vpp := s.sup.vpp } } : State) with mb := Mailbox.reset, fuse := State.reset.fuse, bus := HostBus.reset, ledger.ready := true, perf := Perf.reset, trace := Trace.reset } : State) with alarm := Alarm.reset, lantern := Lantern.reset } : State)), 0, 7, 1, [0, 0, 0xD0, 0, 5, 0, 0, 0], by unfold Serves; decide +kernel⟩,
   ⟨(let s : State := State.reset; ({ ({ ({ ((gates (quiet (running s)))) with sys := { s.sys with hbisoLow := false, pwr := .run, boot := 12, resetLow := false, interp := true, interpSeen := true, sboxReady := true, perfReady := true, vaultReady := true, minor := 2 }, sup := { Supplies.reset with vpp := s.sup.vpp } } : State) with mb := Mailbox.reset, fuse := State.reset.fuse, bus := HostBus.reset, ledger.ready := true, perf := Perf.reset, trace := Trace.reset } : State) with alarm := Alarm.reset, lantern := Lantern.reset } : State)), 0, 7, 1, [1, 1, 0, 0], by unfold Serves; decide +kernel⟩,
   ⟨(let s : State := State.reset; ({ ({ ({ ((gates (quiet (running s)))) with sys := { s.sys with hbisoLow := false, pwr := .run, boot := 12, resetLow := false, interp := true, interpSeen := true, sboxReady := true, perfReady := true, vaultReady := true, minor := 2 }, sup := { Supplies.reset with vpp := s.sup.vpp } } : State) with mb := Mailbox.reset, fuse := State.reset.fuse, bus := HostBus.reset, ledger.ready := true, perf := Perf.reset, trace := Trace.reset } : State) with alarm := Alarm.reset, lantern := Lantern.reset } : State)), 0, 7, 1, [2, 0, 0xD0, 0, 5, 0, 0, 0], by unfold Serves; decide +kernel⟩,
   ⟨(let k : Packet := cmdPacket ⟨0, 9, 0xFF, 1⟩ 0x69 [0, 0, 0xD0, 0, 5, 0, 0, 0]; let u : Bool := true; let s : State := State.reset; ({ ({ ({ ((gates (quiet (running s)))) with sys := { s.sys with hbisoLow := false, pwr := .run, boot := 12, resetLow := false, interp := true, interpSeen := true, sboxReady := true, perfReady := true, vaultReady := true, minor := 2 }, sup := { Supplies.reset with vpp := s.sup.vpp } } : State) with mb := Mailbox.reset, fuse := State.reset.fuse, bus := HostBus.reset, ledger.ready := true, perf := Perf.reset, trace := Trace.reset } : State) with mb := { Mailbox.reset with flights := [k] }, alarm := Alarm.reset, fuse := { State.reset.fuse with run := some ⟨k, u, 0, 0⟩ } } : State)), cmdPacket ⟨0, 9, 0xFF, 1⟩ 0x69 [0, 0, 0xD0, 0, 5, 0, 0, 0], true, 0xD0, 5, by decide +kernel⟩,
   ⟨(let k : Packet := cmdPacket ⟨0, 9, 0xFF, 1⟩ 0x69 [0, 0, 0xD0, 0, 5, 0, 0, 0]; let u : Bool := true; let s : State := State.reset; ({ ({ ({ ((gates (quiet (running s)))) with sys := { s.sys with hbisoLow := false, pwr := .run, boot := 12, resetLow := false, interp := true, interpSeen := true, sboxReady := true, perfReady := true, vaultReady := true, minor := 2 }, sup := { Supplies.reset with vpp := s.sup.vpp } } : State) with mb := Mailbox.reset, fuse := State.reset.fuse, bus := HostBus.reset, ledger.ready := true, perf := Perf.reset, trace := Trace.reset } : State) with mb := { Mailbox.reset with flights := [k] }, alarm := Alarm.reset, fuse := { State.reset.fuse with run := some ⟨k, u, 0, 0⟩ } } : State)), cmdPacket ⟨0, 9, 0xFF, 1⟩ 0x69 [0, 0, 0xD0, 0, 5, 0, 0, 0], true, 0xD0, 5, 4, by decide +kernel⟩,
   ⟨(let k : Packet := cmdPacket ⟨0, 9, 0xFF, 1⟩ 0x6A [3, 1, 0, 0]; let u : Bool := true; let s : State := State.reset; ({ ({ ({ ((gates (quiet (running s)))) with sys := { s.sys with hbisoLow := false, pwr := .run, boot := 12, resetLow := false, interp := true, interpSeen := true, sboxReady := true, perfReady := true, vaultReady := true, minor := 2 }, sup := { Supplies.reset with vpp := s.sup.vpp } } : State) with mb := Mailbox.reset, fuse := State.reset.fuse, bus := HostBus.reset, ledger.ready := true, perf := Perf.reset, trace := Trace.reset } : State) with mb := { Mailbox.reset with flights := [k] }, alarm := Alarm.reset, fuse := { State.reset.fuse with run := some ⟨k, u, 0, 0⟩ } } : State)), cmdPacket ⟨0, 9, 0xFF, 1⟩ 0x6A [3, 1, 0, 0], true, 0x3DE, by decide +kernel⟩,
   ⟨(let k : Packet := cmdPacket ⟨0, 9, 0xFF, 1⟩ 0x6A [0, 1, 0, 0]; let u : Bool := true; let s : State := State.reset; ({ ({ ({ ((gates (quiet (running s)))) with sys := { s.sys with hbisoLow := false, pwr := .run, boot := 12, resetLow := false, interp := true, interpSeen := true, sboxReady := true, perfReady := true, vaultReady := true, minor := 2 }, sup := { Supplies.reset with vpp := s.sup.vpp } } : State) with mb := Mailbox.reset, fuse := State.reset.fuse, bus := HostBus.reset, ledger.ready := true, perf := Perf.reset, trace := Trace.reset } : State) with mb := { Mailbox.reset with flights := [k] }, alarm := Alarm.reset, fuse := { State.reset.fuse with run := some ⟨k, u, 0, 0⟩ } } : State)), cmdPacket ⟨0, 9, 0xFF, 1⟩ 0x6A [0, 1, 0, 0], true, by decide +kernel⟩,
   ⟨(let k : Packet := cmdPacket ⟨0, 9, 0xFF, 1⟩ 0x6B [2, 0, 0xD0, 0, 5, 0, 0, 0]; let u : Bool := true; let s : State := State.reset; ({ ({ ({ ((gates (quiet (running s)))) with sys := { s.sys with hbisoLow := false, pwr := .run, boot := 12, resetLow := false, interp := true, interpSeen := true, sboxReady := true, perfReady := true, vaultReady := true, minor := 2 }, sup := { Supplies.reset with vpp := s.sup.vpp } } : State) with mb := Mailbox.reset, fuse := State.reset.fuse, bus := HostBus.reset, ledger.ready := true, perf := Perf.reset, trace := Trace.reset } : State) with mb := { Mailbox.reset with flights := [k] }, alarm := Alarm.reset, fuse := { State.reset.fuse with run := some ⟨k, u, 0, 0⟩ } } : State)), cmdPacket ⟨0, 9, 0xFF, 1⟩ 0x6B [2, 0, 0xD0, 0, 5, 0, 0, 0], true, by decide +kernel⟩⟩

/-- States and operands that meet the hypotheses of each clause of StrongboxVaultAndAlarmCommands. -/
theorem witness_StrongboxVaultAndAlarmCommands :
  (∃ (s : State) (c : BitVec 2) (g : BitVec 6) (q : Byte) (i : Nat),
    Serves s (cmdPacket ⟨c, g, 0xFF, q⟩ 0x70 [0, 0, byteOf i 0, byteOf i 1, 0, 0, 1, 0]) ∧ i < 8192) ∧
  (∃ (s : State) (c : BitVec 2) (g : BitVec 6) (q : Byte) (pl : List Byte),
    Serves s (cmdPacket ⟨c, g, 0xFF, q⟩ 0x71 pl) ∧ s.sbox.queue.length < 32 ∧ s.sbox.lost = 0) ∧
  (∃ (s : State) (c : BitVec 2) (g : BitVec 6) (q : Byte) (i : Nat) (d : List Byte),
    Serves s (cmdPacket ⟨c, g, 0xFF, q⟩ 0x78 (1 :: byteOf i 0 :: 1 :: 0 :: d)) ∧ i < 8 ∧ d.length = 32 ∧ (s.keySlot
    i).state.toNat < 2 ∧ s.killed = false) ∧
  (∃ (s : State) (c : BitVec 2) (g : BitVec 6) (q : Byte) (i : Nat),
    Serves s (cmdPacket ⟨c, g, 0xFF, q⟩ 0x78 [2, byteOf i 0, 1, 0]) ∧ i < 8 ∧ (s.keySlot i).state.toNat < 2) ∧
  (∃ (s : State) (c : BitVec 2) (g : BitVec 6) (q : Byte),
    Serves s (cmdPacket ⟨c, g, 0xFF, q⟩ 0x78 [0, 0, 1, 0])) ∧
  (∃ (s : State) (c : BitVec 2) (g : BitVec 6) (q : Byte) (v : Byte) (x : Byte) (y : Byte) (z : Byte) (d : List Byte),
    Serves s (cmdPacket ⟨c, g, 0xFF, q⟩ 0x78 (v :: x :: y :: z :: d)) ∧ y ≠ 1) ∧
  (∃ (s : State) (c : BitVec 2) (g : BitVec 6) (q : Byte) (i : Nat) (a : Byte) (m : Byte),
    Serves s (cmdPacket ⟨c, g, 0xFF, q⟩ 0x79 [byteOf i 0, a, 0, m]) ∧ i < 7 ∧ a.toNat ≤ 2 ∧ (i = 6) = (m ≠ 0) ∧ (s.almCfg
    i).lock = false) ∧
  (∃ (s : State) (c : BitVec 2) (g : BitVec 6) (q : Byte),
    Serves s (cmdPacket ⟨c, g, 0xFF, q⟩ 0x7A [0, 0, 0, 0]) ∧ s.killed = false) ∧
  (∃ (s : State) (c : BitVec 2) (g : BitVec 6) (q : Byte) (i : Nat) (d : List Byte) (n : List Byte),
    Serves s (cmdPacket ⟨c, g, 0xFF, q⟩ 0x7A (1 :: byteOf i 0 :: 0 :: 0 :: d)) ∧ i < 8 ∧ s.killed = false ∧ (s.keySlot
    i).state = 1 ∧ s.vault.nonce = some n ∧ d.length = 32 ∧ hmac256 (s.keySlot i).key (n ++ leBytes 4 0xA5324810) = d) ∧
  (∃ (s : State) (c : BitVec 2) (g : BitVec 6) (q : Byte) (i : Nat) (d : List Byte),
    Serves s (cmdPacket ⟨c, g, 0xFF, q⟩ 0x7A (1 :: byteOf i 0 :: 0 :: 0 :: d)) ∧ i < 8 ∧ s.killed = false ∧ (s.keySlot
    i).state = 0 ∧ d.length = 32 ∧ satAdd s.alarm.authFail 1 < (s.almCfg 6).limit) ∧
  (∃ (s : State) (c : BitVec 2) (g : BitVec 6) (q : Byte),
    Serves s (cmdPacket ⟨c, g, 0xFF, q⟩ 0x7A [2, 0, 0, 0]) ∧ s.fuse.queue = []) :=
  ⟨⟨(let s : State := State.reset; ({ ({ ((gates (quiet (running s)))) with sys := { s.sys with hbisoLow := false, pwr := .run, boot := 12, resetLow := false, interp := true, interpSeen := true, sboxReady := true, perfReady := true, vaultReady := true, minor := 2 }, sup := { Supplies.reset with vpp := s.sup.vpp } } : State) with mb := Mailbox.reset, fuse := State.reset.fuse, bus := HostBus.reset, ledger.ready := true, perf := Perf.reset, trace := Trace.reset } : State)), 0, 7, 1, 8191, by unfold Serves; decide +kernel⟩,
   ⟨(let s : State := State.reset; ({ ({ ({ ((gates (quiet (running s)))) with sys := { s.sys with hbisoLow := false, pwr := .run, boot := 12, resetLow := false, interp := true, interpSeen := true, sboxReady := true, perfReady := true, vaultReady := true, minor := 2 }, sup := { Supplies.reset with vpp := s.sup.vpp } } : State) with mb := Mailbox.reset, fuse := State.reset.fuse, bus := HostBus.reset, ledger.ready := true, perf := Perf.reset, trace := Trace.reset } : State) with sbox := Sbox.reset } : State)), 0, 7, 1, [1, 2], by unfold Serves; decide +kernel⟩,
   ⟨(let s : State := State.reset; ({ ({ ({ ((gates (quiet (running s)))) with sys := { s.sys with hbisoLow := false, pwr := .run, boot := 12, resetLow := false, interp := true, interpSeen := true, sboxReady := true, perfReady := true, vaultReady := true, minor := 2 }, sup := { Supplies.reset with vpp := s.sup.vpp } } : State) with mb := Mailbox.reset, fuse := State.reset.fuse, bus := HostBus.reset, ledger.ready := true, perf := Perf.reset, trace := Trace.reset } : State) with alarm := Alarm.reset, vault := { Vault.reset with nonce := some (List.replicate 16 7), slots := Vector.replicate 8 ⟨1, 1, List.replicate 32 3, [1, 2, 3, 4]⟩ } } : State)), 0, 7, 1, 7, List.replicate 32 9, by unfold Serves; decide +kernel⟩,
   ⟨(let s : State := State.reset; ({ ({ ({ ((gates (quiet (running s)))) with sys := { s.sys with hbisoLow := false, pwr := .run, boot := 12, resetLow := false, interp := true, interpSeen := true, sboxReady := true, perfReady := true, vaultReady := true, minor := 2 }, sup := { Supplies.reset with vpp := s.sup.vpp } } : State) with mb := Mailbox.reset, fuse := State.reset.fuse, bus := HostBus.reset, ledger.ready := true, perf := Perf.reset, trace := Trace.reset } : State) with alarm := Alarm.reset, vault := { Vault.reset with nonce := some (List.replicate 16 7), slots := Vector.replicate 8 ⟨1, 1, List.replicate 32 3, [1, 2, 3, 4]⟩ } } : State)), 0, 7, 1, 7, by unfold Serves; decide +kernel⟩,
   ⟨(let s : State := State.reset; ({ ({ ({ ((gates (quiet (running s)))) with sys := { s.sys with hbisoLow := false, pwr := .run, boot := 12, resetLow := false, interp := true, interpSeen := true, sboxReady := true, perfReady := true, vaultReady := true, minor := 2 }, sup := { Supplies.reset with vpp := s.sup.vpp } } : State) with mb := Mailbox.reset, fuse := State.reset.fuse, bus := HostBus.reset, ledger.ready := true, perf := Perf.reset, trace := Trace.reset } : State) with alarm := Alarm.reset, vault := { Vault.reset with nonce := some (List.replicate 16 7), slots := Vector.replicate 8 ⟨1, 1, List.replicate 32 3, [1, 2, 3, 4]⟩ } } : State)), 0, 7, 1, by unfold Serves; decide +kernel⟩,
   ⟨(let s : State := State.reset; ({ ({ ({ ((gates (quiet (running s)))) with sys := { s.sys with hbisoLow := false, pwr := .run, boot := 12, resetLow := false, interp := true, interpSeen := true, sboxReady := true, perfReady := true, vaultReady := true, minor := 2 }, sup := { Supplies.reset with vpp := s.sup.vpp } } : State) with mb := Mailbox.reset, fuse := State.reset.fuse, bus := HostBus.reset, ledger.ready := true, perf := Perf.reset, trace := Trace.reset } : State) with alarm := Alarm.reset, vault := { Vault.reset with nonce := some (List.replicate 16 7), slots := Vector.replicate 8 ⟨1, 1, List.replicate 32 3, [1, 2, 3, 4]⟩ } } : State)), 0, 7, 1, 0, 0, 0, 0, [], by unfold Serves; decide +kernel⟩,
   ⟨(let s : State := State.reset; ({ ({ ({ ((gates (quiet (running s)))) with sys := { s.sys with hbisoLow := false, pwr := .run, boot := 12, resetLow := false, interp := true, interpSeen := true, sboxReady := true, perfReady := true, vaultReady := true, minor := 2 }, sup := { Supplies.reset with vpp := s.sup.vpp } } : State) with mb := Mailbox.reset, fuse := State.reset.fuse, bus := HostBus.reset, ledger.ready := true, perf := Perf.reset, trace := Trace.reset } : State) with alarm := Alarm.reset, vault := { Vault.reset with nonce := some (List.replicate 16 7), slots := Vector.replicate 8 ⟨1, 1, List.replicate 32 3, [1, 2, 3, 4]⟩ } } : State)), 0, 7, 1, 6, 2, 5, by unfold Serves; decide +kernel⟩,
   ⟨(let s : State := State.reset; ({ ({ ({ ((gates (quiet (running s)))) with sys := { s.sys with hbisoLow := false, pwr := .run, boot := 12, resetLow := false, interp := true, interpSeen := true, sboxReady := true, perfReady := true, vaultReady := true, minor := 2 }, sup := { Supplies.reset with vpp := s.sup.vpp } } : State) with mb := Mailbox.reset, fuse := State.reset.fuse, bus := HostBus.reset, ledger.ready := true, perf := Perf.reset, trace := Trace.reset } : State) with alarm := Alarm.reset, vault := { Vault.reset with nonce := some (List.replicate 16 7), slots := Vector.replicate 8 ⟨1, 1, List.replicate 32 3, [1, 2, 3, 4]⟩ } } : State)), 0, 7, 1, by unfold Serves; decide +kernel⟩,
   ⟨(let s : State := State.reset; ({ ({ ({ ((gates (quiet (running s)))) with sys := { s.sys with hbisoLow := false, pwr := .run, boot := 12, resetLow := false, interp := true, interpSeen := true, sboxReady := true, perfReady := true, vaultReady := true, minor := 2 }, sup := { Supplies.reset with vpp := s.sup.vpp } } : State) with mb := Mailbox.reset, fuse := State.reset.fuse, bus := HostBus.reset, ledger.ready := true, perf := Perf.reset, trace := Trace.reset } : State) with alarm := Alarm.reset, vault := { Vault.reset with nonce := some (List.replicate 16 7), slots := Vector.replicate 8 ⟨1, 1, List.replicate 32 3, [1, 2, 3, 4]⟩ } } : State)), 0, 7, 1, 7, hmac256 (List.replicate 32 3) (List.replicate 16 7 ++ leBytes 4 0xA5324810), List.replicate 16 7, by unfold Serves; decide +kernel⟩,
   ⟨(let s : State := State.reset; ({ ({ ({ ({ ((gates (quiet (running s)))) with sys := { s.sys with hbisoLow := false, pwr := .run, boot := 12, resetLow := false, interp := true, interpSeen := true, sboxReady := true, perfReady := true, vaultReady := true, minor := 2 }, sup := { Supplies.reset with vpp := s.sup.vpp } } : State) with mb := Mailbox.reset, fuse := State.reset.fuse, bus := HostBus.reset, ledger.ready := true, perf := Perf.reset, trace := Trace.reset } : State) with alarm := Alarm.reset, vault := { Vault.reset with nonce := some (List.replicate 16 7), slots := Vector.replicate 8 ⟨1, 1, List.replicate 32 3, [1, 2, 3, 4]⟩ } } : State) with vault := Vault.reset } : State)), 0, 7, 1, 7, List.replicate 32 9, by unfold Serves; decide +kernel⟩,
   ⟨(let s : State := State.reset; ({ ({ ({ ((gates (quiet (running s)))) with sys := { s.sys with hbisoLow := false, pwr := .run, boot := 12, resetLow := false, interp := true, interpSeen := true, sboxReady := true, perfReady := true, vaultReady := true, minor := 2 }, sup := { Supplies.reset with vpp := s.sup.vpp } } : State) with mb := Mailbox.reset, fuse := State.reset.fuse, bus := HostBus.reset, ledger.ready := true, perf := Perf.reset, trace := Trace.reset } : State) with alarm := Alarm.reset, vault := { Vault.reset with nonce := some (List.replicate 16 7), slots := Vector.replicate 8 ⟨1, 1, List.replicate 32 3, [1, 2, 3, 4]⟩ } } : State)), 0, 7, 1, by unfold Serves; decide +kernel⟩⟩

/-- States and operands that meet the hypotheses of each clause of CountersTracePartsAndSnapshots. -/
theorem witness_CountersTracePartsAndSnapshots :
  (∃ (s : State) (c : BitVec 2) (g : BitVec 6) (q : Byte) (b : Nat) (n : Nat) (e : Byte) (f : Byte) (m : Byte),
    Serves s (cmdPacket ⟨c, g, 0xFF, q⟩ 0x80 [byteOf b 0, byteOf n 0, e, f, m]) ∧ b < 38 ∧ n < 4 ∧ e.toNat ≤ lastEvent b ∧
    (n % 2 = 1 → f.getLsbD 1 = false) ∧ s.perf.gather = false) ∧
  (∃ (s : State) (c : BitVec 2) (g : BitVec 6) (q : Byte),
    Serves s (cmdPacket ⟨c, g, 0xFF, q⟩ 0x81 [1, 0]) ∧ s.perf.gather = false) ∧
  (∃ (s : State) (c : BitVec 2) (g : BitVec 6) (q : Byte),
    Serves s (cmdPacket ⟨c, g, 0xFF, q⟩ 0x81 [2, 0])) ∧
  (∃ (s : State) (c : BitVec 2) (g : BitVec 6) (q : Byte) (e : Byte),
    Serves s (cmdPacket ⟨c, g, 0xFF, q⟩ 0x81 [1, e]) ∧ evsrcOk e = true) ∧
  (∃ (s : State) (e : Byte),
    s.perf.trig = some (e, false) ∧ isTin e = true ∧ s.perf.gather = false) ∧
  (∃ (s : State) (e : Byte),
    s.perf.trig = some (e, false) ∧ isTin e = false) ∧
  (∃ (s : State),
    s.perf.gather = true ∧ s.perf.again = [] ∧ s.perf.pend = []) ∧
  (∃ (s : State),
    s.perf.gather = true ∧ s.perf.again = [] ∧ s.perf.pend = []) ∧
  (∃ (s : State) (v : Word),
    s.perf.frozen = false ∧ (s.perf.ctrs[140]?) = some ⟨7, true, false, v⟩) ∧
  (∃ (s : State) (c : BitVec 2) (g : BitVec 6) (q : Byte) (a : Byte) (b : Byte),
    Serves s (cmdPacket ⟨c, g, 0xFF, q⟩ 0x82 [a, b, 0]) ∧ s.trace.reading = 0) ∧
  (∃ (s : State) (c : BitVec 2) (g : BitVec 6) (q : Byte) (n : Nat),
    Serves s (cmdPacket ⟨c, g, 0xFF, q⟩ 0x83 [0, byteOf n 0, byteOf n 1]) ∧ 1 ≤ n ∧ n ≤ 64 ∧ s.trace.pend = none) ∧
  (∃ (s : State) (k : Packet) (st : Byte) (b : List Byte),
    s.canServe = true ∧ s.caughtUp = true ∧ s.mb.held = [] ∧ s.mb.room 1024 = true ∧ s.mb.parts = [(k, st, [b])] ∧ b.length
    ≤ 1024 ∧ k.opcode = 0x49) :=
  ⟨⟨(let s : State := State.reset; ({ ({ ((gates (quiet (running s)))) with sys := { s.sys with hbisoLow := false, pwr := .run, boot := 12, resetLow := false, interp := true, interpSeen := true, sboxReady := true, perfReady := true, vaultReady := true, minor := 2 }, sup := { Supplies.reset with vpp := s.sup.vpp } } : State) with mb := Mailbox.reset, fuse := State.reset.fuse, bus := HostBus.reset, ledger.ready := true, perf := Perf.reset, trace := Trace.reset } : State)), 0, 7, 1, 37, 3, 1, 1, 3, by unfold Serves; decide +kernel⟩,
   ⟨(let s : State := State.reset; ({ ({ ((gates (quiet (running s)))) with sys := { s.sys with hbisoLow := false, pwr := .run, boot := 12, resetLow := false, interp := true, interpSeen := true, sboxReady := true, perfReady := true, vaultReady := true, minor := 2 }, sup := { Supplies.reset with vpp := s.sup.vpp } } : State) with mb := Mailbox.reset, fuse := State.reset.fuse, bus := HostBus.reset, ledger.ready := true, perf := Perf.reset, trace := Trace.reset } : State)), 0, 7, 1, by unfold Serves; decide +kernel⟩,
   ⟨(let s : State := State.reset; ({ ({ ((gates (quiet (running s)))) with sys := { s.sys with hbisoLow := false, pwr := .run, boot := 12, resetLow := false, interp := true, interpSeen := true, sboxReady := true, perfReady := true, vaultReady := true, minor := 2 }, sup := { Supplies.reset with vpp := s.sup.vpp } } : State) with mb := Mailbox.reset, fuse := State.reset.fuse, bus := HostBus.reset, ledger.ready := true, perf := Perf.reset, trace := Trace.reset } : State)), 0, 7, 1, by unfold Serves; decide +kernel⟩,
   ⟨(let s : State := State.reset; ({ ({ ((gates (quiet (running s)))) with sys := { s.sys with hbisoLow := false, pwr := .run, boot := 12, resetLow := false, interp := true, interpSeen := true, sboxReady := true, perfReady := true, vaultReady := true, minor := 2 }, sup := { Supplies.reset with vpp := s.sup.vpp } } : State) with mb := Mailbox.reset, fuse := State.reset.fuse, bus := HostBus.reset, ledger.ready := true, perf := Perf.reset, trace := Trace.reset } : State)), 0, 7, 1, 8, by unfold Serves; decide +kernel⟩,
   ⟨(let e : Byte := 8; let s : State := State.reset; ({ ({ ({ ((gates (quiet (running s)))) with sys := { s.sys with hbisoLow := false, pwr := .run, boot := 12, resetLow := false, interp := true, interpSeen := true, sboxReady := true, perfReady := true, vaultReady := true, minor := 2 }, sup := { Supplies.reset with vpp := s.sup.vpp } } : State) with mb := Mailbox.reset, fuse := State.reset.fuse, bus := HostBus.reset, ledger.ready := true, perf := Perf.reset, trace := Trace.reset } : State) with perf := { Perf.reset with gather := false, trig := some (e, false) } } : State)), 8, by decide +kernel⟩,
   ⟨(let e : Byte := 0x80; let s : State := State.reset; ({ ({ ({ ((gates (quiet (running s)))) with sys := { s.sys with hbisoLow := false, pwr := .run, boot := 12, resetLow := false, interp := true, interpSeen := true, sboxReady := true, perfReady := true, vaultReady := true, minor := 2 }, sup := { Supplies.reset with vpp := s.sup.vpp } } : State) with mb := Mailbox.reset, fuse := State.reset.fuse, bus := HostBus.reset, ledger.ready := true, perf := Perf.reset, trace := Trace.reset } : State) with perf := { Perf.reset with gather := false, trig := some (e, false) } } : State)), 0x80, by decide +kernel⟩,
   ⟨(let s : State := State.reset; ({ ({ ({ ((gates (quiet (running s)))) with sys := { s.sys with hbisoLow := false, pwr := .run, boot := 12, resetLow := false, interp := true, interpSeen := true, sboxReady := true, perfReady := true, vaultReady := true, minor := 2 }, sup := { Supplies.reset with vpp := s.sup.vpp } } : State) with mb := Mailbox.reset, fuse := State.reset.fuse, bus := HostBus.reset, ledger.ready := true, perf := Perf.reset, trace := Trace.reset } : State) with perf := { Perf.reset with gather := true, trig := none } } : State)), by decide +kernel⟩,
   ⟨(let s : State := State.reset; ({ ({ ({ ((gates (quiet (running s)))) with sys := { s.sys with hbisoLow := false, pwr := .run, boot := 12, resetLow := false, interp := true, interpSeen := true, sboxReady := true, perfReady := true, vaultReady := true, minor := 2 }, sup := { Supplies.reset with vpp := s.sup.vpp } } : State) with mb := Mailbox.reset, fuse := State.reset.fuse, bus := HostBus.reset, ledger.ready := true, perf := Perf.reset, trace := Trace.reset } : State) with perf := { Perf.reset with gather := true, trig := none } } : State)), by decide +kernel⟩,
   ⟨(let v : Word := 9; let s : State := State.reset; ({ ({ ({ ((gates (quiet (running s)))) with sys := { s.sys with hbisoLow := false, pwr := .run, boot := 12, resetLow := false, interp := true, interpSeen := true, sboxReady := true, perfReady := true, vaultReady := true, minor := 2 }, sup := { Supplies.reset with vpp := s.sup.vpp } } : State) with mb := Mailbox.reset, fuse := State.reset.fuse, bus := HostBus.reset, ledger.ready := true, perf := Perf.reset, trace := Trace.reset } : State) with perf := { Perf.reset with ctrs := Perf.reset.ctrs.set 140 ⟨7, true, false, v⟩ } } : State)), 9, by decide +kernel⟩,
   ⟨(let s : State := State.reset; ({ ({ ((gates (quiet (running s)))) with sys := { s.sys with hbisoLow := false, pwr := .run, boot := 12, resetLow := false, interp := true, interpSeen := true, sboxReady := true, perfReady := true, vaultReady := true, minor := 2 }, sup := { Supplies.reset with vpp := s.sup.vpp } } : State) with mb := Mailbox.reset, fuse := State.reset.fuse, bus := HostBus.reset, ledger.ready := true, perf := Perf.reset, trace := Trace.reset } : State)), 0, 7, 1, 9, 1, by unfold Serves; decide +kernel⟩,
   ⟨(let s : State := State.reset; ({ ({ ((gates (quiet (running s)))) with sys := { s.sys with hbisoLow := false, pwr := .run, boot := 12, resetLow := false, interp := true, interpSeen := true, sboxReady := true, perfReady := true, vaultReady := true, minor := 2 }, sup := { Supplies.reset with vpp := s.sup.vpp } } : State) with mb := Mailbox.reset, fuse := State.reset.fuse, bus := HostBus.reset, ledger.ready := true, perf := Perf.reset, trace := Trace.reset } : State)), 0, 7, 1, 64, by unfold Serves; decide +kernel⟩,
   ⟨(let k : Packet := cmdPacket ⟨0, 9, 0xFF, 1⟩ 0x49 [1]; let st : Byte := 0; let b : List Byte := [1]; let s : State := State.reset; ({ ({ ({ ((gates (quiet (running s)))) with sys := { s.sys with hbisoLow := false, pwr := .run, boot := 12, resetLow := false, interp := true, interpSeen := true, sboxReady := true, perfReady := true, vaultReady := true, minor := 2 }, sup := { Supplies.reset with vpp := s.sup.vpp } } : State) with mb := Mailbox.reset, fuse := State.reset.fuse, bus := HostBus.reset, ledger.ready := true, perf := Perf.reset, trace := Trace.reset } : State) with mb := { Mailbox.reset with parts := [(k, st, [b])] } } : State)), cmdPacket ⟨0, 9, 0xFF, 1⟩ 0x49 [1], 0, [1], by decide +kernel⟩⟩

/-- States and operands that meet the hypotheses of each clause of EchoReturnsItsPayload. -/
theorem witness_EchoReturnsItsPayload :
  (∃ (s : State) (c : BitVec 2) (g : BitVec 6) (q : Byte) (pl : List Byte),
    Serves s (cmdPacket ⟨c, g, 0xFF, q⟩ 0x02 pl)) :=
  ⟨(let s : State := State.reset; ({ ({ ((gates (quiet (running s)))) with sys := { s.sys with hbisoLow := false, pwr := .run, boot := 12, resetLow := false, interp := true, interpSeen := true, sboxReady := true, perfReady := true, vaultReady := true, minor := 2 }, sup := { Supplies.reset with vpp := s.sup.vpp } } : State) with mb := Mailbox.reset, fuse := State.reset.fuse, bus := HostBus.reset, ledger.ready := true, perf := Perf.reset, trace := Trace.reset } : State)), 0, 7, 1, [7, 8], by unfold Serves; decide +kernel⟩

/-- States and operands that meet the hypotheses of each clause of PointerWrapsInItsBlock. -/
theorem witness_PointerWrapsInItsBlock :
  (∃ b : HostBus, b.wrap = 0) ∧
  (∃ b : HostBus, b.wrap = 1) ∧
  (∃ b : HostBus, b.wrap = 2) ∧
  (∃ b : HostBus, b.wrap = 3) :=
  ⟨⟨{ HostBus.reset with wrap := 0 }, rfl⟩,
   ⟨{ HostBus.reset with wrap := 1 }, rfl⟩,
   ⟨{ HostBus.reset with wrap := 2 }, rfl⟩,
   ⟨{ HostBus.reset with wrap := 3 }, rfl⟩⟩

/-- States and operands that meet the hypotheses of each clause of LineAndLedgerEventsTakeEffect. -/
theorem witness_LineAndLedgerEventsTakeEffect :
  (∃ (s : State) (p : PortId) (k : Sop) (id : BitVec 3) (m : Msg),
    s.pdLive p = true ∧ s.sopLive p k = true ∧ (s.port p).pd.tx = some m ∧ m.sop = k ∧ m.id = id) ∧
  (∃ (s : State) (p : PortId) (k : Sop) (id : BitVec 3) (m : Msg),
    s.pdLive p = true ∧ s.sopLive p k = true ∧ (s.port p).pd.tx = some m ∧ m.sop = k ∧ m.id = id ∧ (s.port p).pd.txQ = [] ∧
    m.ty ∈ [.request, .getSinkCap, .getSourceCap, .getRevision, .getStatus, .getSourceCapExt, .getBatteryCap, .eprMode,
    .eprKeepAlive, .vdm, .prSwap, .drSwap, .vconnSwap] ∧ (s.port p).pd.ams ≠ .partner) ∧
  (∃ (s : State) (p : PortId) (m : Msg),
    s.pdLive p = true ∧ (s.port p).pd.tx = some m ∧ s.sopLive p m.sop = true ∧ (s.port p).pd.tries < (if (s.port p).pd.rev3
    then 2 else 3)) ∧
  (∃ (s : State) (p : PortId) (a : Ams) (r : List Ams),
    s.pdLive p = true ∧ (s.port p).tc.state = .attachedSrc ∧ (s.port p).pd.tx = none ∧ (s.port p).pd.trig = a :: r ∧ (s.port
    p).pd.ams = .none ∧ (s.port p).pd.contract = .explicit ∧ (s.port p).pd.txRev = 2 ∧ (s.port p).pd.ng = false ∧ (s.port
    p).pd.hr = .none ∧ (s.port p).pd.bist = 0) ∧
  (∃ (s : State) (p : PortId) (a : Ams) (ty : Mt) (r : List Ams),
    s.pdLive p = true ∧ (s.port p).tc.state = .attachedSrc ∧ (s.port p).pd.contract = .none ∧ (s.port p).pd.tx = none ∧
    (s.port p).pd.txQ = [] ∧ (s.port p).pd.trig = a :: r ∧ (s.port p).pd.ams = .none ∧ (s.port p).pd.hr = .none ∧ (s.port
    p).pd.bist = 0 ∧ (a, ty) ∈ [(Ams.getSinkCap, Mt.getSinkCap), (.getRevision, .getRevision), (.getSourceCap,
    .getSourceCap), (.getSourceCapExt, .getSourceCapExt), (.getBatteryCap, .getBatteryCap), (.getBatteryStatus,
    .getBatteryStatus), (.getStatus, .getStatus), (.alertOcp, .alert), (.alertOtp, .alert), (.alertInput, .alert),
    (.eprEntry, .eprMode), (.eprKeepAlive, .eprKeepAlive), (.softReset, .softReset)]) ∧
  (∃ (s : State) (p : PortId) (a : Ams) (ty : Mt) (r : List Ams),
    s.pdLive p = true ∧ (s.port p).tc.state = .attachedSnk ∧ (s.port p).pd.contract = .explicit ∧ (s.port p).sinkTxOk = true
    ∧ (s.port p).pd.tx = none ∧ (s.port p).pd.txQ = [] ∧ (s.port p).pd.trig = a :: r ∧ (s.port p).pd.ams = .none ∧ (s.port
    p).pd.hr = .none ∧ (s.port p).pd.bist = 0 ∧ (a, ty) ∈ [(Ams.getSinkCap, Mt.getSinkCap), (.getRevision, .getRevision),
    (.getSourceCap, .getSourceCap), (.getSourceCapExt, .getSourceCapExt), (.getBatteryCap, .getBatteryCap),
    (.getBatteryStatus, .getBatteryStatus), (.getStatus, .getStatus), (.alertOcp, .alert), (.alertOtp, .alert),
    (.alertInput, .alert), (.eprEntry, .eprMode), (.eprKeepAlive, .eprKeepAlive), (.softReset, .softReset)]) ∧
  (∃ (s : State) (p : PortId) (a : Ams) (ty : Mt),
    s.pdLive p = true ∧ (s.port p).pd.tx = none ∧ (s.port p).pd.txQ = [] ∧ (s.port p).pd.sinkTxWait = true ∧ (s.port
    p).pd.ams = a ∧ (a, ty) ∈ [(Ams.getSinkCap, Mt.getSinkCap), (.getRevision, .getRevision), (.getSourceCap,
    .getSourceCap), (.getSourceCapExt, .getSourceCapExt), (.getBatteryCap, .getBatteryCap), (.getBatteryStatus,
    .getBatteryStatus), (.getStatus, .getStatus), (.alertOcp, .alert), (.alertOtp, .alert), (.alertInput, .alert),
    (.eprEntry, .eprMode), (.eprKeepAlive, .eprKeepAlive), (.softReset, .softReset)]) ∧
  (∃ (s : State) (p : PortId) (n : Nat) (k : DemKind),
    s.ledgerRuns = true ∧ s.ledger.ready = true ∧ s.ledger.frozen = true ∧ s.ledger.rerun = none ∧ s.ledger.posts = [.demand
    p n k false false]) ∧
  (∃ (s : State) (b : Bool),
    s.ledgerRuns = true ∧ b = false ∨ s.safeOn 2 = false ∨ s.ledger.frozen = true) ∧
  (∃ (s : State),
    s.memOn = true ∧ s.ledger.frozen = true ∧ s.ledger.stuck = false) :=
  ⟨⟨(let p : PortId := 0; let k : Sop := .sop; let id : BitVec 3 := 5; let m : Msg := ⟨.sop, .getSinkCap, [], [], 2, 5⟩; let s : State := State.reset; (portUp ((if k == .sop then source (running s) p else (source (running s) p).modTc p fun x => { x with vconnOn := true }).modPd p fun d => { d with tx := some { m with sop := k, id := id } }) p)), 0, .sop, 5, ⟨.sop, .getSinkCap, [], [], 2, 5⟩, by decide +kernel⟩,
   ⟨(let p : PortId := 0; let k : Sop := .sop; let id : BitVec 3 := 5; let m : Msg := ⟨.sop, .getSinkCap, [], [], 2, 5⟩; let s : State := State.reset; (portUp ((if k == .sop then source (running s) p else (source (running s) p).modTc p fun x => { x with vconnOn := true }).modPd p fun d => { d with tx := some { m with sop := k, id := id } }) p)), 0, .sop, 5, ⟨.sop, .getSinkCap, [], [], 2, 5⟩, by decide +kernel⟩,
   ⟨(let p : PortId := 0; let m : Msg := ⟨.sop, .getSinkCap, [], [], 2, 5⟩; let s : State := State.reset; (source (running s) p).modPd p fun d => { d with tx := some { m with sop := .sop }, tries := 1 }), 0, ⟨.sop, .getSinkCap, [], [], 2, 5⟩, by decide +kernel⟩,
   ⟨(let p : PortId := 0; let a : Ams := .getStatus; let r : List Ams := [.vdm]; let s : State := State.reset; (source (running s) p).modPd p fun d => { d with trig := a :: r }), 0, .getStatus, [.vdm], by decide +kernel⟩,
   ⟨(let p : PortId := 0; let a : Ams := .getStatus; let r : List Ams := [.vdm]; let s : State := State.reset; (source (running s) p).modPd p fun d => { d with trig := a :: r, contract := .none }), 0, .getStatus, .getStatus, [.vdm], by decide +kernel⟩,
   ⟨(let p : PortId := 0; let a : Ams := .alertOtp; let r : List Ams := [.vdm]; let s : State := State.reset; ((sink (running s) p).modPd p fun d => { d with trig := a :: r }).modTc p fun x => { x with rpSeen := .a30 }), 0, .alertOtp, .alert, [.vdm], by decide +kernel⟩,
   ⟨(let p : PortId := 0; let a : Ams := .eprKeepAlive; let s : State := State.reset; (source (running s) p).modPd p fun d => { d with sinkTxWait := true, ams := a }), 0, .eprKeepAlive, .eprKeepAlive, by decide +kernel⟩,
   ⟨(let p : PortId := 9; let n : Nat := 300; let k : DemKind := .attach; let s : State := State.reset; ({ ({ ({ ((gates (quiet (running s)))) with sys := { s.sys with hbisoLow := false, pwr := .run, boot := 12, resetLow := false, interp := true, interpSeen := true, sboxReady := true, perfReady := true, vaultReady := true, minor := 2 }, sup := { Supplies.reset with vpp := s.sup.vpp } } : State) with ledger := { Ledger.reset 32 with ready := true }, ports := State.reset.ports, ring := Ring.reset } : State) with ledger := { Ledger.reset 32 with ready := true, frozen := true, posts := [.demand p n k false false] } } : State)), 9, 300, .attach, by decide +kernel⟩,
   ⟨(let s : State := State.reset; ({ ({ ((gates (quiet (running s)))) with sys := { s.sys with hbisoLow := false, pwr := .run, boot := 12, resetLow := false, interp := true, interpSeen := true, sboxReady := true, perfReady := true, vaultReady := true, minor := 2 }, sup := { Supplies.reset with vpp := s.sup.vpp } } : State) with ledger := { Ledger.reset 32 with ready := true }, ports := State.reset.ports, ring := Ring.reset } : State)), false, by decide +kernel⟩,
   ⟨(let s : State := State.reset; ({ ({ ({ ((gates (quiet (running s)))) with sys := { s.sys with hbisoLow := false, pwr := .run, boot := 12, resetLow := false, interp := true, interpSeen := true, sboxReady := true, perfReady := true, vaultReady := true, minor := 2 }, sup := { Supplies.reset with vpp := s.sup.vpp } } : State) with ledger := { Ledger.reset 32 with ready := true }, ports := State.reset.ports, ring := Ring.reset } : State) with ledger.frozen := true } : State)), by decide +kernel⟩⟩

/-- States and operands that meet the hypotheses of each clause of AnEmptyQueueLetsTimePass. -/
theorem witness_AnEmptyQueueLetsTimePass :
  (∃ s : State, s.pending = []) ∧
  (∃ s : State, s.pending = [] ∧ s.aonOn = true ∧ s.ring.link = 2 ∧ s.clk.refclk = false) ∧
  (∃ s : State, s.pending = [] ∧ s.memOn = true ∧ s.clk.refclk = true ∧ s.safeOn 3 = false) ∧
  (∃ s : State, s.pending = [] ∧ s.aonOn = true ∧ s.memOn = true ∧ s.sys.interp = true ∧ s.fw.verifying = true ∧ s.lantern.keygen = none) :=
  ⟨⟨State.reset, rfl⟩,
   ⟨{ State.reset with ring.link := 2 }, by decide +kernel⟩,
   ⟨{ running State.reset with safety.cfg := 0, clk.refclk := true }, by decide +kernel⟩,
   ⟨{ running State.reset with sys.interp := true, fw.runs := [⟨3, 7, .verify⟩] }, by decide +kernel⟩⟩

/-- States and operands that meet the hypotheses of each clause of StoresAndRecordsStayWellFormed. -/
theorem witness_StoresAndRecordsStayWellFormed :
  (∃ s t : State, Kept s ∧ step s = .next t) :=
  ⟨State.reset, _, ⟨by decide +kernel, by decide +kernel, by decide +kernel, by decide +kernel, by decide +kernel, by decide +kernel, by decide +kernel, by decide +kernel⟩, rfl⟩

/-! ## Terms that WellFormed refuses, one for each check -/

theorem test_wf_command : (Instr.hello ⟨0, 1, 0xFF, 0⟩ [1, 2, 0, 0]).wf = true := by decide
theorem test_wf_command_long (h : CmdHdr) : (Instr.echo h (List.replicate 65536 0)).wf = false := by
  show (List.replicate 65536 (0 : Byte)).length.blt 65536 = false
  rw [List.length_replicate]
  decide +kernel
theorem test_wf_caps : (Instr.sourceCapabilities 0 ⟨.sop, 0, 2⟩ false []).wf = false := by decide
theorem test_wf_vdm : (Instr.discoverIdentity 0 ⟨.sop, 0, 2⟩ (List.replicate 8 0)).wf = false := by decide
theorem test_wf_ext : (Instr.batteryStatus 0 ⟨.sop, 0, 2⟩ false (List.replicate 261 0)).wf = false := by decide +kernel
theorem test_wf_chunk : (Instr.chunkRequest 0 ⟨.sop, 0, 2⟩ false 16 []).wf = false := by decide
theorem test_wf_frame : (Instr.cycle [0x01]).wf = false := by decide
theorem test_wf_line : (Instr.lanternBadLine [0x0D]).wf = false := by decide
theorem test_wf_chain : (Instr.chain 0 []).wf = false := by decide
theorem test_wf_drift : (Instr.fuseRereadPass [⟨0x420, 0, 0⟩]).wf = false := by decide
theorem test_wf_transfer : (Instr.pbusXferComplete 0 4 0 []).wf = false := by decide
theorem test_wf_alarm : (Instr.alarmDetection 0).wf = false := by decide

/-! ## The spec's own examples -/

/-- R410: the check value over the nine ASCII bytes. -/
theorem test_crc8 : crc8 [0x31, 0x32, 0x33, 0x34, 0x35, 0x36, 0x37, 0x38, 0x39] = 0xF4 := by decide +kernel

/-- Table 19.4: IDCODE of a silicon revision 1.0 part reads 0xA5324810. -/
theorem test_idcode : ((List.range 4).map fun o => State.reset.winByte 0 0 o) = [0x10, 0x48, 0x32, 0xA5] := by decide +kernel

/-- R372, Table 11.2: the host address base and mask after power-up. -/
theorem test_haddr : State.reset.bus.haddrBase = 0x50 ∧ State.reset.bus.haddrMask = 0x08 := by decide

/-- R424: 16 free command slots and no reply waiting. -/
theorem test_queues : State.reset.cqFree = 16 ∧ State.reset.rqCount = 0 := by decide +kernel

/-- R81: before the interpreter's first READY a command is answered NOT_READY. -/
theorem test_not_ready :
    (match exec (.echo ⟨0, 5, 0xFF, 1⟩ [7]) (running State.reset) with
      | .next t => t.mb.replies.map fun r => r.status
      | _ => []) = [0x20] := by decide +kernel

end Sys2Proof.Tests
end

section
/-!
SUPPORT. Changes of one port and nothing else, the parts of a detach seen from the Type-C state and the Ledger's posts, and the pins
that a high DBOFF opens; with them O3 is settled.
-/
namespace Sys2Proof.Proofs

open Sys2Proof.Machine Sys2Proof.Safety Sys2Proof.Laws

/-! ## Operations that change one port alone -/

theorem portOnly_refl (p : PortId) (s : State) : PortOnly p s s := ⟨rfl, fun _ _ => rfl⟩

theorem portOnly_trans {p : PortId} {s t u : State} (h : PortOnly p s t) (k : PortOnly p t u) : PortOnly p s u :=
  ⟨by rw [k.1, h.1], fun q hq => (k.2 q hq).trans (h.2 q hq)⟩

section
variable {p : PortId} {s a : State} (h : PortOnly p s a)
include h

theorem portOnly_modPort (f : Port → Port) : PortOnly p s (a.modPort p f) :=
  portOnly_trans h ⟨rfl, fun _ hq => State.port_modPort_ne _ _ _ _ hq⟩

theorem portOnly_modTc (f) : PortOnly p s (a.modTc p f) := portOnly_modPort h _
theorem portOnly_modPd (f) : PortOnly p s (a.modPd p f) := portOnly_modPort h _
theorem portOnly_modSw (f) : PortOnly p s (a.modSw p f) := portOnly_modPort h _
theorem portOnly_modCv (f) : PortOnly p s (a.modCv p f) := portOnly_modPort h _
theorem portOnly_portEvt (i) : PortOnly p s (a.portEvt p i) := portOnly_modTc h _
theorem portOnly_setIlim : PortOnly p s (a.setIlim p) := by unfold State.setIlim; exact portOnly_modCv h _
theorem portOnly_prunDone (k r) : PortOnly p s (a.prunDone p k r) := by unfold State.prunDone; exact portOnly_modPort h _
theorem portOnly_applyCfg : PortOnly p s (a.applyCfg p) := by unfold State.applyCfg; exact portOnly_modPort h _
theorem portOnly_toUnattached : PortOnly p s (a.toUnattached p) := by
  unfold State.toUnattached State.enterUnattached
  exact portOnly_modTc (portOnly_prunDone (portOnly_applyCfg h) _ _) _

end

/-! ## The end of ErrorRecovery (R109) -/

@[simp] theorem prunDone_tc (s : State) (p : PortId) (k : List Byte) (r : Byte) :
    ((s.prunDone p k r).port p).tc = (s.port p).tc := by simp [State.prunDone]

@[simp] theorem prunDone_sw (s : State) (p : PortId) (k : List Byte) (r : Byte) :
    ((s.prunDone p k r).port p).sw = (s.port p).sw := by simp [State.prunDone]

@[simp] theorem toUnattached_state (s : State) (p : PortId) :
    ((s.toUnattached p).port p).tc.state = (s.port p).restState := by
  simp [State.toUnattached, State.enterUnattached]

@[simp] theorem toUnattached_sw (s : State) (p : PortId) : ((s.toUnattached p).port p).sw = (s.port p).sw := by
  simp [State.toUnattached, State.enterUnattached, State.applyCfg]

/-- Clearing a trip wire that is clear already changes nothing. -/
theorem modSw_tripWire_clear {s : State} {p : PortId} (h : (s.port p).sw.tripWire = false) :
    (s.modSw p fun w => { w with tripWire := false }).port p = s.port p := by
  rw [State.port_modSw_self, ← h]

/-- A healthy port that was not Disabled leaves ErrorRecovery for the Unattached state of its role. -/
theorem recovered_unattached {s : State} {p : PortId} (hb : (s.port p).tc.erBack = false)
    (hw : (s.port p).sw.tripWire = false) (hm : (s.port p).sw.monDis = false) (hn : (s.port p).sw.holdNext = false) :
    s.recovered p = (s.modSw p fun w => { w with tripWire := false }).toUnattached p := by
  simp [State.recovered, hb, hw, hm, hn]

/-- A healthy port that came from Disabled leaves ErrorRecovery for Disabled. -/
theorem recovered_disabled {s : State} {p : PortId} (hb : (s.port p).tc.erBack = true)
    (hw : (s.port p).sw.tripWire = false) (hm : (s.port p).sw.monDis = false) :
    s.recovered p = ((s.modSw p fun w => { w with tripWire := false }).modTc p fun t =>
      { t with state := .disabled, erBack := false }).prunDone p [2] 0 := by
  simp [State.recovered, hb, hw, hm]

theorem exec_errorRecoveryEnd {s : State} {p : PortId} (hr : s.portReady p = true)
    (hs : (s.port p).tc.state = .errorRecovery) : exec (.errorRecoveryEnd p) s = .next (s.recovered p) := by
  show execErrorRecoveryEnd p s = _
  simp [execErrorRecoveryEnd, hr, hs]

theorem errorRecoveryEnd_unattached {s : State} {p : PortId} (hr : s.portReady p = true)
    (hs : (s.port p).tc.state = .errorRecovery) (hb : (s.port p).tc.erBack = false)
    (hw : (s.port p).sw.tripWire = false) (hm : (s.port p).sw.monDis = false) (hn : (s.port p).sw.holdNext = false) :
    Yields (.errorRecoveryEnd p) s fun t =>
      (t.port p).tc.state = (s.port p).restState ∧ (t.port p).sw.st = (s.port p).sw.st ∧ PortOnly p s t := by
  refine ⟨_, exec_errorRecoveryEnd hr hs, ?_⟩
  rw [recovered_unattached hb hw hm hn]
  refine ⟨?_, ?_, portOnly_toUnattached (portOnly_modSw (portOnly_refl p s) _)⟩
  · rw [toUnattached_state, modSw_tripWire_clear hw]
  · rw [toUnattached_sw, modSw_tripWire_clear hw]

theorem errorRecoveryEnd_disabled {s : State} {p : PortId} (hr : s.portReady p = true)
    (hs : (s.port p).tc.state = .errorRecovery) (hb : (s.port p).tc.erBack = true)
    (hw : (s.port p).sw.tripWire = false) (hm : (s.port p).sw.monDis = false) :
    Yields (.errorRecoveryEnd p) s fun t =>
      (t.port p).tc.state = .disabled ∧ (t.port p).tc.erBack = false ∧ (t.port p).sw = (s.port p).sw ∧ PortOnly p s t := by
  refine ⟨_, exec_errorRecoveryEnd hr hs, ?_⟩
  rw [recovered_disabled hb hw hm]
  refine ⟨by simp, by simp, ?_, portOnly_prunDone (portOnly_modTc (portOnly_modSw (portOnly_refl p s) _) _) _ _⟩
  rw [prunDone_sw, State.port_modTc_self, modSw_tripWire_clear hw]

/-! ## A changed Rp (R121) -/

@[simp] theorem setIlim_tc (s : State) (p : PortId) : ((s.setIlim p).port p).tc = (s.port p).tc := by simp [State.setIlim]

/-- A changed Rp seen with no contract: RPSEEN, RPCHG and the input limit. -/
theorem exec_rpValueChange {s : State} {p : PortId} {l : RpLvl} (hr : s.portReady p = true)
    (ha : (s.port p).snkAtt = true) (hc : (s.port p).pd.hasContract = false) (hl : l ≠ .none)
    (hn : (s.port p).tc.rpSeen ≠ l) :
    exec (.rpValueChange p l) s = .next (((s.modTc p fun t => { t with rpSeen := l }).portEvt p 2).setIlim p) := by
  show execRpValueChange p l s = _
  have hl' : (l != .none) = true := bne_iff_ne.mpr hl
  have hn' : ((s.port p).tc.rpSeen != l) = true := bne_iff_ne.mpr hn
  simp only [execRpValueChange, hr, ha, hl', Bool.and_self, State.when_true, hc, hn', if_true, Bool.false_eq_true, if_false]

theorem rpValueChange_raises_rpchg {s : State} {p : PortId} {l : RpLvl} (hr : s.portReady p = true)
    (ha : (s.port p).snkAtt = true) (hc : (s.port p).pd.hasContract = false) (hl : l ≠ .none)
    (hn : (s.port p).tc.rpSeen ≠ l) :
    Yields (.rpValueChange p l) s fun t =>
      (t.port p).tc.rpSeen = l ∧ (t.port p).tc.evt = setBit (s.port p).tc.evt 2 ∧ PortOnly p s t :=
  ⟨_, exec_rpValueChange hr ha hc hl hn, by simp, by simp,
    portOnly_setIlim (portOnly_portEvt (portOnly_modTc (portOnly_refl p s) _) _)⟩

/-! ## A tripped VCONN (R129) -/

/-- Outside EPR mode a VCONN overcurrent removes VCONN with its event and forgets the cable, and no Hard Reset follows. -/
theorem exec_vconnOvercurrent {s : State} {p : PortId} (hr : s.portReady p = true)
    (hv : (s.port p).tc.vconnOn = true) (he : (s.port p).pd.epr = false) :
    exec (.vconnOvercurrent p) s = .next (((s.modTc p fun t => { t with vconnOn := false, vconnTrip := true }).portEvt p 4).modPd
      p fun d => { d with cableOk := false, cable5A := false, cableEpr := false, cableV := 0 }) := by
  show execVconnOvercurrent p s = _
  simp [execVconnOvercurrent, hr, hv, he]

theorem vconnOvercurrent_removes_vconn {s : State} {p : PortId} (hr : s.portReady p = true)
    (hv : (s.port p).tc.vconnOn = true) (he : (s.port p).pd.epr = false) :
    Yields (.vconnOvercurrent p) s fun t =>
      (t.port p).tc.vconnOn = false ∧ (t.port p).pd.cableOk = false ∧ (t.port p).tc.evt = setBit (s.port p).tc.evt 4 ∧
      PortOnly p s t :=
  ⟨_, exec_vconnOvercurrent hr hv he, by simp, by simp, by simp,
    portOnly_modPd (portOnly_portEvt (portOnly_modTc (portOnly_refl p s) _) _) _⟩

/-! ## What leaving an attach does to the Type-C state, the contract and the posts (R132) -/

@[simp] theorem post_port (s : State) (q : Post) (p : PortId) : (s.post q).port p = s.port p := rfl

@[simp] theorem post_posts (s : State) (q : Post) : (s.post q).ledger.posts = s.ledger.posts ++ [q] := rfl

@[simp] theorem frDisarm_tc (s : State) (p : PortId) : ((s.frDisarm p).port p).tc = (s.port p).tc := by
  unfold State.frDisarm; dsimp only
  split <;> simp

@[simp] theorem swapDone_tc (s : State) (p : PortId) (st r : Byte) (b : Bool) :
    ((s.swapDone p st r b).port p).tc = (s.port p).tc := by
  unfold State.swapDone; dsimp only
  rw [State.port_modSwap_self]
  split <;> rfl

@[simp] theorem swapAbort_tc (s : State) (p : PortId) (r : Byte) : ((s.swapAbort p r).port p).tc = (s.port p).tc := by
  have ended (u : State) :
      ((if (u.port p).swap.stage == .none then u else u.swapDone p 0x00 r true).port p).tc = (u.port p).tc := by
    split <;> simp
  unfold State.swapAbort
  rw [frDisarm_tc, ended]
  cases s.swapWaits p <;> simp

/-- A port with no swap and no Fast Role Swap armed only ends a SWAP_REQ that waits. -/
theorem swapAbort_reset {s : State} {p : PortId} (r : Byte) (h : (s.port p).swap = SwapPort.reset) :
    s.swapAbort p r = s.when (s.swapWaits p) fun s => s.modSwap p fun w => { w with result := some (0, r) } := by
  unfold State.swapAbort
  cases s.swapWaits p <;> simp [State.frDisarm, h, SwapPort.reset]

theorem swapAbort_reset_ledger {s : State} {p : PortId} (r : Byte) (h : (s.port p).swap = SwapPort.reset) :
    (s.swapAbort p r).ledger = s.ledger := by
  rw [swapAbort_reset r h]
  cases s.swapWaits p <;> rfl

@[simp] theorem vdmAllEnd_ledger (s : State) (p : PortId) (r : Nat) : (s.vdmAllEnd p r).ledger = s.ledger := rfl
@[simp] theorem lmEnd_ledger (s : State) (p : PortId) : (s.lmEnd p).ledger = s.ledger := rfl
@[simp] theorem prunDone_ledger (s : State) (p : PortId) (k : List Byte) (r : Byte) :
    (s.prunDone p k r).ledger = s.ledger := rfl

@[simp] theorem vdmAllEnd_tc (s : State) (p : PortId) (r : Nat) : ((s.vdmAllEnd p r).port p).tc = (s.port p).tc := by
  simp [State.vdmAllEnd, State.vdmDone]

@[simp] theorem lmEnd_tc (s : State) (p : PortId) : ((s.lmEnd p).port p).tc = (s.port p).tc := by simp [State.lmEnd]

@[simp] theorem eprExit_tc (s : State) (p : PortId) : ((s.eprExit p).port p).tc = (s.port p).tc := by
  unfold State.eprExit; split <;> simp

@[simp] theorem eprExit_ledger (s : State) (p : PortId) : (s.eprExit p).ledger = s.ledger := by
  unfold State.eprExit; split <;> simp

/-- What waits for an idle converter is part of the configuration alone (Table 1.7). -/
theorem takeFreq_port (s : State) (p : PortId) : ∃ c, (s.takeFreq p).port p = { s.port p with cfg := c } := by
  unfold State.takeFreq
  rw [State.port_modPort_self]
  split
  · split <;> exact ⟨_, rfl⟩
  · exact ⟨_, rfl⟩

@[simp] theorem takeFreq_tc (s : State) (p : PortId) : ((s.takeFreq p).port p).tc = (s.port p).tc := by
  obtain ⟨c, h⟩ := takeFreq_port s p; rw [h]

@[simp] theorem takeFreq_pd (s : State) (p : PortId) : ((s.takeFreq p).port p).pd = (s.port p).pd := by
  obtain ⟨c, h⟩ := takeFreq_port s p; rw [h]

@[simp] theorem convIdle_tc (s : State) (p : PortId) : ((s.convIdle p).port p).tc = (s.port p).tc := by
  simp [State.convIdle]

@[simp] theorem convIdle_pd (s : State) (p : PortId) : ((s.convIdle p).port p).pd = (s.port p).pd := by
  simp [State.convIdle]

@[simp] theorem openSwitch_tc (s : State) (p : PortId) :
    ((s.openSwitch p).port p).tc = { (s.port p).tc with vconnOn := false, vconnSwap := false } := by
  unfold State.openSwitch State.vconnOff; dsimp only
  split <;> simp

@[simp] theorem openSwitch_ledger (s : State) (p : PortId) : (s.openSwitch p).ledger = s.ledger := by
  unfold State.openSwitch; dsimp only
  split <;> rfl

@[simp] theorem openSwitch_pd (s : State) (p : PortId) : ((s.openSwitch p).port p).pd = (s.port p).pd := by
  unfold State.openSwitch State.vconnOff; dsimp only
  split <;> simp

@[simp] theorem leaveAttach_tc (s : State) (p : PortId) :
    ((s.leaveAttach p).port p).tc = { (s.port p).tc with vconnOn := false, vconnSwap := false } := by
  unfold State.leaveAttach; dsimp only
  split <;> simp

@[simp] theorem leaveAttach_contract (s : State) (p : PortId) : ((s.leaveAttach p).port p).pd.contract = .none := by
  unfold State.leaveAttach; dsimp only
  split <;> simp [PdPort.cleared, PdPort.reset]

/-- A port in no swap posts its release alone when it leaves an attach. -/
theorem leaveAttach_posts {s : State} {p : PortId} (h : (s.port p).swap = SwapPort.reset) :
    (s.leaveAttach p).ledger.posts = s.ledger.posts ++ [.release p] := by
  unfold State.leaveAttach; dsimp only
  split <;> simp [swapAbort_reset_ledger _ h]

/-! ## A detach seen on the CC pins (R130, R132) -/

/-- The classes of the pins once the pin of the attach has opened: in a state with no orientation both read Open. -/
def detachPins (t : TcPort) : TcPort :=
  { t with
    cc1 := if t.oriented && t.orient then t.cc1 else .opn, cc2 := if t.oriented && !t.orient then t.cc2 else .opn }

/-- The port after a detach while VBUS still stands: the attach is left, DETACH is raised, and vSafe0V is awaited. -/
def detached (s : State) (p : PortId) : State :=
  (((s.leaveAttach p).portEvt p 1).count p.val 0x09 1).modTc p fun t => { t with leaving := true }

theorem engine_detached {p : PortId} {s a : State} (h : EngineOnly p s a) : EngineOnly p s (detached a p) :=
  engine_modTc (engine_count (engine_portEvt (engine_leaveAttach h) _) _ _ _) _

@[simp] theorem detached_tc (s : State) (p : PortId) :
    ((detached s p).port p).tc = { (s.port p).tc with
      vconnOn := false, vconnSwap := false, evt := setBit (s.port p).tc.evt 1, leaving := true } := by
  simp [detached]

@[simp] theorem detached_contract (s : State) (p : PortId) : ((detached s p).port p).pd.contract = .none := by
  simp [detached]

theorem detached_posts {s : State} {p : PortId} (h : (s.port p).swap = SwapPort.reset) :
    (detached s p).ledger.posts = s.ledger.posts ++ [.release p] := by
  simp [detached, leaveAttach_posts h]

/-- Above vSafe0V a port does not finish leaving. -/
theorem finishLeaving_above_vsafe0v {s : State} {p : PortId} (h : 700 < (s.port p).tc.vbusMv) : s.finishLeaving p = s := by
  have : ¬ (s.port p).tc.vbusMv ≤ 700 := by omega
  simp [State.finishLeaving, this]

/-- A qualified CC detach with no transition under way, while VBUS stands above vSafe0V. -/
theorem gotDetach_cc {s : State} {p : PortId} {us : Nat} (hd : s.detaches p false = true)
    (hc : (s.port p).pd.contract ≠ .transition) (hv : 700 < (s.port p).tc.vbusMv) :
    s.gotDetach p false us = detached (s.modTc p detachPins) p := by
  have hc' : ((s.port p).pd.contract == .transition) = false := beq_eq_false_iff_ne.mpr hc
  have hl : 700 < ((detached (s.modTc p detachPins) p).port p).tc.vbusMv := by simpa [detachPins] using hv
  unfold State.gotDetach
  simp only [hd, State.when_true, hc', State.when_false, Bool.false_eq_true, if_false]
  change (detached (s.modTc p detachPins) p).finishLeaving p = _
  exact finishLeaving_above_vsafe0v hl

/-- Outside EMBER a detach abandons no Ember start. -/
theorem exec_detach {s : State} {p : PortId} (b : Bool) (us : Nat) (h : s.sys.pwr ≠ .ember) :
    exec (.detach p b us) s = .next (s.gotDetach p b us) := by
  have hs : s.donorOnStart p = false := by simp [State.donorOnStart, State.onStart, h]
  show execDetach p b us s = _
  rw [execDetach, hs, Bool.false_and, State.when_false]

theorem detaches_attachedSnk {s : State} {p : PortId} (hr : s.portReady p = true) (hs : (s.port p).tc.state = .attachedSnk)
    (hl : (s.port p).tc.leaving = false) (hw : (s.port p).swap = SwapPort.reset) : s.detaches p false = true := by
  simp [State.detaches, hr, hs, hl, hw, TcState.attached, TcState.roleAct, SwapPort.running, SwapPort.reset]

theorem detach_releases_demand {s : State} {p : PortId} (us : Nat) (hd : s.detaches p false = true)
    (hp : s.sys.pwr ≠ .ember) (hw : (s.port p).swap = SwapPort.reset) (hc : (s.port p).pd.contract ≠ .transition)
    (hv : 700 < (s.port p).tc.vbusMv) :
    Yields (.detach p false us) s fun t =>
      (t.port p).tc.leaving = true ∧ (t.port p).tc.evt = setBit (s.port p).tc.evt 1 ∧
      t.ledger.posts = s.ledger.posts ++ [.release p] ∧ (t.port p).pd.contract = .none ∧ EngineOnly p s t := by
  refine ⟨_, exec_detach false us hp, ?_⟩
  rw [gotDetach_cc hd hc hv]
  refine ⟨by simp, by simp [detachPins], ?_, by simp, engine_detached (engine_modTc (engine_refl p s) _)⟩
  rw [detached_posts (by simpa using hw), State.modTc_ledger]

/-! ## DBOFF and dead-battery Rd (R50, R51) -/

/-- Both CC pins of a port read Open. -/
def openCc (x : Port) : Port := { x with tc := { x.tc with cc1 := .opn, cc2 := .opn } }

/-- A port that shows dead-battery Rd has its CC pins opened. -/
def openDeadRd (s : State) (p : PortId) : State :=
  s.when (s.deadRd p) fun s => s.modTc p fun t => { t with cc1 := .opn, cc2 := .opn }

theorem exec_dboffChange_low (s : State) : exec (.dboffChange false) s = .next { s with sys.dboff := false } := rfl

theorem exec_dboffChange_high (s : State) :
    exec (.dboffChange true) s = .next { s.eachPort openDeadRd with sys.dboff := true } := by
  show execDboffChange true s = _
  unfold execDboffChange openDeadRd
  rw [State.when_true]

theorem dboff_port (s : State) (b : Bool) (q : PortId) : ({ s with sys.dboff := b } : State).port q = s.port q := rfl

theorem openDeadRd_port_self (s : State) (p : PortId) :
    (openDeadRd s p).port p = if s.deadRd p then openCc (s.port p) else s.port p := by
  unfold openDeadRd
  cases s.deadRd p
  · rfl
  · simp [openCc]

theorem openDeadRd_port_ne {s : State} {p q : PortId} (h : q ≠ p) : (openDeadRd s p).port q = s.port q := by
  unfold openDeadRd
  cases s.deadRd p
  · rfl
  · rw [State.when_true, State.port_modTc_ne _ _ _ _ h]

theorem openDeadRd_frame (s : State) (p : PortId) : openDeadRd s p = { s with ports := (openDeadRd s p).ports } := by
  unfold openDeadRd
  cases s.deadRd p <;> rfl

/-- Dead-battery Rd rests on the boot, DBOFF, the fuses and the port's READY bit, none of which the opened pins change. -/
theorem deadRd_openDeadRd (s : State) (p q : PortId) : (openDeadRd s p).deadRd q = s.deadRd q := by
  have hr : ((openDeadRd s p).port q).tc.ready = (s.port q).tc.ready := by
    by_cases h : q = p
    · subst h; rw [openDeadRd_port_self]; split <;> rfl
    · rw [openDeadRd_port_ne h]
  unfold State.deadRd State.porten State.fuseWord
  rw [hr, openDeadRd_frame s p]

theorem foldl_openDeadRd_frame : ∀ (l : List PortId) (s : State),
    l.foldl openDeadRd s = { s with ports := (l.foldl openDeadRd s).ports }
  | [], _ => rfl
  | p :: l, s => by
    rw [List.foldl_cons, foldl_openDeadRd_frame l (openDeadRd s p), openDeadRd_frame s p]

/-- Of the ports walked through, each that showed dead-battery Rd at the start has its pins opened, however often it is met. -/
theorem foldl_openDeadRd_port (q : PortId) : ∀ (l : List PortId) (s : State),
    (l.foldl openDeadRd s).port q = if q ∈ l ∧ s.deadRd q = true then openCc (s.port q) else s.port q
  | [], s => by simp
  | p :: l, s => by
    rw [List.foldl_cons, foldl_openDeadRd_port q l, deadRd_openDeadRd]
    by_cases h : q = p
    · subst h
      rw [openDeadRd_port_self]
      cases s.deadRd q <;> simp [openCc]
    · simp [openDeadRd_port_ne h, h]

theorem eachPort_openDeadRd_port (s : State) (q : PortId) :
    (s.eachPort openDeadRd).port q = if s.deadRd q then openCc (s.port q) else s.port q := by
  unfold State.eachPort
  rw [foldl_openDeadRd_port]
  simp [allPorts]

/-- A high DBOFF acts in every state: in OFF, under RESET_N and in the boot before step 6 too, where dead-battery Rd stands. -/
theorem dboffChange_high_opens (s : State) :
    Yields (.dboffChange true) s fun t =>
      (∀ q, t.port q = if s.deadRd q then openCc (s.port q) else s.port q) ∧
      t = { s with ports := t.ports, sys.dboff := true } := by
  refine ⟨_, exec_dboffChange_high s, fun q => (dboff_port _ _ q).trans (eachPort_openDeadRd_port s q), ?_⟩
  have hf : s.eachPort openDeadRd = { s with ports := (s.eachPort openDeadRd).ports } := foldl_openDeadRd_frame _ _
  rw [hf]

/-! ## The statement -/

/-- Settles O3: each clause is what is said above of its event. -/
theorem attachesEndAndRecover : Obligations.AttachesEndAndRecover := by
  unfold Obligations.AttachesEndAndRecover
  refine ⟨?_, ?_, ?_, ?_, ?_, ?_, ?_⟩
  · intro s p hr _ hs hb hw hm hn
    exact errorRecoveryEnd_unattached hr hs hb hw hm hn
  · intro s p hr _ hs hb hw hm
    exact errorRecoveryEnd_disabled hr hs hb hw hm
  · intro s p hr _ hs hl hc
    exact rpValueChange_raises_rpchg hr (by simp [Port.snkAtt, hs]) (by simp [PdPort.hasContract, hc]) (by decide)
      (by simp [hl])
  · intro s p us hr hp hs hl hw hc hv
    exact detach_releases_demand us (detaches_attachedSnk hr hs hl hw) (by simp [hp]) hw hc (by simp [hv])
  · intro s p hr _ hv he
    exact vconnOvercurrent_removes_vconn hr hv he
  · intro s _ _ _
    exact ⟨_, exec_dboffChange_low s, rfl⟩
  · intro s _ _ _
    exact dboffChange_high_opens s

end Sys2Proof.Proofs
end

section
/-!
SUPPORT. `Kept` through the shapes of which the model's definitions are made: an update of fields, a condition, a fold, an outcome.
Most operations touch no store that `Kept` reads, so it holds after one exactly where it held before: their laws are equivalences,
by which `simp` peels an operation off the state it was applied to.
-/
namespace Sys2Proof.Proofs

open Sys2Proof.Machine Sys2Proof.Safety Sys2Proof.Laws

/-- What `Kept` says of the three parts of a state that it speaks of. -/
structure StoresKept (f : Fuse) (b : Sbox) (stage : Mem) : Prop where
  normal : f.normal.wf = true
  strict : f.strict.wf = true
  latched : f.latched.wf = true
  added : f.added.wf = true
  failed : f.failed.wf = true
  mram : b.mram.wf = true
  stage : stage.wf = true
  queue : b.queue.length ≤ 32

@[simp] theorem storesKept_iff (s : State) : StoresKept s.fuse s.sbox s.lantern.stage ↔ Kept s :=
  ⟨fun ⟨a, b, c, d, e, f, g, h⟩ => ⟨a, b, c, d, e, f, g, h⟩, fun ⟨a, b, c, d, e, f, g, h⟩ => ⟨a, b, c, d, e, f, g, h⟩⟩

@[simp] theorem kept_mk (sys sup clk ember bus mb ports ledger ring tmrs gwcs gwcEvt pbus fuse sbox vault alarm perf trace
    lantern fw safety store free pending) :
    Kept ⟨sys, sup, clk, ember, bus, mb, ports, ledger, ring, tmrs, gwcs, gwcEvt, pbus, fuse, sbox, vault, alarm, perf,
      trace, lantern, fw, safety, store, free, pending⟩ ↔ StoresKept fuse sbox lantern.stage :=
  (storesKept_iff _).symm

/-- `Kept` reads the five stores of the fuse array, the MRAM, the staged chain and the record queue. -/
theorem kept_congr {s t : State} (n : t.fuse.normal = s.fuse.normal) (c : t.fuse.strict = s.fuse.strict)
    (l : t.fuse.latched = s.fuse.latched) (a : t.fuse.added = s.fuse.added) (f : t.fuse.failed = s.fuse.failed)
    (m : t.sbox.mram = s.sbox.mram) (g : t.lantern.stage = s.lantern.stage)
    (q : t.sbox.queue = s.sbox.queue) : Kept t ↔ Kept s := by
  constructor <;> rintro ⟨h1, h2, h3, h4, h5, h6, h7, h8⟩ <;> constructor <;> simp_all

@[simp] theorem kept_ite_iff {c : Prop} [Decidable c] (a b : State) : Kept (if c then a else b) ↔ if c then Kept a else Kept b := by
  split <;> rfl

@[simp] theorem kept_fst_ite_iff {α : Type} {c : Prop} [Decidable c] (a b : State × α) :
    Kept (if c then a else b).1 ↔ if c then Kept a.1 else Kept b.1 := by
  split <;> rfl

@[simp] theorem kept_when_iff {c : Bool} (a : State) (f : State → State) : Kept (a.when c f) ↔ if c then Kept (f a) else Kept a := by
  unfold State.when; split <;> rfl

@[simp] theorem kept_foldl_iff {α : Type} {f : State → α → State} (hf : ∀ s x, Kept (f s x) ↔ Kept s) :
    ∀ (l : List α) (s : State), Kept (l.foldl f s) ↔ Kept s
  | [], _ => Iff.rfl
  | x :: l, s => (kept_foldl_iff hf l (f s x)).trans (hf s x)

@[simp] theorem kept_eachPort_iff {s : State} {f : State → PortId → State} (hf : ∀ t p, Kept (f t p) ↔ Kept t) :
    Kept (s.eachPort f) ↔ Kept s := kept_foldl_iff hf _ _

/-- A fold that carries something beside the state keeps it where each of its steps does. -/
theorem kept_foldl_fst_iff {α β : Type} {f : State × β → α → State × β} (hf : ∀ a x, Kept (f a x).1 ↔ Kept a.1) :
    ∀ (l : List α) (a : State × β), Kept (l.foldl f a).1 ↔ Kept a.1
  | [], _ => Iff.rfl
  | x :: l, a => (kept_foldl_fst_iff hf l (f a x)).trans (hf a x)

/-- What the outcome of a step keeps: nothing is asked of a step that does not complete. -/
def OutKept : Out → Prop
  | .next t => Kept t
  | _ => True

@[simp] theorem outKept_next (t : State) : OutKept (.next t) ↔ Kept t := Iff.rfl

@[simp] theorem lantern_send_stage (m : Lantern) (l : List String) : (m.send l).stage = m.stage := rfl
@[simp] theorem lantern_restart_stage (m : Lantern) (l : List String) : (m.restart l).stage = m.stage := rfl
@[simp] theorem lantern_drain_stage (m : Lantern) : m.drain.stage = m.stage := rfl
@[simp] theorem lantern_offer_stage (m : Lantern) (x : String) : (m.offer x).stage = m.stage := by unfold Lantern.offer; split <;> rfl
@[simp] theorem lantern_tellLost_stage (m : Lantern) : m.tellLost.stage = m.stage := by
  unfold Lantern.tellLost; dsimp only; split <;> rfl

@[simp] theorem lantern_offers_stage (g : Nat → String) : ∀ (l : List Nat) (m : Lantern),
    (l.foldl (fun m i => m.offer (g i)) m).stage = m.stage
  | [], _ => rfl
  | i :: l, m => (lantern_offers_stage g l (m.offer (g i))).trans (lantern_offer_stage m (g i))

end Sys2Proof.Proofs
end

section
/-!
SUPPORT. What each shared operation of the model does to `Kept`, in the order of the definitions. An operation that writes no store
keeps `Kept` in both directions; one that may write a store (`kept_` without `_iff`) keeps it forwards, since a write keeps the
canonical form.
-/
namespace Sys2Proof.Proofs

open Sys2Proof.Machine Sys2Proof.Safety Sys2Proof.Laws

section
variable (s : State) (p : PortId)

/-! ### Ports, event bits, records, free values and counters -/

@[simp] theorem kept_setPort_iff (x : Port) : Kept (s.setPort p x) ↔ Kept s := by simp [State.setPort]
@[simp] theorem kept_modPort_iff (f : Port → Port) : Kept (s.modPort p f) ↔ Kept s := by simp [State.modPort]
@[simp] theorem kept_modTc_iff (f : TcPort → TcPort) : Kept (s.modTc p f) ↔ Kept s := by simp [State.modTc]
@[simp] theorem kept_modPd_iff (f : PdPort → PdPort) : Kept (s.modPd p f) ↔ Kept s := by simp [State.modPd]
@[simp] theorem kept_modSwap_iff (f : SwapPort → SwapPort) : Kept (s.modSwap p f) ↔ Kept s := by simp [State.modSwap]
@[simp] theorem kept_modLm_iff (f : LmPort → LmPort) : Kept (s.modLm p f) ↔ Kept s := by simp [State.modLm]
@[simp] theorem kept_modSw_iff (f : SwPort → SwPort) : Kept (s.modSw p f) ↔ Kept s := by simp [State.modSw]
@[simp] theorem kept_modCv_iff (f : CvPort → CvPort) : Kept (s.modCv p f) ↔ Kept s := by simp [State.modCv]
@[simp] theorem kept_modLg_iff (f : LgPort → LgPort) : Kept (s.modLg p f) ↔ Kept s := by simp [State.modLg]
@[simp] theorem kept_portEvt_iff (i : Nat) : Kept (s.portEvt p i) ↔ Kept s := by simp [State.portEvt]
@[simp] theorem kept_pdEvt_iff (i : Nat) : Kept (s.pdEvt p i) ↔ Kept s := by simp [State.pdEvt]
@[simp] theorem kept_swEvt_iff (i : Nat) : Kept (s.swEvt p i) ↔ Kept s := by simp [State.swEvt]
@[simp] theorem kept_cvEvt_iff (i : Nat) : Kept (s.cvEvt p i) ↔ Kept s := by simp [State.cvEvt]
@[simp] theorem kept_lgEvt_iff (i : Nat) : Kept (s.lgEvt i) ↔ Kept s := by simp [State.lgEvt]
@[simp] theorem kept_rgEvt_iff (i : Nat) : Kept (s.rgEvt i) ↔ Kept s := by simp [State.rgEvt]
@[simp] theorem kept_safeEvt_iff (i : Nat) : Kept (s.safeEvt i) ↔ Kept s := by simp [State.safeEvt]

@[simp] theorem kept_fuseEvt_iff (s : State) (i : Nat) : Kept (s.fuseEvt i) ↔ Kept s :=
  kept_congr rfl rfl rfl rfl rfl rfl rfl rfl

@[simp] theorem kept_almEvt_iff (i : Nat) : Kept (s.almEvt i) ↔ Kept s := by simp [State.almEvt]
@[simp] theorem kept_leaveDoze_iff : Kept s.leaveDoze ↔ Kept s := by simp [State.leaveDoze]

/-- A posted record finds a place or is counted as lost (R29, R30). -/
@[simp] theorem kept_postRec_iff (s : State) (ty : Byte) (b : List Byte) : Kept (s.postRec ty b) ↔ Kept s := by
  refine ⟨fun h => ?_, fun h => kept_postRec h ty b⟩
  unfold State.postRec at h
  split at h
  · rename_i l
    rw [kept_leaveDoze_iff] at h
    exact ⟨h.normal, h.strict, h.latched, h.added, h.failed, h.mram, h.stage, Nat.le_of_lt l⟩
  · exact ⟨h.normal, h.strict, h.latched, h.added, h.failed, h.mram, h.stage, h.queue⟩

@[simp] theorem kept_postSafety_iff (cause subject m : Nat) : Kept (s.postSafety cause subject m) ↔ Kept s := by
  simp [State.postSafety]

@[simp] theorem kept_postSupply_iff (bit : Nat) (hi : Bool) : Kept (s.postSupply bit hi) ↔ Kept s := by simp [State.postSupply]
@[simp] theorem kept_drawn_iff : Kept s.drawn ↔ Kept s := by simp [State.drawn]
@[simp] theorem kept_stirred_iff : Kept s.stirred ↔ Kept s := by simp [State.stirred]
@[simp] theorem kept_seedRng_iff : Kept s.seedRng ↔ Kept s := by simp [State.seedRng]
@[simp] theorem kept_count_iff (blk ev n : Nat) : Kept (s.count blk ev n) ↔ Kept s := by simp [State.count]

/-! ### The port engine, its switch and its converter -/

@[simp] theorem kept_post_iff (q : Post) : Kept (s.post q) ↔ Kept s := by simp [State.post]

@[simp] theorem kept_postDemand_iff (coins : Nat) (k : DemKind) (sink upg : Bool) :
    Kept (s.postDemand p coins k sink upg) ↔ Kept s := by
  simp [State.postDemand]

@[simp] theorem kept_setRp_iff : Kept (s.setRp p) ↔ Kept s := by simp [State.setRp]
@[simp] theorem kept_convRegion_iff : Kept (s.convRegion p) ↔ Kept s := by simp [State.convRegion]
@[simp] theorem kept_setIlim_iff : Kept (s.setIlim p) ↔ Kept s := by simp [State.setIlim]
@[simp] theorem kept_formRef_iff : Kept (s.formRef p) ↔ Kept s := by simp [State.formRef]

@[simp] theorem kept_convStart_iff (dir : BitVec 2) (code : Nat) : Kept (s.convStart p dir code) ↔ Kept s := by
  simp [State.convStart]

@[simp] theorem kept_takeFreq_iff : Kept (s.takeFreq p) ↔ Kept s := by simp [State.takeFreq]
@[simp] theorem kept_convIdle_iff : Kept (s.convIdle p) ↔ Kept s := by simp [State.convIdle]
@[simp] theorem kept_prebias_iff : Kept (s.prebias p) ↔ Kept s := by simp [State.prebias]
@[simp] theorem kept_vconnOff_iff : Kept (s.vconnOff p) ↔ Kept s := by simp [State.vconnOff]
@[simp] theorem kept_openSwitch_iff : Kept (s.openSwitch p) ↔ Kept s := by simp [State.openSwitch]
@[simp] theorem kept_softStart_iff (sink : Bool) : Kept (s.softStart p sink) ↔ Kept s := by simp [State.softStart]
@[simp] theorem kept_tryClose_iff : Kept (s.tryClose p) ↔ Kept s := by simp [State.tryClose]
@[simp] theorem kept_applyVbus_iff : Kept (s.applyVbus p) ↔ Kept s := by simp [State.applyVbus]
@[simp] theorem kept_trigger_iff (a : Ams) : Kept (s.trigger p a) ↔ Kept s := by simp [State.trigger]
@[simp] theorem kept_trigFirst_iff (a : Ams) : Kept (s.trigFirst p a) ↔ Kept s := by simp [State.trigFirst]
@[simp] theorem kept_sendMsg_iff (m : Msg) : Kept (s.sendMsg p m) ↔ Kept s := by simp [State.sendMsg]

@[simp] theorem kept_send_iff (ty : Mt) (objs : List Word) (ext : List Byte) : Kept (s.send p ty objs ext) ↔ Kept s := by
  simp [State.send]

@[simp] theorem kept_sendCtl_iff (ty : Mt) : Kept (s.sendCtl p ty) ↔ Kept s := by simp [State.sendCtl]
@[simp] theorem kept_amsEnd_iff : Kept (s.amsEnd p) ↔ Kept s := by simp [State.amsEnd]

@[simp] theorem kept_swapDone_iff (status result : Byte) (release : Bool) :
    Kept (s.swapDone p status result release) ↔ Kept s := by
  simp [State.swapDone]

@[simp] theorem kept_frDisarm_iff : Kept (s.frDisarm p) ↔ Kept s := by simp [State.frDisarm]
@[simp] theorem kept_swapAbort_iff (result : Byte) : Kept (s.swapAbort p result) ↔ Kept s := by simp [State.swapAbort]

@[simp] theorem kept_vdmDone_iff (result : Nat) (failed : Bool) (vdos : List Word) :
    Kept (s.vdmDone p result failed vdos) ↔ Kept s := by
  simp [State.vdmDone]

@[simp] theorem kept_vdmAllEnd_iff (result : Nat) : Kept (s.vdmAllEnd p result) ↔ Kept s := by simp [State.vdmAllEnd]
@[simp] theorem kept_lmEnd_iff : Kept (s.lmEnd p) ↔ Kept s := by simp [State.lmEnd]

@[simp] theorem kept_prunDone_iff (kinds : List Byte) (result : Byte) : Kept (s.prunDone p kinds result) ↔ Kept s := by
  simp [State.prunDone]

@[simp] theorem kept_eprExit_iff : Kept (s.eprExit p) ↔ Kept s := by simp [State.eprExit]
@[simp] theorem kept_applyCfg_iff : Kept (s.applyCfg p) ↔ Kept s := by simp [State.applyCfg]
@[simp] theorem kept_takeTables_iff : Kept (s.takeTables p) ↔ Kept s := by simp [State.takeTables]

@[simp] theorem kept_enterUnattached_iff (st : TcState) : Kept (s.enterUnattached p st) ↔ Kept s := by
  simp [State.enterUnattached]

@[simp] theorem kept_toUnattached_iff : Kept (s.toUnattached p) ↔ Kept s := by simp [State.toUnattached]
@[simp] theorem kept_leaveAttach_iff : Kept (s.leaveAttach p) ↔ Kept s := by simp [State.leaveAttach]
@[simp] theorem kept_finishLeaving_iff : Kept (s.finishLeaving p) ↔ Kept s := by simp [State.finishLeaving]
@[simp] theorem kept_errorRecovery_iff : Kept (s.errorRecovery p) ↔ Kept s := by simp [State.errorRecovery]
@[simp] theorem kept_faultRecovery_iff : Kept (s.faultRecovery p) ↔ Kept s := by simp [State.faultRecovery]

@[simp] theorem kept_postPathCell_iff (cell : Nat) (base : Bool) : Kept (s.postPathCell p cell base) ↔ Kept s := by
  simp [State.postPathCell]

@[simp] theorem kept_withdraw_iff (cell : Nat) (base : Bool) : Kept (s.withdraw p cell base) ↔ Kept s := by
  simp [State.withdraw]

@[simp] theorem kept_attach_iff (st : TcState) (orient oriented src : Bool) :
    Kept (s.attach p st orient oriented src) ↔ Kept s := by
  simp [State.attach]

@[simp] theorem kept_attachDemand_iff (sink : Bool) : Kept (s.attachDemand p sink) ↔ Kept s := by simp [State.attachDemand]

@[simp] theorem kept_attachSource_iff (st : TcState) (orient oriented ra : Bool) :
    Kept (s.attachSource p st orient oriented ra) ↔ Kept s := by
  simp [State.attachSource]

@[simp] theorem kept_attachSink_iff (st : TcState) (orient oriented : Bool) :
    Kept (s.attachSink p st orient oriented) ↔ Kept s := by
  simp [State.attachSink]

@[simp] theorem kept_emberNote_iff (k : Nat) : Kept (s.emberNote p k) ↔ Kept s := by simp [State.emberNote]
@[simp] theorem kept_flagChange_iff (was : Bool) : Kept (s.flagChange was) ↔ Kept s := by simp [State.flagChange]
@[simp] theorem kept_emberIsolate_iff : Kept (s.emberIsolate p) ↔ Kept s := by simp [State.emberIsolate]
@[simp] theorem kept_formOne_iff : Kept (s.formOne p) ↔ Kept s := by simp [State.formOne]
@[simp] theorem kept_feedOne_iff : Kept (s.feedOne p) ↔ Kept s := by simp [State.feedOne]
@[simp] theorem kept_reForm_iff : Kept s.reForm ↔ Kept s := by simp [State.reForm]
@[simp] theorem kept_startReverse_iff : Kept (s.startReverse p) ↔ Kept s := by simp [State.startReverse]
@[simp] theorem kept_hrCommon_iff : Kept (s.hrCommon p) ↔ Kept s := by simp [State.hrCommon]
@[simp] theorem kept_holdRail_iff : Kept (s.holdRail p) ↔ Kept s := by simp [State.holdRail]
@[simp] theorem kept_keepGrant_iff (sink : Bool) : Kept (s.keepGrant p sink) ↔ Kept s := by simp [State.keepGrant]
@[simp] theorem kept_hrSequence_iff : Kept (s.hrSequence p) ↔ Kept s := by simp [State.hrSequence]
@[simp] theorem kept_hardReset_iff : Kept (s.hardReset p) ↔ Kept s := by simp [State.hardReset]
@[simp] theorem kept_postTrip_iff (bits : Nat) (ma : Int) : Kept (s.postTrip p bits ma) ↔ Kept s := by simp [State.postTrip]
@[simp] theorem kept_afterTrip_iff : Kept (s.afterTrip p) ↔ Kept s := by simp [State.afterTrip]

@[simp] theorem kept_protectiveOpen_iff (bits : List Nat) (stFlag : BitVec 3) (ma : Int) :
    Kept (s.protectiveOpen p bits stFlag ma) ↔ Kept s := by
  simp [State.protectiveOpen]

/-! ### Messages and contracts -/

@[simp] theorem kept_afterContract_iff : Kept (s.afterContract p) ↔ Kept s := by simp [State.afterContract]
@[simp] theorem kept_makeContract_iff : Kept (s.makeContract p) ↔ Kept s := by simp [State.makeContract]
@[simp] theorem kept_sendExt_iff (ty : Mt) (d : List Byte) : Kept (s.sendExt p ty d) ↔ Kept s := by simp [State.sendExt]

@[simp] theorem kept_sendObjs_iff (epr unc : Bool) (o : List Offer) : Kept (s.sendObjs p epr unc o) ↔ Kept s := by
  simp [State.sendObjs]

@[simp] theorem kept_sendCaps_iff : Kept (s.sendCaps p) ↔ Kept s := by simp [State.sendCaps]
@[simp] theorem kept_startPd_iff : Kept (s.startPd p) ↔ Kept s := by simp [State.startPd]

@[simp] theorem kept_acceptRequest_iff (w : Word) : Kept (s.acceptRequest p w) ↔ Kept s := by
  unfold State.acceptRequest
  split <;> simp

@[simp] theorem kept_answerRequest_iff (m : Mt) : Kept (s.answerRequest p m) ↔ Kept s := by simp [State.answerRequest]

@[simp] theorem kept_handleRequest_iff (w : Word) : Kept (s.handleRequest p w) ↔ Kept s := by
  unfold State.handleRequest
  dsimp only
  split <;> simp

@[simp] theorem kept_acceptCovered_iff (w : Word) : Kept (s.acceptCovered p w) ↔ Kept s := by
  unfold State.acceptCovered
  split <;> simp

@[simp] theorem kept_answerAsked_iff (rose : Bool) : Kept (s.answerAsked p rose) ↔ Kept s := by
  unfold State.answerAsked
  dsimp only
  split <;> simp

@[simp] theorem kept_sendRequest_iff : Kept (s.sendRequest p) ↔ Kept s := by
  unfold State.sendRequest
  dsimp only
  split <;> simp

@[simp] theorem kept_sinkGrant_iff : Kept (s.sinkGrant p) ↔ Kept s := by simp [State.sinkGrant]
@[simp] theorem kept_sourceGrant_iff (chg : Bool) : Kept (s.sourceGrant p chg) ↔ Kept s := by simp [State.sourceGrant]
@[simp] theorem kept_noticeFailed_iff : Kept (s.noticeFailed p) ↔ Kept s := by simp [State.noticeFailed]
@[simp] theorem kept_lmVersionFail_iff : Kept (s.lmVersionFail p) ↔ Kept s := by simp [State.lmVersionFail]

@[simp] theorem kept_cutSteps_iff : Kept (s.cutSteps p) ↔ Kept s := by
  unfold State.cutSteps
  dsimp only
  repeat' split
  all_goals simp

@[simp] theorem kept_cutAms_iff : Kept (s.cutAms p) ↔ Kept s := by simp [State.cutAms]
@[simp] theorem kept_softReset_iff : Kept (s.softReset p) ↔ Kept s := by simp [State.softReset]
@[simp] theorem kept_askSoftReset_iff : Kept (s.askSoftReset p) ↔ Kept s := by simp [State.askSoftReset]
@[simp] theorem kept_protocolError_iff : Kept (s.protocolError p) ↔ Kept s := by simp [State.protocolError]
@[simp] theorem kept_sendGoodCrc_iff (h : RxHdr) : Kept (s.sendGoodCrc p h) ↔ Kept s := by simp [State.sendGoodCrc]
@[simp] theorem kept_takeMsg_iff (h : RxHdr) : Kept (s.takeMsg p h) ↔ Kept s := by simp [State.takeMsg]

@[simp] theorem kept_act_iff (s : State) (p : PortId) (f : State → State) :
    Kept (s.act p f) ↔ if (s.port p).pd.bist = 2 then Kept s else Kept (f s) := by
  simp [State.act]

@[simp] theorem kept_onAny_iff (h : RxHdr) {f : State → State} (hf : ∀ t, Kept (f t) ↔ Kept t) :
    Kept (s.onAny p h f) ↔ Kept s := by
  simp [State.onAny, hf]

@[simp] theorem kept_onMsg_iff (h : RxHdr) {f : State → State} (hf : ∀ t, Kept (f t) ↔ Kept t) :
    Kept (s.onMsg p h f) ↔ Kept s := by
  simp [State.onMsg, hf]

@[simp] theorem kept_setRev_iff (h : RxHdr) : Kept (s.setRev p h) ↔ Kept s := by simp [State.setRev]

@[simp] theorem kept_serve_iff (s : State) (p : PortId) (f : State → State) :
    Kept (s.serve p f) ↔
      if (s.port p).pd.contract == .transition || (s.port p).swap.running || ((s.port p).pd.ams.own && !(s.port p).pd.sinkTxWait)
      then Kept s else Kept (f s) := by
  simp only [State.serve, kept_ite_iff, kept_protocolError_iff]

@[simp] theorem kept_reply_iff (ty : Mt) (objs : List Word) (ext : List Byte) : Kept (s.reply p ty objs ext) ↔ Kept s := by
  simp [State.reply]

@[simp] theorem kept_replyExt_iff (ty : Mt) (d : List Byte) : Kept (s.replyExt p ty d) ↔ Kept s := by simp [State.replyExt]
@[simp] theorem kept_unsupported_iff : Kept (s.unsupported p) ↔ Kept s := by simp [State.unsupported]

@[simp] theorem kept_only3_iff (s : State) (p : PortId) (f : State → State) :
    Kept (s.only3 p f) ↔ if (s.port p).pd.rev3 then Kept (f s) else Kept s := by
  simp [State.only3]

/-! ### Swaps -/

@[simp] theorem kept_startProbe_iff (own : Bool) : Kept (s.startProbe p own) ↔ Kept s := by simp [State.startProbe]
@[simp] theorem kept_swapFirst_iff : Kept (s.swapFirst p) ↔ Kept s := by simp [State.swapFirst]
@[simp] theorem kept_prAccepted_iff : Kept (s.prAccepted p) ↔ Kept s := by simp [State.prAccepted]
@[simp] theorem kept_vconnAccepted_iff : Kept (s.vconnAccepted p) ↔ Kept s := by simp [State.vconnAccepted]
@[simp] theorem kept_drComplete_iff : Kept (s.drComplete p) ↔ Kept s := by simp [State.drComplete]
@[simp] theorem kept_prComplete_iff : Kept (s.prComplete p) ↔ Kept s := by simp [State.prComplete]

@[simp] theorem kept_probeAnswer_iff : Kept (s.probeAnswer p) ↔ Kept s := by
  unfold State.probeAnswer
  dsimp only
  split <;> simp

@[simp] theorem kept_frCheck_iff : Kept (s.frCheck p) ↔ Kept s := by simp [State.frCheck]
@[simp] theorem kept_frSignal_iff (own : Bool) : Kept (s.frSignal p own) ↔ Kept s := by simp [State.frSignal]

@[simp] theorem kept_meetSwap_iff (s : State) (p : PortId) {f : State → State} (hf : ∀ t, Kept (f t) ↔ Kept t) :
    Kept (s.meetSwap p f) ↔ Kept s := by
  simp [State.meetSwap, hf]

/-! ### Vendor-defined messages and Ledger mode -/

@[simp] theorem kept_sendVdm_iff (k : Sop) (v : List Word) : Kept (s.sendVdm p k v) ↔ Kept s := by simp [State.sendVdm]

@[simp] theorem kept_sendVdmReq_iff (svid pos cmd : Nat) (vdos : List Word) :
    Kept (s.sendVdmReq p svid pos cmd vdos) ↔ Kept s := by
  simp [State.sendVdmReq]

@[simp] theorem kept_answerVdm_iff (req : Word) (ty : Nat) (vdos : List Word) : Kept (s.answerVdm p req ty vdos) ↔ Kept s := by
  simp [State.answerVdm]

@[simp] theorem kept_lmEnter_iff : Kept (s.lmEnter p) ↔ Kept s := by simp [State.lmEnter]
@[simp] theorem kept_lmVersionOk_iff (peer : Word) : Kept (s.lmVersionOk p peer) ↔ Kept s := by simp [State.lmVersionOk]
@[simp] theorem kept_sendNotice_iff : Kept (s.sendNotice p) ↔ Kept s := by simp [State.sendNotice]

@[simp] theorem kept_vdmStep_iff : Kept (s.vdmStep p) ↔ Kept s := by
  unfold State.vdmStep
  repeat' split
  all_goals simp

@[simp] theorem kept_vdmNext_iff (step pos : Nat) : Kept (s.vdmNext p step pos) ↔ Kept s := by simp [State.vdmNext]

@[simp] theorem kept_vdmEnd_iff (result : Nat) (failed : Bool) (vdos : List Word) :
    Kept (s.vdmEnd p result failed vdos) ↔ Kept s := by
  simp [State.vdmEnd]

@[simp] theorem kept_vdmAcked_iff (r : VdmRun) (v : List Word) : Kept (s.vdmAcked p r v) ↔ Kept s := by
  unfold State.vdmAcked
  repeat' split
  all_goals simp

@[simp] theorem kept_vdmRefused_iff (r : VdmRun) (result : Nat) (v : List Word) :
    Kept (s.vdmRefused p r result v) ↔ Kept s := by
  simp [State.vdmRefused]

@[simp] theorem kept_cableUnanswered_iff : Kept (s.cableUnanswered p) ↔ Kept s := by simp [State.cableUnanswered]
@[simp] theorem kept_askCable_iff : Kept (s.askCable p) ↔ Kept s := by simp [State.askCable]

@[simp] theorem kept_sendSwap_iff : Kept (s.sendSwap p) ↔ Kept s := by
  unfold State.sendSwap
  dsimp only
  split <;> simp

@[simp] theorem kept_eprFail_iff (reason : Nat) : Kept (s.eprFail p reason) ↔ Kept s := by simp [State.eprFail]
@[simp] theorem kept_eprChecks_iff (asked : Bool) : Kept (s.eprChecks p asked) ↔ Kept s := by simp [State.eprChecks]

@[simp] theorem kept_amsFirst_iff (a : Ams) : Kept (s.amsFirst p a) ↔ Kept s := by
  unfold State.amsFirst
  repeat' split
  all_goals simp

@[simp] theorem kept_startAms_iff : Kept (s.startAms p) ↔ Kept s := by
  unfold State.startAms
  dsimp only
  split <;> simp

/-! ### PD messages and timers -/

@[simp] theorem kept_eprEntryCheck_iff : Kept (s.eprEntryCheck p) ↔ Kept s := by simp [State.eprEntryCheck]

@[simp] theorem kept_cableFailed_iff : Kept (s.cableFailed p) ↔ Kept s := by
  unfold State.cableFailed
  dsimp only
  repeat' split
  all_goals simp

@[simp] theorem kept_sendNext_iff : Kept (s.sendNext p) ↔ Kept s := by simp [State.sendNext]
@[simp] theorem kept_afterSoftReset_iff : Kept (s.afterSoftReset p) ↔ Kept s := by simp [State.afterSoftReset]

@[simp] theorem kept_acked_iff (m : Msg) : Kept (s.acked p m) ↔ Kept s := by
  unfold State.acked
  split <;> simp

@[simp] theorem kept_execGoodcrc_iff (p : PortId) (k : Sop) (id : BitVec 3) (s : State) :
    OutKept (execGoodcrc p k id s) ↔ Kept s := by
  simp only [execGoodcrc, outKept_next, kept_when_iff]
  repeat' split
  all_goals simp

@[simp] theorem kept_txError_iff (m : Msg) : Kept (s.txError p m) ↔ Kept s := by simp [State.txError]

@[simp] theorem kept_execReceiveTimeout_iff (p : PortId) (s : State) :
    OutKept (execReceiveTimeout p s) ↔ Kept s := by
  simp only [execReceiveTimeout, outKept_next, kept_when_iff]
  repeat' split
  all_goals simp

@[simp] theorem kept_execAmsStart_iff : OutKept (execAmsStart p s) ↔ Kept s := by simp [execAmsStart]
@[simp] theorem kept_execSinkTxExpiry_iff : OutKept (execSinkTxExpiry p s) ↔ Kept s := by simp [execSinkTxExpiry]

@[simp] theorem kept_onlyEpr_iff (s : State) (p : PortId) (epr : Bool) (f : State → State) :
    Kept (s.onlyEpr p epr f) ↔ if epr && !(isE p && (s.port p).pd.rev3) then Kept s else Kept (f s) := by
  simp only [State.onlyEpr, kept_ite_iff, kept_unsupported_iff]

@[simp] theorem kept_execSourceCapabilities_iff (h : RxHdr) (epr : Bool) (v : List Word) :
    OutKept (execSourceCapabilities p h epr v s) ↔ Kept s := by
  simp [execSourceCapabilities]

@[simp] theorem kept_execRequest_iff (h : RxHdr) (epr : Bool) (rdo : Word) : OutKept (execRequest p h epr rdo s) ↔ Kept s := by
  simp [execRequest]

@[simp] theorem kept_execAccept_iff (p : PortId) (h : RxHdr) (s : State) : OutKept (execAccept p h s) ↔ Kept s := by
  refine kept_onAny_iff s p h (fun s => ?_)
  dsimp only
  repeat' split
  all_goals simp

@[simp] theorem kept_refusedBy_iff (k : Nat) : Kept (s.refusedBy p k) ↔ Kept s := by
  unfold State.refusedBy
  dsimp only
  repeat' split
  all_goals simp

@[simp] theorem kept_noteEvt_iff (bit : Nat) : Kept (s.noteEvt p bit) ↔ Kept s := by simp [State.noteEvt]

@[simp] theorem kept_onNoted_iff (h : RxHdr) {note : State → State} {f : State → State} (hnote : ∀ t, Kept (note t) ↔ Kept t)
    (hf : ∀ t, Kept (f t) ↔ Kept t) :
    Kept (s.onNoted p h note f) ↔ Kept s := by
  simp [State.onNoted, hnote, hf]

@[simp] theorem kept_gotReject_iff (h : RxHdr) : Kept (s.gotReject p h) ↔ Kept s := by simp [State.gotReject]
@[simp] theorem kept_execWait_iff (h : RxHdr) : OutKept (execWait p h s) ↔ Kept s := by simp [execWait]
@[simp] theorem kept_execNotSupported_iff (h : RxHdr) : OutKept (execNotSupported p h s) ↔ Kept s := by simp [execNotSupported]

@[simp] theorem kept_execPsRdy_iff (p : PortId) (h : RxHdr) (s : State) : OutKept (execPsRdy p h s) ↔ Kept s := by
  refine kept_onMsg_iff s p h (fun s => ?_)
  dsimp only
  repeat' split
  all_goals simp

@[simp] theorem kept_execSrcTransitionExpiry_iff : OutKept (execSrcTransitionExpiry p s) ↔ Kept s := by
  simp [execSrcTransitionExpiry]

@[simp] theorem kept_noResponse_iff : Kept (s.noResponse p) ↔ Kept s := by simp [State.noResponse]
@[simp] theorem kept_noPsRdy_iff : Kept (s.noPsRdy p) ↔ Kept s := by simp [State.noPsRdy]

@[simp] theorem kept_execSinkWaitCapTimeout_iff : OutKept (execSinkWaitCapTimeout p s) ↔ Kept s := by
  simp [execSinkWaitCapTimeout]

@[simp] theorem kept_stopPd_iff : Kept (s.stopPd p) ↔ Kept s := by simp [State.stopPd]
@[simp] theorem kept_execNoResponseTimeout_iff : OutKept (execNoResponseTimeout p s) ↔ Kept s := by simp [execNoResponseTimeout]

@[simp] theorem kept_execCapsCountExhausted_iff : OutKept (execCapsCountExhausted p s) ↔ Kept s := by
  simp [execCapsCountExhausted]

@[simp] theorem kept_execTypecSendSourceCapExpiry_iff : OutKept (execTypecSendSourceCapExpiry p s) ↔ Kept s := by
  simp [execTypecSendSourceCapExpiry]

@[simp] theorem kept_execSinkRequestExpiry_iff : OutKept (execSinkRequestExpiry p s) ↔ Kept s := by simp [execSinkRequestExpiry]
@[simp] theorem kept_execPpsTimeout_iff : OutKept (execPpsTimeout p s) ↔ Kept s := by simp [execPpsTimeout]
@[simp] theorem kept_execPpsRequestExpiry_iff : OutKept (execPpsRequestExpiry p s) ↔ Kept s := by simp [execPpsRequestExpiry]

@[simp] theorem kept_execPpsUndervoltageTimeout_iff : OutKept (execPpsUndervoltageTimeout p s) ↔ Kept s := by
  simp [execPpsUndervoltageTimeout]

@[simp] theorem kept_execSoftReset_iff (h : RxHdr) : OutKept (execSoftReset p h s) ↔ Kept s := by simp [execSoftReset]
@[simp] theorem kept_gotHardReset_iff : Kept (s.gotHardReset p) ↔ Kept s := by simp [State.gotHardReset]
@[simp] theorem kept_execPsHardResetExpiry_iff : OutKept (execPsHardResetExpiry p s) ↔ Kept s := by simp [execPsHardResetExpiry]
@[simp] theorem kept_execSrcRecoverExpiry_iff : OutKept (execSrcRecoverExpiry p s) ↔ Kept s := by simp [execSrcRecoverExpiry]
@[simp] theorem kept_execVsafe5vReturn_iff : OutKept (execVsafe5vReturn p s) ↔ Kept s := by simp [execVsafe5vReturn]

@[simp] theorem kept_execHardResetDetachTimeout_iff : OutKept (execHardResetDetachTimeout p s) ↔ Kept s := by
  simp [execHardResetDetachTimeout]

@[simp] theorem kept_execDiscoverIdentityTimer_iff : OutKept (execDiscoverIdentityTimer p s) ↔ Kept s := by
  simp [execDiscoverIdentityTimer]

@[simp] theorem kept_execCableIdentityAnswer_iff (h : RxHdr) (v : List Word) :
    OutKept (execCableIdentityAnswer p h v s) ↔ Kept s := by
  unfold execCableIdentityAnswer
  split <;> simp

/-! ### The Ledger -/

@[simp] theorem kept_trim_iff (g reason : Nat) : Kept (s.trim p g reason) ↔ Kept s := by simp [State.trim]

@[simp] theorem kept_cutClass_iff (a : Acct) (c : BitVec 2) (reason : Nat) : ∀ (fuel need : Nat) (s : State),
    Kept (s.cutClass a c reason fuel need).1 ↔ Kept s
  | 0, _, _ => Iff.rfl
  | fuel + 1, need, s => by
    unfold State.cutClass
    split
    · rfl
    · split
      · rfl
      · simp [kept_cutClass_iff a c reason fuel]

@[simp] theorem kept_preempt_iff (a : Acct) (need : Nat) : Kept (s.preempt a need).1 ↔ Kept s := by simp [State.preempt]
@[simp] theorem kept_shrinkAcct_iff (a : Acct) : Kept (s.shrinkAcct a) ↔ Kept s := by simp [State.shrinkAcct]
@[simp] theorem kept_weigh_iff (d : Dem) : Kept (s.weigh d).1 ↔ Kept s := by simp [State.weigh]
@[simp] theorem kept_refusal_iff (d : Dem) (reason : Nat) : Kept (s.refusal d reason) ↔ Kept s := by simp [State.refusal]
@[simp] theorem kept_decideDemand_iff (d : Dem) : Kept (s.decideDemand d) ↔ Kept s := by simp [State.decideDemand]
@[simp] theorem kept_decideProbe_iff (d : Dem) : Kept (s.decideProbe d) ↔ Kept s := by simp [State.decideProbe]
@[simp] theorem kept_decideFrozen_iff (d : Dem) : Kept (s.decideFrozen d) ↔ Kept s := by simp [State.decideFrozen]
@[simp] theorem kept_decideOne_iff (d : Dem) : Kept (s.decideOne d) ↔ Kept s := by simp [State.decideOne]
@[simp] theorem kept_setBridge_iff (q : Bridge × Bool) : Kept (s.setBridge q) ↔ Kept s := by simp [State.setBridge]

@[simp] theorem kept_takeConfig_iff : Kept s.takeConfig ↔ Kept s := by
  unfold State.takeConfig
  dsimp only
  split <;> simp

@[simp] theorem kept_bookLoans_iff : Kept s.bookLoans ↔ Kept s := by simp [State.bookLoans]
@[simp] theorem kept_applyRingBook_iff : Kept s.applyRingBook ↔ Kept s := by simp [State.applyRingBook]

@[simp] theorem kept_applyPost_iff (a : Post) : Kept (s.applyPost a) ↔ Kept s := by
  unfold State.applyPost
  split <;> simp

@[simp] theorem kept_applyCeilings_iff : Kept s.applyCeilings ↔ Kept s := by simp [State.applyCeilings]
@[simp] theorem kept_dropLost_iff (l : List PortId) : Kept (s.dropLost l) ↔ Kept s := by simp [State.dropLost]
@[simp] theorem kept_applyShed_iff : Kept s.applyShed ↔ Kept s := by simp [State.applyShed]
@[simp] theorem kept_shrinkAll_iff : Kept s.shrinkAll ↔ Kept s := by simp [State.shrinkAll]

@[simp] theorem kept_takeDemand_iff (a : Post) : Kept (s.takeDemand a).1 ↔ Kept s := by
  unfold State.takeDemand
  split <;> simp

@[simp] theorem kept_decideNew_iff (s : State) (posts : List Post) (lost : List PortId) : Kept (s.decideNew posts lost) ↔ Kept s := by
  simp [State.decideNew, kept_foldl_fst_iff]

@[simp] theorem kept_decideDue_iff : Kept s.decideDue ↔ Kept s := by simp [State.decideDue]
@[simp] theorem kept_decideWaiting_iff : Kept s.decideWaiting ↔ Kept s := by simp [State.decideWaiting]
@[simp] theorem kept_publish_iff : Kept s.publish ↔ Kept s := by simp [State.publish]

@[simp] theorem kept_cycleBook_iff (old : List Bridge) (posts : List Post) : Kept (s.cycleBook old posts) ↔ Kept s := by
  simp [State.cycleBook]

@[simp] theorem kept_react_iff (old : LgPort) : Kept (s.react old p) ↔ Kept s := by simp [State.react]
@[simp] theorem kept_bridgeFeed_iff : Kept s.bridgeFeed ↔ Kept s := by simp [State.bridgeFeed]
@[simp] theorem kept_firstCycle_iff : Kept s.firstCycle.1 ↔ Kept s := by simp [State.firstCycle]
@[simp] theorem kept_afterFirst_iff (ps : List PortId) : Kept (s.afterFirst ps) ↔ Kept s := by simp [State.afterFirst]
@[simp] theorem kept_takeInputs_iff : Kept s.takeInputs ↔ Kept s := by simp [State.takeInputs]
@[simp] theorem kept_withInputs_iff (i : Rerun) : Kept (s.withInputs i) ↔ Kept s := by simp [State.withInputs]
@[simp] theorem kept_outOf_iff (t s : State) : Kept (t.outOf s) ↔ Kept t := by simp [State.outOf]

@[simp] theorem kept_cycleRun_iff (fresh : Bool) : Kept (s.cycleRun fresh) ↔ Kept s := by
  unfold State.cycleRun
  split <;> simp

@[simp] theorem kept_cycleAgreed_iff : Kept s.cycleAgreed ↔ Kept s := by simp [State.cycleAgreed]
@[simp] theorem kept_freezeLedger_iff : Kept s.freezeLedger ↔ Kept s := by simp [State.freezeLedger]

@[simp] theorem kept_laneMismatch_iff : Kept s.laneMismatch ↔ Kept s := by
  unfold State.laneMismatch
  dsimp only
  split <;> simp

@[simp] theorem kept_execDecisionCycle_iff (laneMis : Bool) : OutKept (execDecisionCycle laneMis s) ↔ Kept s := by
  simp [execDecisionCycle]

/-! ### The mailbox: packets, replies and trace -/

@[simp] theorem kept_place_iff (r : Reply) : Kept (s.place r) ↔ Kept s := by simp [State.place]
@[simp] theorem kept_emit_iff (r : Reply) : Kept (s.emit r) ↔ Kept s := by simp [State.emit]

@[simp] theorem kept_traceReply_iff (k : Packet) (status : Byte) : Kept (s.traceReply k status) ↔ Kept s := by
  simp [State.traceReply]

@[simp] theorem kept_traceTake_iff (n : BitVec 16) (clear : Bool) (place : Nat) :
    Kept (s.traceTake n clear place) ↔ Kept s := by
  simp [State.traceTake]

@[simp] theorem kept_traceEnd_iff : Kept s.traceEnd ↔ Kept s := by
  unfold State.traceEnd
  dsimp only
  repeat' split
  all_goals simp

@[simp] theorem kept_traceCount_iff (k : Packet) : Kept (s.traceCount k).1 ↔ Kept s := by simp [State.traceCount]

@[simp] theorem kept_saveEntry_iff (op : Byte) (sel : Nat) (pl : List Byte) : Kept (s.saveEntry op sel pl) ↔ Kept s := by
  simp [State.saveEntry]

@[simp] theorem kept_partsOver_iff (k : Packet) : Kept (s.partsOver k) ↔ Kept s := by simp [State.partsOver]

@[simp] theorem kept_emitPart_iff (k : Packet) (status : Byte) (l : List (List Byte)) :
    Kept (s.emitPart k status l) ↔ Kept s := by
  unfold State.emitPart
  split <;> simp

@[simp] theorem kept_answer_iff (k : Packet) (a : CmdRes) : Kept (s.answer k a) ↔ Kept s := by
  unfold State.answer
  split <;> simp

@[simp] theorem kept_complete_iff (k : Packet) (status : Byte) (pl : List Byte) : Kept (s.complete k status pl) ↔ Kept s := by
  simp [State.complete]

@[simp] theorem kept_abortPort_iff (but : Option (BitVec 6)) : Kept (s.abortPort p but) ↔ Kept s := by simp [State.abortPort]

@[simp] theorem kept_accept_iff (k : Packet) : Kept (s.accept k) ↔ Kept s := by
  unfold State.accept
  dsimp only
  split <;> simp

@[simp] theorem kept_takeStale_iff : ∀ (n : Nat) (s : State), Kept (State.takeStale n s) ↔ Kept s
  | 0, _ => Iff.rfl
  | n + 1, s => by
    unfold State.takeStale
    split
    · split
      · simp [kept_takeStale_iff n]
      · rfl
    · rfl

@[simp] theorem kept_acceptAll_iff : ∀ (n : Nat) (s : State), Kept (State.acceptAll n s) ↔ Kept s
  | 0, _ => Iff.rfl
  | n + 1, s => by
    unfold State.acceptAll
    split
    · simp [kept_acceptAll_iff n]
    · rfl

@[simp] theorem kept_frontEnd_iff : ∀ (n : Nat) (s : State), Kept (State.frontEnd n s) ↔ Kept s
  | 0, _ => Iff.rfl
  | n + 1, s => by
    unfold State.frontEnd
    split
    · simp [kept_frontEnd_iff n]
    · rfl

@[simp] theorem kept_flushList_iff : ∀ (l : List Reply) (s : State), Kept (State.flushList l s) ↔ Kept s
  | [], s => by simp [State.flushList]
  | r :: l, s => by simp [State.flushList, kept_flushList_iff l]

@[simp] theorem kept_flushHeld_iff : Kept s.flushHeld ↔ Kept s := by simp [State.flushHeld]
@[simp] theorem kept_flushLate_iff : Kept s.flushLate ↔ Kept s := by simp [State.flushLate]
@[simp] theorem kept_wakeUp_iff : Kept s.wakeUp ↔ Kept s := by simp [State.wakeUp]

/-! ### The fuse controller -/

@[simp] theorem kept_progList_fst (fail : Word) (l : List (Nat × Word)) {s : State} (hs : Kept s) :
    Kept (State.progList fail l s).1 := kept_progList fail l s hs

@[simp] theorem kept_progThrough_fst (l : List (Nat × Word)) {s : State} (hs : Kept s) : Kept (s.progThrough l).1 :=
  kept_progThrough l (s, false) hs

/-! ### Ridgeline -/

@[simp] theorem kept_sendEast_iff (l : List RingSym) : Kept (s.sendEast l) ↔ Kept s := by simp [State.sendEast]

@[simp] theorem kept_sendWest_iff (ty : Option Byte) : Kept (s.sendWest ty) ↔ Kept s := by
  unfold State.sendWest
  repeat' split
  all_goals simp

@[simp] theorem kept_linksUs_iff : Kept s.linksUs ↔ Kept s := by simp [State.linksUs]
@[simp] theorem kept_setMaster_iff (n : Node) : Kept (s.setMaster n) ↔ Kept s := by simp [State.setMaster]
@[simp] theorem kept_admitNode_iff (n : Node) : Kept (s.admitNode n) ↔ Kept s := by simp [State.admitNode]
@[simp] theorem kept_nodeGone_iff (n : Node) : Kept (s.nodeGone n) ↔ Kept s := by simp [State.nodeGone]
@[simp] theorem kept_dropNode_iff (n : Node) : Kept (s.dropNode n) ↔ Kept s := by simp [State.dropNode]
@[simp] theorem kept_dropAll_iff : Kept s.dropAll ↔ Kept s := by simp [State.dropAll]
@[simp] theorem kept_ringListen_iff : Kept s.ringListen ↔ Kept s := by simp [State.ringListen]

@[simp] theorem kept_ringTake_iff : Kept s.ringTake ↔ Kept s := by
  unfold State.ringTake
  split <;> simp

@[simp] theorem kept_ringLeft_iff : Kept s.ringLeft ↔ Kept s := by
  unfold State.ringLeft
  dsimp only
  split <;> simp

@[simp] theorem kept_ringClosed_iff : Kept s.ringClosed ↔ Kept s := by simp [State.ringClosed]
@[simp] theorem kept_ringLeave_iff : Kept s.ringLeave ↔ Kept s := by simp [State.ringLeave]
@[simp] theorem kept_ringGap_iff : Kept s.ringGap ↔ Kept s := by simp [State.ringGap]

@[simp] theorem kept_statement_iff : Kept s.statement.1 ↔ Kept s := by
  unfold State.statement
  dsimp only
  repeat' split
  all_goals simp

@[simp] theorem kept_acknowledge_iff : Kept s.acknowledge.1 ↔ Kept s := by simp [State.acknowledge]
@[simp] theorem kept_ownFrame_iff : Kept s.ownFrame.1 ↔ Kept s := by simp [State.ownFrame]
@[simp] theorem kept_infoFrame_iff (pos : Nat) : Kept (s.infoFrame pos).1 ↔ Kept s := by simp [State.infoFrame]
@[simp] theorem kept_recallDue_iff (l : Loan) : Kept (s.recallDue l) ↔ Kept s := by simp [State.recallDue]
@[simp] theorem kept_ringTick_iff : Kept s.ringTick ↔ Kept s := by simp [State.ringTick]
@[simp] theorem kept_settleJoins_iff (refused : Node) : Kept (s.settleJoins refused) ↔ Kept s := by simp [State.settleJoins]
@[simp] theorem kept_judgeJoins_iff : Kept s.judgeJoins ↔ Kept s := by simp [State.judgeJoins]
@[simp] theorem kept_masterCycle_iff : Kept s.masterCycle ↔ Kept s := by simp [State.masterCycle]
@[simp] theorem kept_crcBad_iff : Kept s.crcBad ↔ Kept s := by simp [State.crcBad]
@[simp] theorem kept_crcGood_iff : Kept s.crcGood ↔ Kept s := by simp [State.crcGood]
@[simp] theorem kept_forward_iff (f : List Byte) : Kept (s.forward f) ↔ Kept s := by simp [State.forward]
@[simp] theorem kept_passOn_iff (f : List Byte) : Kept (s.passOn f) ↔ Kept s := by simp [State.passOn]
@[simp] theorem kept_lowerMaster_iff (n : Node) : Kept (s.lowerMaster n) ↔ Kept s := by simp [State.lowerMaster]
@[simp] theorem kept_alignSts_iff (f : List Byte) : Kept (s.alignSts f) ↔ Kept s := by simp [State.alignSts]
@[simp] theorem kept_discipline_iff (f : List Byte) : Kept (s.discipline f) ↔ Kept s := by simp [State.discipline]
@[simp] theorem kept_joinAnswer_iff (f : List Byte) : Kept (s.joinAnswer f) ↔ Kept s := by simp [State.joinAnswer]
@[simp] theorem kept_takeCycle_iff (f : List Byte) : Kept (s.takeCycle f) ↔ Kept s := by simp [State.takeCycle]
@[simp] theorem kept_crcSeen_iff (f : List Byte) : Kept (s.crcSeen f) ↔ Kept s := by simp [State.crcSeen]
@[simp] theorem kept_noCycle_iff : Kept s.noCycle ↔ Kept s := by simp [State.noCycle]
@[simp] theorem kept_slotPassed_iff : Kept s.slotPassed ↔ Kept s := by simp [State.slotPassed]
@[simp] theorem kept_onCycle_iff (f : List Byte) : Kept (s.onCycle f) ↔ Kept s := by simp [State.onCycle]

@[simp] theorem kept_offerInto_iff (f : List Byte) : Kept (s.offerInto f).1 ↔ Kept s := by
  unfold State.offerInto
  dsimp only
  split <;> simp

@[simp] theorem kept_takeAcks_iff (f : List Byte) : Kept (s.takeAcks f) ↔ Kept s := by simp [State.takeAcks]

@[simp] theorem kept_borrowerSays_iff (src : Node) (amt : Nat) : Kept (s.borrowerSays src amt) ↔ Kept s := by
  simp [State.borrowerSays]

@[simp] theorem kept_lenderSays_iff (src : Node) (amt : Nat) : Kept (s.lenderSays src amt) ↔ Kept s := by
  simp [State.lenderSays]

@[simp] theorem kept_takeNode_iff (f : List Byte) : Kept (s.takeNode f) ↔ Kept s := by simp [State.takeNode]
@[simp] theorem kept_ownNodeBack_iff (f : List Byte) : Kept (s.ownNodeBack f) ↔ Kept s := by simp [State.ownNodeBack]
@[simp] theorem kept_onNode_iff (f : List Byte) : Kept (s.onNode f) ↔ Kept s := by simp [State.onNode]
@[simp] theorem kept_onJoin_iff (f : List Byte) : Kept (s.onJoin f) ↔ Kept s := by simp [State.onJoin]
@[simp] theorem kept_onLeave_iff (f : List Byte) : Kept (s.onLeave f) ↔ Kept s := by simp [State.onLeave]
@[simp] theorem kept_onInfo_iff (f : List Byte) : Kept (s.onInfo f) ↔ Kept s := by simp [State.onInfo]
@[simp] theorem kept_onReserved_iff (f : List Byte) : Kept (s.onReserved f) ↔ Kept s := by simp [State.onReserved]
@[simp] theorem kept_onFrame_iff (f : List Byte) : Kept (s.onFrame f) ↔ Kept s := by simp [State.onFrame]

/-! ### Timers -/

@[simp] theorem kept_setTmr_iff (k : TmrId) (t : Tmr) : Kept (s.setTmr k t) ↔ Kept s := by simp [State.setTmr]
@[simp] theorem kept_modTmr_iff (k : TmrId) (f : Tmr → Tmr) : Kept (s.modTmr k f) ↔ Kept s := by simp [State.modTmr]
@[simp] theorem kept_timersUs_iff : Kept s.timersUs ↔ Kept s := by simp [State.timersUs]
@[simp] theorem kept_tmrFlag_iff (k : TmrId) (i : Nat) : Kept (s.tmrFlag k i) ↔ Kept s := by simp [State.tmrFlag]
@[simp] theorem kept_perfStop_iff : Kept s.perfStop ↔ Kept s := by simp [State.perfStop]
@[simp] theorem kept_perfGo_iff : Kept s.perfGo ↔ Kept s := by simp [State.perfGo]

@[simp] theorem kept_perfTrigger_iff (fits : Byte → Bool) : Kept (s.perfTrigger fits) ↔ Kept s := by
  unfold State.perfTrigger
  split <;> simp

@[simp] theorem kept_tmrEvent_iff (k : TmrId) (e : Nat) : Kept (s.tmrEvent k e) ↔ Kept s := by simp [State.tmrEvent]
@[simp] theorem kept_cmpMatch_iff (k : TmrId) (isB : Bool) : Kept (s.cmpMatch k isB) ↔ Kept s := by simp [State.cmpMatch]
@[simp] theorem kept_reload_iff (k : TmrId) : Kept (s.reload k) ↔ Kept s := by simp [State.reload]
@[simp] theorem kept_tmrClock_iff (k : TmrId) : Kept (s.tmrClock k) ↔ Kept s := by simp [State.tmrClock]

@[simp] theorem kept_cmpWrite_iff (k : TmrId) (isB : Bool) (v : Word) : Kept (s.cmpWrite k isB v).1 ↔ Kept s := by
  simp [State.cmpWrite]

@[simp] theorem kept_zeroClock_iff (k : TmrId) : Kept (s.zeroClock k) ↔ Kept s := by simp [State.zeroClock]
@[simp] theorem kept_tmrRestart_iff (k : TmrId) : Kept (s.tmrRestart k) ↔ Kept s := by simp [State.tmrRestart]
@[simp] theorem kept_setGwc_iff (g : Fin 16) (x : Gwc) : Kept (s.setGwc g x) ↔ Kept s := by simp [State.setGwc]

/-! ### The register window -/

@[simp] theorem kept_corClear_iff (a : CorReg) : Kept (s.corClear a) ↔ Kept s := by
  unfold State.corClear
  split <;> simp

@[simp] theorem kept_readEffect_iff (got : List CorReg) : Kept (s.readEffect got).1 ↔ Kept s := by
  unfold State.readEffect
  dsimp only
  repeat' split
  all_goals simp

@[simp] theorem kept_readLoop_iff (role : Nat) : ∀ (n : Nat) (got : List CorReg) (s : State) (out : List Byte),
    Kept (State.readLoop role n got s out).1 ↔ Kept s
  | 0, _, _, _ => Iff.rfl
  | n + 1, got, s, out => by simp [State.readLoop, kept_readLoop_iff role n]

@[simp] theorem kept_portWrite_iff (o : Nat) (v : Byte) : Kept (s.portWrite p o v) ↔ Kept s := by simp [State.portWrite]

/-- A write to the register window changes no store: an event register of the fuses or of the Strongbox at most. -/
@[simp] theorem kept_winWrite_iff (s : State) (page off : Nat) (v : Byte) : Kept (s.winWrite page off v) ↔ Kept s := by
  have fuse : Kept { s with fuse.evt := w1c s.fuse.evt 0 v } ↔ Kept s := kept_congr rfl rfl rfl rfl rfl rfl rfl rfl
  have sbox : Kept { s with sbox.evt := w1c s.sbox.evt 0 v } ↔ Kept s := kept_congr rfl rfl rfl rfl rfl rfl rfl rfl
  simp only [kept_mk] at fuse sbox
  simp [State.winWrite, fuse, sbox]

@[simp] theorem kept_byteAcked_iff : Kept s.byteAcked ↔ Kept s := by simp [State.byteAcked]

@[simp] theorem kept_writeLoop_iff (page : Nat) : ∀ (l : List Byte) (e : AtStop) (s : State),
    Kept (State.writeLoop page l e s).1 ↔ Kept s
  | [], _, _ => Iff.rfl
  | v :: r, e, s => by simp [State.writeLoop, kept_writeLoop_iff page r, apply_ite Prod.fst]

@[simp] theorem kept_winTx_iff (s : State) (stop : Bool) (l : List Byte) : Kept (s.winTx stop l) ↔ Kept s := by
  cases l with
  | nil => rfl
  | cons p r => simp [State.winTx]

/-! ### The house bus and islanding -/

@[simp] theorem kept_isolate_iff : Kept s.isolate ↔ Kept s := by simp [State.isolate]
@[simp] theorem kept_hbisoRelease_iff : Kept s.hbisoRelease ↔ Kept s := by simp [State.hbisoRelease]
@[simp] theorem kept_vhbStopOne_iff : Kept (s.vhbStopOne p) ↔ Kept s := by simp [State.vhbStopOne]
@[simp] theorem kept_vhbRead_iff (mv : Nat) : Kept (s.vhbRead mv) ↔ Kept s := by simp [State.vhbRead]
@[simp] theorem kept_vhbOut_iff (hi : Bool) : Kept (s.vhbOut hi) ↔ Kept s := by simp [State.vhbOut]
@[simp] theorem kept_restartOne_iff : Kept (s.restartOne p) ↔ Kept s := by simp [State.restartOne]
@[simp] theorem kept_vhbBack_iff (mv : Nat) : Kept (s.vhbBack mv) ↔ Kept s := by simp [State.vhbBack]
@[simp] theorem kept_formed_iff : Kept (s.formed p) ↔ Kept s := by simp [State.formed]

/-! ### Commands of the Ledger, Ember, Ridgeline, timers and comparators -/

@[simp] theorem kept_cmdLedgerCfg_iff (k : Packet) : Kept (s.cmdLedgerCfg k).1 ↔ Kept s := by
  unfold State.cmdLedgerCfg
  split <;> simp

@[simp] theorem kept_cmdLedgerClass_iff (k : Packet) : Kept (s.cmdLedgerClass k p).1 ↔ Kept s := by
  unfold State.cmdLedgerClass
  split <;> simp

@[simp] theorem kept_cmdLedgerQuery_iff (k : Packet) : Kept (s.cmdLedgerQuery k).1 ↔ Kept s := by
  unfold State.cmdLedgerQuery
  split <;> simp

@[simp] theorem kept_cmdLedgerRelease_iff (k : Packet) : Kept (s.cmdLedgerRelease k).1 ↔ Kept s := by
  unfold State.cmdLedgerRelease
  split <;> simp

@[simp] theorem kept_cmdBridgeSet_iff (k : Packet) : Kept (s.cmdBridgeSet k p).1 ↔ Kept s := by
  unfold State.cmdBridgeSet
  split <;> simp

@[simp] theorem kept_cmdEmberCfg_iff (k : Packet) : Kept (s.cmdEmberCfg k).1 ↔ Kept s := by
  unfold State.cmdEmberCfg
  split <;> simp

@[simp] theorem kept_islandJoin_iff : Kept s.islandJoin ↔ Kept s := by simp [State.islandJoin]
@[simp] theorem kept_setVform_iff (v : Nat) : Kept (s.setVform v) ↔ Kept s := by simp [State.setVform]
@[simp] theorem kept_cmdIslandSet_iff (k : Packet) : Kept (s.cmdIslandSet k).1 ↔ Kept s := by simp [State.cmdIslandSet]

@[simp] theorem kept_cmdRingCfg_iff (k : Packet) : Kept (s.cmdRingCfg k).1 ↔ Kept s := by
  unfold State.cmdRingCfg
  split <;> simp

@[simp] theorem kept_cmdRingStatus_iff (k : Packet) : Kept (s.cmdRingStatus k).1 ↔ Kept s := by simp [State.cmdRingStatus]
@[simp] theorem kept_cmdRingBypass_iff (k : Packet) : Kept (s.cmdRingBypass k).1 ↔ Kept s := by simp [State.cmdRingBypass]

@[simp] theorem kept_cmdTmrCfg_iff (k : Packet) : Kept (s.cmdTmrCfg k).1 ↔ Kept s := by
  unfold State.cmdTmrCfg
  split <;> simp

@[simp] theorem kept_cmdTmrCmp_iff (k : Packet) : Kept (s.cmdTmrCmp k).1 ↔ Kept s := by
  unfold State.cmdTmrCmp
  split <;> simp

@[simp] theorem kept_cmdTmrLink_iff (k : Packet) : Kept (s.cmdTmrLink k).1 ↔ Kept s := by
  unfold State.cmdTmrLink
  split <;> simp

@[simp] theorem kept_cmdCmpCfg_iff (k : Packet) : Kept (s.cmdCmpCfg k).1 ↔ Kept s := by
  unfold State.cmdCmpCfg
  split <;> simp

/-! ### Commands of the session and of ports -/

@[simp] theorem kept_cmdHello_iff (k : Packet) : Kept (s.cmdHello k).1 ↔ Kept s := by simp [State.cmdHello]
@[simp] theorem kept_cmdEcho_iff (k : Packet) : Kept (s.cmdEcho k).1 ↔ Kept s := by simp [State.cmdEcho]

@[simp] theorem kept_cmdDeviceStatus_iff (k : Packet) : Kept (s.cmdDeviceStatus k).1 ↔ Kept s := by
  unfold State.cmdDeviceStatus
  split <;> simp

@[simp] theorem kept_takeCfg_iff (c : PortCfg) : Kept (s.takeCfg p c) ↔ Kept s := by simp [State.takeCfg]

@[simp] theorem kept_cmdPortCfg_iff (k : Packet) : Kept (s.cmdPortCfg k p).1 ↔ Kept s := by
  unfold State.cmdPortCfg
  split <;> simp

@[simp] theorem kept_portEnable_iff : Kept (s.portEnable p).1 ↔ Kept s := by simp [State.portEnable]
@[simp] theorem kept_cmdPortEnable_iff (_k : Packet) : Kept (s.cmdPortEnable _k p).1 ↔ Kept s := by simp [State.cmdPortEnable]
@[simp] theorem kept_portDisable_iff : Kept (s.portDisable p) ↔ Kept s := by simp [State.portDisable]

@[simp] theorem kept_cmdPortDisable_iff (_k : Packet) : Kept (s.cmdPortDisable _k p).1 ↔ Kept s := by
  simp [State.cmdPortDisable]

@[simp] theorem kept_clearEvents_iff : Kept (s.clearEvents p) ↔ Kept s := by simp [State.clearEvents]
@[simp] theorem kept_cmdPortStatus_iff (k : Packet) : Kept (s.cmdPortStatus k p).1 ↔ Kept s := by simp [State.cmdPortStatus]
@[simp] theorem kept_pairReset_iff (but : Option (BitVec 6)) : Kept (s.pairReset p but) ↔ Kept s := by simp [State.pairReset]
@[simp] theorem kept_cmdPortReset_iff (k : Packet) : Kept (s.cmdPortReset k p).1 ↔ Kept s := by simp [State.cmdPortReset]
@[simp] theorem kept_cmdPdoSet_iff (k : Packet) : Kept (s.cmdPdoSet k p).1 ↔ Kept s := by simp [State.cmdPdoSet]
@[simp] theorem kept_cmdSinkPrefSet_iff (k : Packet) : Kept (s.cmdSinkPrefSet k p).1 ↔ Kept s := by simp [State.cmdSinkPrefSet]

@[simp] theorem kept_startVdm_iff (k : Packet) : Kept (s.startVdm p k) ↔ Kept s := by
  unfold State.startVdm
  split <;> simp

@[simp] theorem kept_vdmGo_iff : Kept (s.vdmGo p) ↔ Kept s := by
  unfold State.vdmGo
  split <;> simp

@[simp] theorem kept_cmdVdmSend_iff (k : Packet) : Kept (s.cmdVdmSend k p).1 ↔ Kept s := by simp [State.cmdVdmSend]

@[simp] theorem kept_vdmComplete_iff : Kept (s.vdmComplete p) ↔ Kept s := by
  unfold State.vdmComplete
  dsimp only
  repeat' split
  all_goals simp

@[simp] theorem kept_startSwap_iff (kind : Byte) : Kept (s.startSwap p kind) ↔ Kept s := by simp [State.startSwap]

@[simp] theorem kept_swapComplete_iff : Kept (s.swapComplete p) ↔ Kept s := by
  unfold State.swapComplete
  dsimp only
  repeat' split
  all_goals simp

@[simp] theorem kept_cmdSwapReq_iff (k : Packet) : Kept (s.cmdSwapReq k p).1 ↔ Kept s := by simp [State.cmdSwapReq]

/-! ### The peripheral buses -/

@[simp] theorem kept_modPb_iff (b : BusId) (f : Pbus → Pbus) : Kept (s.modPb b f) ↔ Kept s := by simp [State.modPb]

@[simp] theorem kept_completeAll_iff (l : List Packet) (status : Byte) : Kept (s.completeAll l status) ↔ Kept s := by
  simp [State.completeAll]

@[simp] theorem kept_pbusNext_iff (b : BusId) : Kept (s.pbusNext b) ↔ Kept s := by
  unfold State.pbusNext
  dsimp only
  repeat' split
  all_goals simp

@[simp] theorem kept_pbusApply_iff (b : BusId) (en : Bool) (rate : BitVec 2) : Kept (s.pbusApply b en rate) ↔ Kept s := by
  simp [State.pbusApply]

@[simp] theorem kept_pbusEnd_iff (b : BusId) : Kept (s.pbusEnd b) ↔ Kept s := by
  unfold State.pbusEnd
  dsimp only
  split <;> simp

@[simp] theorem kept_cutXfer_iff (k : Packet) (r : Byte) : Kept (s.cutXfer k r).1 ↔ Kept s := by simp [State.cutXfer]

@[simp] theorem kept_pbusVio_iff (s : State) : Kept s.pbusVio ↔ Kept s := by
  refine kept_foldl_iff (fun s b => ?_) _ _
  dsimp only
  split <;> simp

@[simp] theorem kept_pbusReset_iff : Kept s.pbusReset ↔ Kept s := by simp [State.pbusReset]

/-! ### Commands of the buses, the fuses and the Strongbox -/

@[simp] theorem kept_cmdPbusCfg_iff (k : Packet) : Kept (s.cmdPbusCfg k).1 ↔ Kept s := by
  unfold State.cmdPbusCfg
  split <;> simp

@[simp] theorem kept_cmdPbusXfer_iff (k : Packet) : Kept (s.cmdPbusXfer k).1 ↔ Kept s := by
  unfold State.cmdPbusXfer
  split <;> simp

@[simp] theorem kept_cmdPbusClear_iff (k : Packet) : Kept (s.cmdPbusClear k).1 ↔ Kept s := by
  unfold State.cmdPbusClear
  split <;> simp

@[simp] theorem kept_cmdFuseRead_iff (k : Packet) : Kept (s.cmdFuseRead k).1 ↔ Kept s := by simp [State.cmdFuseRead]

@[simp] theorem kept_fuseBegin_iff (s : State) (k : Packet) : Kept (s.fuseBegin k) ↔ Kept s :=
  kept_congr rfl rfl rfl rfl rfl rfl rfl rfl

@[simp] theorem kept_fuseNext_iff : ∀ (n : Nat) (s : State), Kept (State.fuseNext n s) ↔ Kept s
  | 0, _ => Iff.rfl
  | n + 1, s => by
    unfold State.fuseNext
    split
    · rfl
    · split
      · rfl
      · split
        · rfl
        · simp only [kept_ite_iff, kept_fuseBegin_iff, kept_fuseNext_iff n, kept_complete_iff, ite_self]
          exact kept_congr rfl rfl rfl rfl rfl rfl rfl rfl

@[simp] theorem kept_fuseGo_iff : Kept s.fuseGo ↔ Kept s := by simp [State.fuseGo]

@[simp] theorem kept_fuseWait_iff (s : State) (k : Packet) : Kept (s.fuseWait k) ↔ Kept s :=
  kept_congr rfl rfl rfl rfl rfl rfl rfl rfl

@[simp] theorem kept_fuseStart_iff (k : Packet) : Kept (s.fuseStart k).1 ↔ Kept s := by simp [State.fuseStart]
@[simp] theorem kept_cmdFuseProg_iff (k : Packet) : Kept (s.cmdFuseProg k).1 ↔ Kept s := by simp [State.cmdFuseProg]
@[simp] theorem kept_cmdFuseLock_iff (k : Packet) : Kept (s.cmdFuseLock k).1 ↔ Kept s := by simp [State.cmdFuseLock]
@[simp] theorem kept_cmdFuseSpare_iff (k : Packet) : Kept (s.cmdFuseSpare k).1 ↔ Kept s := by simp [State.cmdFuseSpare]

@[simp] theorem kept_fuseFailed (k : Packet) (phys : Nat) (mask : Word) {s : State} (hs : Kept s) :
    Kept (s.fuseFailed k phys mask) := by
  simp only [State.fuseFailed, kept_complete_iff, kept_postRec_iff, kept_fuseEvt_iff]
  exact { hs with failed := Mem.setWord_wf _ _ hs.failed }

/-- The end of a fuse command keeps what its own effect keeps. -/
@[simp] theorem kept_fuseEnd (op : Byte) (fail : Word) {f : State → Word → Packet → State}
    (hf : ∀ t w k, Kept t → Kept (f t w k)) {s : State} (hs : Kept s) : Kept (s.fuseEnd op fail f) := by
  unfold State.fuseEnd
  split
  · split
    · rw [kept_fuseGo_iff]
      exact kept_noRun (hf _ _ _ hs) none
    · exact hs
  · exact hs

@[simp] theorem kept_fuseOk_iff (k : Packet) : Kept (s.fuseOk k) ↔ Kept s := by simp [State.fuseOk]

@[simp] theorem kept_fuseWords (fl : Word) (k : Packet) (work : List (Nat × Word)) {s : State} (hs : Kept s) :
    Kept (s.fuseWords fl k work) := by
  have h := kept_progList fl work s hs
  unfold State.fuseWords
  split <;> rename_i e <;> rw [e] at h
  · simpa using h
  · exact kept_fuseFailed _ _ _ h

@[simp] theorem kept_fuseProgEnd {s : State} (fl : Word) (k : Packet) (hs : Kept s) : Kept (s.fuseProgEnd fl k) := by
  simp [State.fuseProgEnd, hs]

@[simp] theorem kept_fuseLockEnd (fl : Word) (k : Packet) {s : State} (hs : Kept s) : Kept (s.fuseLockEnd fl k) := by
  unfold State.fuseLockEnd
  split
  · exact kept_fuseWords _ _ _ hs
  · exact kept_complete hs _ _ _

@[simp] theorem kept_fuseSpareEnd {s : State} (fl : Word) (k : Packet) (hs : Kept s) : Kept (s.fuseSpareEnd fl k) := by
  simp [State.fuseSpareEnd, hs]

@[simp] theorem kept_cmdSboxRead_iff (k : Packet) : Kept (s.cmdSboxRead k).1 ↔ Kept s := by simp [State.cmdSboxRead]
@[simp] theorem kept_cmdSboxMark_iff (k : Packet) : Kept (s.cmdSboxMark k).1 ↔ Kept s := by simp [State.cmdSboxMark]

/-! ### Extended messages and EPR -/

@[simp] theorem kept_execGetSourceCap_iff (h : RxHdr) : OutKept (execGetSourceCap p h s) ↔ Kept s := by simp [execGetSourceCap]
@[simp] theorem kept_execGetSinkCap_iff (h : RxHdr) : OutKept (execGetSinkCap p h s) ↔ Kept s := by simp [execGetSinkCap]

@[simp] theorem kept_execSinkCapabilities_iff (h : RxHdr) (epr : Bool) (v : List Word) :
    OutKept (execSinkCapabilities p h epr v s) ↔ Kept s := by
  simp [execSinkCapabilities]

@[simp] theorem kept_onVdm_iff (h : RxHdr) (v : List Word) {f : State → Word → State} (hf : ∀ t x, Kept (f t x) ↔ Kept t) :
    Kept (s.onVdm p h v f) ↔ Kept s := by
  unfold State.onVdm
  split <;> simp [hf]

@[simp] theorem kept_serveVdm_iff (h : RxHdr) (v : List Word) {f : State → Word → State} (hf : ∀ t x, Kept (f t x) ↔ Kept t) :
    Kept (s.serveVdm p h v f) ↔ Kept s := by
  simp [State.serveVdm, hf]

@[simp] theorem kept_otherVdm_iff (w : Word) : Kept (s.otherVdm p w) ↔ Kept s := by simp [State.otherVdm]

@[simp] theorem kept_execUnsupportedMessage_iff (h : RxHdr) (k : StrayKind) :
    OutKept (execUnsupportedMessage p h k s) ↔ Kept s := by
  unfold execUnsupportedMessage
  split <;> simp

@[simp] theorem kept_execGetRevision_iff (h : RxHdr) : OutKept (execGetRevision p h s) ↔ Kept s := by simp [execGetRevision]

@[simp] theorem kept_execRevision_iff (h : RxHdr) (rmdo : Word) : OutKept (execRevision p h rmdo s) ↔ Kept s := by
  simp [execRevision]

@[simp] theorem kept_execGetStatus_iff (h : RxHdr) : OutKept (execGetStatus p h s) ↔ Kept s := by simp [execGetStatus]
@[simp] theorem kept_execGetPpsStatus_iff (h : RxHdr) : OutKept (execGetPpsStatus p h s) ↔ Kept s := by simp [execGetPpsStatus]

@[simp] theorem kept_execGetSourceInfo_iff (h : RxHdr) : OutKept (execGetSourceInfo p h s) ↔ Kept s := by
  simp [execGetSourceInfo]

@[simp] theorem kept_execGetSourceCapExtended_iff (h : RxHdr) : OutKept (execGetSourceCapExtended p h s) ↔ Kept s := by
  simp [execGetSourceCapExtended]

@[simp] theorem kept_execGetSinkCapExtended_iff (h : RxHdr) : OutKept (execGetSinkCapExtended p h s) ↔ Kept s := by
  simp [execGetSinkCapExtended]

@[simp] theorem kept_execGetManufacturerInfo_iff (h : RxHdr) : OutKept (execGetManufacturerInfo p h s) ↔ Kept s := by
  simp [execGetManufacturerInfo]

@[simp] theorem kept_execExtendedAnswer_iff (h : RxHdr) (k : ExtKind) (d : List Byte) :
    OutKept (execExtendedAnswer p h k d s) ↔ Kept s := by
  unfold execExtendedAnswer
  split <;> simp

@[simp] theorem kept_noteBattery_iff (cap : Bool) (d : List Byte) : Kept (s.noteBattery p cap d) ↔ Kept s := by
  simp [State.noteBattery]

@[simp] theorem kept_execBatteryStatus_iff (h : RxHdr) (cap : Bool) (d : List Byte) :
    OutKept (execBatteryStatus p h cap d s) ↔ Kept s := by
  simp [execBatteryStatus]

@[simp] theorem kept_execAlert_iff (h : RxHdr) (ado : Word) : OutKept (execAlert p h ado s) ↔ Kept s := by simp [execAlert]
@[simp] theorem kept_execBist_iff (h : RxHdr) (bdo : Word) : OutKept (execBist p h bdo s) ↔ Kept s := by simp [execBist]

@[simp] theorem kept_execBistContModeExpiry_iff : OutKept (execBistContModeExpiry p s) ↔ Kept s := by
  simp [execBistContModeExpiry]

@[simp] theorem kept_execEprMode_iff (p : PortId) (h : RxHdr) (act data : Byte) (s : State) :
    OutKept (execEprMode p h act data s) ↔ Kept s := by
  refine kept_onMsg_iff s p h (fun s => ?_)
  dsimp only
  repeat' split
  all_goals simp

@[simp] theorem kept_sendEprInfo_iff : Kept (s.sendEprInfo p) ↔ Kept s := by simp [State.sendEprInfo]

@[simp] theorem kept_execEprGetSourceCap_iff (h : RxHdr) (sink : Bool) : OutKept (execEprGetSourceCap p h sink s) ↔ Kept s := by
  simp [execEprGetSourceCap]

@[simp] theorem kept_execEprKeepalive_iff (h : RxHdr) : OutKept (execEprKeepalive p h s) ↔ Kept s := by simp [execEprKeepalive]
@[simp] theorem kept_execSinkEprKeepalive_iff : OutKept (execSinkEprKeepalive p s) ↔ Kept s := by simp [execSinkEprKeepalive]

@[simp] theorem kept_execSourceEprKeepaliveTimeout_iff : OutKept (execSourceEprKeepaliveTimeout p s) ↔ Kept s := by
  simp [execSourceEprKeepaliveTimeout]

@[simp] theorem kept_execEnterEprTimeout_iff : OutKept (execEnterEprTimeout p s) ↔ Kept s := by simp [execEnterEprTimeout]

@[simp] theorem kept_serveChunk_iff (s : State) (p : PortId) (f : State → State) :
    Kept (s.serveChunk p f) ↔ if (s.port p).awaits .sop then Kept (f s) else Kept (s.serve p f) := by
  simp only [State.serveChunk, kept_ite_iff]

@[simp] theorem kept_execChunkRequest_iff (p : PortId) (h : RxHdr) (req : Bool) (num : Nat) (d : List Byte) (s : State) :
    OutKept (execChunkRequest p h req num d s) ↔ Kept s := by
  refine kept_onMsg_iff s p h (fun s => ?_)
  simp only [kept_only3_iff]
  repeat' split
  all_goals simp

@[simp] theorem kept_execChunkTimeout_iff : OutKept (execChunkTimeout p s) ↔ Kept s := by simp [execChunkTimeout]

/-! ### Alarms, Lantern's lines and KILL -/

@[simp] theorem kept_ltxSend_iff (l : List String) : Kept (s.ltxSend l) ↔ Kept s := by simp [State.ltxSend]

@[simp] theorem kept_watchNote_iff (s : State) : Kept s.watchNote ↔ Kept s := by
  unfold State.watchNote
  split
  · exact kept_congr rfl rfl rfl rfl rfl rfl (lantern_offers_stage _ _ _) rfl
  · rfl

@[simp] theorem kept_quiet_iff : Kept s.quiet ↔ Kept s := by simp [State.quiet]

@[simp] theorem kept_watched {f : State → State} (hf : ∀ t, Kept t → Kept (f t)) {s : State} (hs : Kept s) :
    Kept (State.watched f s) := by
  unfold State.watched
  split
  · simp [hf, hs]
  · exact hf s hs

@[simp] theorem kept_lanternLock_iff : Kept s.lanternLock ↔ Kept s := by simp [State.lanternLock]
@[simp] theorem kept_lanternHalt_iff : Kept s.lanternHalt ↔ Kept s := by simp [State.lanternHalt]
@[simp] theorem kept_zeroize_iff : Kept s.zeroize ↔ Kept s := by simp [State.zeroize]

@[simp] theorem kept_fuseKilled {s : State} (hs : Kept s) : Kept s.fuseKilled := by
  have h := kept_fuseStop hs
  unfold State.fuseKilled
  split
  · exact hs
  · rename_i r _
    dsimp only
    generalize s.fuseStop = t at h
    generalize (if r.pkt.opcode == 0x6A then (s.lockPlan r.pkt).1 else 0) = st
    repeat' split
    · exact kept_complete h _ _ _
    · exact kept_fuseFailed _ _ _ h
    · exact (kept_fuseOk_iff _ _).mpr h

@[simp] theorem kept_almRecord_iff (i : Nat) : Kept (s.almRecord i) ↔ Kept s := by simp [State.almRecord]
@[simp] theorem kept_alarmFire {s : State} (l : List Nat) (hs : Kept s) : Kept (s.alarmFire l) := by simp [State.alarmFire, hs]

@[simp] theorem kept_reread_iff (s : State) : Kept s.reread ↔ Kept s := by
  have done : ∀ (t : State) (l : List FuseDrift), Kept { t with fuse.reported := l, fuse.rerun := false } ↔ Kept t :=
    fun _ _ => kept_congr rfl rfl rfl rfl rfl rfl rfl rfl
  unfold State.reread
  rw [kept_count_iff]
  refine (done _ _).trans (kept_foldl_iff (fun t d => ?_) _ s)
  rw [kept_postRec_iff, kept_fuseEvt_iff]

@[simp] theorem kept_killProgram {s : State} (hs : Kept s) : Kept s.killProgram := by
  have done : ∀ t : State, Kept { t with alarm.killPend := false, fuse.killDone := true } ↔ Kept t :=
    fun _ => kept_congr rfl rfl rfl rfl rfl rfl rfl rfl
  have h := kept_progThrough_fst s.killWork hs
  unfold State.killProgram
  simp only [kept_fuseGo_iff, kept_ite_iff, kept_reread_iff, ite_self, kept_almEvt_iff]
  refine (done _).mpr ?_
  simpa using h

@[simp] theorem kept_vaultBoot_iff : Kept s.vaultBoot ↔ Kept s := by simp [State.vaultBoot]
@[simp] theorem kept_snapDone_iff (err : Bool) : Kept (s.snapDone err) ↔ Kept s := by simp [State.snapDone]

/-! ### Commands of the Vault, performance, trace, firmware and safety -/

@[simp] theorem kept_setSlot_iff (i : Nat) (k : KeySlot) : Kept (s.setSlot i k) ↔ Kept s := by simp [State.setSlot]
@[simp] theorem kept_cmdVaultCfg_iff (k : Packet) : Kept (s.cmdVaultCfg k).1 ↔ Kept s := by simp [State.cmdVaultCfg]

@[simp] theorem kept_cmdAlarmCfg_iff (k : Packet) : Kept (s.cmdAlarmCfg k).1 ↔ Kept s := by
  unfold State.cmdAlarmCfg
  split <;> simp

@[simp] theorem kept_authDenied {s : State} (hs : Kept s) : Kept s.authDenied := by simp [State.authDenied, hs]

@[simp] theorem kept_cmdLanternUnlock {s : State} (k : Packet) (hs : Kept s) : Kept (s.cmdLanternUnlock k).1 := by
  simp [State.cmdLanternUnlock, hs]

@[simp] theorem kept_cmdPerfCfg_iff (k : Packet) : Kept (s.cmdPerfCfg k).1 ↔ Kept s := by simp [State.cmdPerfCfg]
@[simp] theorem kept_cmdPerfFreeze_iff (k : Packet) : Kept (s.cmdPerfFreeze k).1 ↔ Kept s := by simp [State.cmdPerfFreeze]

@[simp] theorem kept_cmdTraceCfg_iff (k : Packet) : Kept (s.cmdTraceCfg k).1 ↔ Kept s := by
  unfold State.cmdTraceCfg
  split <;> simp

@[simp] theorem kept_cmdTraceRead_iff (k : Packet) : Kept (s.cmdTraceRead k).1 ↔ Kept s := by simp [State.cmdTraceRead]
@[simp] theorem kept_cmdFwStage_iff (k : Packet) : Kept (s.cmdFwStage k).1 ↔ Kept s := by simp [State.cmdFwStage]
@[simp] theorem kept_postFw_iff (ev : Byte) (prev new : Word) : Kept (s.postFw ev prev new) ↔ Kept s := by simp [State.postFw]
@[simp] theorem kept_cmdFwCommit_iff (k : Packet) : Kept (s.cmdFwCommit k).1 ↔ Kept s := by simp [State.cmdFwCommit]
@[simp] theorem kept_cmdFwStatus_iff (_k : Packet) : Kept (s.cmdFwStatus _k).1 ↔ Kept s := by simp [State.cmdFwStatus]

@[simp] theorem kept_cmdSelftest_iff (k : Packet) : Kept (s.cmdSelftest k).1 ↔ Kept s := by
  unfold State.cmdSelftest
  split <;> simp

theorem kept_safeCfgSet_iff {s t : State} {v : Byte} (h : s.safeCfgSet v = some t) : Kept t ↔ Kept s := by
  simp only [State.safeCfgSet] at h
  split at h
  · exact nomatch h
  · obtain rfl := Option.some.inj h
    simp

@[simp] theorem kept_cmdSafecfg_iff (s : State) (k : Packet) : Kept (s.cmdSafecfg k).1 ↔ Kept s := by
  unfold State.cmdSafecfg
  split
  · rfl
  · split
    · rfl
    · rename_i h
      simp [kept_safeCfgSet_iff h]

@[simp] theorem kept_testNoted_iff (t : Nat) (p : Option PortId) : Kept (s.testNoted t p) ↔ Kept s := by simp [State.testNoted]

@[simp] theorem kept_testFailed_iff (t : Nat) (p : Option PortId) : Kept (s.testFailed t p) ↔ Kept s := by
  unfold State.testFailed
  repeat' split
  all_goals simp

@[simp] theorem kept_testPassed_iff (t : Nat) : Kept (s.testPassed t) ↔ Kept s := by simp [State.testPassed]

/-! ### ABORT, the lanes and the interpreter's reset and return -/

@[simp] theorem kept_abortFlight_iff (k : Packet) {f : State → State} (hf : ∀ t, Kept (f t) ↔ Kept t) :
    Kept (s.abortFlight k f).1 ↔ Kept s := by
  simp [State.abortFlight, hf]

@[simp] theorem kept_abortLong_iff (k : Packet) : Kept (s.abortLong k).1 ↔ Kept s := by
  unfold State.abortLong
  dsimp only
  repeat' split
  all_goals simp

@[simp] theorem kept_freed_iff (k : Packet) : Kept (s.freed k) ↔ Kept s := by
  unfold State.freed
  repeat' split
  all_goals simp

@[simp] theorem kept_abortTag_iff (s : State) (own t : BitVec 6) (all : Bool) : Kept (s.abortTag own t all).1 ↔ Kept s := by
  unfold State.abortTag
  repeat' split
  all_goals simp

@[simp] theorem kept_cmdAbort_iff (s : State) (k : Packet) : Kept (s.cmdAbort k).1 ↔ Kept s := by
  unfold State.cmdAbort
  dsimp only
  repeat' split
  · simp
  · exact kept_foldl_fst_iff (fun a i => by simp) _ _
  · rfl

@[simp] theorem kept_onPort_iff {f : State → Packet → PortId → State × CmdRes} (hf : ∀ t k p, Kept (f t k p).1 ↔ Kept t)
    (s : State) (k : Packet) : Kept (s.onPort k f).1 ↔ Kept s := by
  unfold State.onPort
  split
  · exact hf _ _ _
  · rfl

@[simp] theorem kept_runBody {s : State} (k : Packet) (hs : Kept s) : Kept (s.runBody k).1 := by
  unfold State.runBody
  split <;> simp [hs]

@[simp] theorem kept_cutFlights_iff (s : State) (l : List Packet) : Kept (s.cutFlights l).1 ↔ Kept s := by
  refine kept_foldl_fst_iff (fun a k => ?_) _ _
  split <;> simp

theorem storesKept_noQueue {s : State} (hs : Kept s) : StoresKept { s.fuse with queue := [] } s.sbox s.lantern.stage :=
  ⟨hs.normal, hs.strict, hs.latched, hs.added, hs.failed, hs.mram, hs.stage, hs.queue⟩

@[simp] theorem kept_interpReset {s : State} (hs : Kept s) : Kept s.interpReset := by
  have hc := (kept_cutFlights_iff s (s.mb.flights.filter fun k => !k.outlives)).mpr hs
  unfold State.interpReset
  split
  · dsimp only
    generalize s.cutFlights _ = x at hc ⊢
    simp only [kept_count_iff, kept_mk, lantern_restart_stage, storesKept_iff, kept_foldl_iff kept_vdmGo_iff]
    refine storesKept_noQueue (kept_fuseStop ((kept_pbusReset_iff _).mpr (kept_recordCut ?_ false)))
    simpa using hc
  · exact hs

@[simp] theorem kept_interpFault {s : State} (cause bit addr : Nat) (hs : Kept s) : Kept (s.interpFault cause bit addr) := by
  simp [State.interpFault, hs]

@[simp] theorem kept_fwVerified {s : State} (hs : Kept s) : Kept s.fwVerified := by simp [State.fwVerified, hs]

@[simp] theorem kept_runLanes : ∀ (n : Nat) {s : State}, Kept s → Kept (State.runLanes n s)
  | 0, _, h => h
  | n + 1, s, h => by
    unfold State.runLanes
    split
    · split
      · exact h
      · dsimp only
        split
        · exact kept_runLanes n (by simpa using h)
        · exact kept_runLanes n (by simp [kept_ite_iff, h])
    · exact h

@[simp] theorem kept_drain {s : State} (hs : Kept s) : Kept s.drain := by simp [State.drain, hs]
@[simp] theorem kept_handOver {s : State} (k : Packet) (hs : Kept s) : Kept (s.handOver k) := by simp [State.handOver, hs]
@[simp] theorem kept_hostAck_iff (a : HostAddr) (masked : Bool) : Kept (s.hostAck a masked) ↔ Kept s := by simp [State.hostAck]
@[simp] theorem kept_hostNack_iff : Kept s.hostNack ↔ Kept s := by simp [State.hostNack]
@[simp] theorem kept_ackBytes_iff (n : Nat) : Kept (s.ackBytes n) ↔ Kept s := by simp [State.ackBytes]
@[simp] theorem kept_submit {s : State} (k : Packet) (hs : Kept s) : Kept (s.submit k) := by simp [State.submit, hs]

@[simp] theorem kept_fwComplete_iff (r : FwRun) : Kept (s.fwComplete r) ↔ Kept s := by
  unfold State.fwComplete
  split <;> simp

@[simp] theorem kept_interpReturn {s : State} (hs : Kept s) : Kept s.interpReturn := by simp [State.interpReturn, hs]

end

end Sys2Proof.Proofs
end

section
/-!
SUPPORT. What each command and event does to `Kept`, in the order of the definitions; with it O59 and O60 are settled.
-/
namespace Sys2Proof.Proofs

open Sys2Proof.Machine Sys2Proof.Safety Sys2Proof.Laws

section
variable (s : State) (p : PortId)

/-! ### Loss of supplies and clocks -/

@[simp] theorem kept_coreReset {s : State} (hs : Kept s) : Kept s.coreReset := by
  have h := kept_recordCut (kept_fuseCut hs) true
  exact ⟨h.normal, h.strict, h.latched, wf_nil, wf_nil, h.mram, wf_nil, Nat.zero_le _⟩

@[simp] theorem kept_aonReset_iff : Kept s.aonReset ↔ Kept s := by simp [State.aonReset]
@[simp] theorem kept_aonCheck_iff : Kept s.aonCheck ↔ Kept s := by simp [State.aonCheck]

@[simp] theorem kept_coreStart {s : State} (hs : Kept s) : Kept s.coreStart := by
  have h := kept_boot hs
  exact ⟨h.normal, h.strict, h.latched, h.added, h.failed, h.mram, h.stage, h.queue⟩

@[simp] theorem kept_sampleStraps_iff : Kept s.sampleStraps ↔ Kept s := by simp [State.sampleStraps]
@[simp] theorem kept_donorMoved_iff : Kept s.donorMoved ↔ Kept s := by simp [State.donorMoved]
@[simp] theorem kept_stsLfo_iff : Kept s.stsLfo ↔ Kept s := by simp [State.stsLfo]
@[simp] theorem kept_aonBack_iff (s t : State) : Kept (s.aonBack t) ↔ Kept t := by simp [State.aonBack]
@[simp] theorem kept_goOff {s : State} (hs : Kept s) : Kept s.goOff := by simp [State.goOff, hs]

@[simp] theorem kept_mainLost {s : State} (bit : Nat) (hi : Bool) (hs : Kept s) : Kept (s.mainLost bit hi) := by
  simp [State.mainLost, hs]

@[simp] theorem kept_setSupply_iff (v : SupSt) (a : Supply) : Kept (s.setSupply v a) ↔ Kept s := by
  unfold State.setSupply
  split <;> simp

@[simp] theorem kept_excursion {f : State → State} (hf : ∀ t, Kept t → Kept (f t)) (su : Supply) (bit : Nat) (hi : Bool)
    {s : State} (hs : Kept s) : Kept (s.excursion su bit hi f) := by
  simp [State.excursion, hf, hs]

@[simp] theorem kept_setVdrvWait_iff (v : Bool) (d : Die) : Kept (s.setVdrvWait v d) ↔ Kept s := by
  unfold State.setVdrvWait
  split <;> simp

@[simp] theorem kept_vdrvOut_iff (d : Die) : Kept (s.vdrvOut d) ↔ Kept s := by simp [State.vdrvOut]
@[simp] theorem kept_vdrvIn_iff (d : Die) : Kept (s.vdrvIn d) ↔ Kept s := by simp [State.vdrvIn]
@[simp] theorem kept_vconnIn_iff : Kept s.vconnIn ↔ Kept s := by simp [State.vconnIn]

@[simp] theorem kept_clockLost_iff (c : ClockId) (bit : Nat) {f : State → State} (hf : ∀ t, Kept (f t) ↔ Kept t) :
    Kept (s.clockLost c bit f) ↔ Kept s := by
  simp [State.clockLost, hf]

@[simp] theorem kept_stsDegraded_iff : Kept s.stsDegraded ↔ Kept s := by simp [State.stsDegraded]
@[simp] theorem kept_clocksFound_iff : Kept s.clocksFound ↔ Kept s := by simp [State.clocksFound]

/-! ### Type-C events -/

@[simp] theorem kept_tcGo_iff (st : TcState) : Kept (s.tcGo p st) ↔ Kept s := by simp [State.tcGo]
@[simp] theorem kept_backTo_iff (st : TcState) : Kept (s.backTo p st) ↔ Kept s := by simp [State.backTo]

@[simp] theorem kept_execTerminationSeen_iff (cc1 cc2 : CcTerm) : OutKept (execTerminationSeen p cc1 cc2 s) ↔ Kept s := by
  simp [execTerminationSeen]

@[simp] theorem kept_execDrpToggle_iff (p : PortId) (s : State) :
    OutKept (execDrpToggle p s) ↔ Kept s := by
  simp only [execDrpToggle, outKept_next, kept_when_iff]
  repeat' split
  all_goals simp

@[simp] theorem kept_accessory_iff (st : TcState) : Kept (s.accessory p st) ↔ Kept s := by simp [State.accessory]

@[simp] theorem kept_execSourceAttachDebounce_iff : OutKept (execSourceAttachDebounce p s) ↔ Kept s := by
  simp [execSourceAttachDebounce]

@[simp] theorem kept_sinkAttached_iff (st : TcState) (orient oriented : Bool) :
    Kept (s.sinkAttached p st orient oriented) ↔ Kept s := by
  simp [State.sinkAttached]

@[simp] theorem kept_sinkDebounced_iff : Kept (s.sinkDebounced p) ↔ Kept s := by
  unfold State.sinkDebounced
  dsimp only
  split <;> simp

@[simp] theorem kept_execSinkAttachDebounce_iff : OutKept (execSinkAttachDebounce p s) ↔ Kept s := by
  simp [execSinkAttachDebounce]

@[simp] theorem kept_execTryDebounceComplete_iff (p : PortId) (s : State) :
    OutKept (execTryDebounceComplete p s) ↔ Kept s := by
  simp only [execTryDebounceComplete, outKept_next, kept_when_iff]
  repeat' split
  all_goals simp

@[simp] theorem kept_execDrpTryExpiry_iff (p : PortId) (wait : Bool) (s : State) :
    OutKept (execDrpTryExpiry p wait s) ↔ Kept s := by
  simp only [execDrpTryExpiry, outKept_next, kept_when_iff]
  repeat' split
  all_goals simp

@[simp] theorem kept_execTryTimeout_iff : OutKept (execTryTimeout p s) ↔ Kept s := by simp [execTryTimeout]
@[simp] theorem kept_recovered_iff : Kept (s.recovered p) ↔ Kept s := by simp [State.recovered]
@[simp] theorem kept_execErrorRecoveryEnd_iff : OutKept (execErrorRecoveryEnd p s) ↔ Kept s := by simp [execErrorRecoveryEnd]

@[simp] theorem kept_execRpValueChange_iff (l : RpLvl) : OutKept (execRpValueChange p l s) ↔ Kept s := by
  simp [execRpValueChange]

@[simp] theorem kept_execVconnOvercurrent_iff : OutKept (execVconnOvercurrent p s) ↔ Kept s := by simp [execVconnOvercurrent]

@[simp] theorem kept_postTransitionDetach_iff (byVbus : Bool) (us : Nat) :
    Kept (s.postTransitionDetach p byVbus us) ↔ Kept s := by
  simp [State.postTransitionDetach]

@[simp] theorem kept_gotDetach_iff (byVbus : Bool) (us : Nat) : Kept (s.gotDetach p byVbus us) ↔ Kept s := by
  simp [State.gotDetach]

@[simp] theorem kept_execDboffChange_iff (high : Bool) : OutKept (execDboffChange high s) ↔ Kept s := by simp [execDboffChange]

/-! ### Ember start -/

@[simp] theorem kept_emberChoose_iff : Kept s.emberChoose ↔ Kept s := by
  unfold State.emberChoose
  split <;> simp

@[simp] theorem kept_emberBegin {s : State} (hs : Kept s) : Kept s.emberBegin := by simp [State.emberBegin, hs]
@[simp] theorem kept_execEmberStart {s : State} (hs : Kept s) : OutKept (execEmberStart s) := by simp [execEmberStart, hs]

@[simp] theorem kept_execEmberIsolationDwell_iff : OutKept (execEmberIsolationDwell s) ↔ Kept s := by
  unfold execEmberIsolationDwell
  split <;> simp

@[simp] theorem kept_execEmberVmainValid_iff : OutKept (execEmberVmainValid s) ↔ Kept s := by simp [execEmberVmainValid]

@[simp] theorem kept_emberAbandon {s : State} (c : EmberCause) (hs : Kept s) : Kept (s.emberAbandon c) := by
  unfold State.emberAbandon
  dsimp only
  repeat' split
  all_goals simp [hs]

@[simp] theorem kept_execEmberRetry {s : State} (hs : Kept s) : OutKept (execEmberRetry s) := by simp [execEmberRetry, hs]

@[simp] theorem kept_execStartInputsFall {s : State} (hs : Kept s) : OutKept (execStartInputsFall s) := by
  simp [execStartInputsFall, hs]

@[simp] theorem kept_execHfoLoss {s : State} (hs : Kept s) : OutKept (execHfoLoss s) := by
  simp [execHfoLoss, State.clockLost, kept_emberAbandon, hs]

@[simp] theorem kept_execReject {s : State} (h : RxHdr) (hs : Kept s) : OutKept (execReject p h s) := by simp [execReject, hs]
@[simp] theorem kept_execHardReset {s : State} (hs : Kept s) : OutKept (execHardReset p s) := by simp [execHardReset, hs]

@[simp] theorem kept_execDetach {s : State} (byVbus : Bool) (us : Nat) (hs : Kept s) : OutKept (execDetach p byVbus us s) := by
  simp [execDetach, hs]

@[simp] theorem kept_execSenderResponseTimeout {s : State} (hs : Kept s) : OutKept (execSenderResponseTimeout p s) := by
  simp [execSenderResponseTimeout, hs]

@[simp] theorem kept_execPsTransitionTimeout {s : State} (hs : Kept s) : OutKept (execPsTransitionTimeout p s) := by
  simp [execPsTransitionTimeout, hs]

/-! ### Boot -/

@[simp] theorem kept_bootStart {s : State} (e : BootEnv) (hs : Kept s) : Kept (s.bootStart e) := by simp [State.bootStart, hs]
@[simp] theorem kept_bootPort_iff : Kept (s.bootPort p) ↔ Kept s := by simp [State.bootPort]
@[simp] theorem kept_bootFault_iff (f : BaseFault) : Kept (s.bootFault f) ↔ Kept s := by simp [State.bootFault]
@[simp] theorem kept_bootPorts {s : State} (e : BootEnv) (hs : Kept s) : Kept (s.bootPorts e) := by simp [State.bootPorts, hs]

@[simp] theorem kept_loadEntry {s : State} (e : Saved) (hs : Kept s) : Kept (s.loadEntry e) := by
  unfold State.loadEntry
  repeat' split
  all_goals simp [hs]

@[simp] theorem kept_loadConfig {s : State} (hs : Kept s) : Kept s.loadConfig := by
  refine kept_foldl (fun t op ht => kept_foldl (fun u e hu => ?_) _ _ ht) _ _ (by simpa using hs)
  split
  · exact kept_loadEntry e hu
  · exact hu

@[simp] theorem kept_bootPatch_iff : Kept s.bootPatch ↔ Kept s := by simp [State.bootPatch]
@[simp] theorem kept_bootInterp {s : State} (hs : Kept s) : Kept s.bootInterp := by simp [State.bootInterp, hs]
@[simp] theorem kept_postBoot_iff : Kept s.postBoot ↔ Kept s := by simp [State.postBoot]
@[simp] theorem kept_postFuseBoot_iff : Kept s.postFuseBoot ↔ Kept s := by simp [State.postFuseBoot]

@[simp] theorem kept_postLatched_iff : Kept s.postLatched ↔ Kept s := by
  unfold State.postLatched
  dsimp only
  split <;> simp

@[simp] theorem kept_postEmber_iff : Kept s.postEmber ↔ Kept s := by
  unfold State.postEmber
  split <;> simp

theorem advance_same : ∀ (n : Nat) (b : Sbox), (Sbox.advance n b).mram = b.mram ∧ (Sbox.advance n b).queue = b.queue
  | 0, _ => ⟨rfl, rfl⟩
  | n + 1, b => by
    unfold Sbox.advance
    split
    · exact advance_same n _
    · split
      · exact advance_same n _
      · exact ⟨rfl, rfl⟩

theorem scan_same (b : Sbox) : b.scan.mram = b.mram ∧ b.scan.queue = b.queue := by
  unfold Sbox.scan
  split
  · exact ⟨rfl, rfl⟩
  · exact advance_same _ _

@[simp] theorem kept_sboxBoot_iff (s : State) : Kept s.sboxBoot ↔ Kept s :=
  kept_congr rfl rfl rfl rfl rfl (scan_same s.sbox).1 rfl (scan_same s.sbox).2

@[simp] theorem kept_bootFull_iff : Kept s.bootFull ↔ Kept s := by simp [State.bootFull]

@[simp] theorem kept_execColdBoot (e : BootEnv) {s : State} (hs : Kept s) : OutKept (execColdBoot e s) := by
  refine kept_when hs ?_
  extract_lets t u v
  have ht : Kept t := kept_ite (kept_bootStart e hs) hs
  have hu : Kept u := kept_ite (kept_bootPorts e ht) ht
  have hv : Kept v := kept_ite (kept_bootInterp hu) hu
  exact kept_ite ((kept_bootFull_iff _).mpr hv) hv

/-! ### Completions -/

@[simp] theorem kept_nextPart_iff (t : BitVec 6) : Kept (s.nextPart t) ↔ Kept s := by
  unfold State.nextPart
  split <;> simp

@[simp] theorem kept_execReplyPart_iff (tag : BitVec 6) : OutKept (execReplyPart tag s) ↔ Kept s := by simp [execReplyPart]

@[simp] theorem kept_portResetComplete_iff : Kept (s.portResetComplete p) ↔ Kept s := by
  unfold State.portResetComplete
  dsimp only
  repeat' split
  all_goals simp

@[simp] theorem kept_execPbusXferComplete_iff (b : BusId) (r : Byte) (wack : Nat) (rd : List Byte) :
    OutKept (execPbusXferComplete b r wack rd s) ↔ Kept s := by
  unfold execPbusXferComplete
  split <;> simp

@[simp] theorem kept_execBusClearComplete_iff (b : BusId) (ok : Bool) : OutKept (execBusClearComplete b ok s) ↔ Kept s := by
  unfold execBusClearComplete
  dsimp only
  repeat' split
  all_goals simp

@[simp] theorem kept_execPbusStuck_iff (b : BusId) : OutKept (execPbusStuck b s) ↔ Kept s := by
  unfold execPbusStuck
  split <;> simp

@[simp] theorem kept_execFuseProgComplete (fail : Word) {s : State} (hs : Kept s) : OutKept (execFuseProgComplete fail s) :=
  kept_fuseEnd _ fail (fun _ fl k h => kept_fuseProgEnd fl k h) hs

@[simp] theorem kept_execFuseLockComplete (fail : Word) {s : State} (hs : Kept s) : OutKept (execFuseLockComplete fail s) :=
  kept_fuseEnd _ fail (fun _ fl k h => kept_fuseLockEnd fl k h) hs

@[simp] theorem kept_execFuseSpareComplete (fail : Word) {s : State} (hs : Kept s) : OutKept (execFuseSpareComplete fail s) :=
  kept_fuseEnd _ fail (fun _ fl k h => kept_fuseSpareEnd fl k h) hs

@[simp] theorem kept_execFwCommitComplete_iff : OutKept (execFwCommitComplete s) ↔ Kept s := by
  unfold execFwCommitComplete
  repeat' split
  all_goals simp

@[simp] theorem kept_selfTestFailed_iff (t : Nat) (ports : List PortId) : Kept (s.selfTestFailed t ports) ↔ Kept s := by
  simp [State.selfTestFailed]

@[simp] theorem kept_execSelftestComplete_iff (x : SelfTestEnd) : OutKept (execSelftestComplete x s) ↔ Kept s := by
  unfold execSelftestComplete
  split <;> simp

/-! ### Faults and self-tests -/

@[simp] theorem kept_execPairMismatch_iff : OutKept (execPairMismatch p s) ↔ Kept s := by simp [execPairMismatch]
@[simp] theorem kept_execPairOutOfReset_iff : OutKept (execPairOutOfReset p s) ↔ Kept s := by simp [execPairOutOfReset]

@[simp] theorem kept_execDoubleBitError {s : State} (w : EccSite) (addr : Word) (hs : Kept s) :
    OutKept (execDoubleBitError w addr s) := by
  unfold execDoubleBitError
  split <;> simp [hs]

@[simp] theorem kept_execSingleBitError_iff (_addr : Word) : OutKept (execSingleBitError _addr s) ↔ Kept s := by
  simp [execSingleBitError]

@[simp] theorem kept_execPeriodicSelfTest_iff (t : Fin 7) (fail : Bool) :
    OutKept (execPeriodicSelfTest t p fail s) ↔ Kept s := by
  simp [execPeriodicSelfTest]

@[simp] theorem kept_execSelfTestRepeat_iff (t : Fin 7) (fail : Bool) : OutKept (execSelfTestRepeat t fail s) ↔ Kept s := by
  simp [execSelfTestRepeat]

@[simp] theorem kept_repost_iff : Kept (s.repost p) ↔ Kept s := by simp [State.repost]

@[simp] theorem kept_execFreezeRecoveryTest_iff (pass agree : Bool) :
    OutKept (execFreezeRecoveryTest pass agree s) ↔ Kept s := by
  simp [execFreezeRecoveryTest]

/-! ### Fuse events and record writing -/

@[simp] theorem kept_execFuseRereadPass (drift : List FuseDrift) {s : State} (hs : Kept s) :
    OutKept (execFuseRereadPass drift s) := by
  refine kept_when hs ?_
  extract_lets t
  have ht : Kept t := by
    refine kept_foldl (fun u d hu => ?_) drift s hs
    split
    · exact { hu with normal := Mem.setWord_wf _ _ hu.normal, strict := Mem.setWord_wf _ _ hu.strict }
    · exact hu
  split
  · exact ⟨ht.normal, ht.strict, ht.latched, ht.added, ht.failed, ht.mram, ht.stage, ht.queue⟩
  · exact (kept_reread_iff _).mpr ht

@[simp] theorem kept_execKillProgrammingComplete {s : State} (hs : Kept s) : OutKept (execKillProgrammingComplete s) := by
  simp [execKillProgrammingComplete, hs]

theorem head_kept {b c : Sbox} {sts : BitVec 48} {r : Rec} (h : b.head sts = some (r, c)) :
    c.mram = b.mram ∧ c.queue.length ≤ b.queue.length := by
  unfold Sbox.head at h
  split at h
  · obtain ⟨-, rfl⟩ := Prod.mk.inj (Option.some.inj h)
    exact ⟨rfl, le_rfl⟩
  · split at h
    · rename_i q e
      obtain ⟨-, rfl⟩ := Prod.mk.inj (Option.some.inj h)
      exact ⟨rfl, by simp [e]⟩
    · exact nomatch h

@[simp] theorem kept_execRecordWrite (fails : Nat) {s : State} (hs : Kept s) : OutKept (execRecordWrite fails s) := by
  rw [execRecordWrite, outKept_next, kept_when_iff]
  split
  · split
    · rename_i r b e
      obtain ⟨hm, hq⟩ := head_kept e
      obtain ⟨wm, wq⟩ := write_kept b r fails (by rw [hm]; exact hs.mram)
      simp only [kept_count_iff]
      exact { hs with mram := wm, queue := by rw [wq]; exact hq.trans hs.queue }
    · exact hs
  · exact hs

/-! ### Lantern -/

@[simp] theorem kept_execPerfCounterWrap_iff (b : Fin 38) (c : Fin 4) : OutKept (execPerfCounterWrap b c s) ↔ Kept s := by
  unfold execPerfCounterWrap
  dsimp only
  split <;> simp

@[simp] theorem kept_say_iff (l : List String) (e : String) : Kept (s.say l e) ↔ Kept s := by simp [State.say]

@[simp] theorem kept_lockedLine {s : State} (empty : Bool) (hs : Kept s) : Kept (s.lockedLine empty) := by
  simp [State.lockedLine, hs]

@[simp] theorem kept_execLanternLockedLine {s : State} (line : List Byte) (hs : Kept s) :
    OutKept (execLanternLockedLine line s) := by
  simp [execLanternLockedLine, hs]

@[simp] theorem kept_lanternVer_iff : Kept s.lanternVer ↔ Kept s := by simp [State.lanternVer]
@[simp] theorem kept_lanternBaud_iff (rate : Nat) : Kept (State.lanternBaud rate s) ↔ Kept s := by simp [State.lanternBaud]

@[simp] theorem kept_lanternPort_iff (n : Nat) : Kept (State.lanternPort n s) ↔ Kept s := by
  unfold State.lanternPort
  split <;> simp

@[simp] theorem kept_lanternLedger_iff : Kept s.lanternLedger ↔ Kept s := by simp [State.lanternLedger]
@[simp] theorem kept_lanternRing_iff : Kept s.lanternRing ↔ Kept s := by simp [State.lanternRing]
@[simp] theorem kept_lanternPerf_iff (b : Nat) : Kept (State.lanternPerf b s) ↔ Kept s := by simp [State.lanternPerf]

@[simp] theorem kept_lanternSbox_iff (sq count : Nat) : Kept (State.lanternSbox sq count s) ↔ Kept s := by
  simp [State.lanternSbox]

@[simp] theorem kept_lanternFuse_iff (region : Nat) : Kept (State.lanternFuse region s) ↔ Kept s := by simp [State.lanternFuse]

@[simp] theorem kept_lanternTrace_iff (first count : Nat) : Kept (State.lanternTrace first count s) ↔ Kept s := by
  simp [State.lanternTrace]

@[simp] theorem kept_lanternWatch_iff (on : Bool) : Kept (State.lanternWatch on s) ↔ Kept s := by simp [State.lanternWatch]

@[simp] theorem kept_chain (off : Nat) (bytes : List Byte) {s : State} (hs : Kept s) : Kept (State.chain off bytes s) := by
  unfold State.chain
  repeat' split
  · simpa using hs
  · simpa using hs
  · rw [kept_say_iff]
    exact { hs with stage := Mem.writeBytes_wf _ _ hs.stage }

@[simp] theorem kept_chainEnd_iff (len : Nat) : Kept (State.chainEnd len s) ↔ Kept s := by simp [State.chainEnd]

@[simp] theorem kept_keygenRun (fail : Bool) {s : State} (hs : Kept s) : Kept (s.keygenRun fail) := by
  simp [State.keygenRun, hs]

@[simp] theorem kept_keygen {s : State} (fail : Bool) (hs : Kept s) : Kept (State.keygen fail s) := by simp [State.keygen, hs]

@[simp] theorem kept_lanternDo {s : State} (a : LanternCmd) (hs : Kept s) : Kept (s.lanternDo a) := by
  unfold State.lanternDo
  split <;> simp [hs]

@[simp] theorem kept_lanternTurn {s : State} (i : LanternCmd) (hs : Kept s) : Kept (s.lanternTurn i) := by
  simp [State.lanternTurn, hs]

@[simp] theorem kept_lanternLine {s : State} (i : LanternCmd) (long : Bool) (hs : Kept s) : Kept (s.lanternLine i long) := by
  simp [State.lanternLine, hs]

@[simp] theorem kept_keygenUs {s : State} (hs : Kept s) : Kept s.keygenUs := by
  unfold State.keygenUs
  split <;> simp [hs]

@[simp] theorem kept_waitUs {s : State} (hs : Kept s) : Kept s.waitUs := by
  unfold State.waitUs
  split <;> simp [hs]

@[simp] theorem kept_lanternUs {s : State} (hs : Kept s) : Kept s.lanternUs := by simp [State.lanternUs, hs]

@[simp] theorem kept_execLanternBadLine {s : State} (line : List Byte) (hs : Kept s) : OutKept (execLanternBadLine line s) := by
  simp [execLanternBadLine, hs]

/-! ### The power path, the converter and the house bus -/

@[simp] theorem kept_switchClosed_iff (ma : Int) : Kept (s.switchClosed p ma) ↔ Kept s := by simp [State.switchClosed]

@[simp] theorem kept_execSoftstartComplete_iff (r : RampRun) (s : State) : OutKept (execSoftstartComplete r s) ↔ Kept s := by
  simp only [execSoftstartComplete, outKept_next, kept_when_iff]
  repeat' split
  all_goals simp

@[simp] theorem kept_execSoftstartFail_iff (ma : Int) : OutKept (execSoftstartFail p ma s) ↔ Kept s := by
  simp [execSoftstartFail]

@[simp] theorem kept_protect_iff (x : ProtSample) (bit : Nat) : Kept (s.protect p x bit) ↔ Kept s := by simp [State.protect]
@[simp] theorem kept_setTherm_iff (l : BitVec 2) : Kept (s.setTherm p l) ↔ Kept s := by simp [State.setTherm]

@[simp] theorem kept_execThermalShutdown_iff (temp : Int) (x : PathReading) :
    OutKept (execThermalShutdown p temp x s) ↔ Kept s := by
  simp [execThermalShutdown]

@[simp] theorem kept_retryClose_iff : Kept (s.retryClose p) ↔ Kept s := by simp [State.retryClose]

@[simp] theorem kept_execThermalLevelChange_iff (t : Int) : OutKept (execThermalLevelChange p t s) ↔ Kept s := by
  simp [execThermalLevelChange]

@[simp] theorem kept_execProtectiveReclose_iff : OutKept (execProtectiveReclose p s) ↔ Kept s := by simp [execProtectiveReclose]
@[simp] theorem kept_execTripcntReset_iff : OutKept (execTripcntReset p s) ↔ Kept s := by simp [execTripcntReset]
@[simp] theorem kept_execHoldoffEnd_iff : OutKept (execHoldoffEnd p s) ↔ Kept s := by simp [execHoldoffEnd]

@[simp] theorem kept_execMonitorDisagreement_iff : OutKept (execMonitorDisagreement p s) ↔ Kept s := by
  simp [execMonitorDisagreement]

@[simp] theorem kept_execTripWireFault_iff : OutKept (execTripWireFault p s) ↔ Kept s := by simp [execTripWireFault]

@[simp] theorem kept_execDischargeComplete_iff (mv : Nat) : OutKept (execDischargeComplete p mv s) ↔ Kept s := by
  simp [execDischargeComplete]

@[simp] theorem kept_execDischargeTimeout_iff : OutKept (execDischargeTimeout p s) ↔ Kept s := by simp [execDischargeTimeout]
@[simp] theorem kept_execHeldEnable_iff : OutKept (execHeldEnable p s) ↔ Kept s := by simp [execHeldEnable]

@[simp] theorem kept_execCellAudit_iff (r : AuditRes) : OutKept (execCellAudit p r s) ↔ Kept s := by
  unfold execCellAudit
  split <;> simp

@[simp] theorem kept_execHeartbeatLoss_iff (d : Die) : OutKept (execHeartbeatLoss d s) ↔ Kept s := by
  unfold execHeartbeatLoss
  split <;> simp

@[simp] theorem kept_execLinkHealthy_iff (d : Die) : OutKept (execLinkHealthy d s) ↔ Kept s := by
  unfold execLinkHealthy
  split <;> simp

@[simp] theorem kept_execVbusLevelChange_iff (mv : Nat) : OutKept (execVbusLevelChange p mv s) ↔ Kept s := by
  simp [execVbusLevelChange]

@[simp] theorem kept_execAtTarget_iff (a : AtTarget) : OutKept (execAtTarget a s) ↔ Kept s := by simp [execAtTarget]
@[simp] theorem kept_execIlimhit_iff (on : Bool) : OutKept (execIlimhit p on s) ↔ Kept s := by simp [execIlimhit]
@[simp] theorem kept_execPklim_iff : OutKept (execPklim p s) ↔ Kept s := by simp [execPklim]
@[simp] theorem kept_execSyncLock_iff : OutKept (execSyncLock p s) ↔ Kept s := by simp [execSyncLock]
@[simp] theorem kept_execSynclost_iff : OutKept (execSynclost p s) ↔ Kept s := by simp [execSynclost]

@[simp] theorem kept_execPrailRecoveryComplete_iff : OutKept (execPrailRecoveryComplete p s) ↔ Kept s := by
  simp [execPrailRecoveryComplete]

@[simp] theorem kept_execFormingDwell_iff : OutKept (execFormingDwell p s) ↔ Kept s := by simp [execFormingDwell]
@[simp] theorem kept_execFormfail_iff : OutKept (execFormfail p s) ↔ Kept s := by simp [execFormfail]
@[simp] theorem kept_execJoinRelease_iff : OutKept (execJoinRelease s) ↔ Kept s := by simp [execJoinRelease]

/-! ### Ridgeline events -/

@[simp] theorem kept_execRingSlot_iff : OutKept (execRingSlot s) ↔ Kept s := by simp [execRingSlot]
@[simp] theorem kept_execMasterCycleStart_iff : OutKept (execMasterCycleStart s) ↔ Kept s := by simp [execMasterCycleStart]
@[simp] theorem kept_execOfferTakeback_iff (n : Node) : OutKept (execOfferTakeback n s) ↔ Kept s := by simp [execOfferTakeback]
@[simp] theorem kept_execLoanWithdraw_iff (n : Node) : OutKept (execLoanWithdraw n s) ↔ Kept s := by simp [execLoanWithdraw]
@[simp] theorem kept_execCycleOverrun_iff : OutKept (execCycleOverrun s) ↔ Kept s := by simp [execCycleOverrun]

@[simp] theorem kept_execEchoRequest_iff (n : Node) (sq : Byte) : OutKept (execEchoRequest n sq s) ↔ Kept s := by
  simp [execEchoRequest]

@[simp] theorem kept_execEchoReply_iff (n : Node) (rtt : Nat) : OutKept (execEchoReply n rtt s) ↔ Kept s := by
  simp [execEchoReply]

@[simp] theorem kept_execLinkStatus_iff (_n : Node) (_sq : Byte) : OutKept (execLinkStatus _n _sq s) ↔ Kept s := by
  simp [execLinkStatus]

@[simp] theorem kept_execSyncAcquired_iff (east : Bool) : OutKept (execSyncAcquired east s) ↔ Kept s := by
  simp [execSyncAcquired]

@[simp] theorem kept_execSyncLoss_iff (east : Bool) : OutKept (execSyncLoss east s) ↔ Kept s := by simp [execSyncLoss]
@[simp] theorem kept_execRingJoin_iff : OutKept (execRingJoin s) ↔ Kept s := by simp [execRingJoin]
@[simp] theorem kept_execMasterOfRingOfOne_iff : OutKept (execMasterOfRingOfOne s) ↔ Kept s := by simp [execMasterOfRingOfOne]
@[simp] theorem kept_execNodelost_iff (n : Node) : OutKept (execNodelost n s) ↔ Kept s := by simp [execNodelost]
@[simp] theorem kept_execRingdown_iff (noCycle : Bool) : OutKept (execRingdown noCycle s) ↔ Kept s := by simp [execRingdown]

@[simp] theorem kept_execLowerMasterCycle_iff (n : Node) : OutKept (execLowerMasterCycle n s) ↔ Kept s := by
  simp [execLowerMasterCycle]

/-! ### Host transactions -/

@[simp] theorem kept_winBytes_iff (bytes : List Byte) (fin : HostEnd) : Kept (s.winBytes bytes fin) ↔ Kept s := by
  simp [State.winBytes]

@[simp] theorem kept_winRead_iff (role n : Nat) : Kept (s.winRead role n) ↔ Kept s := by simp [State.winRead]
@[simp] theorem kept_discard_iff : Kept s.discard ↔ Kept s := by simp [State.discard]

@[simp] theorem kept_mbBytes {s : State} (a : HostAddr) (masked : Bool) (bytes : List Byte) (fin : HostEnd) (hs : Kept s) :
    Kept (s.mbBytes a masked bytes fin) := by
  simp [State.mbBytes, hs]

@[simp] theorem kept_replyOut {s : State} (hs : Kept s) : Kept s.replyOut := by
  unfold State.replyOut
  split <;> simp [hs]

@[simp] theorem kept_mbRead {s : State} (n : Nat) (fin : HostEnd) (hs : Kept s) : Kept (s.mbRead n fin) := by
  simp [State.mbRead, hs]

@[simp] theorem kept_gaBytes_iff (codes : List Byte) (fin : HostEnd) : Kept (s.gaBytes codes fin) ↔ Kept s := by
  simp [State.gaBytes]

@[simp] theorem kept_txWrite {s : State} (a : HostAddr) (bytes : List Byte) (fin : HostEnd) (hs : Kept s) :
    Kept (s.txWrite a bytes fin) := by
  unfold State.txWrite
  split <;> simp [hs]

@[simp] theorem kept_txRead (a : HostAddr) (n : Nat) (fin : HostEnd) {s : State} (hs : Kept s) : Kept (s.txRead a n fin) := by
  unfold State.txRead
  split
  · exact kept_watched (fun t h => by simpa using h) hs
  · exact kept_watched (fun t h => kept_mbRead n fin (by simpa using h)) hs
  · simpa using hs

@[simp] theorem kept_regRead (a : HostAddr) (r : CorReg) {s : State} (hs : Kept s) : Kept (s.regRead a r) :=
  kept_txRead _ _ _ (kept_txWrite _ _ _ (kept_txWrite _ _ _ hs))

@[simp] theorem kept_execHaddrWrite {s : State} (a : HostAddr) (r : HaddrReg) (v : Byte) (hs : Kept s) :
    OutKept (execHaddrWrite a r v s) := by
  simp [execHaddrWrite, hs]

@[simp] theorem kept_transact {s : State} (fin : HostEnd) (a : HostXfer) (hs : Kept s) : Kept (s.transact fin a) := by
  unfold State.transact
  split <;> simp [hs]

@[simp] theorem kept_execByteAbandon {s : State} (x : HostXfer) (hs : Kept s) : OutKept (execByteAbandon x s) := by
  simp [execByteAbandon, hs]

@[simp] theorem kept_execSclhLowTimeout {s : State} (x : HostXfer) (hs : Kept s) : OutKept (execSclhLowTimeout x s) := by
  simp [execSclhLowTimeout, hs]

/-! ### Supply and clock events -/

@[simp] theorem kept_execResetNLow {s : State} (hs : Kept s) : OutKept (execResetNLow s) := by simp [execResetNLow, hs]
@[simp] theorem kept_execDozeEntry_iff : OutKept (execDozeEntry s) ↔ Kept s := by simp [execDozeEntry]
@[simp] theorem kept_execSleepEntry_iff : OutKept (execSleepEntry s) ↔ Kept s := by simp [execSleepEntry]

@[simp] theorem kept_execSleepWake_iff (w : WakeSrc) : OutKept (execSleepWake w s) ↔ Kept s := by
  unfold execSleepWake
  split <;> simp

@[simp] theorem kept_execVioModeSelect_iff (mv : Nat) : OutKept (execVioModeSelect mv s) ↔ Kept s := by simp [execVioModeSelect]

@[simp] theorem kept_execVmainExcursion {s : State} (hi : Bool) (hs : Kept s) : OutKept (execVmainExcursion hi s) := by
  simp [execVmainExcursion, hs]

@[simp] theorem kept_execVdrvExcursion {s : State} (d : Die) (hi : Bool) (hs : Kept s) :
    OutKept (execVdrvExcursion d hi s) := by
  simp [execVdrvExcursion, hs]

@[simp] theorem kept_execVdrvReturn_iff (d : Die) : OutKept (execVdrvReturn d s) ↔ Kept s := by simp [execVdrvReturn]

@[simp] theorem kept_execVioExcursion {s : State} (v : SupplyLevel) (hs : Kept s) : OutKept (execVioExcursion v s) := by
  unfold execVioExcursion
  split <;> simp [hs]

@[simp] theorem kept_execVconninExcursion {s : State} (hi : Bool) (hs : Kept s) : OutKept (execVconninExcursion hi s) := by
  simp [execVconninExcursion, hs]

@[simp] theorem kept_execVhbExcursion {s : State} (hi : Bool) (mv : Nat) (hs : Kept s) :
    OutKept (execVhbExcursion hi mv s) := by
  simp [execVhbExcursion, hs]

@[simp] theorem kept_execVhbReturn_iff (mv : Nat) : OutKept (execVhbReturn mv s) ↔ Kept s := by simp [execVhbReturn]
@[simp] theorem kept_execRidefail_iff : OutKept (execRidefail s) ↔ Kept s := by simp [execRidefail]
@[simp] theorem kept_execReverseRestart_iff : OutKept (execReverseRestart s) ↔ Kept s := by simp [execReverseRestart]

@[simp] theorem kept_execVbatExcursion {s : State} (hi : Bool) (hs : Kept s) : OutKept (execVbatExcursion hi s) := by
  simp [execVbatExcursion, hs]

@[simp] theorem kept_pulseStop_iff (s : State) (bit : Fin 32) (ok : Bool) : Kept (s.pulseStop bit ok) ↔ Kept s :=
  kept_congr rfl rfl rfl rfl rfl rfl rfl rfl

@[simp] theorem kept_pulseOn_iff (s : State) : Kept s.pulseOn ↔ Kept s := by
  unfold State.pulseOn
  split
  · split
    · rfl
    · exact kept_congr rfl rfl rfl rfl rfl rfl rfl rfl
  · rfl

@[simp] theorem kept_execVppExcursion {s : State} (v : VppCut) (hs : Kept s) : OutKept (execVppExcursion v s) := by
  simp [execVppExcursion, hs]

@[simp] theorem kept_execVdintExcursion {s : State} (core hi : Bool) (hs : Kept s) :
    OutKept (execVdintExcursion core hi s) := by
  simp [execVdintExcursion, hs]

@[simp] theorem kept_execSupplyBackInRange_iff (su : Supply) : OutKept (execSupplyBackInRange su s) ↔ Kept s := by
  unfold execSupplyBackInRange
  split <;> simp

@[simp] theorem kept_execLfoCrystalLoss_iff : OutKept (execLfoCrystalLoss s) ↔ Kept s := by simp [execLfoCrystalLoss]
@[simp] theorem kept_execRefclkLoss_iff : OutKept (execRefclkLoss s) ↔ Kept s := by simp [execRefclkLoss]
@[simp] theorem kept_execPllLockLoss_iff : OutKept (execPllLockLoss s) ↔ Kept s := by simp [execPllLockLoss]

@[simp] theorem kept_execClockReturn_iff (c : ClockId) : OutKept (execClockReturn c s) ↔ Kept s := by
  unfold execClockReturn
  split <;> simp

/-! ### Swap events -/

@[simp] theorem kept_execPrSwap_iff (h : RxHdr) : OutKept (execPrSwap p h s) ↔ Kept s := by simp [execPrSwap]
@[simp] theorem kept_execSwapPsRdyTimeout_iff : OutKept (execSwapPsRdyTimeout p s) ↔ Kept s := by simp [execSwapPsRdyTimeout]
@[simp] theorem kept_execDrSwap_iff (h : RxHdr) : OutKept (execDrSwap p h s) ↔ Kept s := by simp [execDrSwap]

@[simp] theorem kept_serveVconn_iff (s : State) (p : PortId) (f : State → State) :
    Kept (s.serveVconn p f) ↔
      if (s.port p).pdSnk && (s.port p).pd.ams == .eprEntry then Kept (f s) else Kept (s.serve p f) := by
  simp only [State.serveVconn, kept_ite_iff]

@[simp] theorem kept_execVconnSwap_iff (h : RxHdr) : OutKept (execVconnSwap p h s) ↔ Kept s := by simp [execVconnSwap]

@[simp] theorem kept_execVconnSourceTimeout_iff : OutKept (execVconnSourceTimeout p s) ↔ Kept s := by
  simp [execVconnSourceTimeout]

@[simp] theorem kept_execFrSwap_iff (h : RxHdr) : OutKept (execFrSwap p h s) ↔ Kept s := by simp [execFrSwap]
@[simp] theorem kept_frForward_iff : Kept (s.frForward p) ↔ Kept s := by simp [State.frForward]

@[simp] theorem kept_execFastRoleSwapSignal_iff : OutKept (execFastRoleSwapSignal p s) ↔ Kept s := by
  simp [execFastRoleSwapSignal]

@[simp] theorem kept_execSwapSourceStartExpiry_iff : OutKept (execSwapSourceStartExpiry p s) ↔ Kept s := by
  simp [execSwapSourceStartExpiry]

/-! ### Timer events -/

@[simp] theorem kept_execReloadTick_iff (k : TmrId) : OutKept (execReloadTick k s) ↔ Kept s := by simp [execReloadTick]

@[simp] theorem kept_execCompareMatch_iff (k : TmrId) (isB : Bool) : OutKept (execCompareMatch k isB s) ↔ Kept s := by
  simp [execCompareMatch]

@[simp] theorem kept_execCapture_iff (e : TinEdge) (count : Word) : OutKept (execCapture e count s) ↔ Kept s := by
  simp [execCapture]

@[simp] theorem kept_execLinkTrigger_iff (k : TmrId) : OutKept (execLinkTrigger k s) ↔ Kept s := by simp [execLinkTrigger]
@[simp] theorem kept_gwcSample_iff (g : Fin 16) (v : Nat) : Kept (s.gwcSample g v) ↔ Kept s := by simp [State.gwcSample]

@[simp] theorem kept_execGwcStateChange_iff (g : Fin 16) (w : List Nat) : OutKept (execGwcStateChange g w s) ↔ Kept s := by
  simp [execGwcStateChange]

/-! ### Vault and alarm events -/

@[simp] theorem kept_execAlarmDetection {s : State} (srcs : BitVec 7) (hs : Kept s) : OutKept (execAlarmDetection srcs s) := by
  simp [execAlarmDetection, hs]

@[simp] theorem kept_execNonceExpiry_iff : OutKept (execNonceExpiry s) ↔ Kept s := by simp [execNonceExpiry]

@[simp] theorem kept_challengeAuth_iff (nonce : List Byte) : Kept (s.challengeAuth nonce).1 ↔ Kept s := by
  simp [State.challengeAuth]

@[simp] theorem kept_authAnswer_iff (d : List Byte) : Kept (s.authAnswer d).1 ↔ Kept s := by simp [State.authAnswer]
@[simp] theorem kept_sendAuth_iff (b : List Byte) : Kept (s.sendAuth p b) ↔ Kept s := by simp [State.sendAuth]

@[simp] theorem kept_execSecurityRequest_iff (p : PortId) (h : RxHdr) (d : List Byte) (s : State) :
    OutKept (execSecurityRequest p h d s) ↔ Kept s := by
  refine kept_onMsg_iff s p h (fun s => ?_)
  dsimp only
  repeat' split
  all_goals simp

@[simp] theorem kept_execSecurityResponse_iff (p : PortId) (s : State) :
    OutKept (execSecurityResponse p s) ↔ Kept s := by
  simp only [execSecurityResponse, outKept_next, kept_when_iff]
  repeat' split
  all_goals simp

/-! ### Vendor-defined message events -/

@[simp] theorem kept_execDiscoverIdentity_iff (h : RxHdr) (v : List Word) :
    OutKept (execDiscoverIdentity p h v s) ↔ Kept s := by
  simp [execDiscoverIdentity]

@[simp] theorem kept_execDiscoverSvids_iff (h : RxHdr) (v : List Word) : OutKept (execDiscoverSvids p h v s) ↔ Kept s := by
  simp [execDiscoverSvids]

@[simp] theorem kept_execDiscoverModes_iff (h : RxHdr) (v : List Word) : OutKept (execDiscoverModes p h v s) ↔ Kept s := by
  simp [execDiscoverModes]

@[simp] theorem kept_execEnterMode_iff (h : RxHdr) (v : List Word) : OutKept (execEnterMode p h v s) ↔ Kept s := by
  simp [execEnterMode]

@[simp] theorem kept_execExitMode_iff (h : RxHdr) (v : List Word) : OutKept (execExitMode p h v s) ↔ Kept s := by
  simp [execExitMode]

@[simp] theorem kept_execStructuredVdmAnswer_iff (p : PortId) (h : RxHdr) (v : List Word) (s : State) :
    OutKept (execStructuredVdmAnswer p h v s) ↔ Kept s := by
  refine kept_onMsg_iff s p h (fun s => ?_)
  dsimp only
  repeat' split
  all_goals simp

@[simp] theorem kept_execVdmSenderResponseTimeout_iff (p : PortId) (s : State) :
    OutKept (execVdmSenderResponseTimeout p s) ↔ Kept s := by
  simp only [execVdmSenderResponseTimeout, outKept_next, kept_when_iff]
  repeat' split
  all_goals simp

@[simp] theorem kept_onLm_iff (h : RxHdr) (v : List Word) {f : State → Word → State} (hf : ∀ t x, Kept (f t x) ↔ Kept t) :
    Kept (s.onLm p h v f) ↔ Kept s := by
  simp [State.onLm, hf]

@[simp] theorem kept_execLmVersion_iff (h : RxHdr) (v : List Word) : OutKept (execLmVersion p h v s) ↔ Kept s := by
  simp [execLmVersion]

@[simp] theorem kept_execLmVersionTimer_iff : OutKept (execLmVersionTimer p s) ↔ Kept s := by simp [execLmVersionTimer]

@[simp] theorem kept_execLmOutcome_iff (h : RxHdr) (v : List Word) : OutKept (execLmOutcome p h v s) ↔ Kept s := by
  simp [execLmOutcome]

@[simp] theorem kept_execLmOutcomeNotice_iff : OutKept (execLmOutcomeNotice p s) ↔ Kept s := by simp [execLmOutcomeNotice]

@[simp] theorem kept_execLmQuery_iff (h : RxHdr) (v : List Word) : OutKept (execLmQuery p h v s) ↔ Kept s := by
  simp [execLmQuery]

@[simp] theorem kept_execLmNeed_iff (h : RxHdr) (v : List Word) : OutKept (execLmNeed p h v s) ↔ Kept s := by simp [execLmNeed]

@[simp] theorem kept_execLmEnergy_iff (h : RxHdr) (v : List Word) : OutKept (execLmEnergy p h v s) ↔ Kept s := by
  simp [execLmEnergy]

@[simp] theorem kept_execLmIdent_iff (h : RxHdr) (v : List Word) : OutKept (execLmIdent p h v s) ↔ Kept s := by
  simp [execLmIdent]

@[simp] theorem kept_execAttention_iff (h : RxHdr) (v : List Word) : OutKept (execAttention p h v s) ↔ Kept s := by
  simp [execAttention]

/-! ### A microsecond -/

@[simp] theorem kept_countPort_iff (us : Nat) : Kept (State.countPort us s p) ↔ Kept s := by simp [State.countPort]
@[simp] theorem kept_countUs_iff (us : Nat) : Kept (State.countUs us s) ↔ Kept s := by simp [State.countUs]
@[simp] theorem kept_meterUs_iff : Kept s.meterUs ↔ Kept s := by simp [State.meterUs]
@[simp] theorem kept_presentUs_iff : Kept s.presentUs ↔ Kept s := by simp [State.presentUs]
@[simp] theorem kept_stsUs_iff : Kept s.stsUs ↔ Kept s := by simp [State.stsUs]
@[simp] theorem kept_idle {s : State} (hs : Kept s) : Kept s.idle := by simp [State.idle, hs]

end

/-! ### The statements -/

/-- Every command and event keeps the stores canonical and the record queue within its 32 records. -/
theorem kept_exec (c : Instr) {s : State} (hs : Kept s) : OutKept (exec c s) := by
  cases c
  case hello | abort | echo | deviceStatus | portCfg | portEnable | portDisable | portStatus | portReset |
      pdoSet | sinkPrefSet | vdmSend | swapReq | ledgerCfg | ledgerClass | ledgerQuery | ledgerRelease |
      bridgeSet | emberCfg | islandSet | ringCfg | ringStatus | ringBypass | tmrCfg | tmrCmp | tmrLink |
      cmpCfg | pbusCfg | pbusXfer | pbusClear | fuseRead | fuseProg | fuseLock | fuseSpare | sboxRead |
      sboxMark | vaultCfg | alarmCfg | lanternUnlock | perfCfg | perfFreeze | traceCfg | traceRead |
      fwStage | fwCommit | fwStatus | selftest | safecfg => exact kept_submit _ hs
  case lanternVer | lanternBaud | lanternPort | lanternLedger | lanternRing | lanternPerf | lanternSbox |
      lanternFuse | lanternTrace | lanternWatch | keygen | chain | chainEnd | lanternLock => exact kept_lanternLine _ _ hs
  case mailboxWrite | registerWindowWrite | pageWrite | gaFreeze | gaRelease => exact kept_txWrite _ _ _ hs
  case hdrerrcntRead | rgcrcRead | eccsbecntRead | eccdbecntRead | trlostRead => exact kept_regRead _ _ hs
  case mailboxRead a n => exact kept_txRead a n _ hs
  case lockstepMismatch | watchdogExpiry => exact kept_interpFault _ _ _ hs
  case interpreterReturn => exact kept_interpReturn hs
  case emberAbandon => exact kept_emberAbandon _ hs
  case portResetComplete => exact (kept_portResetComplete_iff _ _).mpr hs
  case vdmSendComplete => exact (kept_vdmComplete_iff _ _).mpr hs
  case swapReqComplete => exact (kept_swapComplete_iff _ _).mpr hs
  case freezeTrigger => exact (kept_perfTrigger_iff _ _).mpr hs
  case snapshotComplete => exact (kept_snapDone_iff _ _).mpr hs
  case overcurrent | shortCircuit | overvoltage | reverseCurrent => exact (kept_protect_iff _ _ _ _).mpr hs
  case cycle | node | join | leave | panelInfo => exact (kept_onFrame_iff _ _).mpr hs
  all_goals simp [exec, hs]

/-- Settles O59: a step runs a command or lets a microsecond pass, and both keep it. -/
theorem storesAndRecordsStayWellFormed : Obligations.StoresAndRecordsStayWellFormed := by
  unfold Obligations.StoresAndRecordsStayWellFormed
  intro s t hs h
  unfold step at h
  split at h
  · rename_i c rest _
    have k : OutKept (exec c { s with pending := rest }) := kept_exec c (kept_same hs rfl rfl rfl)
    rwa [h] at k
  · obtain rfl := Host.Outcome.next.inj h
    exact kept_idle hs

/-- Settles O60: the factory's array is written in canonical form, and every other store is empty. -/
theorem resetStoresAreWellFormed : Obligations.ResetStoresAreWellFormed := by
  unfold Obligations.ResetStoresAreWellFormed
  have array : factoryArray.wf = true := by decide
  exact ⟨⟨array, array, array, wf_nil, wf_nil, wf_nil, wf_nil, Nat.zero_le _⟩, rfl⟩

end Sys2Proof.Proofs
end

section
/-!
SUPPORT. Records and changes of one port after another: what a posted record changes, what a change of every port leaves of each,
and what an opening leaves of a switch. Later statements about faults and supplies are read off these.
-/
namespace Sys2Proof.Proofs

open Sys2Proof.Machine Sys2Proof.Safety Sys2Proof.Laws

/-! ## A posted record (R29) -/

/-- A posted record changes the record queue, its counts and the power state alone. -/
theorem postRec_frame (s : State) (ty : Byte) (b : List Byte) : s.postRec ty b = { s with
    sbox := { s.sbox with
      queue := (s.postRec ty b).sbox.queue, lost := (s.postRec ty b).sbox.lost, evt := (s.postRec ty b).sbox.evt },
    sys := { s.sys with pwr := (s.postRec ty b).sys.pwr } } := by
  unfold State.postRec State.leaveDoze
  split
  · split <;> rfl
  · rfl

@[simp] theorem postRec_port (s : State) (ty : Byte) (b : List Byte) (p : PortId) : (s.postRec ty b).port p = s.port p := by
  rw [postRec_frame]; rfl

/-- A record posted in RUN to a queue with room is the last of the queue, and nothing else changes. -/
theorem postRec_room {s : State} (ty : Byte) (b : List Byte) (hq : s.sbox.queue.length < 32) (hp : s.sys.pwr = .run) :
    s.postRec ty b = { s with sbox.queue := s.sbox.queue ++ [⟨ty, b, s.sys.sts.truncate 48⟩] } := by
  unfold State.postRec State.leaveDoze
  rw [if_pos hq, hp]
  rfl

theorem postRec_queue_length {s : State} (ty : Byte) (b : List Byte) (hq : s.sbox.queue.length < 32) (hp : s.sys.pwr = .run) :
    (s.postRec ty b).sbox.queue.length = s.sbox.queue.length + 1 := by
  rw [postRec_room ty b hq hp]; simp

@[simp] theorem postTrip_port (s : State) (p q : PortId) (bits : Nat) (ma : Int) : (s.postTrip p bits ma).port q = s.port q :=
  postRec_port _ _ _ _

/-! ## One port and a record -/

theorem engineRecorded_of_engine {p : PortId} {s t : State} (h : EngineOnly p s t) : EngineRecorded p s t :=
  ⟨by rw [h.1], h.2⟩

theorem engineRecorded_trans {p : PortId} {s t u : State} (h : EngineRecorded p s t) (k : EngineRecorded p t u) :
    EngineRecorded p s u :=
  ⟨by rw [k.1, h.1], fun q hq => (k.2 q hq).trans (h.2 q hq)⟩

theorem engineRecorded_postRec {p : PortId} {s a : State} (h : EngineRecorded p s a) (ty : Byte) (b : List Byte) :
    EngineRecorded p s (a.postRec ty b) :=
  engineRecorded_trans h ⟨by rw [postRec_frame], fun _ _ => postRec_port _ _ _ _⟩

theorem engineRecorded_safeEvt {p : PortId} {s a : State} (h : EngineRecorded p s a) (i : Nat) :
    EngineRecorded p s (a.safeEvt i) :=
  engineRecorded_trans h ⟨rfl, fun _ _ => rfl⟩

theorem engine_sbox {p : PortId} {s t : State} (h : EngineOnly p s t) : t.sbox = s.sbox := by rw [h.1]
theorem engine_safety {p : PortId} {s t : State} (h : EngineOnly p s t) : t.safety = s.safety := by rw [h.1]
theorem recorded_fuse {p : PortId} {s t : State} (h : EngineRecorded p s t) : t.fuse = s.fuse := by rw [h.1]

/-- Whether a port is READY rests on the latched fuses and on the port. -/
theorem portReady_of {s t : State} {p : PortId} (f : t.fuse = s.fuse) (r : (t.port p).tc.ready = (s.port p).tc.ready) :
    t.portReady p = s.portReady p := by
  simp [State.portReady, State.porten, State.fuseWord, f, r]

theorem porten_of_portReady {s : State} {p : PortId} (h : s.portReady p = true) : s.porten p = true := by
  simp only [State.portReady, Bool.and_eq_true] at h
  exact h.1

/-! ## Every port after the other -/

/-- Nothing but the ports, the performance counters, the Ledger's posts, the Ember donor and the free values drawn has changed. -/
def EnginesOnly (s t : State) : Prop :=
  t = { s with
    ports := t.ports, perf := t.perf, ledger := { s.ledger with posts := t.ledger.posts },
    ember := { s.ember with donor := t.ember.donor }, free := t.free }

theorem engines_refl (s : State) : EnginesOnly s s := rfl

theorem engines_trans {s t u : State} (h : EnginesOnly s t) (k : EnginesOnly t u) : EnginesOnly s u := by
  unfold EnginesOnly at *; rw [k, h]

theorem engines_of_engine {p : PortId} {s t : State} (h : EngineOnly p s t) : EnginesOnly s t := h.1

theorem engines_sys {s t : State} (h : EnginesOnly s t) : t.sys = s.sys := by rw [h]
theorem engines_safety {s t : State} (h : EnginesOnly s t) : t.safety = s.safety := by rw [h]
theorem engines_sbox {s t : State} (h : EnginesOnly s t) : t.sbox = s.sbox := by rw [h]
theorem engines_fuse {s t : State} (h : EnginesOnly s t) : t.fuse = s.fuse := by rw [h]
theorem engines_sup {s t : State} (h : EnginesOnly s t) : t.sup = s.sup := by rw [h]
theorem engines_bus {s t : State} (h : EnginesOnly s t) : t.bus = s.bus := by rw [h]
theorem engines_lantern {s t : State} (h : EnginesOnly s t) : t.lantern = s.lantern := by rw [h]

section
variable {f : State → PortId → State} (hf : ∀ t q, EngineOnly q t (f t q))
include hf

theorem engines_foldl : ∀ (l : List PortId) (s : State), EnginesOnly s (l.foldl f s)
  | [], s => engines_refl s
  | q :: l, s => engines_trans (engines_of_engine (hf s q)) (engines_foldl l (f s q))

theorem engines_eachPort (s : State) : EnginesOnly s (s.eachPort f) := engines_foldl hf _ _

theorem foldl_port_of_not_mem {p : PortId} : ∀ (l : List PortId) (s : State), p ∉ l → (l.foldl f s).port p = s.port p
  | [], _, _ => rfl
  | q :: l, s, h => by
    rw [List.mem_cons, not_or] at h
    rw [List.foldl_cons, foldl_port_of_not_mem l _ h.2, (hf s q).2 p h.1]

/-- A port after every port has had its turn is what its own turn made of it, in a state in which it had not changed yet. -/
theorem eachPort_port (s : State) (p : PortId) :
    ∃ t, t.port p = s.port p ∧ EnginesOnly s t ∧ (s.eachPort f).port p = (f t p).port p := by
  obtain ⟨l, r, e⟩ := List.append_of_mem (List.mem_finRange p)
  have hn := e ▸ List.nodup_finRange 32
  have hl : p ∉ l := fun h => (List.nodup_append.mp hn).2.2 p h p List.mem_cons_self rfl
  have hr : p ∉ r := (List.nodup_cons.mp (List.nodup_append.mp hn).2.1).1
  refine ⟨l.foldl f s, foldl_port_of_not_mem hf l s hl, engines_foldl hf l s, ?_⟩
  unfold State.eachPort allPorts
  rw [e, List.foldl_append, List.foldl_cons, foldl_port_of_not_mem hf r _ hr]

end

theorem engine_retryClose {p : PortId} {s a : State} (h : EngineOnly p s a) : EngineOnly p s (a.retryClose p) := by
  unfold State.retryClose
  exact engine_ite (engine_applyVbus h) (engine_tryClose h)

/-! ## A switch after an opening (R222) -/

/-- An opening ends what the switch carries; one that carries nothing stays as it is. -/
theorem openSwitch_sw (s : State) (p : PortId) : ((s.openSwitch p).port p).sw =
    if (s.port p).sw.st == .softstart || (s.port p).sw.st == .closed then { (s.port p).sw with
      st := if s.gateOk p then .discharge else .opn, sinkOn := s.gateOk p, owed := !s.gateOk p, steps := 0,
      thermCeil := (s.port p).sw.therm, blank := false }
    else (s.port p).sw := by
  have idle (t : State) : ((t.convIdle p).port p).sw = (t.port p).sw := by
    obtain ⟨c, h⟩ := takeFreq_port (t.modCv p fun c => { c with
      dir := 0, region := 3, atTarget := false, synced := false, slewing := false, ilimAct := false, prebias := false,
      ember := false, stopped := 0, standby := false, diode := false, slewDue := false, drop := 0 }) p
    unfold State.convIdle; rw [h]; simp
  simp only [State.openSwitch, State.vconnOff, State.port_modCv_self, State.port_modTc_self, idle]
  split <;> simp

/-- What an opening leaves of a switch: its events, its trip count and its fault marks. -/
def swMarks (w : SwPort) : BitVec 16 × Nat × Bool × Bool := (w.evt, w.tripCnt, w.monDis, w.tripWire)

@[simp] theorem openSwitch_marks (s : State) (p : PortId) :
    swMarks ((s.openSwitch p).port p).sw = swMarks (s.port p).sw := by
  rw [openSwitch_sw]; split <;> rfl

theorem openSwitch_not_closed (s : State) (p : PortId) : ((s.openSwitch p).port p).sw.st ≠ .closed := by
  rw [openSwitch_sw]
  split
  · dsimp only; split <;> decide
  · rename_i h
    simp only [Bool.or_eq_true, beq_iff_eq, not_or] at h
    exact h.2

@[simp] theorem frDisarm_sw (s : State) (p : PortId) : ((s.frDisarm p).port p).sw = (s.port p).sw := by
  unfold State.frDisarm; dsimp only
  split <;> simp

@[simp] theorem swapDone_sw (s : State) (p : PortId) (st r : Byte) (b : Bool) :
    ((s.swapDone p st r b).port p).sw = (s.port p).sw := by
  unfold State.swapDone; dsimp only
  rw [State.port_modSwap_self]
  split <;> rfl

@[simp] theorem swapAbort_sw (s : State) (p : PortId) (r : Byte) : ((s.swapAbort p r).port p).sw = (s.port p).sw := by
  have ended (u : State) :
      ((if (u.port p).swap.stage == .none then u else u.swapDone p 0x00 r true).port p).sw = (u.port p).sw := by
    split <;> simp
  unfold State.swapAbort
  rw [frDisarm_sw, ended]
  cases s.swapWaits p <;> simp

@[simp] theorem vdmAllEnd_sw (s : State) (p : PortId) (r : Nat) : ((s.vdmAllEnd p r).port p).sw = (s.port p).sw := by
  simp [State.vdmAllEnd, State.vdmDone]

@[simp] theorem lmEnd_sw (s : State) (p : PortId) : ((s.lmEnd p).port p).sw = (s.port p).sw := by simp [State.lmEnd]

@[simp] theorem eprExit_sw (s : State) (p : PortId) : ((s.eprExit p).port p).sw = (s.port p).sw := by
  unfold State.eprExit; split <;> simp

@[simp] theorem leaveAttach_marks (s : State) (p : PortId) :
    swMarks ((s.leaveAttach p).port p).sw = swMarks (s.port p).sw := by
  have ended (t : State) : swMarks { (t.openSwitch p |>.port p).sw with reclose := false, ovBase := 0 } =
      swMarks (t.port p).sw := openSwitch_marks t p
  unfold State.leaveAttach; dsimp only
  split <;> simp [ended]

@[simp] theorem errorRecovery_marks (s : State) (p : PortId) :
    swMarks ((s.errorRecovery p).port p).sw = swMarks (s.port p).sw := by
  simp [State.errorRecovery]

@[simp] theorem errorRecovery_state (s : State) (p : PortId) : ((s.errorRecovery p).port p).tc.state = .errorRecovery := by
  simp [State.errorRecovery]

end Sys2Proof.Proofs
end

section
/-!
SUPPORT. The monitors, the trip wires, the cell audit, the thermal levels and the links to the power dies; with them O6 is settled.
-/
namespace Sys2Proof.Proofs

open Sys2Proof.Machine Sys2Proof.Safety Sys2Proof.Laws

/-! ## Monitors and trip wires (R229, R517) -/

/-- A port whose monitors disagree, before its ErrorRecovery. -/
def disagreed (s : State) (p : PortId) : State :=
  ((s.swEvt p 8).postTrip p 256 (s.switchMa p)).drawn.modSw p fun w => { w with monDis := true }

theorem disagreed_port (s : State) (p : PortId) : (disagreed s p).port p =
    { s.port p with sw := { (s.port p).sw with evt := setBit (s.port p).sw.evt 8, monDis := true } } := by
  simp [disagreed]

theorem disagreed_frame (s : State) (p : PortId) : EngineRecorded p s (disagreed s p) :=
  engineRecorded_trans
    (engineRecorded_postRec (engineRecorded_of_engine (engine_swEvt (engine_refl p s) 8)) _ _)
    (engineRecorded_of_engine (engine_modSw (engine_drawn (engine_refl _ _)) _))

theorem exec_monitorDisagreement {s : State} {p : PortId} (hr : s.portReady p = true) (hm : s.monitorsOn p = true)
    (h1 : s.safeOn 1 = true) : exec (.monitorDisagreement p) s = .next ((disagreed s p).errorRecovery p) := by
  have r : (disagreed s p).portReady p = true :=
    (portReady_of (recorded_fuse (disagreed_frame s p)) (by rw [disagreed_port])).trans hr
  show execMonitorDisagreement p s = _
  rw [execMonitorDisagreement, porten_of_portReady hr, hm, h1]
  show Host.Outcome.next ((disagreed s p).faultRecovery p) = _
  rw [State.faultRecovery, if_pos r]

theorem monitorDisagreement_recovers {s : State} {p : PortId} (hr : s.portReady p = true) (hp : s.sys.pwr = .run)
    (hq : s.sbox.queue.length < 32) (h1 : s.safeOn 1 = true) (hm : s.monitorsOn p = true) :
    Yields (.monitorDisagreement p) s fun t =>
      (t.port p).tc.state = .errorRecovery ∧ (t.port p).sw.monDis = true ∧ (t.port p).sw.evt = setBit (s.port p).sw.evt 8 ∧
      (t.port p).sw.tripCnt = (s.port p).sw.tripCnt ∧ t.sbox.queue.length = s.sbox.queue.length + 1 ∧
      EngineRecorded p s t := by
  have e : EngineOnly p (disagreed s p) ((disagreed s p).errorRecovery p) := engine_errorRecovery (engine_refl _ _)
  have m := errorRecovery_marks (disagreed s p) p
  rw [disagreed_port] at m
  obtain ⟨he, ht, hd, -⟩ : _ ∧ _ ∧ _ ∧ _ := by simpa only [swMarks, Prod.mk.injEq] using m
  refine ⟨_, exec_monitorDisagreement hr hm h1, errorRecovery_state _ _, hd, he, ht, ?_,
    engineRecorded_trans (disagreed_frame s p) (engineRecorded_of_engine e)⟩
  rw [engine_sbox e]
  exact postRec_queue_length (s := s.swEvt p 8) _ _ hq hp

/-- A port whose trip wire is at fault, before its ErrorRecovery. -/
def tripWired (s : State) (p : PortId) : State :=
  ((s.safeEvt 17).postSafety 0x06 p.val 0).modSw p fun w => { w with tripWire := true }

theorem tripWired_port (s : State) (p : PortId) : (tripWired s p).port p =
    { s.port p with sw := { (s.port p).sw with tripWire := true } } := by
  simp [tripWired, State.postSafety]

theorem tripWired_frame (s : State) (p : PortId) : EngineRecorded p s (tripWired s p) :=
  engineRecorded_trans
    (engineRecorded_postRec (engineRecorded_safeEvt (engineRecorded_of_engine (engine_refl p s)) 17) _ _)
    (engineRecorded_of_engine (engine_modSw (engine_refl _ _) _))

theorem exec_tripWireFault {s : State} {p : PortId} (hr : s.portReady p = true) (hm : s.monitorsOn p = true) :
    exec (.tripWireFault p) s = .next ((tripWired s p).errorRecovery p) := by
  have r : (tripWired s p).portReady p = true :=
    (portReady_of (recorded_fuse (tripWired_frame s p)) (by rw [tripWired_port])).trans hr
  show execTripWireFault p s = _
  rw [execTripWireFault, porten_of_portReady hr, hm]
  show Host.Outcome.next ((tripWired s p).faultRecovery p) = _
  rw [State.faultRecovery, if_pos r]

theorem tripWireFault_recovers {s : State} {p : PortId} (hr : s.portReady p = true) (hp : s.sys.pwr = .run)
    (hq : s.sbox.queue.length < 32) (hm : s.monitorsOn p = true) :
    Yields (.tripWireFault p) s fun t =>
      (t.port p).tc.state = .errorRecovery ∧ (t.port p).sw.tripWire = true ∧ t.safety.evt = setBit s.safety.evt 17 ∧
      t.sbox.queue.length = s.sbox.queue.length + 1 ∧ EngineRecorded p s t := by
  have e : EngineOnly p (tripWired s p) ((tripWired s p).errorRecovery p) := engine_errorRecovery (engine_refl _ _)
  have m := errorRecovery_marks (tripWired s p) p
  rw [tripWired_port] at m
  obtain ⟨-, -, -, hw⟩ : _ ∧ _ ∧ _ ∧ _ := by simpa only [swMarks, Prod.mk.injEq] using m
  refine ⟨_, exec_tripWireFault hr hm, errorRecovery_state _ _, hw, ?_, ?_,
    engineRecorded_trans (tripWired_frame s p) (engineRecorded_of_engine e)⟩
  · rw [engine_safety e]
    show ((s.safeEvt 17).postRec _ _).safety.evt = _
    rw [postRec_frame]; rfl
  · rw [engine_sbox e]
    exact postRec_queue_length (s := s.safeEvt 17) _ _ hq hp

/-! ## The cell audit (R239, R242) -/

theorem nextCell_in {w : SwPort} {n c : Nat} (h : w.cellIsOut (c % 32768) = false) : w.nextCell (n + 1) c = c % 32768 := by
  simp [SwPort.nextCell, h]

/-- A switch as it was at reset, but for its audit, which has come to the last cell. -/
def lastCell : SwPort := { SwPort.reset with auditPos := 32767 }

/-- The same switch after the cell has been tested, by the cells that are then out. -/
theorem lastCell_next {l : List Nat} (h : l.contains 0 = false) :
    SwPort.nextCell { lastCell with outCells := l } 32768 (32767 + 1) = 0 :=
  nextCell_in (by simpa [SwPort.cellIsOut, lastCell, SwPort.reset] using h)

/-- A test of a cell of a switch that stays healthy moves on to the next cell. -/
theorem exec_cellAudit_pass {s : State} {p : PortId} (hr : s.portReady p = true) (ha : s.auditOn p = true)
    (hw : (s.port p).sw = lastCell) :
    exec (.cellAudit p .pass) s = .next ((s.count p.val 0x0C 1).modSw p fun w =>
      { w with auditPos := w.nextCell 32768 (32767 + 1) }) := by
  have healthy : ∀ k, SwPort.health { lastCell with auditPos := k } = 0 := fun _ => rfl
  show execCellAudit p .pass s = _
  simp only [execCellAudit, ha, porten_of_portReady hr, Bool.and_self, State.when_true, State.port_modSw_self,
    State.count_port, hw, healthy]
  rfl

theorem cellAudit_pass {s : State} {p : PortId} (hr : s.portReady p = true) (ha : s.auditOn p = true)
    (hw : (s.port p).sw = lastCell) :
    Yields (.cellAudit p .pass) s fun t =>
      (t.port p).sw.auditPos = 0 ∧ (t.port p).sw.outCells = [] ∧ EngineOnly p s t := by
  refine ⟨_, exec_cellAudit_pass hr ha hw, ?_, ?_, engine_modSw (engine_count (engine_refl p s) _ _ _) _⟩
  · rw [State.port_modSw_self, State.count_port, hw]
    exact lastCell_next (l := []) rfl
  · rw [State.port_modSw_self, State.count_port, hw]
    rfl

/-- A port whose audited cell, the last one, was found open, before the audit moves on. -/
def cellOut (s : State) (p : PortId) : State :=
  ((((s.count p.val 0x0C 1).modSw p fun w => { w with outCells := w.outCells ++ [32767] }).swEvt p 4).count p.val 0x0B 1)

theorem cellOut_sw {s : State} {p : PortId} (hw : (s.port p).sw = lastCell) :
    ((cellOut s p).port p).sw = { lastCell with outCells := [32767], evt := setBit lastCell.evt 4 } := by
  simp only [cellOut, State.count_port, State.port_swEvt_self, State.port_modSw_self, hw]
  rfl

theorem cellOut_next :
    SwPort.nextCell { lastCell with outCells := [32767], evt := setBit lastCell.evt 4 } 32768 (32767 + 1) = 0 :=
  nextCell_in (by simp [SwPort.cellIsOut, lastCell, SwPort.reset])

theorem engine_cellOut (s : State) (p : PortId) : EngineOnly p s (cellOut s p) :=
  engine_count (engine_swEvt (engine_modSw (engine_count (engine_refl p s) _ _ _) _) _) _ _ _

theorem exec_cellAudit_open {s : State} {p : PortId} (hr : s.portReady p = true) (ha : s.auditOn p = true)
    (hl : s.auditAll p = true) (hw : (s.port p).sw = lastCell) :
    exec (.cellAudit p .openFet) s = .next ((cellOut s p).modSw p fun w =>
      { w with auditPos := w.nextCell 32768 (32767 + 1) }) := by
  have hl' : (s.count p.val 0x0C 1).auditAll p = true := by simpa [State.auditAll] using hl
  have last : lastCell.auditPos = 32767 := rfl
  have healthy : ∀ k, SwPort.health { lastCell with
      outCells := lastCell.outCells ++ [32767], evt := setBit lastCell.evt 4, auditPos := k } = 0 := fun _ => rfl
  show execCellAudit p .openFet s = _
  simp only [execCellAudit, ha, porten_of_portReady hr, Bool.and_self, State.when_true, hl', State.port_modSw_self,
    State.port_swEvt_self, State.count_port, hw, last, healthy]
  rfl

theorem cellAudit_open {s : State} {p : PortId} (hr : s.portReady p = true) (ha : s.auditOn p = true)
    (hl : s.auditAll p = true) (hw : (s.port p).sw = lastCell) :
    Yields (.cellAudit p .openFet) s fun t =>
      (t.port p).sw.outCells = [32767] ∧ (t.port p).sw.auditPos = 0 ∧ (t.port p).sw.evt = setBit (s.port p).sw.evt 4 ∧
      EngineOnly p s t := by
  refine ⟨_, exec_cellAudit_open hr ha hl hw, ?_, ?_, ?_, engine_modSw (engine_cellOut s p) _⟩
  · rw [State.port_modSw_self, cellOut_sw hw]
  · rw [State.port_modSw_self, cellOut_sw hw]
    exact cellOut_next
  · rw [State.port_modSw_self, cellOut_sw hw, hw]

/-! ## Thermal levels (R248) -/

theorem portOnly_swEvt {p : PortId} {s a : State} (h : PortOnly p s a) (i : Nat) : PortOnly p s (a.swEvt p i) :=
  portOnly_modSw h _

theorem portOnly_trigger {p : PortId} {s a : State} (h : PortOnly p s a) (m : Ams) : PortOnly p s (a.trigger p m) :=
  portOnly_modPd h _

theorem portOnly_when {p : PortId} {s a : State} {c : Bool} {f : State → State} (ha : PortOnly p s a)
    (hf : PortOnly p s (f a)) : PortOnly p s (a.when c f) := by
  cases c
  · exact ha
  · exact hf

/-- A new level is taken with its event; what the port then sends waits in its triggers. -/
theorem setTherm_sw {s : State} {p : PortId} {l : BitVec 2} (h : (s.port p).sw.therm ≠ l) :
    ((s.setTherm p l).port p).sw = { (s.port p).sw with
      therm := l, thermCeil := if (s.port p).sw.st == .softstart then (s.port p).sw.thermCeil else l,
      evt := setBit (s.port p).sw.evt 6 } := by
  unfold State.setTherm
  simp only [if_neg h]
  unfold State.when
  split <;> simp [State.trigger]

theorem portOnly_setTherm {p : PortId} {s a : State} (h : PortOnly p s a) (l : BitVec 2) : PortOnly p s (a.setTherm p l) := by
  unfold State.setTherm
  dsimp only
  split
  · exact h
  · exact portOnly_when (portOnly_swEvt (portOnly_modSw h _) _) (portOnly_trigger (portOnly_swEvt (portOnly_modSw h _) _) _)

theorem exec_thermal110 {s : State} {p : PortId} (hd : s.dieMeasures (dieOf p) = true) (h0 : (s.port p).sw.therm = 0) :
    exec (.thermalLevelChange p 110) s = .next ((s.modSw p fun w =>
      { w with temp := 110, hot := w.hot && decide ((100 : Int) ≤ 110) }).setTherm p 1) := by
  have next : thermNext 0 110 = 1 := by decide
  have cool : ((s.port p).sw.hot && decide ((110 : Int) < 100)) = false := by simp
  show execThermalLevelChange p 110 s = _
  simp only [execThermalLevelChange, hd, State.when_true, h0, next, cool, State.when_false]

theorem thermal110_level1 {s : State} {p : PortId} (hd : s.dieMeasures (dieOf p) = true) (h0 : (s.port p).sw.therm = 0) :
    Yields (.thermalLevelChange p 110) s fun t =>
      (t.port p).sw.therm = 1 ∧ (t.port p).sw.temp = 110 ∧ (t.port p).sw.evt = setBit (s.port p).sw.evt 6 ∧ PortOnly p s t := by
  have e := setTherm_sw (s := s.modSw p fun w => { w with temp := 110, hot := w.hot && decide ((100 : Int) ≤ 110) })
    (p := p) (l := 1) (by simp [h0])
  rw [State.port_modSw_self] at e
  exact ⟨_, exec_thermal110 hd h0, by rw [e], by rw [e], by rw [e],
    portOnly_setTherm (portOnly_modSw (portOnly_refl p s) _) _⟩

/-! ## Links to the power dies (R15) -/

/-- The ports of a die enter ErrorRecovery when its link is lost, but for those that are Disabled. -/
def linkRecovery (d : Die) (s : State) (p : PortId) : State :=
  s.when (dieOf p == d && s.portReady p && (s.port p).tc.state != .disabled) fun s => s.errorRecovery p

theorem engine_linkRecovery (d : Die) (s : State) (p : PortId) : EngineOnly p s (linkRecovery d s p) :=
  engine_when (engine_refl p s) (engine_errorRecovery (engine_refl p s))

theorem linkRecovery_state {d : Die} {u : State} {p : PortId} (hd : dieOf p = d) (hr : u.portReady p = true)
    (hs : (u.port p).tc.state ≠ .disabled) : ((linkRecovery d u p).port p).tc.state = .errorRecovery := by
  rw [linkRecovery, hd, hr, bne_iff_ne.mpr hs, beq_self_eq_true, Bool.and_self, Bool.and_self, State.when_true,
    errorRecovery_state]

theorem linkRecovery_other {d : Die} {u : State} {p : PortId} (hd : dieOf p ≠ d) : linkRecovery d u p = u := by
  rw [linkRecovery, beq_false_of_ne hd, Bool.false_and, Bool.false_and, State.when_false]

/-- The loss of the link to die B, before its ports act on it. -/
def linkBLost (s : State) : State :=
  (({ s with sys.linkB := true } : State).safeEvt 15).postSafety 0x05 (Config.dieCode .b).toNat 0

theorem exec_heartbeatLoss_b {s : State} (hd : s.dieMeasures .b = true) :
    exec (.heartbeatLoss .b) s = .next ((linkBLost s).eachPort (linkRecovery .b)) := by
  show execHeartbeatLoss .b s = _
  rw [execHeartbeatLoss, hd]
  rfl

theorem linkBLost_room {s : State} (hp : s.sys.pwr = .run) (hq : s.sbox.queue.length < 32) : ∃ r, linkBLost s = { s with
    sys.linkB := true, safety.evt := setBit s.safety.evt 15, sbox.queue := s.sbox.queue ++ [r] } :=
  ⟨_, postRec_room (s := ({ s with sys.linkB := true } : State).safeEvt 15) _ _ hq hp⟩

theorem heartbeatLoss_b {s : State} {p : PortId} (hr : s.portReady p = true) (hp : s.sys.pwr = .run)
    (hq : s.sbox.queue.length < 32) (hd : s.dieMeasures .b = true) :
    Yields (.heartbeatLoss .b) s fun t =>
      t.sys.linkB = true ∧ t.safety.evt = setBit s.safety.evt 15 ∧ t.sbox.queue.length = s.sbox.queue.length + 1 ∧
      (dieOf p = .b → (s.port p).tc.state ≠ .disabled → (t.port p).tc.state = .errorRecovery) ∧
      (dieOf p = .a → t.port p = s.port p) := by
  obtain ⟨r, hl⟩ := linkBLost_room hp hq
  have fr : EnginesOnly (linkBLost s) ((linkBLost s).eachPort (linkRecovery .b)) := engines_eachPort (engine_linkRecovery .b) _
  obtain ⟨u, up, ue, e⟩ := eachPort_port (engine_linkRecovery .b) (linkBLost s) p
  have sp : (linkBLost s).port p = s.port p := by rw [hl]; rfl
  refine ⟨_, exec_heartbeatLoss_b hd, ?_, ?_, ?_, fun hb hs => ?_, fun ha => ?_⟩
  · rw [engines_sys fr, hl]
  · rw [engines_safety fr, hl]
  · rw [engines_sbox fr, hl]; simp
  · have fuse : u.fuse = s.fuse := by rw [engines_fuse ue, hl]
    have ready : u.portReady p = true := (portReady_of fuse (by rw [up, sp])).trans hr
    have able : (u.port p).tc.state ≠ .disabled := by rw [up, sp]; exact hs
    rw [e, linkRecovery_state hb ready able]
  · rw [e, linkRecovery_other (by rw [ha]; decide), up, sp]

/-- The ports of a die whose link is healthy again try to close. -/
def linkRetry (d : Die) (s : State) (p : PortId) : State :=
  s.when (dieOf p == d && s.portReady p) fun s => s.retryClose p

theorem engine_linkRetry (d : Die) (s : State) (p : PortId) : EngineOnly p s (linkRetry d s p) :=
  engine_when (engine_refl p s) (engine_retryClose (engine_refl p s))

theorem linkRetry_other {d : Die} {u : State} {p : PortId} (hd : dieOf p ≠ d) : linkRetry d u p = u := by
  rw [linkRetry, beq_false_of_ne hd, Bool.false_and, State.when_false]

theorem linkHealthy_b (s : State) (p : PortId) :
    Yields (.linkHealthy .b) s fun t =>
      t.sys.linkB = false ∧ t.sys.linkA = s.sys.linkA ∧ (dieOf p = .a → t.port p = s.port p) := by
  have fr := engines_eachPort (engine_linkRetry .b) { s with sys.linkB := false }
  obtain ⟨u, up, -, e⟩ := eachPort_port (engine_linkRetry .b) { s with sys.linkB := false } p
  refine ⟨State.eachPort { s with sys.linkB := false } (linkRetry .b), rfl, ?_, ?_, fun ha => ?_⟩
  · rw [engines_sys fr]
  · rw [engines_sys fr]
  · rw [e, linkRetry_other (by rw [ha]; decide), up]
    rfl

/-! ## The statement -/

/-- Settles O6: each clause is what is said above of its event. -/
theorem monitorsAuditAndLinks : Obligations.MonitorsAuditAndLinks := by
  unfold Obligations.MonitorsAuditAndLinks
  refine ⟨?_, ?_, ?_, ?_, ?_, ?_, ?_⟩
  · intro s p hr hp hq h1 hm _
    exact monitorDisagreement_recovers hr hp hq h1 hm
  · intro s p hr hp hq hm _
    exact tripWireFault_recovers hr hp hq hm
  · intro s p hr _ _ ha hw
    exact cellAudit_pass hr ha hw
  · intro s p hr _ _ ha hl hw
    exact cellAudit_open hr ha hl hw
  · intro s p _ _ _ hd h0
    exact thermal110_level1 hd h0
  · intro s p hr hp hq hd
    exact heartbeatLoss_b hr hp hq hd
  · intro s p _ _ _
    exact linkHealthy_b s p

end Sys2Proof.Proofs
end

section
/-!
SUPPORT. The excursions of the watched supplies: what the buses do when VIO is lost, what the power dies do when their drivers are,
and the record of each; with them O23 is settled.
-/
namespace Sys2Proof.Proofs

open Sys2Proof.Machine Sys2Proof.Safety Sys2Proof.Laws

/-! ## The buses and what they answer -/

/-- Nothing but the buses, the mailbox, the performance counters and the free values drawn has changed. -/
def BusesOnly (s t : State) : Prop :=
  t = { s with pbus := t.pbus, mb := t.mb, perf := t.perf, free := t.free }

theorem buses_refl (s : State) : BusesOnly s s := rfl

theorem buses_trans {s t u : State} (h : BusesOnly s t) (k : BusesOnly t u) : BusesOnly s u := by
  unfold BusesOnly at *; rw [k, h]

theorem buses_foldl {α : Type} {f : State → α → State} (hf : ∀ t x, BusesOnly t (f t x)) :
    ∀ (l : List α) (s : State), BusesOnly s (l.foldl f s)
  | [], s => buses_refl s
  | x :: l, s => buses_trans (hf s x) (buses_foldl hf l (f s x))

theorem buses_modPb (s : State) (b : BusId) (f : Pbus → Pbus) : BusesOnly s (s.modPb b f) := rfl

theorem buses_drawn (s : State) : BusesOnly s s.drawn := rfl

theorem buses_count (s : State) (b e n : Nat) : BusesOnly s (s.count b e n) := by
  unfold State.count; split <;> rfl

theorem buses_place (s : State) (r : Reply) : BusesOnly s (s.place r) := by
  have sent := buses_trans (t := { s with mb.replies := s.mb.replies ++ [r] }) rfl (buses_count _ 35 0x03 1)
  unfold State.place
  split
  · dsimp only
    split
    · exact buses_trans sent (buses_count _ _ _ _)
    · exact sent
  · rfl

theorem buses_emit (s : State) (r : Reply) : BusesOnly s (s.emit r) := by
  unfold State.emit
  split
  · exact buses_place s r
  · rfl

theorem buses_complete (s : State) (k : Packet) (st : Byte) (pl : List Byte) : BusesOnly s (s.complete k st pl) :=
  buses_trans (t := { s with mb.flights := s.mb.flights.filter fun x => x.tag != k.tag }) rfl (buses_emit _ _)

theorem buses_completeAll (s : State) (l : List Packet) (st : Byte) : BusesOnly s (s.completeAll l st) :=
  buses_foldl (fun t k => buses_complete t k st []) l s

/-- The next transaction of a bus begins, waits, or all of them end because the bus is stuck. -/
theorem buses_pbusNext (s : State) (b : BusId) : BusesOnly s (s.pbusNext b) := by
  unfold State.pbusNext
  dsimp only
  split
  · exact buses_refl s
  split
  · exact buses_modPb s b _
  split
  · exact buses_refl s
  split
  · exact buses_trans (buses_modPb s b _) (buses_completeAll _ _ _)
  split
  · exact buses_refl s
  split <;> exact buses_modPb s b _

theorem buses_pbusApply (s : State) (b : BusId) (en : Bool) (rate : BitVec 2) : BusesOnly s (s.pbusApply b en rate) := by
  have set := buses_modPb s b fun y => { y with enabled := en, rate := rate, pend := none }
  unfold State.pbusApply
  dsimp only
  split
  · exact buses_trans (buses_trans set (buses_modPb _ b _)) (buses_completeAll _ _ _)
  split
  · exact buses_trans (buses_trans (buses_trans set (buses_modPb _ b _)) (buses_drawn _)) (buses_pbusNext _ b)
  · exact set

theorem buses_pbusEnd (s : State) (b : BusId) : BusesOnly s (s.pbusEnd b) := by
  have ended := buses_modPb s b fun y => { y with xfer := false, queue := y.queue.drop 1 }
  unfold State.pbusEnd
  dsimp only
  refine buses_trans ?_ (buses_pbusNext _ b)
  split
  · exact buses_trans ended (buses_pbusApply _ _ _ _)
  · exact ended

theorem buses_pbusVio (s : State) : BusesOnly s s.pbusVio := by
  refine buses_foldl (fun t b => ?_) _ s
  have marked := buses_modPb t b fun y => { y with needClear := true }
  dsimp only
  split
  · rename_i k _ _ _
    have cut : BusesOnly t ((t.modPb b fun y => { y with needClear := true }).cutXfer k 4).1 := buses_trans marked rfl
    exact buses_trans cut (buses_trans (buses_complete _ _ _ _) (buses_pbusEnd _ _))
  · exact marked

/-! ## The stores -/

theorem storesSame_of {s t : State} (f : t.fuse = s.fuse) (m : t.sbox.mram = s.sbox.mram)
    (l : t.lantern.stage = s.lantern.stage) : StoresSame s t := by
  intro a; rw [f, m, l]; exact ⟨rfl, rfl, rfl, rfl, rfl⟩

theorem storesSame_engines {s t u : State} (h : StoresSame s t) (k : EnginesOnly t u) : StoresSame s u := by
  intro a
  have same := storesSame_of (engines_fuse k) (by rw [engines_sbox k]) (by rw [engines_lantern k]) a
  obtain ⟨hn, hs, hl, hm, hg⟩ := h a
  obtain ⟨kn, ks, kl, km, kg⟩ := same
  exact ⟨kn.trans hn, ks.trans hs, kl.trans hl, km.trans hm, kg.trans hg⟩

/-! ## An excursion that is acted on (R17, R64) -/

/-- A supply has left its range: it is marked so, its SAFEEVT bit is set and its record is posted. -/
def leftRange (s : State) (su : Supply) (bit : Nat) (hi : Bool) : State := (s.setSupply (supOf hi) su).postSupply bit hi

/-- With CORE on and SAFECFG bit 4 set, a supply in range that leaves it is marked and recorded before its consequences follow. -/
theorem excursion_acted {s : State} {su : Supply} (bit : Nat) (hi : Bool) (f : State → State) (hc : s.coreOn = true)
    (h4 : s.safeOn 4 = true) (hok : s.supply su = .ok) : s.excursion su bit hi f = f (leftRange s su bit hi) := by
  have out : (s.supply su == supOf hi) = false := by rw [hok]; cases hi <;> rfl
  rw [State.excursion, out, hc, h4]
  rfl

/-- What a supply's mark is does not reach beyond the supplies. -/
theorem setSupply_frame (s : State) (v : SupSt) (su : Supply) :
    s.setSupply v su = { s with sup := (s.setSupply v su).sup } := by
  cases su <;> rfl

/-- In RUN, with room in the queue, nothing changes but the supply's mark, its SAFEEVT bit and the record queue. -/
theorem leftRange_room {s : State} (su : Supply) (bit : Nat) (hi : Bool) (hq : s.sbox.queue.length < 32)
    (hp : s.sys.pwr = .run) : ∃ r, leftRange s su bit hi = { s with
      sup := (s.setSupply (supOf hi) su).sup, safety.evt := setBit s.safety.evt bit, sbox.queue := s.sbox.queue ++ [r] } := by
  unfold leftRange State.postSupply
  rw [setSupply_frame]
  exact ⟨_, postRec_room (s := State.safeEvt { s with sup := (s.setSupply (supOf hi) su).sup } bit) _ _ hq hp⟩

/-! ## VIO -/

/-- What the loss of VIO does to the host's side of the bus: below 1.0 V the pins are no longer held, and the target lets go. -/
def vioLetGo (s : State) (mv : Nat) : State :=
  ({ s with sys.vioHeld := s.sys.vioHeld && decide (1000 ≤ mv) } : State).hostNack

theorem vioHeld_below (s : State) (mv : Nat) : s.when (!false && decide (mv < 1000)) (fun s => { s with sys.vioHeld := false }) =
    { s with sys.vioHeld := s.sys.vioHeld && decide (1000 ≤ mv) } := by
  by_cases h : mv < 1000
  · simp [h, Nat.not_le.mpr h]
  · simp [h, Nat.not_lt.mp h]

theorem exec_vioExcursion_below {s : State} {mv : Nat} (hc : s.coreOn = true) (h4 : s.safeOn 4 = true) (hok : s.sup.vio = .ok) :
    exec (.vioExcursion ⟨false, mv, none⟩) s = .next (leftRange (vioLetGo s mv) .vio 9 false).pbusVio := by
  have acts : ((vioLetGo s mv).sup.vio != supOf false && (vioLetGo s mv).coreOn && (vioLetGo s mv).safeOn 4) = true := by
    show ((s.sup.vio != supOf false) && s.coreOn && s.safeOn 4) = true
    rw [hok, hc, h4]; rfl
  show execVioExcursion ⟨false, mv, none⟩ s = _
  rw [execVioExcursion, vioHeld_below]
  refine (congrArg (fun c => Host.Outcome.next (State.excursion (State.when _ c _) .vio 9 false State.pbusVio)) acts).trans ?_
  exact congrArg Host.Outcome.next (excursion_acted 9 false _ hc h4 hok)

theorem vioExcursion_below {s : State} {mv : Nat} (hc : s.coreOn = true) (h4 : s.safeOn 4 = true)
    (hq : s.sbox.queue.length < 32) (hp : s.sys.pwr = .run) (hok : s.sup.vio = .ok) :
    Yields (.vioExcursion ⟨false, mv, none⟩) s fun t =>
      t.sup = { s.sup with vio := .below } ∧ t.sys = { s.sys with vioHeld := s.sys.vioHeld && decide (1000 ≤ mv) } ∧
      t.safety.evt = setBit s.safety.evt 9 ∧ t.sbox.queue.length = s.sbox.queue.length + 1 ∧ t.bus =
      { s.bus with acked := false, out := [], acks := 0 } ∧ PortsSame s t ∧ StoresSame s t := by
  obtain ⟨r, hm⟩ := leftRange_room (s := vioLetGo s mv) .vio 9 false hq hp
  have b := buses_pbusVio (leftRange (vioLetGo s mv) .vio 9 false)
  refine ⟨_, exec_vioExcursion_below hc h4 hok, ?_⟩
  rw [b, hm]
  exact ⟨rfl, rfl, rfl, List.length_append, rfl, rfl, storesSame_of rfl rfl rfl⟩

/-! ## VCONNIN -/

/-- One port's VCONN switch opens. -/
def vconnOpened (s : State) (p : PortId) : State := s.modTc p fun t => { t with vconnOn := false }

theorem engine_vconnOpened (s : State) (p : PortId) : EngineOnly p s (vconnOpened s p) := engine_modTc (engine_refl p s) _

theorem vconninExcursion_above {s : State} {p : PortId} (hc : s.coreOn = true) (h4 : s.safeOn 4 = true)
    (hq : s.sbox.queue.length < 32) (hp : s.sys.pwr = .run) (hok : s.sup.vconnin = .ok) :
    Yields (.vconninExcursion true) s fun t =>
      t.sup = { s.sup with vconnin := .above } ∧ t.safety.evt = setBit s.safety.evt 10 ∧ t.sbox.queue.length =
      s.sbox.queue.length + 1 ∧ (t.port p).tc.vconnOn = false ∧ (t.port p).cv = (s.port p).cv ∧ t.bus = s.bus ∧
      StoresSame s t := by
  obtain ⟨r, hm⟩ := leftRange_room (s := s) .vconnin 10 true hq hp
  have fr := engines_eachPort engine_vconnOpened (leftRange s .vconnin 10 true)
  obtain ⟨u, up, -, e⟩ := eachPort_port engine_vconnOpened (leftRange s .vconnin 10 true) p
  have sp : u.port p = s.port p := by rw [up, hm]; rfl
  refine ⟨(leftRange s .vconnin 10 true).eachPort vconnOpened,
    congrArg Host.Outcome.next (excursion_acted 10 true _ hc h4 hok), ?_, ?_, ?_, ?_, ?_, ?_, ?_⟩
  · rw [engines_sup fr, hm]; rfl
  · rw [engines_safety fr, hm]
  · rw [engines_sbox fr, hm]; exact List.length_append
  · rw [e]; simp [vconnOpened]
  · rw [e, ← sp]; simp [vconnOpened]
  · rw [engines_bus fr, hm]
  · refine storesSame_engines ?_ fr
    rw [hm]; exact storesSame_of rfl rfl rfl

/-! ## VBAT -/

theorem vbatExcursion_below {s : State} (hc : s.coreOn = true) (h4 : s.safeOn 4 = true) (hq : s.sbox.queue.length < 32)
    (hp : s.sys.pwr = .run) (hok : s.sup.vbat = .ok) (hm : s.sup.vmain = .ok) (hd : s.sup.vdaon = .ok) :
    Yields (.vbatExcursion false) s fun t =>
      t.sup = { s.sup with vbat := .below } ∧ t.safety.evt = setBit s.safety.evt 12 ∧ t.sbox.queue.length =
      s.sbox.queue.length + 1 ∧ t.alarm = s.alarm ∧ PortsSame s t ∧ StoresSame s t := by
  obtain ⟨r, hl⟩ := leftRange_room (s := s) .vbat 12 false hq hp
  have powered : ((leftRange s .vbat 12 false).setSupply .below .vbat).aonOn = true := by
    rw [hl]
    show ((s.sup.vmain == .ok || _ || _) && s.sup.vdaon == .ok) = true
    rw [hm, hd]; rfl
  refine ⟨(leftRange s .vbat 12 false).setSupply .below .vbat, ?_, ?_⟩
  · show execVbatExcursion false s = _
    rw [execVbatExcursion, excursion_acted (su := .vbat) 12 false id hc h4 hok]
    exact congrArg Host.Outcome.next (if_pos powered)
  · rw [hl]
    exact ⟨rfl, rfl, List.length_append, rfl, rfl, storesSame_of rfl rfl rfl⟩

/-! ## VPP -/

theorem vppExcursion_below {s : State} {bit : Fin 32} {ok : Bool} (hc : s.coreOn = true) (h4 : s.safeOn 4 = true)
    (hq : s.sbox.queue.length < 32) (hp : s.sys.pwr = .run) (hok : s.sup.vpp = .ok) :
    Yields (.vppExcursion ⟨false, bit, ok⟩) s fun t =>
      t.sup = { s.sup with vpp := .below } ∧ t.safety.evt = setBit s.safety.evt 13 ∧ t.sbox.queue.length =
      s.sbox.queue.length + 1 ∧ t.fuse = (s.pulseStop bit ok).fuse ∧ PortsSame s t ∧ StoresSame s t := by
  obtain ⟨r, hm⟩ := leftRange_room (s := s) .vpp 13 false hq hp
  refine ⟨(leftRange s .vpp 13 false).pulseStop bit ok,
    congrArg Host.Outcome.next (excursion_acted 13 false _ hc h4 hok), ?_⟩
  rw [hm]
  exact ⟨rfl, rfl, List.length_append, rfl, rfl, fun a => ⟨rfl, rfl, rfl, rfl, rfl⟩⟩

/-! ## The drivers of a power die -/

/-- A port of a die whose drivers have failed: its converter idles, its switch is open, and neither sinks. -/
def driverOut (d : Die) (s : State) (p : PortId) : State :=
  if dieOf p == d then
    (s.openSwitch p).modSw p fun w => { w with
      st := if w.st == .discharge then .opn else w.st, sinkOn := false, owed := w.owed || w.st == .discharge }
  else s

theorem engine_driverOut (d : Die) (s : State) (p : PortId) : EngineOnly p s (driverOut d s p) := by
  unfold driverOut
  exact engine_ite (engine_modSw (engine_openSwitch (engine_refl p s)) _) (engine_refl p s)

theorem driverOut_other {d : Die} {s : State} {p : PortId} (h : dieOf p ≠ d) : driverOut d s p = s := by
  rw [driverOut, beq_false_of_ne h]; rfl

@[simp] theorem convIdle_dir (s : State) (p : PortId) : ((s.convIdle p).port p).cv.dir = 0 := by
  obtain ⟨c, h⟩ := takeFreq_port (s.modCv p fun c => { c with
    dir := 0, region := 3, atTarget := false, synced := false, slewing := false, ilimAct := false, prebias := false,
    ember := false, stopped := 0, standby := false, diode := false, slewDue := false, drop := 0 }) p
  unfold State.convIdle; rw [h]; simp

@[simp] theorem openSwitch_dir (s : State) (p : PortId) : ((s.openSwitch p).port p).cv.dir = 0 := by
  simp [State.openSwitch, State.vconnOff]

theorem driverOut_port {d : Die} {s : State} {p : PortId} (h : dieOf p = d) :
    ((driverOut d s p).port p).cv.dir = 0 ∧ ((driverOut d s p).port p).sw.sinkOn = false ∧
    ((driverOut d s p).port p).sw.st ≠ .closed ∧ ((driverOut d s p).port p).tc.state = (s.port p).tc.state := by
  have e : driverOut d s p = (s.openSwitch p).modSw p fun w => { w with
      st := if w.st == .discharge then .opn else w.st, sinkOn := false, owed := w.owed || w.st == .discharge } := by
    rw [driverOut, h, beq_self_eq_true]; rfl
  rw [e, State.port_modSw_self]
  refine ⟨openSwitch_dir s p, rfl, ?_, by simp⟩
  dsimp only
  split
  · decide
  · exact openSwitch_not_closed s p

theorem exec_vdrvExcursion {s : State} {d : Die} {hi : Bool} (hc : s.coreOn = true) (h4 : s.safeOn 4 = true)
    (hp : s.sys.pwr = .run) (hok : s.supply (drvOf d) = .ok) : exec (.vdrvExcursion d hi) s = .next
      (((leftRange s (drvOf d) (if d == .a then 7 else 8) hi).setVdrvWait true d).eachPort (driverOut d)) := by
  have started : s.onStart = false := by rw [State.onStart, hp]; rfl
  show execVdrvExcursion d hi s = _
  rw [execVdrvExcursion, started, hc, h4, excursion_acted _ hi _ hc h4 hok]
  rfl

theorem vdrvExcursion_b {s : State} {p : PortId} (hc : s.coreOn = true) (h4 : s.safeOn 4 = true)
    (hq : s.sbox.queue.length < 32) (hp : s.sys.pwr = .run) (hok : s.sup.vdrvB = .ok) :
    Yields (.vdrvExcursion .b true) s fun t =>
      t.sup.vdrvB = .above ∧ t.sup.vdrvA = s.sup.vdrvA ∧ t.sup.waitB = true ∧ t.safety.evt = setBit s.safety.evt 8 ∧
      t.sbox.queue.length = s.sbox.queue.length + 1 ∧ (dieOf p = .a → t.port p = s.port p) ∧
      (dieOf p = .b → (t.port p).cv.dir = 0 ∧ (t.port p).sw.sinkOn = false ∧ (t.port p).sw.st ≠ .closed ∧
        (t.port p).tc.state = (s.port p).tc.state) ∧ StoresSame s t := by
  obtain ⟨r, hm⟩ := leftRange_room (s := s) .vdrvB 8 true hq hp
  have fr := engines_eachPort (engine_driverOut .b) ((leftRange s .vdrvB 8 true).setVdrvWait true .b)
  obtain ⟨u, up, -, e⟩ := eachPort_port (engine_driverOut .b) ((leftRange s .vdrvB 8 true).setVdrvWait true .b) p
  have sp : u.port p = s.port p := by rw [up, hm]; rfl
  refine ⟨((leftRange s .vdrvB 8 true).setVdrvWait true .b).eachPort (driverOut .b),
    exec_vdrvExcursion (d := .b) hc h4 hp hok, ?_, ?_, ?_, ?_, ?_, fun ha => ?_, fun hb => ?_, ?_⟩
  · rw [engines_sup fr, hm]; rfl
  · rw [engines_sup fr, hm]; rfl
  · rw [engines_sup fr]; rfl
  · rw [engines_safety fr, hm]; rfl
  · rw [engines_sbox fr, hm]; exact List.length_append
  · rw [e, driverOut_other (by rw [ha]; decide), sp]
  · rw [e, ← sp]; exact driverOut_port hb
  · refine storesSame_engines ?_ fr
    rw [hm]; exact storesSame_of rfl rfl rfl

/-- A READY port of a die whose drivers are back enters ErrorRecovery when it is attached. -/
def driverBack (d : Die) (s : State) (p : PortId) : State :=
  s.when (dieOf p == d && s.portReady p && (s.port p).tc.state.attached) fun s => s.errorRecovery p

theorem engine_driverBack (d : Die) (s : State) (p : PortId) : EngineOnly p s (driverBack d s p) :=
  engine_when (engine_refl p s) (engine_errorRecovery (engine_refl p s))

theorem driverBack_state {d : Die} {u : State} {p : PortId} (hd : dieOf p = d) (hr : u.portReady p = true)
    (hs : (u.port p).tc.state.attached = true) : ((driverBack d u p).port p).tc.state = .errorRecovery := by
  rw [driverBack, hd, hr, hs, beq_self_eq_true, Bool.and_self, Bool.and_self, State.when_true, errorRecovery_state]

theorem driverBack_other {d : Die} {u : State} {p : PortId} (hd : dieOf p ≠ d) : driverBack d u p = u := by
  rw [driverBack, beq_false_of_ne hd, Bool.false_and, Bool.false_and, State.when_false]

theorem exec_vdrvReturn_waiting {s : State} (hc : s.coreOn = true) (hp : s.sys.pwr = .run) (hok : s.sup.vdrvA = .ok)
    (hw : s.sup.waitA = true) :
    exec (.vdrvReturn .a) s = .next ((s.setVdrvWait false .a).eachPort (driverBack .a)) := by
  have started : s.onStart = false := by rw [State.onStart, hp]; rfl
  have waits : s.vdrvWait .a = true := hw
  have ready : (s.supply (drvOf .a) == .ok) = true := by show (s.sup.vdrvA == .ok) = true; rw [hok]; rfl
  show execVdrvReturn .a s = _
  rw [execVdrvReturn, started, hc, waits, ready]
  rfl

theorem vdrvReturn_a {s : State} {p : PortId} (hc : s.coreOn = true) (hp : s.sys.pwr = .run) (hok : s.sup.vdrvA = .ok)
    (hw : s.sup.waitA = true) :
    Yields (.vdrvReturn .a) s fun t =>
      t.sup.vdrvA = .ok ∧ t.sup.waitA = false ∧ t.sup.waitB = s.sup.waitB ∧ (dieOf p = .b → t.port p = s.port p) ∧
      ((dieOf p = .a ∧ s.portReady p = true ∧ (s.port p).tc.state = .attachedSnk) →
        (t.port p).tc.state = .errorRecovery) := by
  have fr := engines_eachPort (engine_driverBack .a) (s.setVdrvWait false .a)
  obtain ⟨u, up, ue, e⟩ := eachPort_port (engine_driverBack .a) (s.setVdrvWait false .a) p
  have sp : u.port p = s.port p := up
  refine ⟨_, exec_vdrvReturn_waiting hc hp hok hw, ?_, ?_, ?_, fun hb => ?_, ?_⟩
  · rw [engines_sup fr]; exact hok
  · rw [engines_sup fr]; rfl
  · rw [engines_sup fr]; rfl
  · rw [e, driverBack_other (by rw [hb]; decide), sp]
  · rintro ⟨ha, hr, hs⟩
    have fuse : u.fuse = s.fuse := by rw [engines_fuse ue]; rfl
    have ready : u.portReady p = true := (portReady_of fuse (by rw [sp])).trans hr
    rw [e, driverBack_state ha ready (by rw [sp, hs]; rfl)]

/-! ## The statement -/

/-- Settles O23: each clause is what is said above of its supply. -/
theorem supplyExcursionsAreActedOn : Obligations.SupplyExcursionsAreActedOn := by
  unfold Obligations.SupplyExcursionsAreActedOn
  refine ⟨?_, ?_, ?_, ?_, ?_, ?_⟩
  · intro s mv hc h4 hq hp hok
    exact vioExcursion_below hc h4 hq hp hok
  · intro s p hc h4 hq hp hok
    exact vconninExcursion_above hc h4 hq hp hok
  · intro s hc h4 hq hp hok hm hd
    exact vbatExcursion_below hc h4 hq hp hok hm hd
  · intro s bit ok hc h4 hq hp hok
    exact vppExcursion_below hc h4 hq hp hok
  · intro s p hc h4 hq hp hok
    exact vdrvExcursion_b hc h4 hq hp hok
  · intro s p hc _ _ hp hok hw
    exact vdrvReturn_a hc hp hok hw

end Sys2Proof.Proofs
end

section
/-!
SUPPORT. Resets and the power states: what programming and records cut short may change, what the reset of CORE leaves, and the entries
to DOZE and SLEEP and the ways out of SLEEP; by them the statement about the power states comes down to the free values alone.
-/
namespace Sys2Proof.Proofs

open Sys2Proof.Machine Sys2Proof.Safety Sys2Proof.Laws

/-! ## Programming cut short (R565) -/

/-- Nothing but the fuse array, the performance counters and the free values drawn has changed. -/
def FusesOnly (s t : State) : Prop := t = { s with fuse := t.fuse, perf := t.perf, free := t.free }

theorem fuses_trans {s t u : State} (h : FusesOnly s t) (k : FusesOnly t u) : FusesOnly s u := by
  unfold FusesOnly at *; rw [k, h]

theorem fuses_count (s : State) (b e n : Nat) : FusesOnly s (s.count b e n) := by
  unfold State.count; split <;> rfl

theorem fuses_progWord (s : State) (w : Nat) (b fail : Word) : FusesOnly s (s.progWord w b fail) := by
  unfold State.progWord
  exact fuses_trans (fuses_count s _ _ _) rfl

theorem fuses_progList (fail : Word) : ∀ (l : List (Nat × Word)) (s : State), FusesOnly s (State.progList fail l s).1
  | [], _ => rfl
  | (w, b) :: l, s => by
    unfold State.progList; dsimp only
    split
    · exact fuses_trans (fuses_progWord s w b fail) (fuses_progList fail l _)
    · exact fuses_progWord s w b fail

theorem fuses_progThrough_from : ∀ (l : List (Nat × Word)) (a : State × Bool), FusesOnly a.1
    (l.foldl (fun (acc : State × Bool) x =>
      let fl := BitVec.ofNat 32 acc.1.freeNat
      (acc.1.drawn.progWord x.1 x.2 fl, acc.2 || acc.1.fuse.failMask x.1 x.2 fl != 0)) a).1
  | [], _ => rfl
  | _ :: l, a => fuses_trans (fuses_trans (t := a.1.drawn) rfl (fuses_progWord _ _ _ _)) (fuses_progThrough_from l _)

theorem fuses_progThrough (l : List (Nat × Word)) (s : State) : FusesOnly s (s.progThrough l).1 :=
  fuses_progThrough_from l (s, false)

theorem fuses_weakBit (s : State) (w : Nat) (b : Word) (j : Nat) : FusesOnly s (s.weakBit w b j) := rfl

/-- Programming that a loss of CORE cuts short reaches nothing but the array. -/
theorem fuses_fuseCut (s : State) : FusesOnly s s.fuseCut := by
  unfold State.fuseCut; dsimp only
  split
  · split
    · have whole := fuses_trans (t := s.drawn) rfl (fuses_progThrough (cutAt s.freeNat s.killWork).1 s.drawn)
      split
      · exact fuses_trans (fuses_trans whole (fuses_progThrough _ _)) (fuses_weakBit _ _ _ _)
      · exact whole
    · rfl
  · have run (f : Word) (l : List (Nat × Word)) := fuses_trans
      (t := { s.drawn.drawn with fuse := { s.drawn.drawn.fuse with run := none } }) rfl (fuses_progList f l _)
    split <;> rename_i e _
    · have done := congrArg Prod.fst e
      dsimp only at done; rw [← done]
      exact fuses_trans (fuses_trans (run _ _) (fuses_progWord _ _ _ _)) (fuses_weakBit _ _ _ _)
    · have done := congrArg Prod.fst e
      dsimp only at done; rw [← done]
      exact run _ _

/-! ## A record cut short (R578) -/

/-- A loss of power or a reset of CORE that cuts a record short reaches nothing but the MRAM. -/
theorem recordCut_frame (s : State) : ∃ m n, s.recordCut true = { s with sbox.mram := m, free := n } := by
  unfold State.recordCut
  split
  · simp only [if_true]
    split
    · exact ⟨_, _, rfl⟩
    split <;> exact ⟨_, _, rfl⟩
  · exact ⟨_, _, rfl⟩

/-- A free value that is a multiple of 3 says that no word of a record had been written. -/
theorem recordCut_none {s : State} (h : s.freeNat % 3 = 0) : (s.recordCut true).sbox.mram = s.sbox.mram := by
  unfold State.recordCut
  split
  · dsimp only; rw [if_pos h]; rfl
  · rfl

/-- The bytes of a record, and its COMMIT word, in a slot of the MRAM. -/
def putRecord (m : Mem) (slot : Nat) (l c : List Byte) : Mem := (m.writeBytes (64 * slot + 60) c).writeBytes (64 * slot) l

/-- Any other free value says that the queue's first record was being written: to some word, or to its commit. -/
theorem recordCut_some {s : State} {r : Rec} {b c : Sbox} {i : Nat} (hi : s.sys.interp = true) (hb : s.sys.sboxReady = true)
    (hh : s.sbox.head (s.sys.sts.truncate 48) = some (r, b)) (ht : s.sbox.take (pinnedType r.ty) = (i, c))
    (h : s.freeNat % 3 ≠ 0) : (s.recordCut true).sbox.mram =
      if s.freeNat % 3 = 1 then
        putRecord s.sbox.mram i ((recBytes c.nextSeq r).take (4 * (s.freeNat / 3 % 16))) (leBytes 4 0)
      else putRecord s.sbox.mram i (recBytes c.nextSeq r) (leBytes 4 (crcWordOf (crc16 (recBytes c.nextSeq r))).toNat) := by
  unfold State.recordCut putRecord
  rw [hi, hb, hh]
  simp only [Bool.and_self, ht, h, if_false, if_true]
  by_cases k : s.freeNat % 3 = 1
  · simp only [k, if_true]
  · simp only [k, if_false]

/-- What CORE's reset cuts short reaches the array, the MRAM, the performance counters and the free values alone. -/
theorem cut_frame (s : State) : ∃ f g m n, s.fuseCut.recordCut true =
    { s with fuse := f, perf := g, sbox.mram := m, free := n } := by
  obtain ⟨m, n, e⟩ := recordCut_frame s.fuseCut
  rw [e, fuses_fuseCut s]
  exact ⟨_, _, _, _, rfl⟩

theorem coreReset_mram (s : State) : s.coreReset.sbox.mram = (s.fuseCut.recordCut true).sbox.mram := rfl

/-! ## RESET_N (R51) -/

theorem coreReset_port (s : State) (p : PortId) :
    s.coreReset.port p = ((s.fuseCut.recordCut true).port p).coreReset (isE p) :=
  Vector.getElem_ofFn p.isLt

/-- Ports come out of CORE's reset not READY. -/
theorem coreReset_ready (s : State) (p : PortId) : (s.coreReset.port p).tc.ready = false := by
  rw [coreReset_port]; rfl

/-- What AON holds, the saved configuration and the Vault's slots outlast CORE's reset. -/
theorem coreReset_keeps (s : State) :
    s.coreReset.sys.sts = s.sys.sts ∧ s.coreReset.alarm.latched = s.alarm.latched ∧
    s.coreReset.bus.haddrBase = s.bus.haddrBase ∧ s.coreReset.sup = { s.sup with waitA := false, waitB := false } ∧
    s.coreReset.store = s.store ∧ s.coreReset.vault = s.vault := by
  obtain ⟨f, g, m, n, e⟩ := cut_frame s
  unfold State.coreReset
  rw [e]
  exact ⟨rfl, rfl, rfl, rfl, rfl, rfl⟩

/-- STS coming to run on the LFO changes nothing but STSSTAT. -/
theorem when_stsLfo (s : State) (c : Bool) : s.when c State.stsLfo = { s with sys.stsStat := (s.when c State.stsLfo).sys.stsStat } := by
  cases c <;> rfl

/-- A low RESET_N leaves the MRAM as CORE's reset does. -/
theorem resetNLow_resets_core (s : State) (p : PortId) :
    Yields .resetNLow s fun t =>
      t.sys.resetLow = true ∧ t.sys.cause = 3 ∧ (t.port p).tc.ready = false ∧ t.mb = Mailbox.reset ∧ t.sys.interp = false ∧
      t.sys.sts = s.sys.sts ∧ t.alarm.latched = s.alarm.latched ∧ t.bus.haddrBase = s.bus.haddrBase ∧
      t.sup = { s.sup with waitA := false, waitB := false } ∧ t.sbox.mram = s.coreReset.sbox.mram ∧ t.store = s.store ∧
      t.vault.slots = s.vault.slots := by
  obtain ⟨hsts, hal, hbase, hsup, hstore, hvault⟩ := coreReset_keeps s
  have hslots : s.coreReset.vault.slots = s.vault.slots := by rw [hvault]
  have hr := coreReset_ready s p
  have hm : s.coreReset.mb = Mailbox.reset := rfl
  have hi : s.coreReset.sys.interp = false := rfl
  refine ⟨_, (rfl : _ = execResetNLow s), ?_⟩
  generalize s.coreReset = c at *
  rw [when_stsLfo]
  exact ⟨rfl, rfl, hr, hm, hi, hsts, hal, hbase, hsup, rfl, hstore, hslots⟩

/-! ## DOZE and SLEEP (R72 to R74) -/

theorem exec_dozeEntry {s : State} (hi : s.sys.interp = true) (hp : s.sys.pwr = .run) (hd : s.sys.dozeEn = true)
    (hr : s.sys.resetLow = false) (hw : s.workless = true) :
    exec .dozeEntry s = .next { s with sys := { s.sys with pwr := .doze } } := by
  show execDozeEntry s = _
  simp [execDozeEntry, hi, hp, hd, hr, hw]

/-- One source's answer to a change of the Unconstrained Power flag is its own port's. -/
theorem engines_flagChange (s : State) (was : Bool) : EnginesOnly s (s.flagChange was) := by
  unfold State.flagChange
  split
  · exact engines_refl s
  · exact engines_eachPort (fun t q => engine_when (engine_refl q t)
      (engine_trigger (engine_when (engine_refl q t) (engine_trigger (engine_refl q t) _)) _)) s

theorem sleepEntry_sleeps {s : State} (hp : s.sys.pwr = .doze) (hs : s.sleepOk = true) :
    Yields .sleepEntry s fun t =>
      t.sys.pwr = .sleep ∧ t.sys.stsStat = setBit s.sys.stsStat 1 ∧ t.sys.hbisoLow = false ∧ t.sys.sts = s.sys.sts ∧
      t.sup = s.sup ∧ t.mb = s.mb ∧ StoresSame s t := by
  have e : exec .sleepEntry s = .next (State.stsLfo { s.hbisoRelease with
      gwcs := s.hbisoRelease.gwcs.map fun (x : Gwc) => { x with hist := [] }, sys.pwr := .sleep }) := by
    show execSleepEntry s = _
    simp [execSleepEntry, hp, hs]
  have f := engines_flagChange { s with
    sys.hbisoLow := false, ledger.islChg := s.ledger.islChg || s.sys.hbisoLow } s.unconstrained
  refine ⟨_, e, ?_⟩
  unfold State.hbisoRelease
  rw [f]
  exact ⟨rfl, rfl, rfl, rfl, rfl, rfl, storesSame_of rfl rfl rfl⟩

/-- A wake from SLEEP reaches DOZE and changes nothing else. -/
theorem wakeUp_sleep {s : State} (hp : s.sys.pwr = .sleep) : s.wakeUp = { s with sys := { s.sys with pwr := .doze } } := by
  simp [State.wakeUp, hp]

theorem exec_sleepWake_cc {s : State} {p : PortId} (h : s.portReady p = true) :
    exec (.sleepWake (.cc p)) s = .next s.wakeUp := by
  show execSleepWake (.cc p) s = _
  simp [execSleepWake, h]

theorem exec_sleepWake_hostMatch {s : State} (h : s.hostUp = true) : exec (.sleepWake .hostMatch) s = .next s.wakeUp := by
  show execSleepWake .hostMatch s = _
  simp [execSleepWake, h]

/-! ## VIO's range (R65) -/

theorem exec_vioModeSelect {s : State} (mv : Nat) (h : s.sys.vioHeld = false) : exec (.vioModeSelect mv) s =
    .next { s with sys := { s.sys with vioSel := !decide (mv < 2400), vioHeld := true } } := by
  show execVioModeSelect mv s = _
  have lt : Nat.blt mv 2400 = decide (mv < 2400) := Bool.eq_iff_iff.mpr (by simp)
  simp [execVioModeSelect, h, lt]

/-! ## What is open -/

/-- The MRAM with one byte set, in the COMMIT word of the journal's first slot. -/
def oneByte : Mem := [(64 * 256 + 60, 1)]

/-- A record that goes to the journal. -/
def queued : Rec := ⟨0x01, [], 0⟩

/-- A device in RUN that may be writing its one queued record to the journal's first slot, with the `n`-th free value to come. -/
def writing (n : Nat) : State :=
  { State.reset with
    sys := { State.reset.sys with interp := true, sboxReady := true }
    sbox := { State.reset.sbox with queue := [queued], mram := oneByte }, free := n }

theorem writing_fuseCut (n : Nat) : (writing n).fuseCut = writing n := rfl

/-- A record cut short before its commit leaves COMMIT 0 (R578). -/
theorem torn_changes (l : List Byte) (hl : l.length ≤ 60) : putRecord oneByte 256 l (leBytes 4 0) ≠ oneByte := by
  intro e
  have cleared : (putRecord oneByte 256 l (leBytes 4 0)).read (64 * 256 + 60) = 0 := by
    rw [putRecord, Mem.read_writeBytes_out _ _ (by decide) (by omega)]
    decide
  rw [e] at cleared
  exact absurd cleared (by decide)

/-- A committed record leaves its bytes. -/
theorem committed_changes :
    putRecord oneByte 256 (recBytes 1 queued) (leBytes 4 (crcWordOf (crc16 (recBytes 1 queued))).toNat) ≠ oneByte := by
  decide +kernel

/-- CORE's reset changes the slot unless the free value is a multiple of 3. -/
theorem writing_cut {n : Nat} (h : Config.free n % 3 ≠ 0) : (writing n).coreReset.sbox.mram ≠ oneByte := by
  have e := recordCut_some (s := writing n) (r := queued) (i := 256) (c := { (writing n).sbox with jnext := 257 })
    rfl rfl rfl rfl h
  rw [coreReset_mram, writing_fuseCut, e]
  split
  · have l60 : (recBytes 1 queued).length ≤ 60 := by decide
    exact torn_changes _ ((List.length_take_le' _ _).trans l60)
  · exact committed_changes

/-- All that keeps the statement about the power states open is a free value: RESET_N's clause has the MRAM kept, and a record that
waits in the queue is cut short in it wherever the free value that tells how far its writing had come is no multiple of 3 (log
entry 136). Nothing can be proved of the free values (log entry 5). -/
theorem powerStatesAreEnteredAndLeft_iff_free :
    Obligations.PowerStatesAreEnteredAndLeft ↔ ∀ n, Config.free n % 3 = 0 := by
  unfold Obligations.PowerStatesAreEnteredAndLeft
  constructor
  · rintro ⟨reset, -⟩ n
    by_contra h
    obtain ⟨t, e, -, -, -, -, -, -, -, -, -, mram, -⟩ := reset (writing n) 0 rfl
    obtain ⟨u, f, -, -, -, -, -, -, -, -, -, cut, -⟩ := resetNLow_resets_core (writing n) 0
    rw [e] at f
    injection f with f
    subst f
    exact writing_cut h (cut.symm.trans mram)
  · intro free
    have kept (s : State) : s.coreReset.sbox.mram = s.sbox.mram := by
      rw [coreReset_mram, recordCut_none (free _), fuses_fuseCut s]
    refine ⟨?_, ?_, ?_, ?_, ?_, ?_, ?_, ?_, ?_⟩
    · intro s p _
      rw [← kept s]
      exact resetNLow_resets_core s p
    · intro s hi hp hd hr hw
      exact ⟨_, exec_dozeEntry hi hp hd hr hw, rfl⟩
    · intro s _ hp hs
      exact sleepEntry_sleeps hp hs
    · intro s _ hp
      exact ⟨s.wakeUp, rfl, wakeUp_sleep hp⟩
    · intro s _ hp
      exact ⟨s.wakeUp, rfl, wakeUp_sleep hp⟩
    · intro s p _ hp hr
      exact ⟨_, exec_sleepWake_cc hr, wakeUp_sleep hp⟩
    · intro s _ hp hu
      exact ⟨_, exec_sleepWake_hostMatch hu, wakeUp_sleep hp⟩
    · intro s mv _ hm hh
      exact ⟨_, exec_vioModeSelect mv hh, by simp [Nat.not_lt.mpr hm]⟩
    · intro s mv _ hm hh
      exact ⟨_, exec_vioModeSelect mv hh, by simp [hm]⟩

end Sys2Proof.Proofs
end

section
/-!
SUPPORT. The record queue at the end of the boot: a full queue takes no further record, and the Ledger's first cycle, which comes before
the BOOT record, can fill it; with them O29 is refuted.
-/
namespace Sys2Proof.Proofs

open Sys2Proof.Machine Sys2Proof.Safety Sys2Proof.Laws

/-! ## A full queue (R29, R30) -/

/-- The record queue is full and holds the records of a list. -/
structure FullOf (l : List Rec) (s : State) : Prop where
  full : 32 ≤ l.length
  queue : s.sbox.queue = l

/-- Whether a queue is full rests on the Strongbox's part of the state. -/
theorem fullOf_of {l : List Rec} {s t : State} (h : FullOf l s) (e : t.sbox = s.sbox) : FullOf l t :=
  ⟨h.full, by rw [e]; exact h.queue⟩

section
variable {l : List Rec} {s : State} (h : FullOf l s)
include h

/-- A record posted to a full queue is dropped. -/
theorem fullOf_postRec (ty : Byte) (b : List Byte) : FullOf l (s.postRec ty b) := by
  unfold State.postRec
  rw [if_neg (by rw [h.queue]; exact Nat.not_lt.mpr h.full)]
  exact ⟨h.full, h.queue⟩

/-! ## Step 12 of the boot (R572) -/

theorem fullOf_sboxBoot : FullOf l s.sboxBoot := ⟨h.full, (scan_same s.sbox).2.trans h.queue⟩

theorem fullOf_postBoot : FullOf l s.postBoot := fullOf_postRec h _ _

theorem fullOf_postFuseBoot : FullOf l s.postFuseBoot := by
  unfold State.postFuseBoot; dsimp only
  split
  · exact h
  · exact fullOf_postRec h _ _

theorem fullOf_postEmber : FullOf l s.postEmber := by
  unfold State.postEmber
  split
  · exact fullOf_of (fullOf_postRec h 0x11 _) rfl
  · exact h

theorem fullOf_ringListen : FullOf l s.ringListen := ⟨h.full, h.queue⟩

theorem fullOf_vaultBoot : FullOf l s.vaultBoot := ⟨h.full, h.queue⟩

end

theorem fullOf_foldl_postRec {α : Type} (ty : α → Byte) (b : α → List Byte) {l : List Rec} : ∀ (x : List α) (s : State),
    FullOf l s → FullOf l (x.foldl (fun s x => s.postRec (ty x) (b x)) s)
  | [], _, h => h
  | y :: x, _, h => fullOf_foldl_postRec ty b x _ (fullOf_postRec h (ty y) (b y))

theorem fullOf_postLatched {l : List Rec} {s : State} (h : FullOf l s) : FullOf l s.postLatched := by
  have alarms := fullOf_foldl_postRec (fun _ => 0x0A)
    (fun x : Byte × Byte × BitVec 64 => x.1 :: x.2.1 :: 1 :: leBytes 8 x.2.2.toNat) s.alarm.latched s h
  unfold State.postLatched
  by_cases e : s.alarm.latched.isEmpty = true
  · simp only [e, if_true]
    split
    · refine fullOf_postRec ?_ _ _
      exact fullOf_of h rfl
    · exact h
  · simp only [e, Bool.false_eq_true, if_false]
    generalize s.alarm.latched.foldl _ s = a at alarms ⊢
    have all := fullOf_postRec alarms 0x0B (leBytes 4 s.alarm.beyond)
    split
    · refine fullOf_postRec ?_ _ _
      exact fullOf_of all rfl
    · exact fullOf_of all rfl

/-- The Ledger's first cycle comes before every record of step 12: a queue that it fills is the queue at the boot's end. -/
theorem fullOf_bootFull {l : List Rec} {s : State} (hr : s.ledger.ready = false) (hs : s.ledger.stuck = false)
    (h : FullOf l s.cycleAgreed) : FullOf l s.bootFull := by
  have listens {t : State} (k : FullOf l t) : FullOf l (if t.ring.link = 0 then t.ringListen else t) := by
    split
    · exact fullOf_ringListen k
    · exact k
  have first : (if s.ledger.ready || s.ledger.stuck then s else s.cycleAgreed) = s.cycleAgreed := by rw [hr, hs]; rfl
  unfold State.bootFull
  rw [first]
  exact listens (fullOf_postEmber (fullOf_postBoot (fullOf_postFuseBoot (fullOf_postLatched
    (fullOf_sboxBoot (fullOf_vaultBoot (fullOf_of h rfl)))))))

/-! ## The counterexample -/

/-- The steps of a cold boot to step 8, and then to the end. -/
theorem exec_coldBoot_full {s : State} {e : BootEnv} (hp : s.sys.pwr ≠ .ember) (hm : s.sup.vmain = .ok) (hc : s.sup.vdcore = .ok)
    (ha : s.sup.vdaon = .ok) (hb : s.sys.boot = 0) (he : e.stage = .full) (h5 : (s.bootStart e).sys.boot < 7)
    (h8 : ((s.bootStart e).bootPorts e).bootInterp.sys.boot < 12) :
    exec (.coldBoot e) s = .next ((s.bootStart e).bootPorts e).bootInterp.bootFull := by
  have h7 : ((s.bootStart e).bootPorts e).sys.boot = 7 := rfl
  show execColdBoot e s = _
  simp [execColdBoot, hp, hm, hc, ha, hb, he, h5, h7, h8]

/-- A blank part before its cold boot, but with its Ledger frozen and 32 probes posted to it, each of which it refuses with a record
(R320, R333). -/
def probedFrozen : State :=
  { State.reset with
    ledger := { State.reset.ledger with frozen := true, posts := List.replicate 32 (.probe 0 0 false 0) }
    fuse := { State.reset.fuse with normal := [], strict := [] } }

/-- Straps that read 0, no findings, and the whole boot. -/
def wholeBoot : BootEnv := ⟨⟨0, 0, 0⟩, [], .full⟩

/-- The device as the interpreter's READY leaves it. -/
def probedStep8 : State := ((probedFrozen.bootStart wholeBoot).bootPorts wholeBoot).bootInterp

theorem probedStep8_boot : (probedFrozen.bootStart wholeBoot).sys.boot < 7 ∧ probedStep8.sys.boot < 12 ∧
    probedStep8.ledger.ready = false ∧ probedStep8.ledger.stuck = false := by
  decide +kernel

/-- The Ledger's first cycle leaves 32 REFUSAL records, and nothing else, in the queue. -/
theorem probedStep8_refusals : probedStep8.cycleAgreed.sbox.queue.map (·.ty) = List.replicate 32 0x07 := by
  decide +kernel

/-- The boot ends with those records alone: the BOOT record found the queue full. -/
theorem probedFrozen_boot : ∃ t, exec (.coldBoot wholeBoot) probedFrozen = .next t ∧
    t.sbox.queue.map (·.ty) = List.replicate 32 0x07 := by
  obtain ⟨h5, h8, hr, hs⟩ := probedStep8_boot
  have full : FullOf probedStep8.cycleAgreed.sbox.queue probedStep8.cycleAgreed := by
    refine ⟨?_, rfl⟩
    rw [← List.length_map (·.ty), probedStep8_refusals, List.length_replicate]
  have runs : exec (.coldBoot wholeBoot) probedFrozen = .next probedStep8.bootFull := by
    unfold probedStep8 at h8 ⊢
    exact exec_coldBoot_full (by decide) rfl rfl rfl rfl rfl h5 h8
  refine ⟨_, runs, ?_⟩
  exact (congrArg _ (fullOf_bootFull hr hs full).queue).trans probedStep8_refusals

/-- Refutes O29: its last clause asks that the BOOT record be in the queue, but says nothing of what was posted to the Ledger, whose
first cycle comes before it. A frozen Ledger that has 32 probes to refuse fills the queue with their records, and the BOOT record
is lost (R29, R30). -/
theorem not_aColdBootBringsTheDeviceUp : ¬ Obligations.AColdBootBringsTheDeviceUp := by
  unfold Obligations.AColdBootBringsTheDeviceUp
  rintro ⟨-, boots⟩
  obtain ⟨t, e, -, -, -, -, -, -, ⟨r, hr, ty, -⟩, -⟩ := boots probedFrozen ⟨0, 0, 0⟩ (by decide) rfl rfl rfl rfl rfl rfl rfl rfl
    rfl rfl rfl rfl rfl rfl rfl rfl rfl rfl rfl rfl
  obtain ⟨u, f, refusals⟩ := probedFrozen_boot
  rw [wholeBoot, e] at f
  injection f with f
  subst f
  have only : r.ty = 0x07 := List.eq_of_mem_replicate (refusals ▸ List.mem_map_of_mem hr)
  rw [ty] at only
  exact absurd only (by decide)

end Sys2Proof.Proofs
end

section
/-!
SUPPORT. Clocks lost and regained: with the clock monitors on each loss is recorded before its consequences follow; with them O27 is
settled.
-/
namespace Sys2Proof.Proofs

open Sys2Proof.Machine Sys2Proof.Safety Sys2Proof.Laws

/-! ## The record of a lost clock (R69) -/

/-- What a queued record makes of the power state: it ends DOZE alone. -/
def undozed (p : Pwr) : Pwr := if p == .doze then .run else p

/-- A record posted to a queue with room is the last of the queue, and at most DOZE ends. -/
theorem postRec_added {s : State} (ty : Byte) (b : List Byte) (hq : s.sbox.queue.length < 32) :
    s.postRec ty b = { s with
      sbox.queue := s.sbox.queue ++ [⟨ty, b, s.sys.sts.truncate 48⟩], sys.pwr := undozed s.sys.pwr } := by
  unfold State.postRec State.leaveDoze undozed
  rw [if_pos hq]
  dsimp only
  split <;> rfl

/-- The SAFEEVT bit and the SAFETY record of a lost clock. -/
def clockRecorded (s : State) (c : ClockId) (bit : Nat) : State :=
  (s.safeEvt bit).postSafety 4 (Config.clockCode c).toNat 0

theorem clockLost_acted {s : State} (c : ClockId) (bit : Nat) (f : State → State) (hc : s.coreOn = true)
    (h3 : s.safeOn 3 = true) : s.clockLost c bit f = f (clockRecorded s c bit) := by
  rw [State.clockLost, h3, hc]
  rfl

theorem clockRecorded_room {s : State} (c : ClockId) (bit : Nat) (hq : s.sbox.queue.length < 32) :
    ∃ r, clockRecorded s c bit = { s with
      safety.evt := setBit s.safety.evt bit, sbox.queue := s.sbox.queue ++ [r], sys.pwr := undozed s.sys.pwr } :=
  ⟨_, postRec_added (s := s.safeEvt bit) _ _ hq⟩

/-- The end of DOZE leaves CORE on. -/
theorem undozed_ne_off {p : Pwr} (h : p ≠ .off) : undozed p ≠ .off := by
  unfold undozed
  split
  · decide
  · exact h

theorem coreOn_iff (s : State) : s.coreOn = true ↔ s.sys.pwr ≠ .off ∧ s.sys.resetLow = false := by
  simp [State.coreOn]

/-! ## HFO -/

/-- Outside an Ember start there is nothing to abandon. -/
theorem emberAbandon_not_onStart {s : State} (c : EmberCause) (h : s.onStart = false) : s.emberAbandon c = s := by
  unfold State.emberAbandon
  rw [h]
  rfl

theorem exec_hfoLoss {s : State} (hc : s.coreOn = true) (h3 : s.safeOn 3 = true) (hf : s.clk.hfo = false) :
    exec .hfoLoss s = .next ((clockRecorded { s with clk.hfo := true } .hfo 4).emberAbandon .hfoLost) := by
  show execHfoLoss s = _
  rw [execHfoLoss, hf]
  exact congrArg Host.Outcome.next (clockLost_acted (s := { s with clk.hfo := true }) .hfo 4 (State.emberAbandon · .hfoLost) hc h3)

theorem hfoLoss_marked {s : State} (hc : s.coreOn = true) (h3 : s.safeOn 3 = true) (hq : s.sbox.queue.length < 32)
    (hf : s.clk.hfo = false) (hp : s.sys.pwr = .run) :
    Yields .hfoLoss s fun t =>
      t.clk = { s.clk with hfo := true } ∧ t.safety.evt = setBit s.safety.evt 4 ∧
      t.sbox.queue.length = s.sbox.queue.length + 1 ∧ t.ports = s.ports ∧ t.sup = s.sup := by
  obtain ⟨r, hr⟩ := clockRecorded_room (s := { s with clk.hfo := true }) .hfo 4 hq
  have started : (clockRecorded { s with clk.hfo := true } .hfo 4).onStart = false := by
    rw [hr]
    show (undozed s.sys.pwr == .ember && _) = false
    rw [hp]; rfl
  refine ⟨_, exec_hfoLoss hc h3 hf, ?_⟩
  rw [emberAbandon_not_onStart _ started, hr]
  exact ⟨rfl, rfl, List.length_append, rfl, rfl⟩

/-! ## The PLL and REFCLK -/

theorem exec_pllLockLoss {s : State} (hc : s.coreOn = true) (h3 : s.safeOn 3 = true) (hf : s.clk.pll = false) :
    exec .pllLockLoss s = .next (clockRecorded { s with clk.pll := true } .pll 4).stsDegraded := by
  show execPllLockLoss s = _
  rw [execPllLockLoss, hf]
  exact congrArg Host.Outcome.next (clockLost_acted (s := { s with clk.pll := true }) .pll 4 _ hc h3)

theorem pllLockLoss_marked {s : State} (hc : s.coreOn = true) (h3 : s.safeOn 3 = true) (hq : s.sbox.queue.length < 32)
    (hf : s.clk.pll = false) :
    Yields .pllLockLoss s fun t =>
      t.clk = { s.clk with pll := true } ∧ t.safety.evt = setBit s.safety.evt 4 ∧
      t.sbox.queue.length = s.sbox.queue.length + 1 ∧ t.sys.stsStat = setBit s.sys.stsStat 0 ∧ t.ring = s.ring ∧
      PortsSame s t ∧ StoresSame s t := by
  obtain ⟨r, hr⟩ := clockRecorded_room (s := { s with clk.pll := true }) .pll 4 hq
  refine ⟨_, exec_pllLockLoss hc h3 hf, ?_⟩
  rw [hr]
  exact ⟨rfl, rfl, List.length_append, rfl, rfl, rfl, storesSame_of rfl rfl rfl⟩

/-- What the loss of REFCLK does before the ring is told: SYSCLK leaves the PLL, and STS its reference. -/
def refclkOut (s : State) : State :=
  { clockRecorded { s with clk.refclk := true } .refclk 4 with clk.pll := true }.stsDegraded

/-- The loss of REFCLK marks the PLL with it; nothing else changes but its event, its record and STS's mark. -/
theorem refclkOut_room {s : State} (hq : s.sbox.queue.length < 32) :
    ∃ r, refclkOut s = { s with
      clk := { s.clk with refclk := true, pll := true }, safety.evt := setBit s.safety.evt 4,
      sbox.queue := s.sbox.queue ++ [r], sys.pwr := undozed s.sys.pwr, sys.stsStat := setBit s.sys.stsStat 0 } := by
  obtain ⟨r, hr⟩ := clockRecorded_room (s := { s with clk.refclk := true }) .refclk 4 hq
  refine ⟨r, ?_⟩
  unfold refclkOut
  rw [hr]
  rfl

theorem refclkOut_coreOn {s : State} (hc : s.coreOn = true) (hq : s.sbox.queue.length < 32) : (refclkOut s).coreOn = true := by
  obtain ⟨r, hr⟩ := refclkOut_room hq
  rw [coreOn_iff] at hc ⊢
  rw [hr]
  exact ⟨undozed_ne_off hc.1, hc.2⟩

theorem exec_refclkLoss {s : State} (hc : s.coreOn = true) (h3 : s.safeOn 3 = true) (hq : s.sbox.queue.length < 32)
    (hf : s.clk.refclk = false) : exec .refclkLoss s = .next (refclkOut s).ringLeave := by
  have lost : ({ s with clk.refclk := true } : State).clockLost .refclk 4 (fun s => { s with clk.pll := true }.stsDegraded) =
      refclkOut s := clockLost_acted (s := { s with clk.refclk := true }) .refclk 4 _ hc h3
  show execRefclkLoss s = _
  rw [execRefclkLoss, hf, Bool.not_false, State.when_true, lost]
  exact congrArg (fun c => Host.Outcome.next ((refclkOut s).when c State.ringLeave)) (refclkOut_coreOn hc hq)

/-- A joined node leaves the ring in its slot (R351). -/
theorem ringLeave_joined {s : State} (h : s.ring.link = 2) : s.ringLeave = { s with ring.leaveDue := true } := by
  unfold State.ringLeave
  rw [h]
  rfl

theorem refclkLoss_marked {s : State} (hc : s.coreOn = true) (h3 : s.safeOn 3 = true) (hq : s.sbox.queue.length < 32)
    (hf : s.clk.refclk = false) (hl : s.ring.link = 2) :
    Yields .refclkLoss s fun t =>
      t.clk = { s.clk with refclk := true, pll := true } ∧ t.safety.evt = setBit s.safety.evt 4 ∧
      t.sbox.queue.length = s.sbox.queue.length + 1 ∧ t.ring = { s.ring with leaveDue := true } ∧
      t.sys.stsStat = setBit s.sys.stsStat 0 ∧ StoresSame s t := by
  obtain ⟨r, hr⟩ := refclkOut_room hq
  have joined : (refclkOut s).ring.link = 2 := by rw [hr]; exact hl
  refine ⟨_, exec_refclkLoss hc h3 hq hf, ?_⟩
  rw [ringLeave_joined joined, hr]
  exact ⟨rfl, rfl, List.length_append, rfl, rfl, storesSame_of rfl rfl rfl⟩

/-! ## The LFO's crystal -/

theorem exec_lfoCrystalLoss {s : State} (hc : s.coreOn = true) (h3 : s.safeOn 3 = true) (hf : s.clk.lfoXtal = false)
    (hx : s.custField 0x0C0 10 10 = 1) :
    exec .lfoCrystalLoss s = .next (clockRecorded { s with clk.lfoXtal := true } .lfoCrystal 5) := by
  show execLfoCrystalLoss s = _
  rw [execLfoCrystalLoss, hf, hx]
  exact congrArg Host.Outcome.next (clockLost_acted (s := { s with clk.lfoXtal := true }) .lfoCrystal 5 id hc h3)

theorem lfoCrystalLoss_marked {s : State} (hc : s.coreOn = true) (h3 : s.safeOn 3 = true) (hq : s.sbox.queue.length < 32)
    (hf : s.clk.lfoXtal = false) (hx : s.custField 0x0C0 10 10 = 1) :
    Yields .lfoCrystalLoss s fun t =>
      t.clk = { s.clk with lfoXtal := true } ∧ t.safety.evt = setBit s.safety.evt 5 ∧
      t.sbox.queue.length = s.sbox.queue.length + 1 ∧ PortsSame s t ∧ StoresSame s t := by
  obtain ⟨r, hr⟩ := clockRecorded_room (s := { s with clk.lfoXtal := true }) .lfoCrystal 5 hq
  refine ⟨_, exec_lfoCrystalLoss hc h3 hf hx, ?_⟩
  rw [hr]
  exact ⟨rfl, rfl, List.length_append, rfl, storesSame_of rfl rfl rfl⟩

/-! ## A clock that returns (R71) -/

theorem exec_clockReturn_hfo (s : State) :
    exec (.clockReturn .hfo) s = .next { s with clk := { s.clk with hfo := false } } := rfl

theorem exec_clockReturn_pll (s : State) :
    exec (.clockReturn .pll) s = .next { s with clk := { s.clk with pll := false } } := rfl

/-! ## The statement -/

/-- Settles O27: each clause is what is said above of its clock. -/
theorem clocksLostAndBack : Obligations.ClocksLostAndBack := by
  unfold Obligations.ClocksLostAndBack
  refine ⟨?_, ?_, ?_, ?_, ?_, ?_⟩
  · intro s hc h3 hq hf hp
    exact hfoLoss_marked hc h3 hq hf hp
  · intro s hc h3 hq hf
    exact pllLockLoss_marked hc h3 hq hf
  · intro s hc h3 hq hf hl
    exact refclkLoss_marked hc h3 hq hf hl
  · intro s hc h3 hq hf hx
    exact lfoCrystalLoss_marked hc h3 hq hf hx
  · intro s _ _ _
    exact ⟨_, exec_clockReturn_hfo s, rfl⟩
  · intro s _ _ _
    exact ⟨_, exec_clockReturn_pll s, rfl⟩

end Sys2Proof.Proofs
end

section
/-!
SUPPORT. AON powered and lost, and the way to OFF: what each leaves of a state.
-/
namespace Sys2Proof.Proofs

open Sys2Proof.Machine Sys2Proof.Safety Sys2Proof.Laws

/-! ## AON lost (R18) -/

/-- Nothing but the OTP controller, Lantern, the buses, the mailbox, the performance counters and the free values drawn has
changed. -/
def ControllerOnly (s t : State) : Prop :=
  t = { s with fuse := t.fuse, lantern := t.lantern, pbus := t.pbus, mb := t.mb, perf := t.perf, free := t.free }

theorem controller_trans {s t u : State} (h : ControllerOnly s t) (k : ControllerOnly t u) : ControllerOnly s u := by
  unfold ControllerOnly at *; rw [k, h]

theorem controller_of_buses {s t : State} (h : BusesOnly s t) : ControllerOnly s t := by
  unfold ControllerOnly; rw [h]

/-- A fuse command takes the controller, or completes and lets the next one try. -/
theorem controller_fuseNext : ∀ (n : Nat) (s : State), ControllerOnly s (State.fuseNext n s)
  | 0, _ => rfl
  | n + 1, s => by
    unfold State.fuseNext
    split
    · rfl
    split
    · rfl
    split
    · rfl
    dsimp only
    split
    · rfl
    · refine controller_trans ?_ (controller_fuseNext n _)
      refine controller_trans ?_ (controller_of_buses (buses_complete _ _ _ _))
      rfl

theorem controller_lanternLock (s : State) : ControllerOnly s s.lanternLock := by
  refine controller_trans ?_ (controller_fuseNext _ _)
  rfl

/-- What AON's loss makes of the Vault, the alarm, the power-up values and the start; the ports, the Strongbox and the store
stay. -/
theorem aonReset_parts (s : State) :
    s.aonReset.vault = Vault.reset ∧ s.aonReset.alarm = Alarm.reset ∧
    s.aonReset.sys = { s.sys with cause := 1, sts := 0, stsAcc := 0, stsStat := 0, strapDue := true } ∧
    s.aonReset.ember = { s.ember with forbid := false, pwrMax := 3, mask := 0xFFFFFFFF, latched := none } ∧
    s.aonReset.ports = s.ports ∧ s.aonReset.sbox = s.sbox ∧ s.aonReset.store = s.store ∧ s.aonReset.sup = s.sup := by
  unfold State.aonReset
  rw [controller_lanternLock s]
  exact ⟨rfl, rfl, rfl, rfl, rfl, rfl, rfl, rfl⟩

theorem fuseGo_idle {s : State} (h : s.fuse.queue = []) : s.fuseGo = s := by
  unfold State.fuseGo
  rw [h]
  unfold State.fuseNext
  rw [h]
  split <;> rfl

/-- With no fuse command waiting, AON's loss tells the host nothing. -/
theorem aonReset_idle {s : State} (h : s.fuse.queue = []) : s.aonReset.mb = s.mb ∧ s.aonReset.fuse = s.fuse := by
  unfold State.aonReset State.lanternLock
  rw [fuseGo_idle (by exact h)]
  exact ⟨rfl, rfl⟩

theorem aonCheck_on {s : State} (h : s.aonOn = true) : s.aonCheck = s := if_pos h

theorem aonCheck_off {s : State} (h : s.aonOn = false) : s.aonCheck = s.aonReset := if_neg (by simp [h])

theorem aonOn_of_vbat {s : State} (hb : s.sup.vbat = .ok) (ha : s.sup.vdaon = .ok) : s.aonOn = true := by
  simp [State.aonOn, hb, ha]

theorem aonOn_of_reg {s : State} (hr : s.ember.reg = true) (ha : s.sup.vdaon = .ok) : s.aonOn = true := by
  simp [State.aonOn, hr, ha]

/-- Without VMAIN, the start regulator and VBAT nothing powers AON. -/
theorem aonOn_without_source {s : State} (hm : s.sup.vmain = .below) (hr : s.ember.reg = false) (hb : s.sup.vbat = .below) :
    s.aonOn = false := by
  simp [State.aonOn, hm, hr, hb]

/-! ## The way to OFF (R72) -/

/-- OFF is entered from CORE's reset, before it is asked whether AON is still powered. -/
def toOff (c : State) : State :=
  ({ c with sys := { c.sys with pwr := .off, cause := 2 }, ember := { c.ember with step := 0, donor := none } } : State).stsLfo

theorem goOff_eq (s : State) : s.goOff = (toOff s.coreReset).aonCheck := rfl

theorem toOff_port (c : State) (p : PortId) : (toOff c).port p = c.port p := rfl
theorem toOff_sup (c : State) : (toOff c).sup = c.sup := rfl
theorem toOff_aonOn (c : State) : (toOff c).aonOn = c.aonOn := rfl

theorem coreReset_ember (s : State) : s.coreReset.ember = s.ember := by
  obtain ⟨f, g, m, n, e⟩ := cut_frame s
  unfold State.coreReset
  rw [e]

/-- Where every free value is a multiple of 3, no record is ever cut short in the MRAM. -/
theorem coreReset_keeps_mram (free : ∀ n, Config.free n % 3 = 0) (s : State) : s.coreReset.sbox.mram = s.sbox.mram := by
  rw [coreReset_mram, recordCut_none (free _), fuses_fuseCut s]

/-- What the way to OFF leaves of a state, whether or not AON goes with CORE. -/
structure OffFrom (s t : State) : Prop where
  pwr : t.sys.pwr = .off
  mb : t.mb = Mailbox.reset
  idle : t.fuse.queue = []
  ready : ∀ p, (t.port p).tc.ready = false
  mram : t.sbox.mram = s.coreReset.sbox.mram
  store : t.store = s.store
  vmain : t.sup.vmain = s.sup.vmain
  vbat : t.sup.vbat = s.sup.vbat

theorem offFrom_toOff (s : State) : OffFrom s (toOff s.coreReset) := by
  obtain ⟨-, -, -, hsup, hstore, -⟩ := coreReset_keeps s
  exact {
    pwr := rfl
    mb := rfl
    idle := rfl
    ready := fun p => by rw [toOff_port, coreReset_ready]
    mram := rfl
    store := hstore
    vmain := by rw [toOff_sup, hsup]
    vbat := by rw [toOff_sup, hsup] }

theorem offFrom_aonReset {s t : State} (h : OffFrom s t) : OffFrom s t.aonReset := by
  obtain ⟨-, -, hsys, -, hports, hsbox, hstore, hsup⟩ := aonReset_parts t
  obtain ⟨hmb, hfuse⟩ := aonReset_idle h.idle
  have hport (p : PortId) : t.aonReset.port p = t.port p := by unfold State.port; rw [hports]
  exact ⟨by rw [hsys]; exact h.pwr, hmb.trans h.mb, by rw [hfuse]; exact h.idle, fun p => by rw [hport]; exact h.ready p,
    by rw [hsbox]; exact h.mram, hstore.trans h.store, by rw [hsup]; exact h.vmain, by rw [hsup]; exact h.vbat⟩

theorem offFrom_goOff (s : State) : OffFrom s s.goOff := by
  rw [goOff_eq]
  unfold State.aonCheck
  split
  · exact offFrom_toOff s
  · exact offFrom_aonReset (offFrom_toOff s)

/-- What powers AON powers it on the way to OFF too. -/
theorem coreReset_aonOn (s : State) : s.coreReset.aonOn = s.aonOn := by
  obtain ⟨-, -, -, hsup, -, -⟩ := coreReset_keeps s
  unfold State.aonOn
  rw [hsup, coreReset_ember]

theorem goOff_powered {s : State} (h : s.aonOn = true) : s.goOff = toOff s.coreReset := by
  rw [goOff_eq, aonCheck_on ((toOff_aonOn _).trans ((coreReset_aonOn s).trans h))]

end Sys2Proof.Proofs
end

section
/-!
SUPPORT. The Ember start and what ends it: its beginning, the choice of a donor, the forming of the donor's converter, a valid
VMAIN, fallen start inputs, and an abandonment; by them the statement about the Ember start comes down to the free values alone.
-/
namespace Sys2Proof.Proofs

open Sys2Proof.Machine Sys2Proof.Safety Sys2Proof.Laws

/-! ## The straps and the random generator at a start -/

theorem sampleStraps_frame (s : State) : s.sampleStraps = { s with sys := { s.sys with
    addr := s.sampleStraps.sys.addr, emberen := s.sampleStraps.sys.emberen, strapDue := s.sampleStraps.sys.strapDue } } := by
  unfold State.sampleStraps
  split <;> rfl

theorem sampleStraps_due {s : State} (h : s.sys.strapDue = true) :
    s.sampleStraps.sys.emberen = (strapMajority s.sys.straps).getLsbD 3 ∧
    s.sampleStraps.sys.addr = (strapMajority s.sys.straps).extractLsb' 0 3 := by
  unfold State.sampleStraps
  rw [if_pos h]
  exact ⟨rfl, rfl⟩

/-- What of a state the straps' sampling leaves alone. -/
theorem sampleStraps_keeps (s : State) :
    s.sampleStraps.sup = s.sup ∧ s.sampleStraps.ember = s.ember ∧ s.sampleStraps.vault = s.vault ∧
    s.sampleStraps.sys.pwr = s.sys.pwr ∧ s.sampleStraps.ports = s.ports ∧ s.sampleStraps.sbox = s.sbox := by
  rw [sampleStraps_frame]
  exact ⟨rfl, rfl, rfl, rfl, rfl, rfl⟩

/-- The generator is seeded once. -/
theorem seedRng_seeded {s : State} (h : s.vault.rng ≠ []) : s.seedRng = s := by
  unfold State.seedRng
  rw [if_neg (by simpa using h)]

/-- A state with another Vault and free values drawn. -/
def reseeded (c : State) (v : Vault) (n : Nat) : State := { c with vault := v, free := n }

theorem seedRng_reseeded (s : State) : ∃ v n, s.seedRng = reseeded s v n := by
  unfold State.seedRng
  split
  · exact ⟨_, _, rfl⟩
  · exact ⟨s.vault, s.free, rfl⟩

/-- The seed has no part in what CORE's start does, nor in what an Ember start asks. -/
theorem coreStart_reseeded (c : State) (v : Vault) (n : Nat) : (reseeded c v n).coreStart = reseeded c.coreStart v n := by
  unfold reseeded State.coreStart
  dsimp only
  congr 1

theorem startInput_reseeded (c : State) (v : Vault) (n : Nat) : (reseeded c v n).startInput = c.startInput := rfl
theorem emberForbidden_reseeded (c : State) (v : Vault) (n : Nat) : (reseeded c v n).emberForbidden = c.emberForbidden := rfl
theorem donorOk_reseeded (c : State) (v : Vault) (n : Nat) (p : PortId) : (reseeded c v n).donorOk p = c.donorOk p := rfl
theorem port_reseeded (c : State) (v : Vault) (n : Nat) (p : PortId) : (reseeded c v n).port p = c.port p := rfl

/-- What of a state CORE's start leaves alone. -/
theorem coreStart_keeps (s : State) :
    s.coreStart.sys = s.sys ∧ s.coreStart.sup = s.sup ∧ s.coreStart.ember = s.ember ∧ s.coreStart.vault = s.vault ∧
    s.coreStart.sbox = s.sbox := by
  unfold State.coreStart
  exact ⟨rfl, rfl, rfl, rfl, rfl⟩

/-! ## A start begins (R86 to R88, R98) -/

/-- The straps sampled, the generator seeded and CORE started, as an Ember start has them. -/
def startCore (s : State) : State := s.sampleStraps.seedRng.coreStart

/-- The device in EMBER with the forming target taken from EMBERBUS, before VHB or a port is the donor. -/
def emberBegun (c : State) : State :=
  ({ c with
    sys := { c.sys with pwr := .ember, boot := 4, cause := 4, resetLow := false, mainenLow := true, drvenLow := true },
    sup := { c.sup with vdrvA := .below, vdrvB := .below },
    ember := { c.ember with step := 3, donor := none, reg := true },
    ledger.vform := emberBus (c.custField 0x0C0 7 6) } : State).stsLfo

/-- A start that is forbidden stops, with the regulator off. -/
def emberRefused (s : State) : State := { s with ember.stopped := true, ember.reg := false, sys.resetLow := false }

theorem emberBegin_eq (s : State) : s.emberBegin =
    if !(startCore s).startInput then s
    else if (startCore s).emberForbidden then (emberRefused s.sampleStraps.seedRng).aonCheck
    else if 18000 ≤ (emberBegun (startCore s)).sup.vhbMv then
      { emberBegun (startCore s) with ember.step := 12, sys.mainenLow := false }
    else (emberBegun (startCore s)).emberChoose := rfl

/-- CORE started for an Ember start is CORE started from the straps sampled, but for the seed. -/
theorem startCore_eq (s : State) : ∃ v n, startCore s = reseeded s.sampleStraps.coreStart v n := by
  obtain ⟨v, n, e⟩ := seedRng_reseeded s.sampleStraps
  exact ⟨v, n, by rw [startCore, e, coreStart_reseeded]⟩

theorem startCore_startInput (s : State) : (startCore s).startInput = s.sampleStraps.coreStart.startInput := by
  obtain ⟨v, n, e⟩ := startCore_eq s
  rw [e, startInput_reseeded]

theorem startCore_emberForbidden (s : State) : (startCore s).emberForbidden = s.sampleStraps.coreStart.emberForbidden := by
  obtain ⟨v, n, e⟩ := startCore_eq s
  rw [e, emberForbidden_reseeded]

theorem startCore_donorOk (s : State) (p : PortId) : (startCore s).donorOk p = s.sampleStraps.coreStart.donorOk p := by
  obtain ⟨v, n, e⟩ := startCore_eq s
  rw [e, donorOk_reseeded]

theorem startCore_port (s : State) (p : PortId) : (startCore s).port p = s.sampleStraps.coreStart.port p := by
  obtain ⟨v, n, e⟩ := startCore_eq s
  rw [e, port_reseeded]

/-- What CORE's start for an Ember start leaves alone. -/
theorem startCore_keeps (s : State) :
    (startCore s).sys = s.sampleStraps.sys ∧ (startCore s).sup = s.sup ∧ (startCore s).ember = s.ember ∧
    (startCore s).sbox = s.sbox := by
  obtain ⟨v, n, e⟩ := startCore_eq s
  obtain ⟨hsys, hsup, hember, -, hsbox⟩ := coreStart_keeps s.sampleStraps
  rw [e]
  refine ⟨hsys, hsup.trans ?_, hember.trans ?_, hsbox.trans ?_⟩ <;> rw [sampleStraps_frame]

/-- With the generator seeded before, the straps alone are sampled. -/
theorem startCore_seeded {s : State} (h : s.vault.rng ≠ []) : (startCore s).vault = s.vault := by
  have straps : s.sampleStraps.vault = s.vault := by rw [sampleStraps_frame]
  obtain ⟨-, -, -, hvault, -⟩ := coreStart_keeps s.sampleStraps
  rw [startCore, seedRng_seeded (by rw [straps]; exact h), hvault, straps]

theorem emberBegun_port (c : State) (q : PortId) : (emberBegun c).port q = c.port q := rfl
theorem emberBegun_donorOk (c : State) (p : PortId) : (emberBegun c).donorOk p = c.donorOk p := rfl

theorem emberBegin_refused {s : State} (hi : s.sampleStraps.coreStart.startInput = true)
    (hf : s.sampleStraps.coreStart.emberForbidden = true) : s.emberBegin = (emberRefused s.sampleStraps.seedRng).aonCheck := by
  rw [emberBegin_eq, startCore_startInput, hi, startCore_emberForbidden, hf]
  rfl

theorem emberBegin_begun {s : State} (hi : s.sampleStraps.coreStart.startInput = true)
    (hf : s.sampleStraps.coreStart.emberForbidden = false) : s.emberBegin =
      if 18000 ≤ s.sup.vhbMv then { emberBegun (startCore s) with ember.step := 12, sys.mainenLow := false }
      else (emberBegun (startCore s)).emberChoose := by
  have vhb : (emberBegun (startCore s)).sup.vhbMv = s.sup.vhbMv := by
    obtain ⟨-, hsup, -⟩ := startCore_keeps s
    rw [← hsup]; rfl
  rw [emberBegin_eq, startCore_startInput, hi, startCore_emberForbidden, hf, vhb]
  rfl

/-! ## The donor (R88, R89) -/

/-- The first port of those that meet a condition is the one found. -/
theorem find_lowest {f : PortId → Bool} {p : PortId} (hp : f p = true) (hl : ∀ q, q.val < p.val → f q = false) :
    allPorts.find? f = some p := by
  rw [List.find?_eq_some_iff_getElem]
  refine ⟨hp, p.val, by simp [allPorts], by simp [allPorts], fun j hj => ?_⟩
  simp [allPorts, hl ⟨j, by omega⟩ hj]

/-- The port is the donor: its CC debounce begins, under the Ember account's grant. -/
def donorChosen (s : State) (p : PortId) : State :=
  (({ s with ember := { s.ember with step := 4, donor := some p } } : State).modTc p fun t =>
    { t with ready := true, state := .attachWaitSnk }).modLg p fun l => { l with grant := s.emberCoins, sink := true }

theorem emberChoose_lowest {s : State} {p : PortId} (hp : s.donorOk p = true) (hl : ∀ q, q.val < p.val → s.donorOk q = false) :
    s.emberChoose = donorChosen s p := by
  unfold State.emberChoose
  rw [find_lowest hp hl]
  rfl

theorem donorChosen_port_self (s : State) (p : PortId) : (donorChosen s p).port p = { s.port p with
    tc := { (s.port p).tc with ready := true, state := .attachWaitSnk },
    lg := { (s.port p).lg with grant := s.emberCoins, sink := true } } := by
  unfold donorChosen
  rw [State.port_modLg_self, State.port_modTc_self]
  rfl

theorem donorChosen_port_ne (s : State) {p q : PortId} (h : q ≠ p) : (donorChosen s p).port q = s.port q := by
  unfold donorChosen
  rw [State.port_modLg_ne _ _ _ _ h, State.port_modTc_ne _ _ _ _ h]
  rfl

/-- Where VHB stands below 18 V a start takes the lowest-numbered port that qualifies. -/
theorem emberBegin_donor {s : State} {p : PortId} (hi : s.sampleStraps.coreStart.startInput = true)
    (hf : s.sampleStraps.coreStart.emberForbidden = false) (hv : s.sup.vhbMv < 18000)
    (hp : s.sampleStraps.coreStart.donorOk p = true) (hl : ∀ q, q.val < p.val → s.sampleStraps.coreStart.donorOk q = false) :
    s.emberBegin = donorChosen (emberBegun (startCore s)) p := by
  have same (q : PortId) : (emberBegun (startCore s)).donorOk q = s.sampleStraps.coreStart.donorOk q := by
    rw [emberBegun_donorOk, startCore_donorOk]
  rw [emberBegin_begun hi hf, if_neg (by omega)]
  exact emberChoose_lowest ((same p).trans hp) fun q hq => (same q).trans (hl q hq)

theorem mayBegin_off {s : State} (hp : s.sys.pwr = .off) (hm : s.sup.vmain = .below) (hs : s.ember.stopped = false) :
    s.emberMayBegin = true := by
  simp [State.emberMayBegin, hp, hm, hs]

theorem exec_emberStart {s : State} (hp : s.sys.pwr = .off) (hm : s.sup.vmain = .below) (hs : s.ember.stopped = false)
    (ha : s.ember.abandoned = 0) : exec .emberStart s = .next s.emberBegin := by
  show execEmberStart s = _
  rw [execEmberStart, mayBegin_off hp hm hs, hp, ha]
  rfl

theorem exec_emberRetry {s : State} (hp : s.sys.pwr = .off) (hm : s.sup.vmain = .below) (hs : s.ember.stopped = false)
    (ha : 0 < s.ember.abandoned) : exec .emberRetry s = .next s.emberBegin := by
  show execEmberRetry s = _
  rw [execEmberRetry, mayBegin_off hp hm hs, decide_eq_true ha]
  rfl

/-- VHB at 18 V or more is the donor itself (R87). -/
theorem emberStart_takes_vhb {s : State} (hp : s.sys.pwr = .off) (hm : s.sup.vmain = .below) (hs : s.ember.stopped = false)
    (ha : s.ember.abandoned = 0) (hi : s.sampleStraps.coreStart.startInput = true)
    (hf : s.sampleStraps.coreStart.emberForbidden = false) (hv : 18000 ≤ s.sup.vhbMv) (hr : s.vault.rng ≠ []) :
    Yields .emberStart s fun t =>
      t.sys.pwr = .ember ∧ t.ember.step = 12 ∧ t.ember.donor = none ∧ t.ledger.vform = emberBus (t.custField 0x0C0 7 6) ∧
      t.sys.cause = 4 ∧ t.sys.mainenLow = false ∧ t.sys.drvenLow = true ∧ t.sbox = s.sbox ∧ t.vault = s.vault ∧
      t.sys.sts = s.sys.sts ∧ (s.sys.strapDue = true → t.sys.emberen = (strapMajority s.sys.straps).getLsbD 3 ∧
        t.sys.addr = (strapMajority s.sys.straps).extractLsb' 0 3) := by
  obtain ⟨hsys, -, -, hsbox⟩ := startCore_keeps s
  have sts : s.sampleStraps.sys.sts = s.sys.sts := by rw [sampleStraps_frame]
  have hvault := startCore_seeded hr
  have e := exec_emberStart hp hm hs ha
  rw [emberBegin_begun hi hf, if_pos hv] at e
  refine ⟨_, e, ?_⟩
  generalize startCore s = c at *
  refine ⟨rfl, rfl, rfl, rfl, rfl, rfl, rfl, hsbox, hvault, ?_, fun h => ?_⟩
  · rw [← sts, ← hsys]; rfl
  · rw [← (sampleStraps_due h).1, ← (sampleStraps_due h).2, ← hsys]; exact ⟨rfl, rfl⟩

/-- A start, or a retry, that takes a port as donor. -/
theorem emberBegin_takes_donor {s : State} {p : PortId} (hi : s.sampleStraps.coreStart.startInput = true)
    (hf : s.sampleStraps.coreStart.emberForbidden = false) (hv : s.sup.vhbMv < 18000)
    (hp : s.sampleStraps.coreStart.donorOk p = true) (hl : ∀ q, q.val < p.val → s.sampleStraps.coreStart.donorOk q = false) :
    s.emberBegin.sys.pwr = .ember ∧ s.emberBegin.ember.step = 4 ∧ s.emberBegin.ember.donor = some p ∧
    s.emberBegin.ember.abandoned = s.ember.abandoned ∧ s.emberBegin.ember.excluded = s.ember.excluded ∧
    s.emberBegin.sys.mainenLow = true ∧ (s.emberBegin.port p).tc.state = .attachWaitSnk ∧
    (s.emberBegin.port p).tc.ready = true ∧ (s.emberBegin.port p).lg.grant = s.emberBegin.emberCoins ∧
    (∀ q, q ≠ p → s.emberBegin.port q = s.sampleStraps.coreStart.port q) ∧ s.emberBegin.sbox = s.sbox := by
  obtain ⟨-, -, hember, hsbox⟩ := startCore_keeps s
  have others (q : PortId) (h : q ≠ p) : (donorChosen (emberBegun (startCore s)) p).port q = s.sampleStraps.coreStart.port q := by
    rw [donorChosen_port_ne _ h, emberBegun_port, startCore_port]
  rw [emberBegin_donor hi hf hv hp hl, donorChosen_port_self]
  generalize startCore s = c at *
  exact ⟨rfl, rfl, rfl, by rw [← hember]; rfl, by rw [← hember]; rfl, rfl, rfl, rfl, rfl, others, hsbox⟩

theorem emberBegin_refused_powered {s : State} (hi : s.sampleStraps.coreStart.startInput = true)
    (hf : s.sampleStraps.coreStart.emberForbidden = true) (hb : s.sup.vbat = .ok) (ha : s.sup.vdaon = .ok)
    (hr : s.vault.rng ≠ []) :
    s.emberBegin = { s.sampleStraps with
      ember := { s.ember with stopped := true, reg := false }, sys := { s.sampleStraps.sys with resetLow := false } } := by
  obtain ⟨hsup, hember, hvault, -, -, -⟩ := sampleStraps_keeps s
  rw [emberBegin_refused hi hf, seedRng_seeded (by rw [hvault]; exact hr), aonCheck_on, emberRefused, hember]
  exact aonOn_of_vbat (hsup ▸ hb) (hsup ▸ ha)

/-- A refused start takes the regulator off, and an AON that rested on it alone is lost (R18). -/
theorem emberBegin_refused_unpowered {s : State} (hp : s.sys.pwr = .off) (hm : s.sup.vmain = .below)
    (hi : s.sampleStraps.coreStart.startInput = true) (hf : s.sampleStraps.coreStart.emberForbidden = true)
    (hb : s.sup.vbat = .below) :
    s.emberBegin.sys.pwr = .off ∧ s.emberBegin.ember.stopped = true ∧ s.emberBegin.ember.reg = false ∧
    s.emberBegin.sys.strapDue = true ∧ s.emberBegin.sys.sts = 0 ∧ s.emberBegin.vault = Vault.reset ∧
    s.emberBegin.alarm = Alarm.reset ∧ s.emberBegin.ports = s.ports ∧ s.emberBegin.sbox = s.sbox := by
  obtain ⟨hsup, -, -, hpwr, hports, hsbox⟩ := sampleStraps_keeps s
  obtain ⟨v, n, seeded⟩ := seedRng_reseeded s.sampleStraps
  rw [emberBegin_refused hi hf, seeded, aonCheck_off (aonOn_without_source (hsup ▸ hm) rfl (hsup ▸ hb))]
  generalize s.sampleStraps = c at *
  obtain ⟨rvault, ralarm, rsys, rember, rports, rsbox, -, -⟩ := aonReset_parts (emberRefused (reseeded c v n))
  rw [rsys, rember]
  exact ⟨hpwr.trans hp, rfl, rfl, rfl, rfl, rvault, ralarm, rports.trans hports, rsbox.trans hsbox⟩

/-! ## The donor's converter forms the local bus (R91) -/

theorem portOnly_ite {p : PortId} {s a b : State} {c : Prop} [Decidable c] (ha : PortOnly p s a) (hb : PortOnly p s b) :
    PortOnly p s (if c then a else b) := by split <;> assumption

theorem portOnly_convRegion {p : PortId} {s a : State} (h : PortOnly p s a) : PortOnly p s (a.convRegion p) := by
  unfold State.convRegion; dsimp only
  exact portOnly_ite h (portOnly_ite (portOnly_modCv h _) (portOnly_modCv h _))

/-- Bringing the region up to date changes the region alone. -/
theorem convRegion_cv (s : State) (p : PortId) : ∃ r, ((s.convRegion p).port p).cv = { (s.port p).cv with region := r } := by
  unfold State.convRegion; dsimp only
  split
  · exact ⟨_, rfl⟩
  split
  · exact ⟨_, by rw [State.port_modCv_self]⟩
  · exact ⟨_, by rw [State.port_modCv_self]⟩

/-- A converter that starts forming: from idle, in a first region that follows from PRAILn, its reference moving to VFORM. -/
def formStart (s : State) (p : PortId) (code : Nat) : State :=
  ((s.modCv p fun c => { c with
    dir := 3, region := regionStart (code * 20) (s.port p).tc.prailMv, vref := code, refBus := true, atTarget := false,
    slewing := false, stopped := 0, recover := false, diode := false }).formRef p).convRegion p

theorem convStart_forming {s : State} {p : PortId} (code : Nat) (ho : s.paramOk p = true) (ha : s.armed p = true) :
    s.convStart p 3 code = formStart s p code := by
  unfold State.convStart
  simp only [ho, ha, Bool.not_true, Bool.false_eq_true, if_false, bne_self_eq_false, Bool.and_false]
  rfl

theorem portOnly_formStart {p : PortId} {s a : State} (h : PortOnly p s a) (code : Nat) : PortOnly p s (formStart a p code) :=
  portOnly_convRegion (portOnly_modCv (portOnly_modCv h _) _)

theorem formStart_cv (s : State) (p : PortId) (code : Nat) :
    ((formStart s p code).port p).cv.dir = 3 ∧ ((formStart s p code).port p).cv.vref = s.ledger.vform * 50 := by
  unfold formStart
  generalize hu : s.modCv p _ = u
  obtain ⟨r, hr⟩ := convRegion_cv (u.formRef p) p
  have hd : (u.port p).cv.dir = 3 := by rw [← hu, State.port_modCv_self]
  have hl : u.ledger = s.ledger := by rw [← hu]; rfl
  rw [hr, State.formRef, State.port_modCv_self, ← hl]
  exact ⟨hd, rfl⟩

/-- Step 11: the donor's converter starts forming. -/
def donorForms (s : State) (p : PortId) : State :=
  ((formStart { s with ember.step := 11 } p (s.ledger.vform * 50)).modCv p fun c => { c with ember := c.dir == 3 }).setIlim p

theorem exec_emberIsolationDwell {s : State} {p : PortId} (hp : s.sys.pwr = .ember) (hs : s.ember.step = 10)
    (hd : s.ember.donor = some p) (ho : s.paramOk p = true) (ha : s.armed p = true) :
    exec .emberIsolationDwell s = .next (donorForms s p) := by
  have starts : ({ s with ember.step := 11 } : State).convStart p 3 (s.ledger.vform * 50) =
      formStart { s with ember.step := 11 } p (s.ledger.vform * 50) := convStart_forming _ ho ha
  show execEmberIsolationDwell s = _
  rw [execEmberIsolationDwell, hd, hp, hs]
  exact congrArg (fun u => Host.Outcome.next ((State.modCv u p fun c => { c with ember := c.dir == 3 }).setIlim p)) starts

theorem emberIsolationDwell_forms {s : State} {p : PortId} (hp : s.sys.pwr = .ember) (hs : s.ember.step = 10)
    (hd : s.ember.donor = some p) (ho : s.paramOk p = true) (ha : s.armed p = true) :
    Yields .emberIsolationDwell s fun t =>
      t.ember.step = 11 ∧ t.ledger = s.ledger ∧ (t.port p).cv.dir = 3 ∧ (t.port p).cv.ember = true ∧
      (t.port p).cv.vref = 50 * s.ledger.vform ∧ OthersSame p s t ∧ t.sup = s.sup := by
  obtain ⟨frame, others⟩ : PortOnly p { s with ember.step := 11 } (donorForms s p) :=
    portOnly_setIlim (portOnly_modCv (portOnly_formStart (portOnly_refl p _) _) _)
  obtain ⟨hdir, hvref⟩ := formStart_cv { s with ember.step := 11 } p (s.ledger.vform * 50)
  refine ⟨_, exec_emberIsolationDwell hp hs hd ho ha, by rw [frame], by rw [frame], ?_, ?_, ?_, others, by rw [frame]⟩
  all_goals simp only [donorForms, State.setIlim, State.port_modCv_self]
  · exact hdir
  · rw [hdir]; rfl
  · exact hvref.trans (Nat.mul_comm _ _)

/-! ## A start that ends in VMAIN, and one whose inputs fall (R95, R96) -/

theorem onStart_iff (s : State) : s.onStart = true ↔ s.sys.pwr = .ember ∧ s.ember.step < 15 := by
  simp [State.onStart]

theorem exec_emberVmainValid {s : State} {p : PortId} (hs : s.onStart = true) (hm : s.sup.vmain = .ok)
    (hd : s.ember.donor = some p) (hr : s.clk.refclk = false) (hl : s.clk.pll = false) :
    exec .emberVmainValid s = .next { s with
      ember := { s.ember with
        step := 15, excluded := [], abandoned := 0, reg := decide (s.vdrv (dieOf p) ≠ .ok) },
      sys := { s.sys with boot := 5, mainenLow := false, drvenLow := false } } := by
  have moved : s.ember.donor.any (fun (p : PortId) => s.vdrv (dieOf p) != .ok) = decide (s.vdrv (dieOf p) ≠ .ok) := by
    rw [hd]
    show (s.vdrv (dieOf p) != .ok) = _
    cases s.vdrv (dieOf p) <;> rfl
  show execEmberVmainValid s = _
  simp only [execEmberVmainValid, hs, hm, beq_self_eq_true, Bool.and_self, State.when_true, State.clocksFound, hr, hl,
    Bool.false_eq_true, if_false, moved]

/-- With the start inputs fallen the regulator is off, and a stopped start may run again. -/
def inputsFallen (s : State) : State :=
  { s with ember := { s.ember with stopped := false, reg := false, excluded := [], abandoned := 0 } }

theorem exec_startInputsFall {s : State} (hv : s.sup.vhbMv < 4000) (hp : ∀ q, (s.port q).tc.vbusMv < 4000) :
    exec .startInputsFall s =
      .next (inputsFallen (if s.onStart && s.sup.vmain != .ok then s.goOff else s)).aonCheck := by
  have fallen : (decide (s.sup.vhbMv < 4000) && allPorts.all fun p => Nat.blt (s.port p).tc.vbusMv 4000) = true := by
    simp [hv, hp, List.all_eq_true]
  show execStartInputsFall s = _
  rw [execStartInputsFall, fallen]
  rfl

/-- Where no start is under way and VBAT powers AON, only the start's own marks fall. -/
theorem startInputsFall_frees_start {s : State} (hs : s.onStart = false) (hb : s.sup.vbat = .ok) (ha : s.sup.vdaon = .ok)
    (hv : s.sup.vhbMv < 4000) (hp : ∀ q, (s.port q).tc.vbusMv < 4000) :
    Yields .startInputsFall s fun t => t = inputsFallen s := by
  have stays : (s.onStart && s.sup.vmain != .ok) = false := by rw [hs]; rfl
  have e := exec_startInputsFall hv hp
  rw [stays] at e
  exact ⟨_, e, aonCheck_on (aonOn_of_vbat (s := inputsFallen s) hb ha)⟩

/-- A start under way without another source for AON ends in OFF with AON lost. -/
theorem startInputsFall_ends_start {s : State} (p : PortId) (hs : s.onStart = true) (hm : s.sup.vmain = .below)
    (hb : s.sup.vbat = .below) (hv : s.sup.vhbMv < 4000) (hp : ∀ q, (s.port q).tc.vbusMv < 4000) :
    Yields .startInputsFall s fun t =>
      t.sys.pwr = .off ∧ t.ember.stopped = false ∧ t.ember.reg = false ∧ t.ember.abandoned = 0 ∧ t.sys.sts = 0 ∧
      t.sys.strapDue = true ∧ t.vault = Vault.reset ∧ t.alarm = Alarm.reset ∧ (t.port p).tc.ready = false ∧
      t.mb = Mailbox.reset ∧ t.sbox.mram = s.coreReset.sbox.mram ∧ t.store = s.store := by
  have off : OffFrom s (inputsFallen s.goOff) := by
    obtain ⟨h1, h2, h3, h4, h5, h6, h7, h8⟩ := offFrom_goOff s
    exact ⟨h1, h2, h3, h4, h5, h6, h7, h8⟩
  have unpowered : (inputsFallen s.goOff).aonOn = false := aonOn_without_source (off.vmain.trans hm) rfl (off.vbat.trans hb)
  have ends : (s.onStart && s.sup.vmain != .ok) = true := by rw [hs, hm]; rfl
  have lost := offFrom_aonReset off
  obtain ⟨hvault, halarm, hsys, hember, -⟩ := aonReset_parts (inputsFallen s.goOff)
  refine ⟨_, exec_startInputsFall hv hp, ?_⟩
  rw [if_pos ends, aonCheck_off unpowered]
  exact ⟨lost.pwr, by rw [hember]; rfl, by rw [hember]; rfl, by rw [hember]; rfl, by rw [hsys], by rw [hsys], hvault, halarm,
    lost.ready p, lost.mb, lost.mram, lost.store⟩

/-! ## Abandonment (R94, R95) -/

/-- What an abandonment latches and counts. -/
def abandoning (s : State) (c : EmberCause) : State :=
  { s with ember := { s.ember with
    abandoned := s.ember.abandoned + 1, stopped := decide (3 ≤ s.ember.abandoned + 1),
    reg := decide (s.ember.abandoned + 1 < 3), excluded := s.ember.excluded ++ s.ember.donor.toList,
    latched := some (emberCode c, (s.ember.donor.map fun (p : PortId) => byteOf p.val 0).getD 0xFF, byteOf s.ember.step 0,
      byteOf (s.ember.abandoned + 1) 0) } }

/-- A start that has a donor may be abandoned, and sends the donor to ErrorRecovery. -/
theorem emberAbandon_donor {s : State} {p : PortId} (c : EmberCause) (hs : s.onStart = true) (hd : s.ember.donor = some p) :
    s.emberAbandon c = (abandoning s c).goOff.modTc p fun x => { x with state := .errorRecovery } := by
  have acts : (s.onStart && (s.ember.donor.isSome || decide (12 ≤ s.ember.step) ||
      (s.sys.mainenLow && (c == .stepLimit || c == .hfoLost)))) = true := by rw [hs, hd]; rfl
  have e : s.emberAbandon c = match s.ember.donor with
    | some p => (abandoning s c).goOff.modTc p fun x => { x with state := .errorRecovery }
    | none => (abandoning s c).goOff := if_pos acts
  rw [e, hd]

/-- While AON stays powered an abandonment keeps what it has latched. -/
theorem emberAbandon_powered {s : State} {p : PortId} (c : EmberCause) (hs : s.onStart = true) (hd : s.ember.donor = some p)
    (ha : (abandoning s c).aonOn = true) :
    Yields (.emberAbandon c) s fun t =>
      t.sys.pwr = .off ∧ t.ember = { (abandoning s c).ember with step := 0, donor := none } ∧
      (t.port p).tc.state = .errorRecovery ∧ (t.port p).tc.ready = false ∧ (t.port p).lg = LgPort.reset ∧
      t.sys.hbisoLow = false ∧ t.sys.interp = false ∧ t.sbox.mram = (abandoning s c).coreReset.sbox.mram := by
  have hember := coreReset_ember (abandoning s c)
  have hready := coreReset_ready (abandoning s c) p
  have hlg : ((abandoning s c).coreReset.port p).lg = LgPort.reset := by rw [coreReset_port]; rfl
  have hhbiso : (abandoning s c).coreReset.sys.hbisoLow = false := rfl
  have hinterp : (abandoning s c).coreReset.sys.interp = false := rfl
  have e : exec (.emberAbandon c) s = .next (s.emberAbandon c) := rfl
  rw [emberAbandon_donor c hs hd, goOff_powered ha] at e
  refine ⟨_, e, ?_⟩
  generalize (abandoning s c).coreReset = r at *
  have hport := State.port_modTc_self (toOff r) p fun x => { x with state := .errorRecovery }
  rw [toOff_port] at hport
  exact ⟨rfl, by rw [← hember]; rfl, by rw [hport], by rw [hport]; exact hready, by rw [hport]; exact hlg, hhbiso,
    hinterp, rfl⟩

/-- The first abandonment leaves the start regulator running, and so AON powered. -/
theorem emberAbandon_first {s : State} {p : PortId} (hs : s.onStart = true) (hd : s.ember.donor = some p)
    (hn : s.ember.abandoned = 0) (hx : s.ember.excluded = []) (ha : s.sup.vdaon = .ok) :
    Yields (.emberAbandon .donorDetached) s fun t =>
      t.sys.pwr = .off ∧ t.ember = { s.ember with
        step := 0, donor := none, abandoned := 1, stopped := false, reg := true,
        latched := some (2, byteOf p.val 0, byteOf s.ember.step 0, 1), excluded := [p] } ∧
      (t.port p).tc.state = .errorRecovery ∧ (t.port p).tc.ready = false ∧ (t.port p).lg = LgPort.reset ∧
      t.sys.hbisoLow = false ∧ t.sys.interp = false ∧ t.sbox.mram = (abandoning s .donorDetached).coreReset.sbox.mram := by
  have regulator : (abandoning s .donorDetached).ember.reg = true := by
    show decide (s.ember.abandoned + 1 < 3) = true
    rw [hn]; rfl
  obtain ⟨t, e, hpwr, hember, rest⟩ := emberAbandon_powered .donorDetached hs hd (aonOn_of_reg regulator ha)
  refine ⟨t, e, hpwr, ?_, rest⟩
  rw [hember, abandoning, hn, hx, hd]
  rfl

/-- The third abandonment stops the start regulator: AON then rests on VBAT. -/
theorem emberAbandon_third {s : State} {p : PortId} (hs : s.onStart = true) (hd : s.ember.donor = some p)
    (hn : s.ember.abandoned = 2) (hb : s.sup.vbat = .ok) (ha : s.sup.vdaon = .ok) :
    Yields (.emberAbandon .stepLimit) s fun t =>
      t.sys.pwr = .off ∧ t.ember.stopped = true ∧ t.ember.donor = none ∧ t.ember.abandoned = 3 ∧
      t.ember.latched = some (1, byteOf p.val 0, byteOf s.ember.step 0, 3) ∧
      t.sbox.mram = (abandoning s .stepLimit).coreReset.sbox.mram := by
  obtain ⟨t, e, hpwr, hember, -, -, -, -, -, hmram⟩ :=
    emberAbandon_powered .stepLimit hs hd (aonOn_of_vbat (s := abandoning s .stepLimit) hb ha)
  refine ⟨t, e, hpwr, ?_, ?_, ?_, ?_, hmram⟩
  all_goals rw [hember, abandoning, hn]
  · rfl
  · rw [hd]; rfl

/-! ## What is open -/

/-- The device in an Ember start with the first port as donor, where the one queued record may be being written to the journal's
first slot, with the `n`-th free value to come. -/
def startWriting (n : Nat) : State :=
  { writing n with
    sys := { (writing n).sys with pwr := .ember }, sup.vmain := .below, ember := { Ember.reset with step := 7, donor := some 0 } }

theorem startWriting_fuseCut (n : Nat) :
    (abandoning (startWriting n) .donorDetached).fuseCut = abandoning (startWriting n) .donorDetached := rfl

/-- The abandonment of a start cuts the record short as any reset of CORE does. -/
theorem startWriting_cut {n : Nat} (h : Config.free n % 3 ≠ 0) :
    (abandoning (startWriting n) .donorDetached).coreReset.sbox.mram = (writing n).coreReset.sbox.mram := by
  rw [coreReset_mram, coreReset_mram, startWriting_fuseCut, writing_fuseCut]
  have cut := recordCut_some (s := abandoning (startWriting n) .donorDetached) rfl rfl rfl rfl h
  exact cut.trans (recordCut_some (s := writing n) rfl rfl rfl rfl h).symm

/-- All that keeps the statement about the Ember start open is a free value: three of its clauses have the MRAM kept by CORE's
reset on the way to OFF, and a record that waits in the queue is cut short in it wherever the free value that tells how far its
writing had come is no multiple of 3 (log entry 136). Nothing can be proved of the free values (log entry 5). -/
theorem emberStarts_iff_free : Obligations.EmberStarts ↔ ∀ n, Config.free n % 3 = 0 := by
  unfold Obligations.EmberStarts
  constructor
  · rintro ⟨-, -, -, -, -, -, -, -, abandons, -⟩ n
    by_contra h
    have early : (startWriting n).ember.step < 15 := by show 7 < 15; decide
    obtain ⟨t, e, -, -, -, -, -, -, -, mram⟩ := abandons (startWriting n) 0 rfl rfl rfl early rfl rfl rfl
    obtain ⟨u, f, -, -, -, -, -, -, -, cut⟩ := emberAbandon_first (s := startWriting n) (p := 0) rfl rfl rfl rfl rfl
    rw [e] at f
    injection f with f
    subst f
    exact writing_cut h ((startWriting_cut h).symm.trans (cut.symm.trans mram))
  · intro free
    refine ⟨?_, ?_, ?_, ?_, ?_, ?_, ?_, ?_, ?_, ?_, ?_⟩
    · intro s hp hm hs hi ha hf hv hr
      exact emberStart_takes_vhb hp hm hs ha hi hf hv hr
    · intro s p hp hm hs hi ha hf hv hd hl
      obtain ⟨hpwr, hstep, hdonor, -, -, rest⟩ := emberBegin_takes_donor hi hf hv hd hl
      exact ⟨_, exec_emberStart hp hm hs ha, hpwr, hstep, hdonor, rest⟩
    · intro s hp hm hs hi ha hf hb hv hr
      exact ⟨_, exec_emberStart hp hm hs ha, emberBegin_refused_powered hi hf hb hv hr⟩
    · intro s hp hm hs hi ha hf hb
      exact ⟨_, exec_emberStart hp hm hs ha, emberBegin_refused_unpowered hp hm hi hf hb⟩
    · intro s p hp hs hd ho ha
      exact emberIsolationDwell_forms hp hs hd ho ha
    · intro s p hp hs hd hm hr hl
      exact ⟨_, exec_emberVmainValid ((onStart_iff s).mpr ⟨hp, hs⟩) hm hd hr hl, rfl⟩
    · intro s hs hb ha hv hp
      exact startInputsFall_frees_start hs hb ha hv hp
    · intro s p hp hs hm hb hv hq
      rw [← coreReset_keeps_mram free s]
      exact startInputsFall_ends_start p ((onStart_iff s).mpr ⟨hp, hs⟩) hm hb hv hq
    · intro s p _ hp hd hs hn hx ha
      have kept : (abandoning s .donorDetached).coreReset.sbox.mram = s.sbox.mram := coreReset_keeps_mram free _
      rw [← kept]
      exact emberAbandon_first ((onStart_iff s).mpr ⟨hp, hs⟩) hd hn hx ha
    · intro s p _ hp hd hs hn hb ha
      have kept : (abandoning s .stepLimit).coreReset.sbox.mram = s.sbox.mram := coreReset_keeps_mram free _
      rw [← kept]
      exact emberAbandon_third ((onStart_iff s).mpr ⟨hp, hs⟩) hd hn hb ha
    · intro s p hm hp _ hs hi ha hf hv hd hl
      obtain ⟨hpwr, hstep, hdonor, hcount, hexcluded, hmain, hstate, -, rest⟩ := emberBegin_takes_donor hi hf hv hd hl
      exact ⟨_, exec_emberRetry hp hm hs ha, hpwr, hstep, hdonor, hcount, hexcluded, hmain, hstate, rest⟩

end Sys2Proof.Proofs
end

section
/-!
SUPPORT. The steps of the Type-C state machine short of an attach: a termination seen, a move to a state that presents another
termination, and the return to an Unattached state; with them O1 is settled.
-/
namespace Sys2Proof.Proofs

open Sys2Proof.Machine Sys2Proof.Safety Sys2Proof.Laws

/-! ## Moves between states change one port alone -/

section
variable {p : PortId} {s a : State} (h : PortOnly p s a) (st : TcState)
include h

theorem portOnly_enterUnattached : PortOnly p s (a.enterUnattached p st) := by
  unfold State.enterUnattached
  exact portOnly_modTc (portOnly_prunDone (portOnly_applyCfg h) _ _) _

theorem portOnly_backTo : PortOnly p s (a.backTo p st) := by
  unfold State.backTo
  exact portOnly_enterUnattached h _

theorem portOnly_tcGo : PortOnly p s (a.tcGo p st) := by
  unfold State.tcGo
  exact portOnly_modTc h _

end

/-! ## A termination seen (R101, R102, R111) -/

/-- A source that waits for a partner takes Rd on CC1 for the beginning of an attach, whatever CC2 shows. -/
theorem sample_rd_begins_source {t : TcPort} (e : Bool) (other : CcTerm) (h : t.state = .unattachedSrc) :
    (t.sample e .rd other).state = .attachWaitSrc ∧ (t.sample e .rd other).cc1 = .rd := by
  simp [TcPort.sample, TcPort.begins, classify, h, TcState.presentsRp]

/-- A sink that waits for a partner takes an Rp on CC2 for the beginning of an attach, whatever CC1 shows. -/
theorem sample_rp_begins_sink {t : TcPort} (e : Bool) (other : CcTerm) {c : CcTerm} (hc : isRp c = true)
    (h : t.state = .unattachedSnk) :
    (t.sample e other c).state = .attachWaitSnk ∧ (t.sample e other c).cc2 = c := by
  simp [TcPort.sample, TcPort.begins, classify, h, TcState.presentsRp, TcState.presentsRd, hc]

/-- After the ports' power-up a READY port in which no debounce runs takes the sample and does nothing else. -/
theorem exec_terminationSeen {s : State} {p : PortId} (c d : CcTerm) (hr : s.portReady p = true) (hb : 6 ≤ s.sys.boot)
    (hp : s.sys.pwr ≠ .sleep) (hd : (s.port p).tc.state.debounces = false) :
    exec (.terminationSeen p c d) s = .next (s.modTc p fun _ => (s.port p).tc.sample (isE p) c d) := by
  have booted : decide (s.sys.boot < 6) = false := decide_eq_false (by omega)
  have awake : (s.sys.pwr != .sleep) = true := bne_iff_ne.mpr hp
  show execTerminationSeen p c d s = _
  simp only [execTerminationSeen, booted, hr, awake, hd, Bool.false_and, Bool.and_self, State.when_false, State.when_true,
    Bool.false_eq_true, if_false]

theorem terminationSeen_rd_source {s : State} {p : PortId} (other : CcTerm) (hr : s.portReady p = true)
    (hb : 6 ≤ s.sys.boot) (hp : s.sys.pwr = .run) (hs : (s.port p).tc.state = .unattachedSrc) :
    Yields (.terminationSeen p .rd other) s fun t =>
      (t.port p).tc.state = .attachWaitSrc ∧ (t.port p).tc.cc1 = .rd ∧ PortOnly p s t := by
  obtain ⟨hw, h1⟩ := sample_rd_begins_source (isE p) other hs
  refine ⟨_, exec_terminationSeen .rd other hr hb (by simp [hp]) (by rw [hs]; rfl), ?_, ?_, portOnly_modTc (portOnly_refl p s) _⟩
  · rw [State.port_modTc_self]; exact hw
  · rw [State.port_modTc_self]; exact h1

theorem terminationSeen_rp_sink {s : State} {p : PortId} (other : CcTerm) {c : CcTerm} (hc : isRp c = true)
    (hr : s.portReady p = true) (hb : 6 ≤ s.sys.boot) (hp : s.sys.pwr = .run)
    (hs : (s.port p).tc.state = .unattachedSnk) :
    Yields (.terminationSeen p other c) s fun t =>
      (t.port p).tc.state = .attachWaitSnk ∧ (t.port p).tc.cc2 = c ∧ PortOnly p s t := by
  obtain ⟨hw, h2⟩ := sample_rp_begins_sink (isE p) other hc hs
  refine ⟨_, exec_terminationSeen other c hr hb (by simp [hp]) (by rw [hs]; rfl), ?_, ?_, portOnly_modTc (portOnly_refl p s) _⟩
  · rw [State.port_modTc_self]; exact hw
  · rw [State.port_modTc_self]; exact h2

/-! ## A dual-role port toggles, tries and gives up (R111, R113) -/

@[simp] theorem enterUnattached_state (s : State) (p : PortId) (st : TcState) :
    ((s.enterUnattached p st).port p).tc.state = st := by simp [State.enterUnattached]

/-- Unattached.SRC presents the Default Rp, Unattached.SNK none. -/
@[simp] theorem enterUnattached_rpAdv (s : State) (p : PortId) (st : TcState) :
    ((s.enterUnattached p st).port p).tc.rpAdv = if st == .unattachedSrc then .dflt else .none := by
  simp [State.enterUnattached]

@[simp] theorem tcGo_state (s : State) (p : PortId) (st : TcState) : ((s.tcGo p st).port p).tc.state = st := by
  simp [State.tcGo]

@[simp] theorem tcGo_evt (s : State) (p : PortId) (st : TcState) : ((s.tcGo p st).port p).tc.evt = (s.port p).tc.evt := by
  simp [State.tcGo]

/-- A dual-role port goes back to the Unattached state that is asked for. -/
theorem backTo_dual {s : State} {p : PortId} (st : TcState) (hc : cfgRole (s.port p).cfg = 2)
    (hn : (s.port p).cfgPend = none) : s.backTo p st = s.enterUnattached p st := by
  simp [State.backTo, hn, hc]

section
variable {s : State} {p : PortId} (hr : s.portReady p = true)
include hr

theorem exec_drpToggle_src (hc : cfgRole (s.port p).cfg = 2) (hs : (s.port p).tc.state = .unattachedSrc) :
    exec (.drpToggle p) s = .next (s.backTo p .unattachedSnk) := by
  show execDrpToggle p s = _
  simp [execDrpToggle, hr, hc, hs]

theorem exec_drpToggle_snk (hc : cfgRole (s.port p).cfg = 2) (hs : (s.port p).tc.state = .unattachedSnk) :
    exec (.drpToggle p) s = .next (s.backTo p .unattachedSrc) := by
  show execDrpToggle p s = _
  simp [execDrpToggle, hr, hc, hs]

/-- tDRPTry ends Try.SRC. -/
theorem exec_drpTryExpiry_src (hs : (s.port p).tc.state = .trySrc) :
    exec (.drpTryExpiry p false) s = .next ((s.tcGo p .tryWaitSnk).portEvt p 7) := by
  show execDrpTryExpiry p false s = _
  simp [execDrpTryExpiry, hr, hs]

/-- tDRPTryWait ends Try.SNK. -/
theorem exec_drpTryExpiry_snk (hs : (s.port p).tc.state = .trySnk) :
    exec (.drpTryExpiry p true) s = .next ((s.tcGo p .tryWaitSrc).portEvt p 7) := by
  show execDrpTryExpiry p true s = _
  simp [execDrpTryExpiry, hr, hs]

theorem exec_tryTimeout (hs : (s.port p).tc.state = .tryWaitSrc) :
    exec (.tryTimeout p) s = .next (s.backTo p .unattachedSnk) := by
  show execTryTimeout p s = _
  simp [execTryTimeout, hr, hs]

end

/-- A Try path that has expired: the next state of the port, and TRYFAIL. -/
theorem tryExpired (s : State) (p : PortId) (st : TcState) :
    (((s.tcGo p st).portEvt p 7).port p).tc.state = st ∧
    (((s.tcGo p st).portEvt p 7).port p).tc.evt = setBit (s.port p).tc.evt 7 ∧
    PortOnly p s ((s.tcGo p st).portEvt p 7) :=
  ⟨by simp, by simp, portOnly_portEvt (portOnly_tcGo (portOnly_refl p s) st) 7⟩

/-- A dual-role port that is back in an Unattached state: the state, what it presents, and nothing else changed. -/
theorem backTo_unattached {s : State} {p : PortId} (st : TcState) (hc : cfgRole (s.port p).cfg = 2)
    (hn : (s.port p).cfgPend = none) :
    ((s.backTo p st).port p).tc.state = st ∧
    ((s.backTo p st).port p).tc.rpAdv = (if st == .unattachedSrc then .dflt else .none) ∧
    PortOnly p s (s.backTo p st) := by
  refine ⟨?_, ?_, portOnly_backTo (portOnly_refl p s) st⟩
  · rw [backTo_dual st hc hn, enterUnattached_state]
  · rw [backTo_dual st hc hn, enterUnattached_rpAdv]

/-! ## The statement -/

/-- Settles O1: a sample that begins an attach, and the moves of a dual-role port, each by its rule. -/
theorem terminationsTogglesAndTries : Obligations.TerminationsTogglesAndTries := by
  unfold Obligations.TerminationsTogglesAndTries
  refine ⟨?_, ?_, ?_, ?_, ?_, ?_, ?_⟩
  · intro s p other hr hb hp hs
    exact terminationSeen_rd_source other hr hb hp hs
  · intro s p other hr hb hp hs
    exact terminationSeen_rp_sink other rfl hr hb hp hs
  · intro s p hr hc hn hs
    exact ⟨_, exec_drpToggle_src hr hc hs, backTo_unattached .unattachedSnk hc hn⟩
  · intro s p hr hc hn hs
    exact ⟨_, exec_drpToggle_snk hr hc hs, backTo_unattached .unattachedSrc hc hn⟩
  · intro s p hr _ _ hs
    exact ⟨_, exec_drpTryExpiry_src hr hs, tryExpired s p .tryWaitSnk⟩
  · intro s p hr _ _ hs
    exact ⟨_, exec_drpTryExpiry_snk hr hs, tryExpired s p .tryWaitSrc⟩
  · intro s p hr hc hn hs
    obtain ⟨hst, -, hframe⟩ := backTo_unattached .unattachedSnk hc hn
    exact ⟨_, exec_tryTimeout hr hs, hst, hframe⟩

end Sys2Proof.Proofs
end

section
/-!
SUPPORT. The parts of an attach seen from the Type-C state and the Ledger's posts: the attach itself, its demand, and the prebias and
closing that follow; with them O2 is settled.
-/
namespace Sys2Proof.Proofs

open Sys2Proof.Machine Sys2Proof.Safety Sys2Proof.Laws

/-! ## Converter and switch leave the Type-C state and the Ledger alone, but for VCONN -/

section
variable (s : State) (p : PortId)

@[simp] theorem convRegion_tc : ((s.convRegion p).port p).tc = (s.port p).tc := by
  unfold State.convRegion; dsimp only
  split_ifs <;> simp

@[simp] theorem convRegion_ledger : (s.convRegion p).ledger = s.ledger := by
  unfold State.convRegion; dsimp only
  split_ifs <;> rfl

@[simp] theorem convStart_tc (dir : BitVec 2) (code : Nat) : ((s.convStart p dir code).port p).tc = (s.port p).tc := by
  unfold State.convStart State.formRef; dsimp only
  split_ifs <;> simp

@[simp] theorem convStart_ledger (dir : BitVec 2) (code : Nat) : (s.convStart p dir code).ledger = s.ledger := by
  unfold State.convStart State.formRef; dsimp only
  split_ifs <;> simp

@[simp] theorem prebias_tc : ((s.prebias p).port p).tc = (s.port p).tc := by
  unfold State.prebias; dsimp only
  split <;> simp

@[simp] theorem prebias_ledger : (s.prebias p).ledger = s.ledger := by
  unfold State.prebias; dsimp only
  split <;> simp

@[simp] theorem setIlim_ledger : (s.setIlim p).ledger = s.ledger := rfl

@[simp] theorem softStart_tc (sink : Bool) : ((s.softStart p sink).port p).tc = (s.port p).tc := by
  simp [State.softStart]

/-- A closing brings VCONN with it at most. -/
theorem tryClose_tc : ∃ v, ((s.tryClose p).port p).tc = { (s.port p).tc with vconnOn := v } := by
  unfold State.tryClose; dsimp only
  split_ifs
  · exact ⟨_, by rw [State.port_modTc_self, softStart_tc]⟩
  · exact ⟨_, softStart_tc s p true⟩
  · exact ⟨_, rfl⟩

@[simp] theorem tryClose_ledger : (s.tryClose p).ledger = s.ledger := by
  unfold State.tryClose; dsimp only
  split_ifs <;> rfl

theorem applyVbus_tc : ∃ v, ((s.applyVbus p).port p).tc = { (s.port p).tc with vconnOn := v } := by
  unfold State.applyVbus; dsimp only
  split_ifs
  · obtain ⟨v, hv⟩ := tryClose_tc (s.prebias p) p
    exact ⟨v, by rw [hv, prebias_tc]⟩
  · exact tryClose_tc s p

@[simp] theorem applyVbus_ledger : (s.applyVbus p).ledger = s.ledger := by
  unfold State.applyVbus; dsimp only
  split_ifs <;> simp

end

/-! ## The attach and its demand (R114, R116, R120, R126) -/

theorem early_of_ready {s : State} (h : s.ledger.ready = true) : s.early = false := by simp [State.early, h]

section
variable (s : State) (p : PortId)

@[simp] theorem postDemand_port (coins : Nat) (k : DemKind) (sink upg : Bool) (q : PortId) :
    (s.postDemand p coins k sink upg).port q = s.port q := by simp [State.postDemand]

@[simp] theorem attachDemand_port (sink : Bool) (q : PortId) : (s.attachDemand p sink).port q = s.port q := by
  unfold State.attachDemand
  split <;> simp

/-- Once the Ledger is ready the demand of the role is the last post. -/
theorem attachDemand_posts {s : State} (p : PortId) (sink : Bool) (h : s.ledger.ready = true) :
    (s.attachDemand p sink).ledger.posts =
      s.ledger.posts ++ [.demand p ((s.port p).attachDemand sink) .attach sink false] := by
  simp [State.attachDemand, early_of_ready h, State.postDemand]

variable (st : TcState) (orient oriented src : Bool)

@[simp] theorem attach_ledger : (s.attach p st orient oriented src).ledger = s.ledger := by simp [State.attach]

/-- Energy counts, PD and the Type-C state begin anew with an attach; the tables that the demand is read from stay. -/
theorem attach_demand (sink : Bool) :
    ((s.attach p st orient oriented src).port p).attachDemand sink = (s.port p).attachDemand sink := by
  simp [State.attach, Port.attachDemand]

theorem attach_tc : ((s.attach p st orient oriented src).port p).tc.state = st ∧
    ((s.attach p st orient oriented src).port p).tc.orient = orient ∧
    ((s.attach p st orient oriented src).port p).tc.evt = setBit (s.port p).tc.evt 0 ∧
    ((s.attach p st orient oriented src).port p).tc.rpSeen =
      (if src then .none else ccRp (if orient then (s.port p).tc.cc2 else (s.port p).tc.cc1)) ∧
    ((s.attach p st orient oriented src).port p).tc.dbAttach = (s.port p).tc.dbAttach := by
  simp [State.attach]

end

/-! ## An attach as source, and as sink -/

section
variable {s : State} (p : PortId) (st : TcState) (orient oriented : Bool)

/-- Past the attach itself a source's entry changes the Ra and VCONN marks alone. -/
theorem attachSource_tc (ra : Bool) : ∃ v, ((s.attachSource p st orient oriented ra).port p).tc =
    { ((s.attach p st orient oriented true).port p).tc with raSeen := ra, vconnOn := v } := by
  unfold State.attachSource
  obtain ⟨v, hv⟩ := applyVbus_tc
    (((s.attach p st orient oriented true).modTc p fun t => { t with raSeen := ra }).attachDemand p false) p
  exact ⟨v, by rw [hv, attachDemand_port, State.port_modTc_self]⟩

theorem attachSource_posts (ra : Bool) (h : s.ledger.ready = true) :
    (s.attachSource p st orient oriented ra).ledger.posts =
      s.ledger.posts ++ [.demand p ((s.port p).attachDemand false) .attach false false] := by
  have demand := attach_demand s p st orient oriented true false
  unfold State.attachSource
  rw [applyVbus_ledger, attachDemand_posts p false (by simpa using h)]
  simpa [Port.attachDemand] using demand

/-- An attach as source seen from outside: the state, the orientation, ATTACH, and the demand posted. -/
theorem attachSource_attached (ra : Bool) (h : s.ledger.ready = true) :
    ((s.attachSource p st orient oriented ra).port p).tc.state = st ∧
    ((s.attachSource p st orient oriented ra).port p).tc.orient = orient ∧
    ((s.attachSource p st orient oriented ra).port p).tc.evt = setBit (s.port p).tc.evt 0 ∧
    (s.attachSource p st orient oriented ra).ledger.posts =
      s.ledger.posts ++ [.demand p ((s.port p).attachDemand false) .attach false false] ∧
    EngineOnly p s (s.attachSource p st orient oriented ra) := by
  obtain ⟨hstate, horient, hevt, -, -⟩ := attach_tc s p st orient oriented true
  obtain ⟨v, hv⟩ := attachSource_tc (s := s) p st orient oriented ra
  rw [hv]
  exact ⟨hstate, horient, hevt, attachSource_posts p st orient oriented ra h,
    engine_attachSource (engine_refl p s) _ _ _ _⟩

/-- Past the attach itself a sink's entry leaves the Type-C state alone, but for VCONN. -/
theorem attachSink_tc : ∃ v, ((s.attachSink p st orient oriented).port p).tc =
    { ((s.attach p st orient oriented false).port p).tc with vconnOn := v } := by
  unfold State.attachSink; dsimp only
  obtain ⟨v, hv⟩ := tryClose_tc (State.setIlim (p := p)
    (if ((s.attach p st orient oriented false).attachDemand p true).paramOk p then
      (s.attach p st orient oriented false).attachDemand p true
    else ((s.attach p st orient oriented false).attachDemand p true).cvEvt p 8)) p
  refine ⟨v, ?_⟩
  rw [hv, setIlim_tc]
  split <;> simp

theorem attachSink_posts (h : s.ledger.ready = true) :
    (s.attachSink p st orient oriented).ledger.posts =
      s.ledger.posts ++ [.demand p ((s.port p).attachDemand true) .attach true false] := by
  have posted := attachDemand_posts (s := s.attach p st orient oriented false) p true (by simpa using h)
  rw [attach_demand, attach_ledger] at posted
  unfold State.attachSink; dsimp only
  rw [tryClose_ledger, setIlim_ledger]
  split
  · exact posted
  · exact posted

/-- An attach as sink seen from outside: as one as source, with the Rp level read on the pin of the orientation. -/
theorem attachSink_attached (h : s.ledger.ready = true) :
    ((s.attachSink p st orient oriented).port p).tc.state = st ∧
    ((s.attachSink p st orient oriented).port p).tc.orient = orient ∧
    ((s.attachSink p st orient oriented).port p).tc.rpSeen =
      ccRp (if orient then (s.port p).tc.cc2 else (s.port p).tc.cc1) ∧
    ((s.attachSink p st orient oriented).port p).tc.evt = setBit (s.port p).tc.evt 0 ∧
    (s.attachSink p st orient oriented).ledger.posts =
      s.ledger.posts ++ [.demand p ((s.port p).attachDemand true) .attach true false] ∧
    EngineOnly p s (s.attachSink p st orient oriented) := by
  obtain ⟨hstate, horient, hevt, hrp, -⟩ := attach_tc s p st orient oriented false
  obtain ⟨v, hv⟩ := attachSink_tc (s := s) p st orient oriented
  rw [hv]
  exact ⟨hstate, horient, hrp, hevt, attachSink_posts p st orient oriented h, engine_attachSink (engine_refl p s) _ _ _⟩

/-- Outside EMBER and with no dead battery an attach as sink has nothing to note. -/
theorem sinkAttached_plain (hp : s.sys.pwr ≠ .ember) (hd : (s.port p).tc.dbAttach = false) :
    s.sinkAttached p st orient oriented = s.attachSink p st orient oriented := by
  obtain ⟨-, -, -, -, hdb⟩ := attach_tc s p st orient oriented false
  obtain ⟨v, hv⟩ := attachSink_tc (s := s) p st orient oriented
  have pwr : (s.attachSink p st orient oriented).sys.pwr = s.sys.pwr := by
    rw [(engine_attachSink (engine_refl p s) st orient oriented).1]
  have noted : (s.attachSink p st orient oriented).emberNote p 5 = s.attachSink p st orient oriented := by
    simp [State.emberNote, pwr, hp]
  have db : ((s.attachSink p st orient oriented).port p).tc.dbAttach = false := by
    rw [hv]; exact hdb.trans hd
  simp [State.sinkAttached, noted, db]

end

/-! ## The debounces (R114, R120, Table 4.7) -/

/-- With no Try configured a debounced Rd on one pin attaches a source. -/
theorem exec_sourceAttachDebounce {s : State} {p : PortId} (hr : s.portReady p = true) (ht : cfgTry (s.port p).cfg = 0)
    (hs : (s.port p).tc.state = .attachWaitSrc) (hd : (s.port p).tc.oneRd = true) :
    exec (.sourceAttachDebounce p) s = .next (s.attachSource p .attachedSrc ((s.port p).tc.cc2 == .rd) true
      ((s.port p).tc.cc1 == .ra || (s.port p).tc.cc2 == .ra)) := by
  show execSourceAttachDebounce p s = _
  simp [execSourceAttachDebounce, hr, hs, ht, hd]

/-- With no Try configured a debounced Rp on one pin attaches a sink that has VBUS. -/
theorem sinkDebounced_attaches {s : State} {p : PortId} (ht : cfgTry (s.port p).cfg = 0)
    (hs : (s.port p).tc.state = .attachWaitSnk) (hd : (s.port p).tc.oneRp = true) (hv : (s.port p).tc.vbusPres = true) :
    s.sinkDebounced p = s.sinkAttached p .attachedSnk (isRp (s.port p).tc.cc2) true := by
  have onePin : isRp (s.port p).tc.cc1 = !isRp (s.port p).tc.cc2 := Bool.eq_not_of_ne (by simpa [TcPort.oneRp] using hd)
  simp [State.sinkDebounced, hs, ht, hd, hv, onePin]

theorem exec_sinkAttachDebounce {s : State} {p : PortId} (hr : s.portReady p = true)
    (hs : (s.port p).tc.state ≠ .trySnk) : exec (.sinkAttachDebounce p) s = .next (s.sinkDebounced p) := by
  have waits : ((s.port p).tc.state != .trySnk) = true := bne_iff_ne.mpr hs
  show execSinkAttachDebounce p s = _
  rw [execSinkAttachDebounce, hr, waits, Bool.and_self, State.when_true]

/-- In Try.SRC a debounced Rd on one pin attaches a source. -/
theorem exec_tryDebounceComplete_src {s : State} {p : PortId} (hr : s.portReady p = true)
    (hs : (s.port p).tc.state = .trySrc) (hd : (s.port p).tc.oneRd = true) :
    exec (.tryDebounceComplete p) s = .next (s.attachSource p .attachedSrc ((s.port p).tc.cc2 == .rd) true
      ((s.port p).tc.cc1 == .ra || (s.port p).tc.cc2 == .ra)) := by
  show execTryDebounceComplete p s = _
  simp [execTryDebounceComplete, hr, hs, hd]

/-! ## The statement -/

/-- Settles O2: each debounce ends in the attach of its role, whose orientation is the pin that read the termination. -/
theorem debouncedTerminationsAttach : Obligations.DebouncedTerminationsAttach := by
  unfold Obligations.DebouncedTerminationsAttach
  refine ⟨?_, ?_, ?_⟩
  · intro s p hr hl ht _ hs h1 h2
    have one : (s.port p).tc.oneRd = true := by rw [TcPort.oneRd, h1, h2]; rfl
    obtain ⟨hstate, horient, rest⟩ := attachSource_attached p .attachedSrc ((s.port p).tc.cc2 == .rd) true
      ((s.port p).tc.cc1 == .ra || (s.port p).tc.cc2 == .ra) hl
    exact ⟨_, exec_sourceAttachDebounce hr ht hs one, hstate, horient.trans (by rw [h2]; rfl), rest⟩
  · intro s p hr hl ht hp hs h1 h2 hv hdb
    have one : (s.port p).tc.oneRp = true := by rw [TcPort.oneRp, h1, h2]; rfl
    have attaches := sinkDebounced_attaches ht hs one hv
    have plain := sinkAttached_plain p .attachedSnk (isRp (s.port p).tc.cc2) true (by simp [hp]) hdb
    obtain ⟨hstate, horient, hrp, rest⟩ := attachSink_attached p .attachedSnk (isRp (s.port p).tc.cc2) true hl
    refine ⟨_, (exec_sinkAttachDebounce hr (by simp [hs])).trans (congrArg _ (attaches.trans plain)), hstate, ?_, ?_, rest⟩
    · rw [horient, h2]; rfl
    · rw [hrp, h1, h2]; rfl
  · intro s p hr hl _ _ hs h1 h2
    have one : (s.port p).tc.oneRd = true := by rw [TcPort.oneRd, h1, h2]; rfl
    obtain ⟨hstate, horient, rest⟩ := attachSource_attached p .attachedSrc ((s.port p).tc.cc2 == .rd) true
      ((s.port p).tc.cc1 == .ra || (s.port p).tc.cc2 == .ra) hl
    exact ⟨_, exec_tryDebounceComplete_src hr hs one, hstate, horient.trans (by rw [h2]; rfl), rest⟩

end Sys2Proof.Proofs
end

section
/-!
SUPPORT. What a received message passes through and what a sent one leaves: the gate of chapter 5, the line, the end of an AMS,
Soft_Reset and Hard Reset, each seen from the port it is about.
-/
namespace Sys2Proof.Proofs

open Sys2Proof.Machine Sys2Proof.Safety Sys2Proof.Laws

/-! ## In RUN no Ember start goes on -/

theorem engine_sys {p : PortId} {s t : State} (h : EngineOnly p s t) : t.sys = s.sys := by rw [h.1]

theorem emberNote_run {s : State} (p : PortId) (k : Nat) (h : s.sys.pwr = .run) : s.emberNote p k = s := by
  simp [State.emberNote, h]

theorem emberIsolate_run {s : State} (p : PortId) (h : s.sys.pwr = .run) : s.emberIsolate p = s := by
  simp [State.emberIsolate, h]

theorem donorOnStart_run {s : State} (p : PortId) (h : s.sys.pwr = .run) : s.donorOnStart p = false := by
  simp [State.donorOnStart, State.onStart, h]

/-! ## The Rp level a source presents (R118, R144) -/

/-- The level that SETRP leaves in RPADV. -/
def presentedRp (s : State) (p : PortId) : RpLvl :=
  if (s.port p).srcAtt then
    if (s.port p).pd.hasContract then
      if (s.port p).pd.rev3 then if (s.port p).pd.ng then .a15 else .a30 else (s.port p).tc.rpAdv
    else s.typecRp p
  else (s.port p).tc.rpAdv

@[simp] theorem setRp_port (s : State) (p : PortId) :
    (s.setRp p).port p = { s.port p with tc := { (s.port p).tc with rpAdv := presentedRp s p } } := by
  unfold State.setRp presentedRp
  dsimp only
  split
  · split
    · split <;> simp
    · simp
  · rfl

theorem portOnly_setRp {p : PortId} {s a : State} (h : PortOnly p s a) : PortOnly p s (a.setRp p) := by
  unfold State.setRp
  with_reducible apply_rules [portOnly_ite, portOnly_modTc]

@[simp] theorem amsEnd_pd (s : State) (p : PortId) : ((s.amsEnd p).port p).pd = { (s.port p).pd with
    ams := .none, ng := (s.port p).pd.ng && !(s.port p).pd.trig.isEmpty, sinkTxWait := false } := by
  simp [State.amsEnd]

@[simp] theorem amsEnd_cv (s : State) (p : PortId) : ((s.amsEnd p).port p).cv = (s.port p).cv := by simp [State.amsEnd]

/-- What waits once a trigger has come: a trigger of a kind that waits already merges with it. -/
def merged (d : PdPort) (a : Ams) : List Ams :=
  if (d.trig.any fun b => b.covers a) || (d.sinkTxWait && d.ams.covers a) then d.trig else addTrig d.trig a

theorem merged_first {d : PdPort} (a : Ams) (ht : d.trig = []) (hw : d.sinkTxWait = false) : merged d a = [a] := by
  simp [merged, ht, hw, addTrig]

@[simp] theorem trigger_port (s : State) (p : PortId) (a : Ams) :
    (s.trigger p a).port p = { s.port p with pd := { (s.port p).pd with trig := merged (s.port p).pd a } } := by
  simp only [State.trigger, State.port_modPd_self, merged]
  split <;> rfl

/-! ## The line (R142) -/

section
variable {s : State} {p : PortId} (h : (s.port p).pd.tx = none)
include h

/-- A message sent on a free line is on it, with its SOP type's MessageID. -/
theorem sendMsg_port (m : Msg) : (s.sendMsg p m).port p = { s.port p with
    pd := { (s.port p).pd with tx := some { m with id := (s.port p).pd.idOf m.sop }, tries := 0 } } := by
  simp [State.sendMsg, h]

theorem send_port (ty : Mt) (o : List Word) (e : List Byte) : (s.send p ty o e).port p = { s.port p with
    pd := { (s.port p).pd with
      tx := some ⟨.sop, ty, o, e, (s.port p).pd.txRev, (s.port p).pd.txId⟩, tries := 0 } } :=
  sendMsg_port h _

theorem reply_port (ty : Mt) (o : List Word) (e : List Byte) : (s.reply p ty o e).port p = { s.port p with
    pd := { (s.port p).pd with
      ams := if (s.port p).pd.ams == .none then .partner else (s.port p).pd.ams
      tx := some ⟨.sop, ty, o, e, (s.port p).pd.txRev, (s.port p).pd.txId⟩, tries := 0 } } := by
  rw [State.reply, send_port (by simpa using h)]
  simp

end

theorem engine_reply {p : PortId} {s a : State} (h : EngineOnly p s a) (ty : Mt) (o : List Word) (e : List Byte) :
    EngineOnly p s (a.reply p ty o e) := by
  unfold State.reply; exact engine_send (engine_modPd h _) _ _ _

theorem engine_sendExt {p : PortId} {s a : State} (h : EngineOnly p s a) (ty : Mt) (d : List Byte) :
    EngineOnly p s (a.sendExt p ty d) := by
  unfold State.sendExt; exact engine_ite (engine_send h _ _ _) (engine_send (engine_modPd h _) _ _ _)

theorem engine_replyExt {p : PortId} {s a : State} (h : EngineOnly p s a) (ty : Mt) (d : List Byte) :
    EngineOnly p s (a.replyExt p ty d) := by
  unfold State.replyExt; exact engine_sendExt (engine_modPd h _) _ _

/-! ## A message taken in (R141, R145) -/

/-- PD once a message has been taken in: acknowledged, its MessageID kept, the partner heard on SOP, and a start of the device's own
that waited for tSinkTx waits to be started anew. -/
@[simp] def tookPd (d : PdPort) (h : RxHdr) : PdPort :=
  { d with
    ack := some (h.sop, h.id), heard := d.heard || h.sop == .sop
    rxId := if h.sop = .sop then some h.id else d.rxId
    rxId1 := if h.sop = .sop1 then some h.id else d.rxId1
    rxId2 := if h.sop = .sop2 then some h.id else d.rxId2
    sinkTxWait := false, ng := d.ng && !d.sinkTxWait, ams := if d.sinkTxWait then .none else d.ams
    trig := if d.sinkTxWait && !d.trig.contains d.ams then d.ams :: d.trig else d.trig }

/-- RPADV once a message has been taken in: a start that waited returns it to SinkTxOk. -/
def tookRp (s : State) (p : PortId) : RpLvl :=
  if (s.port p).pd.sinkTxWait then
    if (s.port p).srcAtt then
      if (s.port p).pd.hasContract then if (s.port p).pd.rev3 then .a30 else (s.port p).tc.rpAdv else s.typecRp p
    else (s.port p).tc.rpAdv
  else (s.port p).tc.rpAdv

theorem tookRp_not_waiting {s : State} {p : PortId} (h : (s.port p).pd.sinkTxWait = false) :
    tookRp s p = (s.port p).tc.rpAdv := by simp [tookRp, h]

@[simp] theorem takeMsg_port (s : State) (p : PortId) (h : RxHdr) : (s.takeMsg p h).port p = { s.port p with
    tc := { (s.port p).tc with rpAdv := tookRp s p }, pd := tookPd (s.port p).pd h } := by
  obtain ⟨k, id, rev⟩ := h
  unfold State.takeMsg tookRp
  dsimp only
  cases hw : (s.port p).pd.sinkTxWait
  · cases k <;> simp [State.sendGoodCrc, PdPort.setRx, hw]
  · cases k <;>
      simp [State.sendGoodCrc, PdPort.setRx, hw, presentedRp, Port.srcAtt, PdPort.hasContract, PdPort.rev3, State.typecRp,
        State.grantOf, State.early]

theorem engine_takeMsg {p : PortId} {s a : State} (h : EngineOnly p s a) (x : RxHdr) : EngineOnly p s (a.takeMsg p x) := by
  refine engine_ite (engine_setRp ?_) ?_ <;> exact engine_count (engine_modPd (engine_modPd h _) _) _ _ _

theorem took (s : State) (p : PortId) (h : RxHdr) : EngineOnly p s (s.takeMsg p h) := engine_takeMsg (engine_refl p s) h

theorem setRp_frame (s : State) (p : PortId) : s.setRp p = { s with ports := (s.setRp p).ports } := by
  unfold State.setRp
  dsimp only
  split
  · split
    · split <;> rfl
    · rfl
  · rfl

theorem takeMsg_frame (s : State) (p : PortId) (h : RxHdr) :
    s.takeMsg p h = { s with ports := (s.takeMsg p h).ports, perf := (s.takeMsg p h).perf } := by
  have counted (a : State) (n : Nat) (e : a = { s with ports := a.ports }) : a.count n 0x02 1 =
      { s with ports := (a.count n 0x02 1).ports, perf := (a.count n 0x02 1).perf } := by
    unfold State.count
    split <;> rw [e]
  unfold State.takeMsg
  dsimp only
  split
  · rw [setRp_frame, counted _ _ rfl]
  · exact counted _ _ rfl

@[simp] theorem takeMsg_sup (s : State) (p : PortId) (h : RxHdr) : (s.takeMsg p h).sup = s.sup := by rw [takeMsg_frame]
@[simp] theorem takeMsg_sys (s : State) (p : PortId) (h : RxHdr) : (s.takeMsg p h).sys = s.sys := by rw [takeMsg_frame]
@[simp] theorem takeMsg_ember (s : State) (p : PortId) (h : RxHdr) : (s.takeMsg p h).ember = s.ember := by rw [takeMsg_frame]
@[simp] theorem takeMsg_ledger (s : State) (p : PortId) (h : RxHdr) : (s.takeMsg p h).ledger = s.ledger := by
  rw [takeMsg_frame]
@[simp] theorem takeMsg_fuse (s : State) (p : PortId) (h : RxHdr) : (s.takeMsg p h).fuse = s.fuse := by rw [takeMsg_frame]
@[simp] theorem takeMsg_free (s : State) (p : PortId) (h : RxHdr) : (s.takeMsg p h).free = s.free := by rw [takeMsg_frame]

@[simp] theorem takeMsg_grantOf (s : State) (p : PortId) (h : RxHdr) : (s.takeMsg p h).grantOf p = s.grantOf p := by
  simp [State.grantOf, State.early]

@[simp] theorem takeMsg_unconstrained (s : State) (p : PortId) (h : RxHdr) :
    (s.takeMsg p h).unconstrained = s.unconstrained := by simp [State.unconstrained]

/-! ## The gate (R140 to R147, R151, R173) -/

/-- A new message is received in full: the port receives on its SOP type, its MessageID is new, and no BIST mode is on. -/
def Hears (s : State) (p : PortId) (h : RxHdr) : Prop :=
  s.receives p h.sop = true ∧ s.fresh p h = true ∧ (s.port p).pd.bist = 0

theorem receives_sop {s : State} {p : PortId} (live : s.pdLive p = true) (clk : s.engineClk = true)
    (hb : (s.port p).pd.bist = 0) : s.receives p .sop = true := by
  simp only [State.pdLive, Bool.and_eq_true] at live
  obtain ⟨⟨⟨ready, here⟩, role⟩, run⟩ := live
  simp only [State.receives, ready, clk, here, role, run, hb, Bool.and_self, Bool.true_and]
  rfl

theorem hears_sop {s : State} {p : PortId} {id : BitVec 3} (rev : BitVec 2) (live : s.pdLive p = true)
    (clk : s.engineClk = true) (new : (s.port p).pd.rxId ≠ some id) (hb : (s.port p).pd.bist = 0) :
    Hears s p ⟨.sop, id, rev⟩ :=
  ⟨receives_sop live clk hb, bne_iff_ne.mpr new, hb⟩

section
variable {s : State} {p : PortId} {h : RxHdr} (hh : Hears s p h)
include hh

theorem onAny_heard (f : State → State) : s.onAny p h f = f (s.takeMsg p h) := by
  obtain ⟨rx, new, hb⟩ := hh
  simp [State.onAny, State.act, rx, new, hb]

/-- Past the gate, where no Soft_Reset of the device's own awaits its answer. -/
theorem onMsg_heard (ha : (s.port p).ownRuns = true → (s.port p).pd.ams ≠ .softReset) (f : State → State) :
    s.onMsg p h f = f (s.takeMsg p h) := by
  have past : ((s.takeMsg p h).port p).pd.ams ≠ .softReset := by
    rw [takeMsg_port]
    cases hw : (s.port p).pd.sinkTxWait
    · intro e
      have e' : (s.port p).pd.ams = .softReset := by simpa [hw] using e
      exact ha (by simp [Port.ownRuns, e', hw, Ams.own]) e'
    · simp [hw]
  rw [State.onMsg, onAny_heard hh, if_neg (by rw [beq_eq_false_iff_ne.mpr past]; simp)]

end

/-- Nothing of the port's own stands in the way of an AMS of the partner's. -/
structure Idle (x : Port) : Prop where
  ams : x.pd.ams.own = false
  contract : x.pd.contract ≠ .transition
  swap : x.swap = SwapPort.reset

@[simp] theorem running_reset : SwapPort.reset.running = false := rfl
@[simp] theorem frSent_reset : SwapPort.reset.frSent = false := rfl
@[simp] theorem engaged_reset : SwapPort.reset.engaged = false := rfl
@[simp] theorem stage_reset : SwapPort.reset.stage = .none := rfl

theorem Idle.ne_softReset {x : Port} (h : Idle x) : x.pd.ams ≠ .softReset := by
  obtain ⟨notOwn, -, -⟩ := h
  intro e
  rw [e] at notOwn
  exact absurd notOwn (by decide)

theorem Idle.noSoftReset {x : Port} (h : Idle x) : x.ownRuns = true → x.pd.ams ≠ .softReset := fun _ => h.ne_softReset

theorem Idle.taken {s : State} {p : PortId} (f : Idle (s.port p)) (h : RxHdr) : Idle ((s.takeMsg p h).port p) := by
  rw [takeMsg_port]
  refine ⟨?_, f.contract, f.swap⟩
  cases hw : (s.port p).pd.sinkTxWait
  · simpa [hw] using f.ams
  · simp [hw, Ams.own]

theorem serve_idle {s : State} {p : PortId} (h : Idle (s.port p)) (f : State → State) : s.serve p f = f s := by
  simp [State.serve, h.ams, h.contract, h.swap]

theorem only3_rev3 {s : State} {p : PortId} (h : (s.port p).pd.txRev = 2) (f : State → State) : s.only3 p f = f s := by
  simp [State.only3, PdPort.rev3, h]

/-- A message of the partner's that opens an AMS is served, from a Revision 3.x partner. -/
theorem onMsg_only3 {s : State} {p : PortId} {h : RxHdr} (hh : Hears s p h)
    (ha : (s.port p).ownRuns = true → (s.port p).pd.ams ≠ .softReset) (h3 : (s.port p).pd.txRev = 2) (f : State → State) :
    (s.onMsg p h fun s => s.only3 p f) = f (s.takeMsg p h) := by
  rw [onMsg_heard hh ha, only3_rev3 (by simpa using h3)]

end Sys2Proof.Proofs
end

section
/-!
SUPPORT. Hard Reset and Soft_Reset seen from the port: what the counters, the contract and the phase read afterwards, and that
nothing but the port's engine is touched.
-/
namespace Sys2Proof.Proofs

open Sys2Proof.Machine Sys2Proof.Safety Sys2Proof.Laws

/-! ## What a Hard Reset ends leaves PD alone, but for EPR mode (R174, R175) -/

section
variable (s : State) (p : PortId)

@[simp] theorem frDisarm_pd : ((s.frDisarm p).port p).pd = (s.port p).pd := by
  unfold State.frDisarm; dsimp only
  split <;> simp

@[simp] theorem swapDone_pd (st r : Byte) (b : Bool) : ((s.swapDone p st r b).port p).pd = (s.port p).pd := by
  unfold State.swapDone; dsimp only
  rw [State.port_modSwap_self]
  split <;> rfl

@[simp] theorem swapAbort_pd (r : Byte) : ((s.swapAbort p r).port p).pd = (s.port p).pd := by
  have ended (u : State) :
      ((if (u.port p).swap.stage == .none then u else u.swapDone p 0x00 r true).port p).pd = (u.port p).pd := by
    split <;> simp
  unfold State.swapAbort
  rw [frDisarm_pd, ended]
  cases s.swapWaits p <;> simp

@[simp] theorem vdmDone_pd (r : Nat) (b : Bool) (v : List Word) : ((s.vdmDone p r b v).port p).pd = (s.port p).pd := by
  simp [State.vdmDone]

@[simp] theorem vdmAllEnd_pd (r : Nat) : ((s.vdmAllEnd p r).port p).pd = (s.port p).pd := by simp [State.vdmAllEnd]
@[simp] theorem lmEnd_pd : ((s.lmEnd p).port p).pd = (s.port p).pd := by simp [State.lmEnd]

@[simp] theorem prunDone_pd (k : List Byte) (r : Byte) : ((s.prunDone p k r).port p).pd = (s.port p).pd := by
  simp [State.prunDone]

theorem eprExit_pd : ((s.eprExit p).port p).pd =
    if (s.port p).pd.epr then { (s.port p).pd with epr := false, evt := setBit (s.port p).pd.evt 5 } else (s.port p).pd := by
  unfold State.eprExit
  split <;> simp

@[simp] theorem convRegion_pd : ((s.convRegion p).port p).pd = (s.port p).pd := by
  unfold State.convRegion; dsimp only
  repeat' split
  all_goals simp

@[simp] theorem convStart_pd (dir : BitVec 2) (code : Nat) : ((s.convStart p dir code).port p).pd = (s.port p).pd := by
  unfold State.convStart State.formRef; dsimp only
  repeat' split
  all_goals simp

@[simp] theorem prebias_pd : ((s.prebias p).port p).pd = (s.port p).pd := by
  unfold State.prebias; dsimp only
  split <;> simp

@[simp] theorem holdRail_pd : ((s.holdRail p).port p).pd = (s.port p).pd := by
  unfold State.holdRail; dsimp only
  split <;> simp

@[simp] theorem holdRail_tc : ((s.holdRail p).port p).tc = (s.port p).tc := by
  unfold State.holdRail; dsimp only
  split <;> simp

end

/-! ## The Hard Reset sequence (R175) -/

section
variable (s : State) (p : PortId)

@[simp] theorem hrCommon_contract : ((s.hrCommon p).port p).pd.contract = .none := by simp [State.hrCommon]
@[simp] theorem hrCommon_txId : ((s.hrCommon p).port p).pd.txId = 0 := by simp [State.hrCommon]

@[simp] theorem hrCommon_epr : ((s.hrCommon p).port p).pd.epr = false := by
  simp only [State.hrCommon, State.port_modTc_self, State.port_modSw_self, State.port_modPd_self, prunDone_pd, eprExit_pd]
  split
  · rfl
  · simp_all

/-- Outside EPR mode Hard Reset is the one event. -/
theorem hrCommon_evt (he : (s.port p).pd.epr = false) :
    ((s.hrCommon p).port p).pd.evt = setBit (s.port p).pd.evt 1 := by simp [State.hrCommon, eprExit_pd, he]

@[simp] theorem hrCommon_tc : ((s.hrCommon p).port p).tc =
    { (s.port p).tc with dfp := (s.port p).tc.attachSrc, vconnMine := (s.port p).tc.attachSrc, vconnSwap := false } := by
  simp [State.hrCommon]

/-- Past what both roles share, Hard Reset leaves of PD the phase it goes on in. -/
theorem hardReset_pd : ∃ r, r ≠ .none ∧ ((s.hardReset p).port p).pd = { ((s.hrCommon p).port p).pd with hr := r } := by
  unfold State.hardReset State.hrSequence; dsimp only
  split
  · refine ⟨.srcWait, by simp, ?_⟩
    rw [holdRail_pd, setRp_port, State.port_modPd_self]
    split <;> simp [State.keepGrant]
  · refine ⟨.sink (decide ((s.port p).tc.vbusMv < 4000)), by simp, ?_⟩
    rw [State.port_modPd_self]
    split <;> simp [State.keepGrant]

/-- A Hard Reset sent: no contract and no EPR mode, and the sequence under way. -/
theorem hardReset_ends : ((s.hardReset p).port p).pd.contract = .none ∧ ((s.hardReset p).port p).pd.epr = false ∧
    ((s.hardReset p).port p).pd.hr ≠ .none ∧ EngineOnly p s (s.hardReset p) := by
  obtain ⟨r, hr, hpd⟩ := hardReset_pd s p
  exact ⟨by simp [hpd], by simp [hpd], by simpa [hpd] using hr, engine_hardReset (engine_refl p s)⟩

theorem hardReset_evt {s : State} {p : PortId} (he : (s.port p).pd.epr = false) :
    ((s.hardReset p).port p).pd.evt = setBit (s.port p).pd.evt 1 := by
  obtain ⟨r, -, hpd⟩ := hardReset_pd s p
  rw [hpd, ← hrCommon_evt s p he]

end

/-! ## Soft_Reset (R173) -/

theorem engine_noticeFailed {p : PortId} {s a : State} (h : EngineOnly p s a) : EngineOnly p s (a.noticeFailed p) := by
  unfold State.noticeFailed; exact engine_modLm h _

theorem engine_lmVersionFail {p : PortId} {s a : State} (h : EngineOnly p s a) : EngineOnly p s (a.lmVersionFail p) := by
  unfold State.lmVersionFail; dsimp only
  exact engine_ite (engine_trigger (engine_lmEnd h) _) (engine_modLm (engine_lmEnd h) _)

theorem engine_cutSteps {p : PortId} {s a : State} (h : EngineOnly p s a) : EngineOnly p s (a.cutSteps p) := by
  have k : EngineOnly p s (if (a.port p).swap.stage == .none || (a.port p).swap.stage == .probe ||
      (a.port p).swap.stage == .pending then a else a.swapDone p 0x00 0x04 true) :=
    engine_ite h (engine_swapDone h _ _ _)
  unfold State.cutSteps; dsimp only
  split
  · split
    · exact engine_vdmDone (engine_ite (engine_lmVersionFail k) k) _ _ _
    · exact k
  · exact engine_noticeFailed k
  · exact engine_lmVersionFail k
  · exact k

theorem engine_cutAms {p : PortId} {s a : State} (h : EngineOnly p s a) : EngineOnly p s (a.cutAms p) := by
  unfold State.cutAms; exact engine_modPd (engine_cutSteps h) _

theorem engine_softReset {p : PortId} {s a : State} (h : EngineOnly p s a) : EngineOnly p s (a.softReset p) := by
  unfold State.softReset
  exact engine_sendCtl (engine_modPd (engine_cutAms (engine_count (engine_pdEvt h _) _ _ _)) _) _

/-- What a reset by message ends leaves PD alone, but for a trigger of Exit Mode. -/
theorem cutSteps_pd (s : State) (p : PortId) : ∃ l, ((s.cutSteps p).port p).pd = { (s.port p).pd with trig := l } := by
  have swapped : ((if (s.port p).swap.stage == .none || (s.port p).swap.stage == .probe ||
      (s.port p).swap.stage == .pending then s else s.swapDone p 0x00 0x04 true).port p).pd = (s.port p).pd := by
    split <;> simp
  have failed (u : State) : ∃ l, ((u.lmVersionFail p).port p).pd = { (u.port p).pd with trig := l } := by
    unfold State.lmVersionFail; dsimp only
    split
    · exact ⟨_, by rw [trigger_port, lmEnd_pd]⟩
    · exact ⟨(u.port p).pd.trig, by simp⟩
  unfold State.cutSteps; dsimp only
  split
  · split
    · rw [vdmDone_pd]
      split
      · rw [← swapped]; exact failed _
      · exact ⟨(s.port p).pd.trig, by rw [swapped]⟩
    · exact ⟨(s.port p).pd.trig, by rw [swapped]⟩
  · exact ⟨(s.port p).pd.trig, by simp only [State.noticeFailed, State.port_modLm_self, swapped]⟩
  · rw [← swapped]; exact failed _
  · exact ⟨(s.port p).pd.trig, by rw [swapped]⟩

/-- A Soft_Reset sent: it is on the line with MessageID 0, and its AMS runs. -/
theorem softReset_sends (s : State) (p : PortId) : ((s.softReset p).port p).pd.tx.map (·.ty) = some .softReset ∧
    ((s.softReset p).port p).pd.ams = .softReset ∧ ((s.softReset p).port p).pd.txId = 0 ∧
    ((s.softReset p).port p).pd.evt = setBit (s.port p).pd.evt 2 := by
  obtain ⟨l, cut⟩ := cutSteps_pd ((s.pdEvt p 2).count p.val 0x06 1) p
  unfold State.softReset State.sendCtl
  rw [send_port (by simp [State.cutAms, PdPort.resetSop])]
  simp [State.cutAms, cut, PdPort.resetSop]

/-- Without a source's contract with a Revision 3.x partner, or where SinkTxNG is held, Soft_Reset goes at once. -/
theorem askSoftReset_at_once {s : State} {p : PortId}
    (h : (s.port p).pdSrc = true → (s.port p).pd.hasContract = true → (s.port p).pd.rev3 = true → (s.port p).pd.ng = true)
    (ok : (s.port p).sinkTxOk = true) : s.askSoftReset p = s.softReset p := by
  have held : ((s.port p).pdSrc && ((s.port p).pd.hasContract && (s.port p).pd.rev3) && !(s.port p).pd.ng) = false := by
    simp only [Bool.and_eq_false_iff, Bool.not_eq_false']
    grind
  simp [State.askSoftReset, held, ok]

end Sys2Proof.Proofs
end

section
/-!
SUPPORT. The timers of a negotiation: those that end in a Hard Reset, those that stop PD, and those that ask again; with them O10 is
settled.
-/
namespace Sys2Proof.Proofs

open Sys2Proof.Machine Sys2Proof.Safety Sys2Proof.Laws

/-! ## Capabilities sent (R161, R162) -/

theorem engine_sendObjs {p : PortId} {s a : State} (h : EngineOnly p s a) (epr unc : Bool) (o : List Offer) :
    EngineOnly p s (a.sendObjs p epr unc o) := by
  unfold State.sendObjs; dsimp only
  exact engine_ite (engine_sendExt (engine_modPd h _) _ _) (engine_send (engine_modPd h _) _ _ _)

theorem engine_sendCaps {p : PortId} {s a : State} (h : EngineOnly p s a) : EngineOnly p s (a.sendCaps p) := by
  unfold State.sendCaps; dsimp only
  exact engine_ite (engine_amsEnd (engine_takeTables h)) (engine_sendObjs (engine_modPd (engine_takeTables h) _) _ _ _)

@[simp] theorem takeTables_port (s : State) (p : PortId) : (s.takeTables p).port p = { s.port p with
    src := (s.port p).srcPend.getD (s.port p).src, srcPend := none
    snk := (s.port p).snkPend.getD (s.port p).snk, snkPend := none } := by simp [State.takeTables]

@[simp] theorem takeTables_grantOf (s : State) (p : PortId) : (s.takeTables p).grantOf p = s.grantOf p := by
  simp only [State.grantOf, takeTables_port]
  rfl

/-- Outside EPR mode capabilities of objects go out as Source_Capabilities. -/
theorem sendObjs_spr {s : State} {p : PortId} (htx : (s.port p).pd.tx = none) (unc : Bool) (o : List Offer) :
    (s.sendObjs p false unc o).port p = { s.port p with pd := { (s.port p).pd with
      reported := offersPower o
      tx := some ⟨.sop, .sourceCaps, s.capWords p false unc o, [], (s.port p).pd.txRev, (s.port p).pd.txId⟩, tries := 0 } } := by
  rw [State.sendObjs, if_neg Bool.false_ne_true, send_port (by simpa using htx)]
  simp

/-- With 45 coins a source outside EPR mode sends its capabilities and counts them. -/
theorem sendCaps_sends {s : State} {p : PortId} (hg : 45 ≤ s.grantOf p) (he : (s.port p).pd.epr = false)
    (htx : (s.port p).pd.tx = none) : ((s.sendCaps p).port p).pd.tx.map (·.ty) = some .sourceCaps ∧
      ((s.sendCaps p).port p).pd.ams = .negotiation ∧ ((s.sendCaps p).port p).pd.capsSent = false ∧
      ((s.sendCaps p).port p).pd.capsCount = (s.port p).pd.capsCount + 1 := by
  have enough : ¬ (s.takeTables p).grantOf p < 45 := by rw [takeTables_grantOf]; omega
  rw [State.sendCaps, if_neg enough]
  dsimp only
  rw [State.port_modPd_self, takeTables_port]
  dsimp only
  rw [he, sendObjs_spr (by simpa using htx)]
  simp

/-! ## Hard Reset where an answer is missing (R172, R174, R176) -/

/-- An event that sends Hard Reset outside EPR mode. -/
theorem yields_hardReset {c : Instr} {s : State} {p : PortId} (he : (s.port p).pd.epr = false)
    (run : exec c s = .next (s.hardReset p)) :
    Yields c s fun t => (t.port p).pd.evt = setBit (s.port p).pd.evt 1 ∧ (t.port p).pd.contract = .none ∧
      (t.port p).pd.hr ≠ .none ∧ EngineOnly p s t := by
  obtain ⟨contract, -, phase, frame⟩ := hardReset_ends s p
  exact ⟨_, run, hardReset_evt he, contract, phase, frame⟩

section
variable {s : State} {p : PortId} (live : s.pdLive p = true)
include live

theorem exec_senderResponseTimeout (hp : s.sys.pwr = .run) (htx : (s.port p).pd.tx = none)
    (hs : (s.port p).tc.state = .attachedSrc) (hc : (s.port p).pd.capsSent = true) :
    exec (.senderResponseTimeout p) s = .next (s.hardReset p) := by
  show execSenderResponseTimeout p s = _
  simp [execSenderResponseTimeout, donorOnStart_run p hp, State.noResponse, live, htx, Port.pdSrc, hs, hc]

theorem exec_psTransitionTimeout (hp : s.sys.pwr = .run) (hs : (s.port p).tc.state = .attachedSnk)
    (hc : (s.port p).pd.contract = .transition) : exec (.psTransitionTimeout p) s = .next (s.hardReset p) := by
  show execPsTransitionTimeout p s = _
  simp [execPsTransitionTimeout, donorOnStart_run p hp, State.noPsRdy, State.awaitsPsRdy, live, Port.pdSnk, hs, hc]

theorem exec_sinkWaitCapTimeout (hp : s.sys.pwr = .run) (hr : (s.port p).pd.hr = .none)
    (hs : (s.port p).tc.state = .attachedSnk) (hc : (s.port p).pd.contract = .none) (hn : (s.port p).pd.srcCaps = [])
    (hw : (s.port p).sw.st = .closed) : exec (.sinkWaitCapTimeout p) s = .next (s.hardReset p) := by
  show execSinkWaitCapTimeout p s = _
  simp [execSinkWaitCapTimeout, hp, hr, live, Port.pdSnk, hs, hc, hn, hw]

theorem exec_noResponseTimeout_first (hr : (s.port p).pd.hr = .none) (hc : (s.port p).pd.contract = .none)
    (hn : (s.port p).pd.hrCount = 1) : exec (.noResponseTimeout p) s = .next (s.hardReset p) := by
  show execNoResponseTimeout p s = _
  simp [execNoResponseTimeout, live, hr, hc, hn]

theorem exec_noResponseTimeout_last (hr : (s.port p).pd.hr = .none) (hc : (s.port p).pd.contract = .none)
    (hs : (s.port p).tc.state = .attachedSrc) (hn : (s.port p).pd.hrCount = 2) (hh : (s.port p).pd.heard = false) :
    exec (.noResponseTimeout p) s = .next (s.stopPd p) := by
  show execNoResponseTimeout p s = _
  simp [execNoResponseTimeout, live, hr, hc, hn, hh, Port.pdSnk, hs]

theorem exec_capsCountExhausted (hs : (s.port p).tc.state = .attachedSrc) (hc : (s.port p).pd.contract = .none)
    (hn : (s.port p).pd.capsCount = 50) : exec (.capsCountExhausted p) s = .next (s.stopPd p) := by
  show execCapsCountExhausted p s = _
  simp [execCapsCountExhausted, live, hc, hn, Port.pdSrc, hs]

theorem exec_ppsTimeout (hs : (s.port p).tc.state = .attachedSrc) (hc : (s.port p).pd.pps = true) :
    exec (.ppsTimeout p) s = .next (s.hardReset p) := by
  show execPpsTimeout p s = _
  simp [execPpsTimeout, live, hc, Port.pdSrc, hs]

theorem exec_ppsUndervoltageTimeout {o : Offer} (hs : (s.port p).tc.state = .attachedSrc) (hc : (s.port p).pd.pps = true)
    (ho : (s.port p).pd.obj = some o) (hv : (s.port p).tc.vbusMv < o.e.vlo * 10) :
    exec (.ppsUndervoltageTimeout p) s = .next (s.hardReset p) := by
  show execPpsUndervoltageTimeout p s = _
  simp [execPpsUndervoltageTimeout, live, hc, Port.pdSrc, hs, ho, hv]

/-! ## Asking again (R172, Table 5.10) -/

theorem exec_typecSendSourceCapExpiry (hs : (s.port p).tc.state = .attachedSrc) (hc : (s.port p).pd.contract = .none)
    (hr : (s.port p).pd.hr = .none) (ha : (s.port p).pd.ams = .none) (htx : (s.port p).pd.tx = none)
    (hn : (s.port p).pd.capsCount = 49) : exec (.typecSendSourceCapExpiry p) s = .next (s.sendCaps p) := by
  show execTypecSendSourceCapExpiry p s = _
  simp [execTypecSendSourceCapExpiry, live, hc, hr, ha, htx, hn, Port.pdSrc, hs]

theorem exec_sinkRequestExpiry (hs : (s.port p).tc.state = .attachedSnk) (hw : (s.port p).pd.waitRx = true) :
    exec (.sinkRequestExpiry p) s = .next ((s.modPd p fun d => { d with waitRx := false }).trigger p .request) := by
  show execSinkRequestExpiry p s = _
  simp [execSinkRequestExpiry, live, hw, Port.pdSnk, hs]

theorem exec_ppsRequestExpiry (hs : (s.port p).tc.state = .attachedSnk) (hc : (s.port p).pd.pps = true) :
    exec (.ppsRequestExpiry p) s = .next (s.trigger p .request) := by
  show execPpsRequestExpiry p s = _
  simp [execPpsRequestExpiry, live, hc, Port.pdSnk, hs]

/-! ## The slew after tSrcTransition (R268, R288) -/

theorem exec_srcTransitionExpiry (hs : (s.port p).tc.state = .attachedSrc) (hc : (s.port p).pd.contract = .transition)
    (hd : (s.port p).cv.slewDue = true) : exec (.srcTransitionExpiry p) s =
    .next ((s.modCv p fun c => { c with slewDue := false, slewing := c.dir != 0, atTarget := false }).modPd p fun d =>
      { d with sinkSlew := (s.port p).cv.dir != 0 }) := by
  show execSrcTransitionExpiry p s = _
  simp [execSrcTransitionExpiry, live, hc, hd, Port.pdSrc, hs]

end

/-! ## PD stopped (R177) -/

/-- PD that has stopped: NOPD, and the demand of the Rp level posted. -/
theorem stopPd_stops (s : State) (p : PortId) : ((s.stopPd p).port p).pd.contract = .stopped ∧
    ((s.stopPd p).port p).pd.evt = setBit (s.port p).pd.evt 4 ∧ ((s.stopPd p).port p).pd.capsCount = 0 ∧
    EngineOnly p s (s.stopPd p) := by
  unfold State.stopPd
  exact ⟨by simp, by simp, by simp, engine_postDemand (engine_pdEvt (engine_modPd (engine_refl p s) _) _) _ _ _ _⟩

/-! ## The statement -/

/-- Settles O10: each timer's event is the Hard Reset, the stop, the message or the trigger that its rule names. -/
theorem negotiationTimersEnd : Obligations.NegotiationTimersEnd := by
  unfold Obligations.NegotiationTimersEnd
  refine ⟨?_, ?_, ?_, ?_, ?_, ?_, ?_, ?_, ?_, ?_, ?_, ?_⟩
  · intro s p live _ _ _ _ hs hc hd hdir
    exact ⟨_, exec_srcTransitionExpiry live hs hc hd, by simp [hdir], by simp, by simp,
      portOnly_modPd (portOnly_modCv (portOnly_refl p s) _) _⟩
  · intro s p live hp htx _ _ hs he hc
    exact yields_hardReset he (exec_senderResponseTimeout live hp htx hs hc)
  · intro s p live hp _ _ _ hs he hc
    exact yields_hardReset he (exec_psTransitionTimeout live hp hs hc)
  · intro s p live hp _ _ hr hs he hc hn hw
    exact yields_hardReset he (exec_sinkWaitCapTimeout live hp hr hs hc hn hw)
  · intro s p live _ _ _ hr hs hc hn hh
    obtain ⟨stopped, evt, -, frame⟩ := stopPd_stops s p
    exact ⟨_, exec_noResponseTimeout_last live hr hc hs hn hh, stopped, evt, frame⟩
  · intro s p live _ _ _ hr _ he hc hn
    exact yields_hardReset he (exec_noResponseTimeout_first live hr hc hn)
  · intro s p live _ _ _ _ hs hc hn
    exact ⟨_, exec_capsCountExhausted live hs hc hn, stopPd_stops s p⟩
  · intro s p live _ htx _ hr hs he hc ha hn hg
    obtain ⟨sent, ams, -, count⟩ := sendCaps_sends hg he htx
    exact ⟨_, exec_typecSendSourceCapExpiry live hs hc hr ha htx hn, sent, by rw [count, hn], ams,
      engine_sendCaps (engine_refl p s)⟩
  · intro s p live _ _ _ _ hs hw ht hx
    exact ⟨_, exec_sinkRequestExpiry live hs hw, by simp [merged_first, ht, hx], by simp,
      portOnly_trigger (portOnly_modPd (portOnly_refl p s) _) _⟩
  · intro s p live _ _ _ _ hs he hc
    exact yields_hardReset he (exec_ppsTimeout live hs hc)
  · intro s p live _ _ _ _ hs hc ht hx
    exact ⟨_, exec_ppsRequestExpiry live hs hc, by simp [merged_first, ht, hx], portOnly_trigger (portOnly_refl p s) _⟩
  · intro s p live _ _ _ _ hs he hc ho hv
    exact yields_hardReset he (exec_ppsUndervoltageTimeout live hs hc ho (by simp [hv]))

end Sys2Proof.Proofs
end

section
/-!
SUPPORT. A Soft_Reset received, and the Hard Reset sequence of both roles to its end; with them O11 is settled.
-/
namespace Sys2Proof.Proofs

open Sys2Proof.Machine Sys2Proof.Safety Sys2Proof.Laws

/-! ## Starting the converter and closing the switch change one port alone, and PD not at all -/

section
variable {p : PortId} {s a : State} (h : PortOnly p s a)
include h

theorem portOnly_cvEvt (i : Nat) : PortOnly p s (a.cvEvt p i) := portOnly_modCv h _

theorem portOnly_convStart (d : BitVec 2) (c : Nat) : PortOnly p s (a.convStart p d c) := by
  unfold State.convStart State.formRef; dsimp only
  with_reducible apply_rules [portOnly_ite, portOnly_modCv, portOnly_cvEvt, portOnly_convRegion]

theorem portOnly_prebias : PortOnly p s (a.prebias p) := by
  unfold State.prebias; dsimp only
  exact portOnly_ite (portOnly_modCv (portOnly_convStart h _ _) _) (portOnly_convStart h _ _)

theorem portOnly_softStart (b : Bool) : PortOnly p s (a.softStart p b) := by unfold State.softStart; exact portOnly_modSw h _

theorem portOnly_tryClose : PortOnly p s (a.tryClose p) := by
  unfold State.tryClose; dsimp only
  exact portOnly_ite (portOnly_modTc (portOnly_softStart h _) _) (portOnly_ite (portOnly_softStart h _) h)

theorem portOnly_applyVbus : PortOnly p s (a.applyVbus p) := by
  unfold State.applyVbus; dsimp only
  exact portOnly_tryClose (portOnly_ite (portOnly_prebias h) h)

end

@[simp] theorem tryClose_pd (s : State) (p : PortId) : ((s.tryClose p).port p).pd = (s.port p).pd := by
  unfold State.tryClose State.softStart; dsimp only
  split
  · simp
  · split <;> simp

@[simp] theorem applyVbus_pd (s : State) (p : PortId) : ((s.applyVbus p).port p).pd = (s.port p).pd := by
  unfold State.applyVbus; dsimp only
  rw [tryClose_pd]
  split <;> simp

section
variable (s : State) (p : PortId)

@[simp] theorem convRegion_sw : ((s.convRegion p).port p).sw = (s.port p).sw := by
  unfold State.convRegion; dsimp only
  repeat' split
  all_goals simp

@[simp] theorem convStart_sw (dir : BitVec 2) (code : Nat) : ((s.convStart p dir code).port p).sw = (s.port p).sw := by
  unfold State.convStart State.formRef; dsimp only
  repeat' split
  all_goals simp

@[simp] theorem prebias_sw : ((s.prebias p).port p).sw = (s.port p).sw := by
  unfold State.prebias; dsimp only
  split <;> simp

@[simp] theorem holdRail_sw : ((s.holdRail p).port p).sw = (s.port p).sw := by
  unfold State.holdRail; dsimp only
  split <;> simp

end

/-! ## A Soft_Reset received (R141, R173) -/

/-- The Accept of a Soft_Reset, from a MessageID counter at its start. -/
def softResetAccepted (s : State) (p : PortId) : State :=
  ((s.cutAms p).modPd p fun d => { d.resetSop .sop with ams := .partner, srAccept := true }).sendCtl p .accept

theorem engine_softResetAccepted {p : PortId} {s a : State} (h : EngineOnly p s a) :
    EngineOnly p s (softResetAccepted a p) := engine_sendCtl (engine_modPd (engine_cutAms h) _) _

theorem softResetAccepted_pd (s : State) (p : PortId) :
    ((softResetAccepted s p).port p).pd.tx.map (·.ty) = some .accept ∧
    ((softResetAccepted s p).port p).pd.tx.map (·.id) = some 0 ∧ ((softResetAccepted s p).port p).pd.rxId = none ∧
    ((softResetAccepted s p).port p).pd.srAccept = true ∧
    ((softResetAccepted s p).port p).pd.evt = (s.port p).pd.evt := by
  obtain ⟨l, cut⟩ := cutSteps_pd s p
  unfold softResetAccepted State.sendCtl
  rw [send_port (by simp [State.cutAms, PdPort.resetSop])]
  simp [State.cutAms, cut, PdPort.resetSop]

/-- Outside a Fast Role Swap a Soft_Reset on SOP is taken whatever its MessageID, counted, and answered with Accept; which of the
triggers still wait is left open. -/
theorem exec_softReset {s : State} {p : PortId} {id : BitVec 3} (rev : BitVec 2) (rx : s.receives p .sop = true)
    (hb : (s.port p).pd.bist = 0) (hw : (s.port p).swap = SwapPort.reset) : ∃ f : List Ams → List Ams,
    exec (.softReset p ⟨.sop, id, rev⟩) s = .next (softResetAccepted
      ((((s.takeMsg p ⟨.sop, id, rev⟩).pdEvt p 2).count p.val 0x06 1).modPd p fun d => { d with trig := f d.trig }) p) := by
  refine ⟨fun l => if ((s.takeMsg p ⟨.sop, id, rev⟩).port p).prun.any fun r => r.kind == 0 && r.result.isNone then l
    else l.filter fun a => a != .softReset, ?_⟩
  show execSoftReset p _ s = _
  simp [execSoftReset, rx, State.act, hb, hw, softResetAccepted]

/-! ## The Hard Reset sequence received and run (R175) -/

theorem exec_hardReset {s : State} {p : PortId} (live : s.pdLive p = true) (hp : s.sys.pwr = .run) :
    exec (.hardReset p) s = .next (s.hardReset p) := by
  have here : s.hrLive p = true := by
    simp only [State.pdLive, Bool.and_eq_true] at live
    simp [State.hrLive, live]
  show execHardReset p s = _
  simp [execHardReset, donorOnStart_run p hp, State.gotHardReset, here, State.hardReset]

/-- A source whose attach was one goes on to tPSHardReset. -/
theorem hardReset_source {s : State} {p : PortId} (ha : (s.port p).tc.attachSrc = true)
    (hs : (s.port p).tc.state = .attachedSrc) :
    s.hardReset p = (((s.hrCommon p).modPd p fun d => { d with hr := .srcWait }).setRp p).holdRail p := by
  simp [State.hardReset, State.hrSequence, ha, Port.snkAtt, hs]

/-- A sink whose attach was one opens its switch and waits for vSafe5V. -/
theorem hardReset_sink {s : State} {p : PortId} (ha : (s.port p).tc.attachSrc = false)
    (hs : (s.port p).tc.state = .attachedSnk) :
    s.hardReset p = ((s.hrCommon p).openSwitch p).modPd p fun d =>
      { d with hr := .sink (decide ((s.port p).tc.vbusMv < 4000)) } := by
  simp [State.hardReset, State.hrSequence, ha, Port.srcAtt, hs]

theorem hardReset_source_waits {s : State} {p : PortId} (ha : (s.port p).tc.attachSrc = true)
    (hs : (s.port p).tc.state = .attachedSrc) : ((s.hardReset p).port p).pd.hr = .srcWait ∧
      ((s.hardReset p).port p).tc.state = .attachedSrc ∧ ((s.hardReset p).port p).pd.txId = 0 := by
  rw [hardReset_source ha hs]
  exact ⟨by simp, by simp [hs], by simp⟩

theorem hardReset_sink_waits {s : State} {p : PortId} (ha : (s.port p).tc.attachSrc = false)
    (hs : (s.port p).tc.state = .attachedSnk) :
    ((s.hardReset p).port p).pd.hr = .sink (decide ((s.port p).tc.vbusMv < 4000)) ∧
      ((s.hardReset p).port p).sw.st ≠ .closed := by
  rw [hardReset_sink ha hs]
  exact ⟨by simp, by simpa using openSwitch_not_closed _ p⟩

theorem exec_psHardResetExpiry {s : State} {p : PortId} (hr : s.portReady p = true) (hh : (s.port p).pd.hr = .srcWait)
    (hw : (s.port p).sw.st = .closed) : exec (.psHardResetExpiry p) s =
    .next (((s.openSwitch p).modPd p fun d => { d with hr := .srcOff }).holdRail p) := by
  show execPsHardResetExpiry p s = _
  simp [execPsHardResetExpiry, hr, hh, hw]

theorem exec_srcRecoverExpiry {s : State} {p : PortId} (hr : s.portReady p = true) (hh : (s.port p).pd.hr = .srcOff) :
    exec (.srcRecoverExpiry p) s = .next ((s.modPd p fun d => { d with hr := .srcRestore }).applyVbus p) := by
  show execSrcRecoverExpiry p s = _
  simp [execSrcRecoverExpiry, hr, hh]

theorem exec_vsafe5vReturn {s : State} {p : PortId} {b : Bool} (hr : s.portReady p = true)
    (hh : (s.port p).pd.hr = .sink b) (hv : 4750 ≤ (s.port p).tc.vbusMv) :
    exec (.vsafe5vReturn p) s = .next (((s.modPd p fun d => { d with hr := .none }).prunDone p [1] 0).tryClose p) := by
  show execVsafe5vReturn p s = _
  simp [execVsafe5vReturn, hr, hh, hv, HrPhase.isSink]

/-- A wait for vSafe5V that takes too long is a detach, which ends once VBUS is at vSafe0V. -/
theorem exec_hardResetDetachTimeout {s : State} {p : PortId} {b : Bool} (hr : s.portReady p = true)
    (hh : (s.port p).pd.hr = .sink b) (hl : (s.port p).tc.leaving = false) :
    exec (.hardResetDetachTimeout p) s = .next ((detached s p).finishLeaving p) := by
  show execHardResetDetachTimeout p s = _
  simp [execHardResetDetachTimeout, hr, hh, hl, HrPhase.isSink, detached]

/-! ## The statement -/

/-- Settles O11: each clause is what is said above of its event. -/
theorem resetsRun : Obligations.ResetsRun := by
  unfold Obligations.ResetsRun
  refine ⟨?_, ?_, ?_, ?_, ?_, ?_, ?_⟩
  · intro s p id rev hr _ hs clk hc hl hw _ _ hb
    have live : s.pdLive p = true := by simp [State.pdLive, hr, hl, Port.pdSrc, hs, hc]
    obtain ⟨f, run⟩ := exec_softReset (id := id) rev (receives_sop live clk hb) hb hw
    obtain ⟨ty, mid, rx, acc, evt⟩ := softResetAccepted_pd
      ((((s.takeMsg p ⟨.sop, id, rev⟩).pdEvt p 2).count p.val 0x06 1).modPd p fun d => { d with trig := f d.trig }) p
    exact ⟨_, run, ty, mid, rx, acc, by rw [evt]; simp,
      engine_softResetAccepted (engine_modPd (engine_count (engine_pdEvt (took ..) _) _ _ _) _)⟩
  · intro s p _ hp hs live ha
    obtain ⟨contract, -, -, frame⟩ := hardReset_ends s p
    obtain ⟨phase, state, mid⟩ := hardReset_source_waits ha hs
    exact ⟨_, exec_hardReset live hp, contract, phase, state, mid, frame⟩
  · intro s p _ hp hs live ha hv
    obtain ⟨contract, -, -, frame⟩ := hardReset_ends s p
    obtain ⟨phase, opened⟩ := hardReset_sink_waits ha hs
    exact ⟨_, exec_hardReset live hp, contract, by rw [phase, hv]; rfl, opened, frame⟩
  · intro s p hr _ _ hh hw
    refine ⟨_, exec_psHardResetExpiry hr hh hw, by simp, ?_, by simp,
      engine_holdRail (engine_modPd (engine_openSwitch (engine_refl p s)) _)⟩
    rw [holdRail_sw, State.port_modPd_self]
    exact openSwitch_not_closed s p
  · intro s p hr _ _ hh
    exact ⟨_, exec_srcRecoverExpiry hr hh, by simp, portOnly_applyVbus (portOnly_modPd (portOnly_refl p s) _)⟩
  · intro s p hr _ _ hh hv
    exact ⟨_, exec_vsafe5vReturn hr hh (by simp [hv]), by simp,
      portOnly_tryClose (portOnly_prunDone (portOnly_modPd (portOnly_refl p s) _) _ _)⟩
  · intro s p hr _ _ hh hl hv hw
    have run := exec_hardResetDetachTimeout hr hh hl
    rw [finishLeaving_above_vsafe0v (by simp [hv])] at run
    exact ⟨_, run, by simp, by simp, detached_posts hw, engine_detached (engine_refl p s)⟩

end Sys2Proof.Proofs
end

section
/-!
SUPPORT. The line's GoodCRC and its absence, and the start of an AMS; with them O8 is settled.
-/
namespace Sys2Proof.Proofs

open Sys2Proof.Machine Sys2Proof.Safety Sys2Proof.Laws

/-! ## A GoodCRC (R142) -/

/-- With no message waiting the line is free. -/
theorem sendNext_last {s : State} {p : PortId} (h : (s.port p).pd.txQ = []) : s.sendNext p =
    s.modPd p fun d => PdPort.nextTx { d with txQ := d.txQ.filter fun m => s.sopLive p m.sop } := by
  simp [State.sendNext, h, PdPort.nextTx]

theorem exec_goodcrc {s : State} {p : PortId} {m : Msg} (live : s.pdLive p = true) (sop : s.sopLive p m.sop = true)
    (htx : (s.port p).pd.tx = some m) : exec (.goodcrc p m.sop m.id) s =
    .next (((s.modPd p fun d => { d.bumpId m.sop with heard := d.heard || m.sop == .sop }).sendNext p).acked p m) := by
  show execGoodcrc p m.sop m.id s = _
  simp [execGoodcrc, live, sop, htx]

/-- Capabilities acknowledged in a negotiation begin to wait for a Request. -/
theorem acked_sourceCaps {s : State} {p : PortId} {m : Msg} (hm : m.ty = .sourceCaps) (ha : (s.port p).pd.ams = .negotiation) :
    s.acked p m = s.modPd p fun d => { d with capsSent := d.chunk.isNone, capsCount := 0 } := by
  simp [State.acked, hm, ha]

/-- Capabilities on the line are acknowledged. -/
theorem goodcrc_sourceCaps {s : State} {p : PortId} {m : Msg} (live : s.pdLive p = true) (hm : m.ty = .sourceCaps)
    (hk : m.sop = .sop) (htx : (s.port p).pd.tx = some m) (hq : (s.port p).pd.txQ = []) (hc : (s.port p).pd.chunk = none)
    (ha : (s.port p).pd.ams = .negotiation) : Yields (.goodcrc p .sop m.id) s fun t =>
      (t.port p).pd.tx = none ∧ (t.port p).pd.txId = (s.port p).pd.txId + 1 ∧ (t.port p).pd.capsSent = true ∧
      (t.port p).pd.heard = true ∧ PortOnly p s t := by
  have run := exec_goodcrc live (by simp [State.sopLive, hk]) htx
  rw [sendNext_last (by simp [hk, PdPort.bumpId, hq]), acked_sourceCaps hm (by simp [hk, PdPort.bumpId, PdPort.nextTx, hq, ha]),
    hk] at run
  refine ⟨_, run, ?_, ?_, ?_, ?_, portOnly_modPd (portOnly_modPd (portOnly_modPd (portOnly_refl p s) _) _) _⟩ <;>
    simp [PdPort.bumpId, PdPort.nextTx, hq, hc]

/-! ## No GoodCRC (R142, R173) -/

theorem exec_receiveTimeout_retries {s : State} {p : PortId} {m : Msg} (live : s.pdLive p = true)
    (sop : s.sopLive p m.sop = true) (htx : (s.port p).pd.tx = some m)
    (hn : (s.port p).pd.tries < if (s.port p).pd.rev3 then 2 else 3) : exec (.receiveTimeout p) s =
    .next ((s.modPd p fun d => { d with tries := d.tries + 1 }).count p.val 0x04 1) := by
  show execReceiveTimeout p s = _
  simp only [execReceiveTimeout, live, State.when_true, htx, sop, Bool.and_true, decide_eq_true_eq, if_pos hn]

theorem exec_receiveTimeout_fails {s : State} {p : PortId} {m : Msg} (live : s.pdLive p = true)
    (htx : (s.port p).pd.tx = some m) (hn : ¬ (s.port p).pd.tries < if (s.port p).pd.rev3 then 2 else 3) :
    exec (.receiveTimeout p) s = .next (s.txError p m) := by
  show execReceiveTimeout p s = _
  simp only [execReceiveTimeout, live, State.when_true, htx, hn, decide_false, Bool.false_and, Bool.false_eq_true, if_false]

/-- The port once a message has failed: its MessageID has advanced, and the line is free. -/
def lineFailed (s : State) (p : PortId) (m : Msg) : State :=
  (s.modPd p fun d => { d.bumpId m.sop with tx := none, txQ := [], tries := 0, chunk := none }).count p.val 0x05 1

/-- A message on SOP that opens no reset and no swap, lost outside a transition, asks for Soft_Reset. -/
theorem txError_asks {s : State} {p : PortId} {m : Msg} (hm : m.ty = .getSinkCap) (hk : m.sop = .sop)
    (hc : (s.port p).pd.contract ≠ .transition) (hw : (s.port p).swap = SwapPort.reset) :
    s.txError p m = (lineFailed s p m).askSoftReset p := by
  simp [State.txError, hm, hk, hc, hw, lineFailed]

/-- A source that holds SinkTxNG sends Soft_Reset once the retries have failed. -/
theorem receiveTimeout_resets {s : State} {p : PortId} {m : Msg} (live : s.pdLive p = true) (hm : m.ty = .getSinkCap)
    (hk : m.sop = .sop) (htx : (s.port p).pd.tx = some m) (hg : (s.port p).pd.ng = true)
    (hs : (s.port p).tc.state = .attachedSrc) (hn : (s.port p).pd.tries = 2) (h3 : (s.port p).pd.txRev = 2)
    (hc : (s.port p).pd.contract ≠ .transition) (hw : (s.port p).swap = SwapPort.reset) :
    Yields (.receiveTimeout p) s fun t => (t.port p).pd.tx.map (·.ty) = some .softReset ∧
      (t.port p).pd.ams = .softReset ∧ (t.port p).pd.txId = 0 ∧ EngineOnly p s t := by
  have run := exec_receiveTimeout_fails live htx (by simp [hn, PdPort.rev3, h3])
  have now : (lineFailed s p m).askSoftReset p = (lineFailed s p m).softReset p := askSoftReset_at_once
    (fun _ _ _ => by simp [lineFailed, hk, PdPort.bumpId, hg])
    (by simp [lineFailed, hk, PdPort.bumpId, Port.sinkTxOk, Port.pdSnk, hs])
  rw [txError_asks hm hk hc hw, now] at run
  obtain ⟨sent, ams, mid, -⟩ := softReset_sends (lineFailed s p m) p
  exact ⟨_, run, sent, ams, mid, engine_softReset (engine_count (engine_modPd (engine_refl p s) _) _ _ _)⟩

/-! ## An AMS begins (R144, R154) -/

theorem exec_amsStart {s : State} {p : PortId} (live : s.pdLive p = true) (ha : (s.port p).pd.ams = .none)
    (htx : (s.port p).pd.tx = none) (hr : (s.port p).pd.hr = .none) (hc : (s.port p).pd.contract ≠ .transition)
    (hb : (s.port p).pd.bist = 0) : exec (.amsStart p) s = .next (s.startAms p) := by
  have on : ((s.port p).pd.contract != .stopped) = true := by
    simp only [State.pdLive, Bool.and_eq_true] at live
    exact live.2
  have rests : ((s.port p).pd.contract != .transition) = true := bne_iff_ne.mpr hc
  show execAmsStart p s = _
  simp [execAmsStart, live, ha, htx, hr, on, rests, hb]

/-- The oldest trigger is the next to start, but for a VDM_SEND, which waits for a contract. -/
theorem nextTrig_head {x : Port} {a : Ams} {r : List Ams} (ht : x.pd.trig = a :: r) (hv : a ≠ .vdm) :
    x.nextTrig = some (a, r.filter (· != a)) := by
  simp [Port.nextTrig, ht, hv]

/-- A source under a Revision 3.x contract first changes to SinkTxNG and waits tSinkTx. -/
theorem startAms_waits {s : State} {p : PortId} {a : Ams} {r : List Ams} (ht : (s.port p).pd.trig = a :: r) (hv : a ≠ .vdm)
    (hs : (s.port p).tc.state = .attachedSrc) (hc : (s.port p).pd.contract = .explicit) (h3 : (s.port p).pd.txRev = 2)
    (hg : (s.port p).pd.ng = false) : s.startAms p =
    ((s.modPd p fun d => { d with trig := r.filter (· != a), ams := a }).modPd p fun d =>
      { d with ng := true, sinkTxWait := true }).setRp p := by
  simp [State.startAms, nextTrig_head ht hv, Port.sinkTxOk, Port.pdSnk, Port.pdSrc, hs, PdPort.hasContract, hc, PdPort.rev3, h3,
    hg]

/-- A source with no contract sends the first message at once. -/
theorem startAms_at_once {s : State} {p : PortId} {a : Ams} {r : List Ams} (ht : (s.port p).pd.trig = a :: r) (hv : a ≠ .vdm)
    (hs : (s.port p).tc.state = .attachedSrc) (hc : (s.port p).pd.contract = .none) : s.startAms p =
    (s.modPd p fun d => { d with trig := r.filter (· != a), ams := a }).amsFirst p a := by
  simp [State.startAms, nextTrig_head ht hv, Port.sinkTxOk, Port.pdSnk, hs, PdPort.hasContract, hc]

theorem exec_sinkTxExpiry {s : State} {p : PortId} (live : s.pdLive p = true) (hw : (s.port p).pd.sinkTxWait = true) :
    exec (.sinkTxExpiry p) s =
      .next ((s.modPd p fun d => { d with sinkTxWait := false }).amsFirst p (s.port p).pd.ams) := by
  show execSinkTxExpiry p s = _
  simp [execSinkTxExpiry, live, hw]

/-! ## The statement -/

/-- Settles O8: each clause is what is said above of its event. -/
theorem transmissionsAndSequencesBegin : Obligations.TransmissionsAndSequencesBegin := by
  unfold Obligations.TransmissionsAndSequencesBegin
  refine ⟨?_, ?_, ?_, ?_, ?_, ?_⟩
  · intro s p id live _ _ htx hq hc ha
    exact goodcrc_sourceCaps (m := ⟨.sop, .sourceCaps, [], [], 2, id⟩) live rfl rfl htx hq hc ha
  · intro s p id live _ _ htx hn h3
    exact ⟨_, exec_receiveTimeout_retries live rfl htx (by simp [PdPort.rev3, h3, hn]), by simp, by simp,
      engine_count (engine_modPd (engine_refl p s) _) _ _ _⟩
  · intro s p id live hs _ htx hg hn h3 hc _ hw _
    exact receiveTimeout_resets live rfl rfl htx hg hs hn h3 (by simp [hc]) hw
  · intro s p live hs _ htx ht ha hc h3 hg hr hb
    have run := exec_amsStart live ha htx hr (by simp [hc]) hb
    rw [startAms_waits ht (by decide) hs hc h3 hg] at run
    refine ⟨_, run, by simp, by simp, ?_, by simp, portOnly_setRp (portOnly_modPd (portOnly_modPd (portOnly_refl p s) _) _)⟩
    simp [presentedRp, Port.srcAtt, hs, PdPort.hasContract, hc, PdPort.rev3, h3]
  · intro s p live _ _ htx hw ha
    have run := exec_sinkTxExpiry live hw
    rw [ha, State.amsFirst, State.sendCtl] at run
    refine ⟨_, run, ?_, ?_, ?_, engine_send (engine_modPd (engine_refl p s) _) _ _ _⟩ <;>
      rw [send_port (by simpa using htx)] <;> simp [ha]
  · intro s p live hs _ htx ht ha hc hr hb
    have run := exec_amsStart live ha htx hr (by simp [hc]) hb
    rw [startAms_at_once ht (by decide) hs hc, State.amsFirst, State.sendCtl] at run
    refine ⟨_, run, ?_, ?_, ?_, engine_send (engine_modPd (engine_refl p s) _) _ _ _⟩ <;>
      rw [send_port (by simpa using htx)] <;> simp

end Sys2Proof.Proofs
end

section
/-!
SUPPORT. Capabilities, a Request, its answer and PS_RDY, from both sides of a negotiation; with them O9 is settled.
-/
namespace Sys2Proof.Proofs

open Sys2Proof.Machine Sys2Proof.Safety Sys2Proof.Laws

/-! ## The partner's revision (R147), and messages of EPR mode -/

@[simp] theorem setRev_port (s : State) (p : PortId) (h : RxHdr) : (s.setRev p h).port p = { s.port p with
    pd := { (s.port p).pd with
      revSet := true
      txRev := if (s.port p).pd.revSet then (s.port p).pd.txRev else if h.rev.toNat < 2 then h.rev else 2
      rev := if (s.port p).pd.revSet then (s.port p).pd.rev else if h.rev.toNat < 2 then 1 else 2 } } := by
  have fixed (d : PdPort) (a b : BitVec 2) : (if d.revSet then d else { d with revSet := true, txRev := a, rev := b }) =
      { d with revSet := true, txRev := if d.revSet then d.txRev else a, rev := if d.revSet then d.rev else b } := by
    cases d
    split <;> simp_all
  rw [State.setRev, State.port_modPd_self, fixed]

theorem engine_setRev {p : PortId} {s a : State} (h : EngineOnly p s a) (x : RxHdr) : EngineOnly p s (a.setRev p x) := by
  unfold State.setRev; exact engine_modPd h _

@[simp] theorem setRev_grantOf (s : State) (p : PortId) (h : RxHdr) : (s.setRev p h).grantOf p = s.grantOf p := by
  simp only [State.grantOf, setRev_port]
  rfl

@[simp] theorem modPd_grantOf (s : State) (p : PortId) (f : PdPort → PdPort) : (s.modPd p f).grantOf p = s.grantOf p := by
  simp only [State.grantOf, State.port_modPd_self]
  rfl

theorem onlyEpr_spr (s : State) (p : PortId) (f : State → State) : s.onlyEpr p false f = f s := rfl

theorem ownRuns_taken {s : State} {p : PortId} (h : RxHdr) (ho : (s.port p).ownRuns = false) :
    ((s.takeMsg p h).port p).ownRuns = false := by
  cases hw : (s.port p).pd.sinkTxWait <;> simp_all [Port.ownRuns, Ams.own]

/-! ## A sink's Request (R158) -/

/-- Outside EPR mode, and outside EMBER, a sink that has capabilities sends a Request of one of their objects. -/
theorem sendRequest_spr {s : State} {p : PortId} {c : Word} {r : List Word} (hp : s.sys.pwr = .run)
    (he : (s.port p).pd.epr = false) (hc : (s.port p).pd.srcCaps = c :: r) : ∃ w n, s.sendRequest p =
    ((s.takeTables p).modPd p fun d => { d with ams := .request, rdo := w, nxt := some n }).send p .request [w] [] := by
  refine ⟨((s.takeTables p).requestFor p (c :: r)).1, ((s.takeTables p).requestFor p (c :: r)).2, ?_⟩
  unfold State.sendRequest
  simp only [takeTables_port, hc]
  rw [emberNote_run]
  · simp [he]
  · exact hp

theorem exec_sourceCapabilities {s : State} {p : PortId} {h : RxHdr} (hh : Hears s p h) (ho : (s.port p).ownRuns = false)
    (hs : (s.port p).tc.state = .attachedSnk) (hc : (s.port p).pd.contract ≠ .transition)
    (hw : (s.port p).swap = SwapPort.reset) (he : (s.port p).pd.epr = false) (c : Word) (r : List Word) :
    exec (.sourceCapabilities p h false (c :: r)) s = .next ((((s.takeMsg p h).setRev p h).modPd p fun d =>
      { d with srcCaps := c :: r, chunk := none, waitRx := false, waitCaps := false }).sendRequest p) := by
  have go := ownRuns_taken h ho
  have rests : ((s.port p).pd.contract == .transition) = false := beq_eq_false_iff_ne.mpr hc
  show execSourceCapabilities p h false (c :: r) s = _
  rw [execSourceCapabilities, onMsg_heard hh (by simp [ho])]
  dsimp only
  rw [onlyEpr_spr, if_neg (by rw [go]; simp [Port.pdSnk, hs, rests, hw, he])]

/-- A sink answers Source_Capabilities with a Request. -/
theorem sourceCapabilities_requested {s : State} {p : PortId} {h : RxHdr} (hh : Hears s p h) (hp : s.sys.pwr = .run)
    (htx : (s.port p).pd.tx = none) (ho : (s.port p).ownRuns = false) (hs : (s.port p).tc.state = .attachedSnk)
    (hc : (s.port p).pd.contract ≠ .transition) (hw : (s.port p).swap = SwapPort.reset) (he : (s.port p).pd.epr = false)
    (c : Word) (r : List Word) : Yields (.sourceCapabilities p h false (c :: r)) s fun t =>
      (t.port p).pd.tx.map (·.ty) = some .request ∧ (t.port p).pd.ams = .request ∧ (t.port p).pd.srcCaps = c :: r ∧
      (t.port p).pd.nxt.isSome = true ∧ EngineOnly p s t := by
  have frame := engine_modPd (engine_setRev (took s p h) h) fun d =>
    { d with srcCaps := c :: r, chunk := none, waitRx := false, waitCaps := false }
  have run := exec_sourceCapabilities hh ho hs hc hw he c r
  obtain ⟨w, n, sent⟩ := sendRequest_spr (s := ((s.takeMsg p h).setRev p h).modPd p fun d =>
    { d with srcCaps := c :: r, chunk := none, waitRx := false, waitCaps := false }) (p := p)
    (c := c) (r := r)
    (by rw [engine_sys frame]; exact hp) (by simpa using he) (by simp)
  rw [sent] at run
  refine ⟨_, run, ?_, ?_, ?_, ?_, engine_send (engine_modPd (engine_takeTables frame) _) _ _ _⟩ <;>
    rw [send_port (by simpa using htx)] <;> simp

/-! ## A source's answer (R163) -/

/-- A Request within its object and the grant, without Capability Mismatch, is accepted. -/
theorem handleRequest_accepts {s : State} {p : PortId} {o : Offer} {w : Word} (ho : (s.port p).pd.offerAt (rdoPos w) = some o)
    (hw : rdoWithin o w = true) (hg : (offerTerms o w).v * (offerTerms o w).i ≤ s.grantOf p * 1000)
    (hm : (offerTerms o w).mis = false) : s.handleRequest p w = s.acceptRequest p w := by
  simp [State.handleRequest, ho, hw, hg, hm]

theorem engine_acceptRequest {p : PortId} {s a : State} (h : EngineOnly p s a) (w : Word) :
    EngineOnly p s (a.acceptRequest p w) := by
  unfold State.acceptRequest
  split
  · exact h
  · exact engine_sendCtl (engine_modSw (engine_modCv (engine_modPd h _) _) _) _

/-- An accepted Request: the transition to its terms, the references at them, and Accept on the line. -/
theorem acceptRequest_begins {s : State} {p : PortId} {o : Offer} {w : Word} (htx : (s.port p).pd.tx = none)
    (ho : (s.port p).pd.offerAt (rdoPos w) = some o) : ((s.acceptRequest p w).port p).pd.contract = .transition ∧
      ((s.acceptRequest p w).port p).pd.nxt = some (offerTerms o w) ∧
      ((s.acceptRequest p w).port p).pd.tx.map (·.ty) = some .accept ∧
      ((s.acceptRequest p w).port p).cv.vref = vrefCode (offerTerms o w).v ∧
      ((s.acceptRequest p w).port p).cv.ilim =
        ilimCode (if (offerTerms o w).ctype = 1 then (offerTerms o w).i else (offerTerms o w).i / 5 * 5) := by
  unfold State.acceptRequest State.sendCtl
  rw [ho]
  dsimp only
  rw [send_port (by simpa using htx)]
  simp

theorem exec_request {s : State} {p : PortId} {h : RxHdr} (hh : Hears s p h) (ho : (s.port p).ownRuns = false)
    (hs : (s.port p).tc.state = .attachedSrc) (hc : (s.port p).pd.contract = .explicit)
    (hw : (s.port p).swap = SwapPort.reset) (he : (s.port p).pd.epr = false) (ha : (s.port p).pd.asked = none) (w : Word) :
    exec (.request p h false w) s = .next ((((s.takeMsg p h).setRev p h).modPd p fun d =>
      { d with capsSent := false }).handleRequest p w) := by
  have go := ownRuns_taken h ho
  show execRequest p h false w s = _
  rw [execRequest, onMsg_heard hh (by simp [ho])]
  dsimp only
  rw [onlyEpr_spr, if_neg (by rw [go]; simp [Port.pdSrc, hs, hc, hw, he, ha])]

/-- A source accepts a Request of its contract's partner that it may. -/
theorem request_accepted {s : State} {p : PortId} {h : RxHdr} {o : Offer} {w : Word} (hh : Hears s p h)
    (htx : (s.port p).pd.tx = none) (ho : (s.port p).ownRuns = false) (hs : (s.port p).tc.state = .attachedSrc)
    (hc : (s.port p).pd.contract = .explicit) (hw : (s.port p).swap = SwapPort.reset) (he : (s.port p).pd.epr = false)
    (ha : (s.port p).pd.asked = none) (named : (s.port p).pd.offerAt (rdoPos w) = some o) (within : rdoWithin o w = true)
    (hg : (offerTerms o w).v * (offerTerms o w).i ≤ s.grantOf p * 1000) (hm : (offerTerms o w).mis = false) :
    Yields (.request p h false w) s fun t =>
      (t.port p).pd.contract = .transition ∧ (t.port p).pd.nxt = some (offerTerms o w) ∧
      (t.port p).pd.tx.map (·.ty) = some .accept ∧ (t.port p).cv.vref = vrefCode (offerTerms o w).v ∧
      (t.port p).cv.ilim =
        ilimCode (if (offerTerms o w).ctype = 1 then (offerTerms o w).i else (offerTerms o w).i / 5 * 5) ∧
      EngineOnly p s t := by
  have run := exec_request hh ho hs hc hw he ha w
  have grant : (((s.takeMsg p h).setRev p h).modPd p fun d => { d with capsSent := false }).grantOf p = s.grantOf p := by
    simp
  have offer : ((((s.takeMsg p h).setRev p h).modPd p fun d => { d with capsSent := false }).port p).pd.offerAt
      (rdoPos w) = some o := by simpa [PdPort.offerAt] using named
  rw [handleRequest_accepts offer within (by rw [grant]; exact hg) hm] at run
  obtain ⟨contract, nxt, sent, vref, ilim⟩ := acceptRequest_begins (by simpa using htx) offer
  exact ⟨_, run, contract, nxt, sent, vref, ilim,
    engine_acceptRequest (engine_modPd (engine_setRev (took s p h) h) _) w⟩

/-! ## A sink's transition (R268) -/

/-- Accept of the device's Request: the transition to the terms asked for, with the input held at its standby limit. -/
theorem exec_accept_request {s : State} {p : PortId} {h : RxHdr} (hh : Hears s p h) (hp : s.sys.pwr = .run)
    (hs : (s.port p).tc.state = .attachedSnk) (ha : (s.port p).pd.ams = .request) (hn : (s.port p).pd.nxt.isSome = true)
    (hc : (s.port p).pd.contract ≠ .transition) (hx : (s.port p).pd.sinkTxWait = false) :
    ∃ f : PdPort → PdPort, ∃ g : SwPort → SwPort, (∀ d, (f d).contract = .transition ∧ (f d).nxt = d.nxt) ∧
      exec (.accept p h) s = .next ((((s.takeMsg p h).modPd p f).modSw p g).modCv p fun c => { c with standby := true }) := by
  have rests : ((s.port p).pd.contract != .transition) = true := bne_iff_ne.mpr hc
  refine ⟨?f, ?g, ?_, ?run⟩
  case run =>
    show execAccept p h s = _
    rw [execAccept, onAny_heard hh]
    dsimp only
    rw [if_neg (by simp [ha, hx]), if_pos (by simp [Port.pdSnk, hs, ha, hx, hn, rests]), emberNote_run]
    rw [State.modCv_sys, State.modSw_sys, State.modPd_sys, takeMsg_sys]
    exact hp
  · exact fun _ => ⟨rfl, rfl⟩

theorem engine_whenTrigger {p : PortId} {s a : State} (h : EngineOnly p s a) (c : Bool) (f : PdPort → PdPort) (m : Ams) :
    EngineOnly p s (a.when c fun s => (s.modPd p f).trigger p m) := engine_when h (engine_trigger (engine_modPd h _) _)

theorem engine_afterContract {p : PortId} {s a : State} (h : EngineOnly p s a) : EngineOnly p s (a.afterContract p) := by
  unfold State.afterContract; dsimp only
  exact engine_ite (engine_whenTrigger (engine_whenTrigger (engine_whenTrigger (engine_whenTrigger h _ _ _) _ _ _) _ _ _) _ _ _) h

/-- What a port shows of its contract once it is made: CONTRACT, its terms, the Hard Reset counter, and the standby limit. -/
def contractMarks (x : Port) : Contract × Terms × Nat × Bool := (x.pd.contract, x.pd.terms, x.pd.hrCount, x.cv.standby)

section
variable (s : State) (p : PortId)

theorem trigger_marks (a : Ams) : contractMarks ((s.trigger p a).port p) = contractMarks (s.port p) := by
  simp [contractMarks]

theorem setIlim_marks : contractMarks ((s.setIlim p).port p) = contractMarks (s.port p) := by
  simp [contractMarks, State.setIlim]

theorem amsEnd_marks : contractMarks ((s.amsEnd p).port p) = contractMarks (s.port p) := by simp [contractMarks]

theorem whenTrigger_marks {f : PdPort → PdPort} (hf : ∀ x : Port, contractMarks { x with pd := f x.pd } = contractMarks x)
    (c : Bool) (a : Ams) :
    contractMarks ((s.when c fun s => (s.modPd p f).trigger p a).port p) = contractMarks (s.port p) := by
  cases c
  · rfl
  · rw [State.when_true, trigger_marks, State.port_modPd_self, hf]

theorem afterContract_marks : contractMarks ((s.afterContract p).port p) = contractMarks (s.port p) := by
  unfold State.afterContract; dsimp only
  split
  · rw [whenTrigger_marks _ _ fun _ => rfl, whenTrigger_marks _ _ fun _ => rfl, whenTrigger_marks _ _ fun _ => rfl,
      whenTrigger_marks _ _ fun _ => rfl]
  · rfl

end

/-- Outside EMBER a contract made touches the port's engine alone. -/
theorem engine_makeContract {p : PortId} {s a : State} (h : EngineOnly p s a) (hp : s.sys.pwr = .run) :
    EngineOnly p s (a.makeContract p) := by
  have isolated {u : State} (k : EngineOnly p s u) : EngineOnly p s (u.emberIsolate p) := by
    rw [emberIsolate_run p (by rw [engine_sys k]; exact hp)]
    exact k
  unfold State.makeContract; dsimp only
  exact isolated (engine_amsEnd (engine_afterContract (engine_setIlim (engine_modCv (engine_pdEvt (engine_modPd h _) _) _))))

/-- A contract made is in force on the terms that awaited it, with no Hard Reset counted and no standby limit. -/
theorem makeContract_marks {s : State} {p : PortId} {n : Terms} (hp : s.sys.pwr = .run) (hn : (s.port p).pd.nxt = some n) :
    contractMarks ((s.makeContract p).port p) = (.explicit, n, 0, false) := by
  unfold State.makeContract; dsimp only
  rw [emberIsolate_run]
  · rw [amsEnd_marks, afterContract_marks, setIlim_marks]
    simp [contractMarks, hn]
  · rw [engine_sys (engine_amsEnd (engine_afterContract (engine_setIlim (engine_modCv (engine_pdEvt (engine_modPd
      (engine_refl p s) _) _) _))))]
    exact hp

/-! ## PS_RDY at a sink (R158, R165, R167) -/

theorem engine_sinkGrant {p : PortId} {s a : State} (h : EngineOnly p s a) : EngineOnly p s (a.sinkGrant p) := by
  unfold State.sinkGrant; dsimp only
  exact engine_ite (engine_trigger (engine_setIlim h) _) (engine_setIlim h)

theorem engine_eprEntryCheck {p : PortId} {s a : State} (h : EngineOnly p s a) : EngineOnly p s (a.eprEntryCheck p) := by
  unfold State.eprEntryCheck; dsimp only
  exact engine_when h (engine_trigger h _)

theorem sinkGrant_marks (s : State) (p : PortId) :
    contractMarks ((s.sinkGrant p).port p) = contractMarks (s.port p) := by
  unfold State.sinkGrant; dsimp only
  split
  · rw [trigger_marks, setIlim_marks]
  · rw [setIlim_marks]

theorem eprEntryCheck_marks (s : State) (p : PortId) :
    contractMarks ((s.eprEntryCheck p).port p) = contractMarks (s.port p) := by
  unfold State.eprEntryCheck State.when; dsimp only
  split
  · rw [trigger_marks]
  · rfl

theorem exec_psRdy {s : State} {p : PortId} {h : RxHdr} (hh : Hears s p h)
    (ha : (s.port p).ownRuns = true → (s.port p).pd.ams ≠ .softReset) (hs : (s.port p).tc.state = .attachedSnk)
    (hc : (s.port p).pd.contract = .transition) :
    exec (.psRdy p h) s = .next ((((s.takeMsg p h).makeContract p).sinkGrant p).eprEntryCheck p) := by
  show execPsRdy p h s = _
  rw [execPsRdy, onMsg_heard hh ha]
  dsimp only
  rw [if_pos (by simp [Port.pdSnk, hs, hc])]

/-- PS_RDY makes the contract that a sink has asked for. -/
theorem psRdy_contracts {s : State} {p : PortId} {h : RxHdr} (hh : Hears s p h) (hp : s.sys.pwr = .run)
    (ha : (s.port p).ownRuns = true → (s.port p).pd.ams ≠ .softReset) (hs : (s.port p).tc.state = .attachedSnk)
    (hc : (s.port p).pd.contract = .transition) (hn : (s.port p).pd.nxt.isSome = true) : Yields (.psRdy p h) s fun t =>
      (t.port p).pd.contract = .explicit ∧ some (t.port p).pd.terms = (s.port p).pd.nxt ∧ (t.port p).pd.hrCount = 0 ∧
      (t.port p).cv.standby = false ∧ EngineOnly p s t := by
  obtain ⟨n, hn⟩ := Option.isSome_iff_exists.mp hn
  have frame := engine_eprEntryCheck (engine_sinkGrant (engine_makeContract (took s p h) hp))
  have marks : contractMarks (((((s.takeMsg p h).makeContract p).sinkGrant p).eprEntryCheck p).port p) =
      (.explicit, n, 0, false) := by
    rw [eprEntryCheck_marks, sinkGrant_marks, makeContract_marks (by simpa using hp) (by simpa using hn)]
  simp only [contractMarks, Prod.mk.injEq] at marks
  obtain ⟨contract, terms, count, standby⟩ := marks
  exact ⟨_, exec_psRdy hh ha hs hc, contract, by rw [terms, hn], count, standby, frame⟩

/-! ## A Request refused (R158) -/

/-- Reject (1) or Wait (2) of the device's Request: the old contract stands. -/
def requestRefused (s : State) (p : PortId) (k : Nat) : State :=
  (s.modPd p fun d => { d with nxt := none, waitRx := k == 2 }).amsEnd p

theorem requestRefused_keeps (s : State) (p : PortId) (h : RxHdr) (k : Nat) :
    ((requestRefused (s.takeMsg p h) p k).port p).pd.nxt = none ∧
    ((requestRefused (s.takeMsg p h) p k).port p).pd.ams = .none ∧
    ((requestRefused (s.takeMsg p h) p k).port p).pd.contract = (s.port p).pd.contract ∧
    EngineOnly p s (requestRefused (s.takeMsg p h) p k) :=
  ⟨by simp [requestRefused], by simp [requestRefused], by simp [requestRefused], engine_amsEnd (engine_modPd (took s p h) _)⟩

theorem refusedBy_request {s : State} {p : PortId} (k : Nat) (ha : (s.port p).pd.ams = .request)
    (hw : (s.port p).swap = SwapPort.reset) : s.refusedBy p k = requestRefused s p k := by
  simp [State.refusedBy, ha, hw, requestRefused]

theorem awaits_own {x : Port} (ho : x.ownRuns = true) (ha : x.answerSop = some .sop) (hc : x.pd.contract ≠ .transition) :
    x.awaits .sop = true := by
  have rests : (x.pd.contract != .transition) = true := bne_iff_ne.mpr hc
  have runs : (x.pd.ams.own && !x.pd.sinkTxWait) = true := ho
  simp only [Port.awaits, runs, ha, rests]
  rfl

section
variable {s : State} {p : PortId} {id : BitVec 3} {rev : BitVec 2} (hh : Hears s p ⟨.sop, id, rev⟩)
  (ha : (s.port p).pd.ams = .request) (hw : (s.port p).swap = SwapPort.reset) (hc : (s.port p).pd.contract ≠ .transition)
  (hx : (s.port p).pd.sinkTxWait = false)
include hh ha hw hc hx

theorem refused_request (k : Nat) :
    (s.onMsg p ⟨.sop, id, rev⟩ fun s => if (s.port p).awaits .sop then s.refusedBy p k else s.protocolError p) =
      requestRefused (s.takeMsg p ⟨.sop, id, rev⟩) p k := by
  have awaited : ((s.takeMsg p ⟨.sop, id, rev⟩).port p).awaits .sop = true :=
    awaits_own (by simp [Port.ownRuns, ha, hx, Ams.own]) (by simp [Port.answerSop, ha, hx]) (by simpa using hc)
  rw [onMsg_heard hh (by simp [ha]), if_pos awaited, refusedBy_request k (by simp [ha, hx]) (by simpa using hw)]

theorem exec_reject_request (hp : s.sys.pwr = .run) :
    exec (.reject p ⟨.sop, id, rev⟩) s = .next (requestRefused (s.takeMsg p ⟨.sop, id, rev⟩) p 1) := by
  show execReject p _ s = _
  rw [execReject, donorOnStart_run p hp, Bool.false_and, Bool.false_and, Bool.false_and, State.when_false]
  exact congrArg _ (refused_request hh ha hw hc hx 1)

theorem exec_wait_request :
    exec (.wait p ⟨.sop, id, rev⟩) s = .next (requestRefused (s.takeMsg p ⟨.sop, id, rev⟩) p 2) :=
  congrArg _ (refused_request hh ha hw hc hx 2)

end

/-! ## The statement -/

/-- The fixed 5 V object at 0.9 A, and the Request that asks for all of it. -/
theorem fiveVolts_asked : rdoPos 0x1001685A = 1 ∧ rdoWithin ⟨1, ⟨1, 500, 500, 90⟩, 90⟩ 0x1001685A = true ∧
    offerTerms ⟨1, ⟨1, 500, 500, 90⟩, 90⟩ 0x1001685A = ⟨0, 1, 500, 90, false⟩ := by decide

/-- Settles O9: each clause is what is said above of its message. -/
theorem negotiationFormsAContract : Obligations.NegotiationFormsAContract := by
  unfold Obligations.NegotiationFormsAContract
  refine ⟨?_, ?_, ?_, ?_, ?_, ?_⟩
  · intro s p id rev caps live hp htx new hw hs _ ho hc he clk hb
    exact sourceCapabilities_requested (hears_sop rev live clk new hb) hp htx ho hs (by simp [hc]) hw he caps []
  · intro s p id rev live _ htx new hw hs hc he ha ho hoff hl hg clk hb
    obtain ⟨pos, within, terms⟩ := fiveVolts_asked
    have grant : s.grantOf p = 45 := by simp [State.grantOf, early_of_ready hl, hg]
    have named : (s.port p).pd.offerAt (rdoPos 0x1001685A) = some ⟨1, ⟨1, 500, 500, 90⟩, 90⟩ := by
      rw [PdPort.offerAt, hoff, pos]
      rfl
    have acc := request_accepted (hears_sop rev live clk new hb) htx ho hs hc hw he ha named within
      (by rw [terms, grant]; decide) (by rw [terms])
    rwa [terms] at acc
  · intro s p id rev live hp htx new hw hs ha hn hc hx clk hb
    obtain ⟨f, g, hf, run⟩ := exec_accept_request (hears_sop rev live clk new hb) hp hs ha hn (by simp [hc]) hx
    exact ⟨_, run, by simp [hf], by simp [hf], by simp, engine_modCv (engine_modSw (engine_modPd (took ..) _) _) _⟩
  · intro s p id rev live hp htx new hw hs ha hc hn clk hb
    exact psRdy_contracts (hears_sop rev live clk new hb) hp (fun _ => ha) hs hc hn
  · intro s p id rev live hp htx new hw hs ha hc hx clk hb
    rw [← hc]
    exact ⟨_, exec_reject_request (hears_sop rev live clk new hb) ha hw (by simp [hc]) hx hp, requestRefused_keeps _ _ _ _⟩
  · intro s p id rev live hp htx new hw hs ha hc hx clk hb
    rw [← hc]
    exact ⟨_, exec_wait_request (hears_sop rev live clk new hb) ha hw (by simp [hc]) hx, requestRefused_keeps _ _ _ _⟩

end Sys2Proof.Proofs
end

section
/-!
SUPPORT. Capabilities asked for by a partner, its answer to the device's Get_Sink_Cap, and the discovery of a cable; with them
O12 is settled.
-/
namespace Sys2Proof.Proofs

open Sys2Proof.Machine Sys2Proof.Safety Sys2Proof.Laws

/-! ## Capabilities asked for (R157, R159) -/

section
variable {s : State} {p : PortId} {h : RxHdr} (hh : Hears s p h) (hi : Idle (s.port p))
include hh hi

theorem exec_getSourceCap_source (hs : (s.port p).tc.state = .attachedSrc) :
    exec (.getSourceCap p h) s = .next ((s.takeMsg p h).sendCaps p) := by
  show execGetSourceCap p h s = _
  rw [execGetSourceCap, onMsg_heard hh hi.noSoftReset]
  dsimp only
  rw [if_pos (by simp [Port.pdSrc, hs]), serve_idle (hi.taken h)]

/-- A source outside EPR mode with 45 coins answers Get_Source_Cap with its capabilities. -/
theorem getSourceCap_sends_caps (hs : (s.port p).tc.state = .attachedSrc) (htx : (s.port p).pd.tx = none)
    (he : (s.port p).pd.epr = false) (hg : 45 ≤ s.grantOf p) : Yields (.getSourceCap p h) s fun t =>
      (t.port p).pd.tx.map (·.ty) = some .sourceCaps ∧ (t.port p).pd.ams = .negotiation ∧ (t.port p).pd.capsSent = false ∧
      EngineOnly p s t := by
  obtain ⟨sent, ams, waits, -⟩ := sendCaps_sends (s := s.takeMsg p h) (p := p) (by simpa using hg) (by simpa using he)
    (by simpa using htx)
  exact ⟨_, exec_getSourceCap_source hh hi hs, sent, ams, waits, engine_sendCaps (took s p h)⟩

theorem exec_getSinkCap (hs : (s.port p).sinkOrDrp = true) : exec (.getSinkCap p h) s =
    .next (((s.takeMsg p h).takeTables p).reply p .sinkCaps (((s.takeMsg p h).takeTables p).sinkCapWords p false) []) := by
  have able : ((s.takeMsg p h).port p).sinkOrDrp = true := by simpa [Port.sinkOrDrp, Port.pdSnk] using hs
  show execGetSinkCap p h s = _
  rw [execGetSinkCap, onMsg_heard hh hi.noSoftReset]
  dsimp only
  rw [if_pos able, serve_idle (hi.taken h)]

omit hh hi in
/-- Sink_Capabilities rest on the tables, the configuration and the panel's state, none of which a message changes. -/
theorem sinkCapWords_taken (e : Bool) :
    ((s.takeMsg p h).takeTables p).sinkCapWords p e = (s.takeTables p).sinkCapWords p e := by
  have panel : ((s.takeMsg p h).takeTables p).unconstrained = (s.takeTables p).unconstrained := takeMsg_unconstrained s p h
  simp only [State.sinkCapWords, State.snkFlags, takeTables_port, takeMsg_port, panel]

/-- A port that is or may be sink answers Get_Sink_Cap with the objects of its preference table. -/
theorem getSinkCap_answered (hs : (s.port p).sinkOrDrp = true) (htx : (s.port p).pd.tx = none) :
    Yields (.getSinkCap p h) s fun t => (t.port p).pd.tx.map (·.ty) = some .sinkCaps ∧
      (t.port p).pd.tx.map (·.objs) = some ((s.takeTables p).sinkCapWords p false) ∧ EngineOnly p s t := by
  refine ⟨_, exec_getSinkCap hh hi hs, ?_, ?_, engine_reply (engine_takeTables (took s p h)) _ _ _⟩ <;>
    rw [reply_port (by simpa using htx), sinkCapWords_taken] <;> rfl

theorem exec_getSourceCap_sink (hs : (s.port p).tc.state = .attachedSnk) (hd : cfgRole (s.port p).cfg = 2) :
    exec (.getSourceCap p h) s = .next ((((s.takeMsg p h).takeTables p).modPd p fun d => { d with ams := .partner }).sendObjs p
      false false ((((s.takeMsg p h).takeTables p).modPd p fun d => { d with ams := .partner }).informative p)) := by
  show execGetSourceCap p h s = _
  rw [execGetSourceCap, onMsg_heard hh hi.noSoftReset]
  dsimp only
  rw [if_neg (by simp [Port.pdSrc, hs]), if_pos (by simp [hd]), serve_idle (hi.taken h)]

/-- A dual-role port that is sink answers Get_Source_Cap with informative capabilities, which offer nothing. -/
theorem getSourceCap_informs (hs : (s.port p).tc.state = .attachedSnk) (hd : cfgRole (s.port p).cfg = 2)
    (hp : (s.port p).srcPend = none) (htx : (s.port p).pd.tx = none) : Yields (.getSourceCap p h) s fun t =>
      (t.port p).pd.tx.map (·.ty) = some .sourceCaps ∧ (t.port p).pd.ams = .partner ∧
      (t.port p).pd.offered = (s.port p).pd.offered ∧
      (t.port p).pd.tx.map (·.objs) = some (s.capWords p false false (s.informative p)) ∧ EngineOnly p s t := by
  have cable : (((s.takeMsg p h).takeTables p).modPd p fun d => { d with ams := .partner }).sup.vconnin = s.sup.vconnin :=
    congrArg (·.vconnin) (takeMsg_sup s p h)
  have offers : (((s.takeMsg p h).takeTables p).modPd p fun d => { d with ams := .partner }).informative p =
      s.informative p := by
    simp only [State.informative, State.cableCur, State.cableMaxV, cable]
    simp [hp]
  have words (o : List Offer) : (((s.takeMsg p h).takeTables p).modPd p fun d => { d with ams := .partner }).capWords p
      false false o = s.capWords p false false o := by
    simp [State.capWords, State.srcFlags, hp]
  have run := exec_getSourceCap_sink hh hi hs hd
  rw [offers] at run
  refine ⟨_, run, ?_, ?_, ?_, ?_, engine_sendObjs (engine_modPd (engine_takeTables (took s p h)) _) _ _ _⟩ <;>
    rw [sendObjs_spr (by simpa using htx)]
  · rfl
  · simp
  · simp
  · simp [words]

end

/-! ## Sink_Capabilities received (R160) -/

theorem engine_frCheck {p : PortId} {s a : State} (h : EngineOnly p s a) : EngineOnly p s (a.frCheck p) := by
  unfold State.frCheck; dsimp only
  exact engine_ite (engine_post (engine_modSwap h _) _) (engine_ite (engine_frDisarm h) h)

@[simp] theorem frCheck_pd (s : State) (p : PortId) : ((s.frCheck p).port p).pd = (s.port p).pd := by
  unfold State.frCheck; dsimp only
  split
  · simp
  · split <;> simp

theorem exec_sinkCapabilities {s : State} {p : PortId} {h : RxHdr} (hh : Hears s p h) (ha : (s.port p).pd.ams = .getSinkCap)
    (hx : (s.port p).pd.sinkTxWait = false) (v : List Word) : exec (.sinkCapabilities p h false v) s =
    .next ((((s.takeMsg p h).modPd p fun d => { d with sinkCaps := v }).amsEnd p).frCheck p) := by
  show execSinkCapabilities p h false v s = _
  rw [execSinkCapabilities, onMsg_heard hh (by simp [ha]), onlyEpr_spr, if_pos (by simp [ha, hx])]

/-! ## The cable (Table 5.4, R148) -/

theorem exec_discoverIdentityTimer {s : State} {p : PortId} (live : s.pdLive p = true) (hv : (s.port p).tc.vconnOn = true)
    (ho : (s.port p).pd.cableOk = false) (hn : (s.port p).pd.discTries < 20) (hc : (s.port p).pd.hasContract = true) :
    exec (.discoverIdentityTimer p) s = .next (s.trigger p .discoverCable) := by
  show execDiscoverIdentityTimer p s = _
  simp [execDiscoverIdentityTimer, live, hv, ho, hn, hc]

theorem hears_sop1 {s : State} {p : PortId} {id : BitVec 3} (rev : BitVec 2) (live : s.pdLive p = true)
    (clk : s.engineClk = true) (he : isE p = true) (hv : (s.port p).tc.vconnOn = true)
    (new : (s.port p).pd.rxId1 ≠ some id) (hb : (s.port p).pd.bist = 0) : Hears s p ⟨.sop1, id, rev⟩ := by
  refine ⟨?_, bne_iff_ne.mpr new, hb⟩
  have sop := receives_sop live clk hb
  simp only [State.receives, Bool.and_eq_true] at sop ⊢
  exact ⟨sop.1, by simp [he, hv]⟩

/-- The ACK of a cable taken in: its revision, and what its cable VDO says of it. -/
def cableFound (s : State) (p : PortId) (rev : BitVec 2) (c : Word) : State :=
  (s.modPd p fun d => { d with cableRev := if rev < d.cableRev then rev else d.cableRev }).modPd p fun d => { d with
    cableOk := true, cable5A := bitsOf c.toNat 6 5 == 2, cableEpr := c.getLsbD 17, cableV := BitVec.ofNat 2 (bitsOf c.toNat 10 9) }

/-- The ACK of a cable that a source awaits in its own discovery leads to power negotiation. -/
theorem exec_cableIdentityAnswer {s : State} {p : PortId} {id : BitVec 3} {rev : BitVec 2} (hh : Hears s p ⟨.sop1, id, rev⟩)
    (hs : (s.port p).tc.state = .attachedSrc) (ha : (s.port p).pd.ams = .discoverCable)
    (hx : (s.port p).pd.sinkTxWait = false) {w : Word} (ack : vdmType w = 1) (w1 w2 w3 c : Word) :
    exec (.cableIdentityAnswer p ⟨.sop1, id, rev⟩ [w, w1, w2, w3, c]) s =
      .next (((cableFound (s.takeMsg p ⟨.sop1, id, rev⟩) p rev c).trigger p .negotiation).amsEnd p) := by
  have awaited : (!((s.takeMsg p ⟨.sop1, id, rev⟩).port p).pd.sinkTxWait &&
      (((s.takeMsg p ⟨.sop1, id, rev⟩).port p).pd.ams == .discoverCable ||
        (((s.takeMsg p ⟨.sop1, id, rev⟩).port p).pd.ams == .eprEntry &&
          ((s.takeMsg p ⟨.sop1, id, rev⟩).port p).pdSrc))) = true := by simp [ha, hx]
  have mine : (((s.takeMsg p ⟨.sop1, id, rev⟩).port p).pd.ams == .eprEntry) = false := by simp [ha, hx]
  have src : ((cableFound (s.takeMsg p ⟨.sop1, id, rev⟩) p rev c).port p).pdSrc = true := by
    simp [cableFound, Port.pdSrc, hs]
  have is1 : (vdmType w == 1) = true := beq_iff_eq.mpr ack
  show execCableIdentityAnswer p ⟨.sop1, id, rev⟩ [w, w1, w2, w3, c] s = _
  unfold execCableIdentityAnswer
  rw [beq_self_eq_true, State.when_true, onMsg_heard hh (by simp [ha])]
  dsimp only
  rw [awaited, State.when_true, if_pos is1, mine, if_neg Bool.false_ne_true]
  exact congrArg (fun u : State => Host.Outcome.next (u.amsEnd p)) (if_pos src)

/-- The cable VDO of a 5 A cable for EPR at 50 V. -/
theorem eprCable_says : vdmType 0xFF008041 = 1 ∧ bitsOf 0x00020640 6 5 = 2 ∧ BitVec.ofNat 2 (bitsOf 0x00020640 10 9) = 3 := by
  decide

/-! ## The statement -/

/-- Settles O12: each clause is what is said above of its message. -/
theorem capabilitiesAndCablesAreAsked : Obligations.CapabilitiesAndCablesAreAsked := by
  unfold Obligations.CapabilitiesAndCablesAreAsked
  refine ⟨?_, ?_, ?_, ?_, ?_, ?_⟩
  · intro s p id rev live _ htx new hw hs he own hc hg clk hb
    exact getSourceCap_sends_caps (hears_sop rev live clk new hb) ⟨own, by simp [hc], hw⟩ hs htx he hg
  · intro s p id rev live _ htx new hw hs own hc clk hb
    exact getSinkCap_answered (hears_sop rev live clk new hb) ⟨own, hc, hw⟩ (by simp [Port.sinkOrDrp, Port.pdSnk, hs]) htx
  · intro s p id rev live _ htx new hw hs own hc hd hp _ clk hb
    exact getSourceCap_informs (hears_sop rev live clk new hb) ⟨own, hc, hw⟩ hs hd hp htx
  · intro s p id rev v live _ _ new _ _ ha hx clk hb
    exact ⟨_, exec_sinkCapabilities (hears_sop rev live clk new hb) ha hx v, by simp, by simp,
      engine_frCheck (engine_amsEnd (engine_modPd (took ..) _))⟩
  · intro s p live _ _ _ hv ho hn hc ht hx
    exact ⟨_, exec_discoverIdentityTimer live hv ho (by omega) (by simp [PdPort.hasContract, hc]),
      by simp [merged_first, ht, hx], portOnly_trigger (portOnly_refl p s) _⟩
  · intro s p id rev live hs _ _ he hv ha ht hx new clk hb
    obtain ⟨ack, amps, volts⟩ := eprCable_says
    refine ⟨_, exec_cableIdentityAnswer (hears_sop1 rev live clk he hv new hb) hs ha hx ack _ _ _ _, ?_, ?_, ?_, ?_, ?_,
      engine_amsEnd (engine_trigger (engine_modPd (engine_modPd (took ..) _) _) _)⟩
    · simp [cableFound]
    · simp [cableFound, amps]
    · simp [cableFound]
    · simp [cableFound, volts]
    · rw [amsEnd_pd, trigger_port]
      exact merged_first _ (by simp [cableFound, ht, hx]) (by simp [cableFound])

end Sys2Proof.Proofs
end

section
/-!
SUPPORT. Messages that the device does not support or does not expect, and Not_Supported received; with them O13 is settled.
-/
namespace Sys2Proof.Proofs

open Sys2Proof.Machine Sys2Proof.Safety Sys2Proof.Laws

/-! ## Unsupported (R151) -/

theorem unsupported_reply {s : State} {p : PortId} (hw : (s.port p).swap = SwapPort.reset) :
    s.unsupported p = s.reply p (if (s.port p).pd.rev3 then .notSupported else .reject) [] [] := by
  simp [State.unsupported, hw]

section
variable {s : State} {p : PortId} {h : RxHdr} (hh : Hears s p h)

section
variable (ha : (s.port p).ownRuns = true → (s.port p).pd.ams ≠ .softReset)
include hh ha

theorem exec_unsupportedMessage_unrecognised :
    exec (.unsupportedMessage p h .unrecognised) s = .next ((s.takeMsg p h).unsupported p) :=
  congrArg _ (onMsg_heard hh ha fun s => s.unsupported p)

/-- An unrecognised message is answered by the partner's revision, and the contract stands. -/
theorem unrecognised_answered (htx : (s.port p).pd.tx = none) (hw : (s.port p).swap = SwapPort.reset) :
    Yields (.unsupportedMessage p h .unrecognised) s fun t =>
      (t.port p).pd.tx.map (·.ty) = some (if (s.port p).pd.rev3 then .notSupported else .reject) ∧
      (t.port p).pd.contract = (s.port p).pd.contract ∧ EngineOnly p s t := by
  have run := exec_unsupportedMessage_unrecognised hh ha
  rw [unsupported_reply (by simpa using hw)] at run
  refine ⟨_, run, ?_, ?_, engine_reply (took ..) _ _ _⟩ <;>
    rw [reply_port (by simpa using htx)] <;> simp [PdPort.rev3]

/-! ## Unexpected (R144, R151, R174) -/

theorem exec_unsupportedMessage_gotoMin :
    exec (.unsupportedMessage p h .gotoMin) s = .next ((s.takeMsg p h).protocolError p) :=
  congrArg _ (onMsg_heard hh ha fun s => s.protocolError p)

end

/-- In a power transition an unexpected message is answered Hard Reset. -/
theorem protocolError_transition {s : State} {p : PortId} (hc : (s.port p).pd.contract = .transition) :
    s.protocolError p = s.hardReset p := by simp [State.protocolError, hc]

/-- Where nothing of the port's own is under way, it asks for Soft_Reset. -/
theorem protocolError_idle {s : State} {p : PortId} (hi : Idle (s.port p)) : s.protocolError p = s.askSoftReset p := by
  have rests : ((s.port p).pd.contract == .transition) = false := beq_eq_false_iff_ne.mpr hi.contract
  have other : ((s.port p).pd.ams == .softReset) = false  := beq_eq_false_iff_ne.mpr hi.ne_softReset
  simp [State.protocolError, rests, other, hi.swap]

include hh in
/-- An unexpected message that the port may answer at once causes Soft_Reset. -/
theorem gotoMin_resets (hi : Idle (s.port p)) (hr : (s.port p).pdSrc = true → (s.port p).pd.contract = .none)
    (ok : (s.port p).sinkTxOk = true) : Yields (.unsupportedMessage p h .gotoMin) s fun t =>
      (t.port p).pd.tx.map (·.ty) = some .softReset ∧ (t.port p).pd.ams = .softReset ∧
      (t.port p).pd.evt = setBit (s.port p).pd.evt 2 ∧ EngineOnly p s t := by
  have run := exec_unsupportedMessage_gotoMin hh hi.noSoftReset
  have mine : ((s.takeMsg p h).port p).pdSrc = (s.port p).pdSrc := by simp [Port.pdSrc]
  rw [protocolError_idle (hi.taken h), askSoftReset_at_once
    (fun src con => by
      rw [mine] at src
      simp [PdPort.hasContract, hr src] at con)
    (by simpa [Port.sinkTxOk, Port.pdSnk, PdPort.hasContract, PdPort.rev3] using ok)] at run
  obtain ⟨sent, ams, -, evt⟩ := softReset_sends (s.takeMsg p h) p
  exact ⟨_, run, sent, ams, by rw [evt]; simp, engine_softReset (took s p h)⟩

end

/-- With nothing of the port's own under way a reset by message cuts nothing short. -/
theorem cutSteps_idle {s : State} {p : PortId} (hi : Idle (s.port p)) : s.cutSteps p = s := by
  have rests := hi.ams
  unfold State.cutSteps
  simp only [hi.swap, stage_reset, beq_self_eq_true, Bool.true_or, if_true]
  split <;> simp_all [Ams.own]

/-- A source under a Revision 3.x contract changes to SinkTxNG before its Soft_Reset. -/
theorem askSoftReset_waits {s : State} {p : PortId} (hi : Idle (s.port p)) (hs : (s.port p).tc.state = .attachedSrc)
    (hc : (s.port p).pd.contract = .explicit) (h3 : (s.port p).pd.txRev = 2) (hg : (s.port p).pd.ng = false) :
    ((s.askSoftReset p).port p).pd.tx = none ∧ ((s.askSoftReset p).port p).pd.ams = .softReset ∧
    ((s.askSoftReset p).port p).pd.sinkTxWait = true ∧ ((s.askSoftReset p).port p).tc.rpAdv = .a15 ∧
    EngineOnly p s (s.askSoftReset p) := by
  have waits : s.askSoftReset p =
      ((s.cutAms p).modPd p fun d => { d with ams := .softReset, ng := true, sinkTxWait := true }).setRp p := by
    simp [State.askSoftReset, Port.pdSrc, hs, PdPort.hasContract, hc, PdPort.rev3, h3, hg]
  rw [waits]
  refine ⟨by simp [State.cutAms], by simp, by simp, ?_, engine_setRp (engine_modPd (engine_cutAms (engine_refl p s)) _)⟩
  simp [State.cutAms, cutSteps_idle hi, presentedRp, Port.srcAtt, hs, PdPort.hasContract, PdPort.keptContract, hc, PdPort.rev3,
    h3]

/-! ## Ping, and Not_Supported (R149, Table 5.2) -/

theorem exec_unsupportedMessage_ping {s : State} {p : PortId} {h : RxHdr} (hh : Hears s p h) :
    exec (.unsupportedMessage p h .ping) s = .next (s.takeMsg p h) :=
  congrArg _ (onAny_heard hh id)

/-- Not_Supported ends an AMS of the device's own that it may end. -/
theorem exec_notSupported {s : State} {p : PortId} {id : BitVec 3} {rev : BitVec 2} (hh : Hears s p ⟨.sop, id, rev⟩)
    (hw : (s.port p).swap = SwapPort.reset) (h3 : (s.port p).pd.txRev = 2) (ha : (s.port p).pd.ams = .getSinkCap)
    (hc : (s.port p).pd.contract = .explicit) (hx : (s.port p).pd.sinkTxWait = false) :
    exec (.notSupported p ⟨.sop, id, rev⟩) s = .next (((s.takeMsg p ⟨.sop, id, rev⟩).pdEvt p 6).amsEnd p) := by
  have noted : (s.takeMsg p ⟨.sop, id, rev⟩).noteEvt p 6 = (s.takeMsg p ⟨.sop, id, rev⟩).pdEvt p 6 := by
    simp [State.noteEvt, PdPort.rev3, h3]
  have awaited : (((s.takeMsg p ⟨.sop, id, rev⟩).pdEvt p 6).port p).unserved .sop = true := by
    rw [Port.unserved, awaits_own (by simp [Port.ownRuns, ha, hx, Ams.own]) (by simp [Port.answerSop, ha, hx])
      (by simp [hc]), Bool.true_or]
  show execNotSupported p _ s = _
  rw [execNotSupported, State.onNoted, onAny_heard hh]
  dsimp only
  rw [noted, if_neg (by simp [ha, hx]), only3_rev3 (by simpa using h3), if_pos awaited]
  simp [State.refusedBy, ha, hx, hw]

/-! ## The statement -/

/-- Settles O13: each clause is what is said above of its message. -/
theorem unsupportedAndUnexpectedMessages : Obligations.UnsupportedAndUnexpectedMessages := by
  unfold Obligations.UnsupportedAndUnexpectedMessages
  refine ⟨?_, ?_, ?_, ?_, ?_, ?_, ?_, ?_⟩
  · intro s p id rev live _ htx new hw h3 own clk hb
    have ans := unrecognised_answered (hears_sop rev live clk new hb) (by simp [Port.ownRuns, own]) htx hw
    simpa only [PdPort.rev3, h3, beq_self_eq_true, if_true] using ans
  · intro s p id rev live _ htx new hw h2 own clk hb
    have ans := unrecognised_answered (hears_sop rev live clk new hb) (by simp [Port.ownRuns, own]) htx hw
    have old : (s.port p).pd.rev3 = false := by rw [PdPort.rev3, h2]; rfl
    simpa only [old, Bool.false_eq_true, if_false] using ans
  · intro s p id rev live _ _ new hw hs own hc clk hb
    exact gotoMin_resets (hears_sop rev live clk new hb) ⟨own, by simp [hc], hw⟩ (fun _ => hc)
      (by simp [Port.sinkTxOk, Port.pdSnk, hs])
  · intro s p id rev live _ _ new hw hs own hc rp clk hb
    exact gotoMin_resets (hears_sop rev live clk new hb) ⟨own, by simp [hc], hw⟩ (by simp [Port.pdSrc, hs])
      (by simp [Port.sinkTxOk, rp])
  · intro s p id rev live _ _ new hw hs own h3 hc hg clk hb
    have idle : Idle (s.port p) := ⟨own, by simp [hc], hw⟩
    have run := exec_unsupportedMessage_gotoMin (hears_sop rev live clk new hb) idle.noSoftReset
    rw [protocolError_idle (idle.taken _)] at run
    obtain ⟨free, ams, waits, rp, frame⟩ := askSoftReset_waits (idle.taken ⟨.sop, id, rev⟩) (by simpa using hs)
      (by simpa using hc) (by simpa using h3) (by simp [hg])
    exact ⟨_, run, free, ams, waits, rp, engine_trans (took ..) frame⟩
  · intro s p id rev live _ _ new hw own hc he clk hb
    have run := exec_unsupportedMessage_gotoMin (hears_sop rev live clk new hb) (by simp [Port.ownRuns, own])
    rw [protocolError_transition (by simpa using hc)] at run
    obtain ⟨contract, -, -, frame⟩ := hardReset_ends (s.takeMsg p ⟨.sop, id, rev⟩) p
    exact ⟨_, run, contract, by rw [hardReset_evt (by simpa using he)]; simp, engine_trans (took ..) frame⟩
  · intro s p id rev live _ htx new _ hx clk hb
    exact ⟨_, exec_unsupportedMessage_ping (hears_sop rev live clk new hb), by simp [htx], by simp, by simp [hx], took ..⟩
  · intro s p id rev live _ _ new hw h3 ha hc hx clk hb
    exact ⟨_, exec_notSupported (hears_sop rev live clk new hb) hw h3 ha hc hx, by simp, by simp,
      engine_amsEnd (engine_pdEvt (took ..) _)⟩

end Sys2Proof.Proofs
end

section
/-!
SUPPORT. The answers to requests for information: each message passes the gate and is answered with the contents of Table 5.3;
with them O14 is settled.
-/
namespace Sys2Proof.Proofs

open Sys2Proof.Machine Sys2Proof.Safety Sys2Proof.Laws

/-! ## What a message taken in leaves of the contents -/

@[simp] theorem takeMsg_boundOf (s : State) (p : PortId) (h : RxHdr) : (s.takeMsg p h).boundOf p = s.boundOf p := by
  funext x g
  simp [State.boundOf, State.cableCur]

@[simp] theorem takeMsg_statusBytes (s : State) (p : PortId) (h : RxHdr) :
    (s.takeMsg p h).statusBytes p = s.statusBytes p := by
  simp [State.statusBytes, State.grantLimits, Port.pdSrc]

@[simp] theorem takeMsg_vidPid (s : State) (p : PortId) (h : RxHdr) : (s.takeMsg p h).vidPid = s.vidPid := by
  simp [State.vidPid, State.pid, State.fuseWord]

@[simp] theorem takeMsg_partNumber (s : State) (p : PortId) (h : RxHdr) : (s.takeMsg p h).partNumber = s.partNumber := by
  simp [State.partNumber, State.fuseWord]

@[simp] theorem takeMsg_freeNat (s : State) (p : PortId) (h : RxHdr) : (s.takeMsg p h).freeNat = s.freeNat := by
  simp [State.freeNat]

@[simp] theorem freeBytes_length (s : State) (n : Nat) : (s.freeBytes n).length = n := by simp [State.freeBytes, leBytes]

@[simp] theorem vidPid_length (s : State) : s.vidPid.length = 4 := by simp [State.vidPid, leBytes]

@[simp] theorem reply_free (s : State) (p : PortId) (ty : Mt) (o : List Word) (e : List Byte) :
    (s.reply p ty o e).free = s.free := by
  unfold State.reply State.send State.sendMsg
  split <;> simp

/-! ## The answers -/

section
variable {s : State} {p : PortId} {h : RxHdr}

/-- The answer to a message taken in, on the free line. -/
theorem takeMsg_reply_tx (htx : (s.port p).pd.tx = none) (ty : Mt) (o : List Word) (e : List Byte) :
    (((s.takeMsg p h).reply p ty o e).port p).pd.tx =
      some ⟨.sop, ty, o, e, (s.port p).pd.txRev, (s.port p).pd.txId⟩ := by
  rw [reply_port (by simpa using htx)]
  simp

theorem engine_takeMsg_reply (s : State) (p : PortId) (h : RxHdr) (ty : Mt) (o : List Word) (e : List Byte) :
    EngineOnly p s ((s.takeMsg p h).reply p ty o e) := engine_reply (took s p h) ty o e

variable (hh : Hears s p h) (hi : Idle (s.port p)) (h3 : (s.port p).pd.txRev = 2)
include hh hi h3

theorem exec_getRevision : exec (.getRevision p h) s = .next ((s.takeMsg p h).reply p .revision [0x32100000] []) := by
  show execGetRevision p h s = _
  rw [execGetRevision, onMsg_only3 hh hi.noSoftReset h3, serve_idle (hi.taken h)]

theorem exec_getStatus : exec (.getStatus p h) s =
    .next (((s.takeMsg p h).reply p .status [] (s.statusBytes p)).modPd p fun d => { d with stFlags := 0 }) := by
  show execGetStatus p h s = _
  rw [execGetStatus, onMsg_only3 hh hi.noSoftReset h3, serve_idle (hi.taken h), takeMsg_statusBytes]

theorem exec_getManufacturerInfo : exec (.getManufacturerInfo p h) s = .next ((s.takeMsg p h).reply p .manufacturerInfo []
    (s.vidPid ++ asciiBytes ("AXIRUO " ++ s.partNumber))) := by
  show execGetManufacturerInfo p h s = _
  rw [execGetManufacturerInfo, onMsg_only3 hh hi.noSoftReset h3, serve_idle (hi.taken h), takeMsg_vidPid, takeMsg_partNumber]

theorem exec_getSourceInfo (hs : (s.port p).tc.state = .attachedSrc) : exec (.getSourceInfo p h) s =
    .next ((s.takeMsg p h).reply p .sourceInfo [BitVec.ofNat 32 ((s.port p).pdpMax (isE p) (fun _ => true) * 2 ^ 16 +
      min (s.grantOf p / 10) ((s.port p).pdpMax (isE p) fun _ => true) * 2 ^ 8 + (s.port p).pd.reported / 10 % 256)] []) := by
  show execGetSourceInfo p h s = _
  have src : ((s.takeMsg p h).port p).pdSrc = true := by simp [Port.pdSrc, hs]
  rw [execGetSourceInfo, onMsg_only3 hh hi.noSoftReset h3]
  dsimp only
  rw [if_pos src, serve_idle (hi.taken h)]
  simp [Port.pdpMax]

theorem exec_getPpsStatus (hs : (s.port p).tc.state = .attachedSrc) (hc : (s.port p).pd.contract = .explicit)
    (ht : (s.port p).pd.terms.ctype = 1) : exec (.getPpsStatus p h) s =
    .next ((s.takeMsg p h).reply p .ppsStatus [] (leBytes 2 ((s.port p).tc.vbusMv / 20) ++ [byteOf s.freeNat 0,
      byteOf (tempStatus (s.port p).sw.therm * 2 + (if (s.port p).ppsLimit then 8 else 0)) 0])).drawn := by
  show execGetPpsStatus p h s = _
  have pps : (((s.takeMsg p h).port p).pdSrc && ((s.takeMsg p h).port p).pd.hasContract &&
      ((s.takeMsg p h).port p).pd.terms.ctype == 1) = true := by simp [Port.pdSrc, PdPort.hasContract, hs, hc, ht]
  rw [execGetPpsStatus, onMsg_only3 hh hi.noSoftReset h3]
  dsimp only
  rw [if_pos pps, serve_idle (hi.taken h)]
  simp [flag, Port.ppsLimit, Port.pdSrc]

/-- Source_Capabilities_Extended are 25 bytes, which begin with VID and PID. -/
theorem exec_getSourceCapExtended (hs : (s.port p).tc.state = .attachedSrc) :
    ∃ e, e.take 4 = s.vidPid ∧ e.length = 25 ∧
      exec (.getSourceCapExtended p h) s = .next ((s.takeMsg p h).reply p .sourceCapsExt [] e).drawn := by
  have src : ((s.takeMsg p h).port p).sourceOrDrp = true := by simp [Port.sourceOrDrp, Port.pdSrc, hs]
  refine ⟨?e, ?_, ?_, ?run⟩
  case run =>
    show execGetSourceCapExtended p h s = _
    rw [execGetSourceCapExtended, onMsg_only3 hh hi.noSoftReset h3]
    dsimp only
    rw [if_pos src, serve_idle (hi.taken h)]
  · rw [takeMsg_vidPid, List.append_assoc, List.append_assoc, ← vidPid_length s, List.take_left]
  · simp

/-- Sink_Capabilities_Extended are 24 bytes. -/
theorem exec_getSinkCapExtended (hd : cfgRole (s.port p).cfg = 2) :
    ∃ e, e.length = 24 ∧
      exec (.getSinkCapExtended p h) s = .next ((s.takeMsg p h).reply p .sinkCapsExt [] e).drawn := by
  have snk : ((s.takeMsg p h).port p).sinkOrDrp = true := by simp [Port.sinkOrDrp, hd]
  refine ⟨?e, ?_, ?run⟩
  case run =>
    show execGetSinkCapExtended p h s = _
    rw [execGetSinkCapExtended, onMsg_only3 hh hi.noSoftReset h3]
    dsimp only
    rw [if_pos snk, serve_idle (hi.taken h)]
  · simp

end

/-! ## The statement -/

/-- Settles O14: each request passes the gate, is served, and its answer goes on the free line. -/
theorem informationIsAnswered : Obligations.InformationIsAnswered := by
  unfold Obligations.InformationIsAnswered
  refine ⟨?_, ?_, ?_, ?_, ?_, ?_, ?_⟩
  · intro s p id rev live hs _ htx new h3 hsw own hc clk hb
    have hh := hears_sop rev live clk new hb
    refine ⟨_, exec_getRevision hh ⟨own, hc, hsw⟩ h3, ?_, ?_, engine_takeMsg_reply ..⟩ <;> rw [takeMsg_reply_tx htx] <;> rfl
  · intro s p id rev live hs _ htx new h3 hsw own hc clk hb
    have hh := hears_sop rev live clk new hb
    refine ⟨_, exec_getStatus hh ⟨own, hc, hsw⟩ h3, ?_, ?_, ?_, engine_modPd (engine_takeMsg_reply ..) _⟩
    · simp [takeMsg_reply_tx htx]
    · simp [takeMsg_reply_tx htx]
    · simp
  · intro s p id rev live hs _ htx new h3 hsw own hc clk hb
    have hh := hears_sop rev live clk new hb
    refine ⟨_, exec_getSourceInfo hh ⟨own, hc, hsw⟩ h3 hs, ?_, ?_, engine_takeMsg_reply ..⟩ <;>
      rw [takeMsg_reply_tx htx] <;> rfl
  · intro s p id rev live hs _ htx new h3 hsw own hc clk hb
    have hh := hears_sop rev live clk new hb
    refine ⟨_, exec_getManufacturerInfo hh ⟨own, hc, hsw⟩ h3, ?_, ?_, engine_takeMsg_reply ..⟩ <;>
      rw [takeMsg_reply_tx htx] <;> rfl
  · intro s p id rev live hs _ htx new h3 hsw own hc hx ht clk hb
    have hh := hears_sop rev live clk new hb
    refine ⟨_, exec_getPpsStatus hh ⟨own, hc, hsw⟩ h3 hs hx ht, ?_, ?_, ?_, engine_drawn (engine_takeMsg_reply ..)⟩
    · simp [takeMsg_reply_tx htx]
    · simp [takeMsg_reply_tx htx]
    · simp
  · intro s p id rev live hs _ htx new h3 hsw own hc clk hb
    have hh := hears_sop rev live clk new hb
    obtain ⟨e, hid, hlen, run⟩ := exec_getSourceCapExtended hh ⟨own, hc, hsw⟩ h3 hs
    refine ⟨_, run, ?_, ?_, ?_, ?_, engine_drawn (engine_takeMsg_reply ..)⟩
    · simp [takeMsg_reply_tx htx]
    · simp [takeMsg_reply_tx htx, hid]
    · simp [takeMsg_reply_tx htx, hlen]
    · simp
  · intro s p id rev live _ _ htx new h3 hsw own hc hd clk hb
    have hh := hears_sop rev live clk new hb
    obtain ⟨e, hlen, run⟩ := exec_getSinkCapExtended hh ⟨own, hc, hsw⟩ h3 hd
    refine ⟨_, run, ?_, ?_, ?_, engine_drawn (engine_takeMsg_reply ..)⟩
    · simp [takeMsg_reply_tx htx]
    · simp [takeMsg_reply_tx htx, hlen]
    · simp

end Sys2Proof.Proofs
end

section
/-!
SUPPORT. What a partner tells is taken in: its revision, its Status, its battery, its alerts, and the BIST modes it asks for;
with them O15 is settled.
-/
namespace Sys2Proof.Proofs

open Sys2Proof.Machine Sys2Proof.Safety Sys2Proof.Laws

/-! ## Alerts and battery messages are noted past the gate (R151, R173) -/

theorem engine_noteEvt {p : PortId} {s a : State} (h : EngineOnly p s a) (k : Nat) : EngineOnly p s (a.noteEvt p k) := by
  unfold State.noteEvt; exact engine_when h (engine_pdEvt h _)

theorem engine_noteBattery {p : PortId} {s a : State} (h : EngineOnly p s a) (c : Bool) (d : List Byte) :
    EngineOnly p s (a.noteBattery p c d) := by
  unfold State.noteBattery; exact engine_ite (engine_pdEvt (engine_modPd h _) _) h

/-- From a Revision 3.x partner the event is raised. -/
theorem noteEvt_port {s : State} {p : PortId} (h3 : (s.port p).pd.txRev = 2) (k : Nat) : (s.noteEvt p k).port p =
    { s.port p with pd := { (s.port p).pd with evt := setBit (s.port p).pd.evt k } } := by
  have rev : (s.port p).pd.rev3 = true := by simp [PdPort.rev3, h3]
  rw [State.noteEvt, rev, State.when_true, State.port_pdEvt_self]

/-- A sink under a Revision 3.x contract keeps the battery's status, with BATTRX. -/
theorem noteBattery_port {s : State} {p : PortId} (hs : (s.port p).tc.state = .attachedSnk) (h3 : (s.port p).pd.txRev = 2)
    (d : List Byte) : (s.noteBattery p false d).port p = { s.port p with pd := { (s.port p).pd with
      battStat := BitVec.ofNat 32 (field d 0 4), evt := setBit (s.port p).pd.evt 7 } } := by
  have noted : ((s.port p).pdSnk && (s.port p).pd.rev3) = true := by simp [Port.pdSnk, hs, PdPort.rev3, h3]
  rw [State.noteBattery, if_pos noted, State.port_pdEvt_self, State.port_modPd_self]
  simp only [Bool.false_eq_true, if_false]

/-- Past the gate, where no Soft_Reset of the device's own awaits its answer and the partner is of Revision 3.x. -/
theorem onNoted_heard {s : State} {p : PortId} {h : RxHdr} (hh : Hears s p h) {note : State → State}
    (ha : ((note (s.takeMsg p h)).port p).pd.ams ≠ .softReset) (h3 : ((note (s.takeMsg p h)).port p).pd.txRev = 2)
    (f : State → State) : s.onNoted p h note f = f (note (s.takeMsg p h)) := by
  rw [State.onNoted, onAny_heard hh]
  dsimp only
  rw [if_neg (by rw [beq_eq_false_iff_ne.mpr ha]; simp), only3_rev3 h3]

theorem eprEntryCheck_not_sink {s : State} {p : PortId} (hs : (s.port p).pdSnk = false) : s.eprEntryCheck p = s := by
  simp [State.eprEntryCheck, hs]

section
variable {s : State} {p : PortId} {h : RxHdr} (hh : Hears s p h) (h3 : (s.port p).pd.txRev = 2)
include hh h3

/-! ## Revision and Status -/

/-- The message that answers the device's Get_Revision fixes a partner of Revision 3.1 or later, and ends the AMS. -/
theorem exec_revision (hs : (s.port p).tc.state = .attachedSrc) (ha : (s.port p).pd.ams = .getRevision)
    (hx : (s.port p).pd.sinkTxWait = false) : exec (.revision p h 0x31000000) s =
    .next (((s.takeMsg p h).modPd p fun d => { d with revision := 0x31000000, rev := 3 }).amsEnd p) := by
  have src : (((s.takeMsg p h).modPd p fun d => { d with revision := 0x31000000, rev := 3 }).port p).pdSnk = false := by
    simp [Port.pdSnk, hs]
  have own : ((((s.takeMsg p h).modPd p fun d => { d with revision := 0x31000000, rev := 3 }).port p).pd.ams ==
      .getRevision) = true := by simp [ha, hx]
  have new : (decide (3 < bitsOf (0x31000000 : Word).toNat 31 28) || (bitsOf (0x31000000 : Word).toNat 31 28 == 3 &&
      decide (1 ≤ bitsOf (0x31000000 : Word).toNat 27 24))) = true := by decide
  show execRevision p h 0x31000000 s = _
  rw [execRevision, onMsg_only3 hh (by simp [ha]) h3]
  dsimp only
  rw [new, if_pos rfl, eprEntryCheck_not_sink src, if_pos own]

/-- The Status that answers the device's Get_Status is kept, and ends the AMS. -/
theorem exec_extendedAnswer_status (ha : (s.port p).pd.ams = .getStatus) (hx : (s.port p).pd.sinkTxWait = false)
    (d : List Byte) : exec (.extendedAnswer p h .status d) s =
    .next (((s.takeMsg p h).modPd p fun x => { x with statusRx := d, chunk := none }).amsEnd p) := by
  have own : (((s.takeMsg p h).port p).pd.ams == .getStatus) = true := by simp [ha, hx]
  show execExtendedAnswer p h .status d s = _
  rw [execExtendedAnswer, onMsg_only3 hh (by simp [ha]) h3]
  exact congrArg Host.Outcome.next (if_pos own)

/-! ## The battery and the alert -/

/-- A Battery_Status that nothing of the device's own awaits is kept all the same. -/
theorem exec_batteryStatus (hs : (s.port p).tc.state = .attachedSnk) (ha : (s.port p).pd.ams = .none)
    (hx : (s.port p).pd.sinkTxWait = false) (d : List Byte) :
    exec (.batteryStatus p h false d) s = .next ((s.takeMsg p h).noteBattery p false d) := by
  have kept : ((s.takeMsg p h).noteBattery p false d).port p = { (s.takeMsg p h).port p with
      pd := { ((s.takeMsg p h).port p).pd with
        battStat := BitVec.ofNat 32 (field d 0 4), evt := setBit ((s.takeMsg p h).port p).pd.evt 7 } } :=
    noteBattery_port (by simpa using hs) (by simpa using h3) d
  show execBatteryStatus p h false d s = _
  rw [execBatteryStatus, onNoted_heard hh (by simp [kept, ha, hx]) (by simpa [kept] using h3)]
  simp [kept, Port.pdSnk, hs, ha, hx]

/-- An Alert asks a source's partner for its Status. -/
theorem exec_alert (idle : Idle (s.port p)) (hs : (s.port p).tc.state = .attachedSrc)
    (ado : Word) : exec (.alert p h ado) s = .next (((s.takeMsg p h).noteEvt p 3).trigger p .getStatus) := by
  have noted := noteEvt_port (s := s.takeMsg p h) (p := p) (by simpa using h3) 3
  have idle' : Idle (((s.takeMsg p h).noteEvt p 3).port p) := by
    obtain ⟨ams, contract, swap⟩ := idle.taken h
    rw [noted]; exact ⟨ams, contract, swap⟩
  show execAlert p h ado s = _
  rw [execAlert, onNoted_heard hh (note := fun s => s.noteEvt p 3) idle'.ne_softReset (by simpa [noted] using h3), serve_idle idle']
  simp [noted, Port.pdSnk, hs]

end

/-! ## BIST (Table 5.2) -/

/-- BIST Test Data is honoured under a contract at vSafe5V. -/
theorem exec_bist_testData {s : State} {p : PortId} {h : RxHdr} (hh : Hears s p h) (ha : (s.port p).pd.ams ≠ .softReset)
    (hc : (s.port p).pd.contract = .explicit) (hv : (s.port p).pd.terms.v = 500) : exec (.bist p h 0x80000000) s =
    .next ((s.takeMsg p h).modPd p fun d => { d with bist := 2 }) := by
  have kind : bitsOf (0x80000000 : Word).toNat 31 28 = 8 := by decide
  have safe : (((s.takeMsg p h).port p).pd.contract == .explicit && ((s.takeMsg p h).port p).pd.terms.v == 500) = true := by
    simp [hc, hv]
  show execBist p h 0x80000000 s = _
  rw [execBist, onMsg_heard hh fun _ => ha]
  dsimp only
  rw [if_pos safe, kind]
  rfl

/-! ## The statement -/

/-- Settles O15: each clause is what is said above of its message; Carrier Mode ends where it is on. -/
theorem informationIsTakenIn : Obligations.InformationIsTakenIn := by
  unfold Obligations.InformationIsTakenIn
  refine ⟨?_, ?_, ?_, ?_, ?_, ?_⟩
  · intro s p id rev live _ _ new h3 _ hx hs ha clk hb
    exact ⟨_, exec_revision (hears_sop rev live clk new hb) h3 hs ha hx, by simp, by simp, by simp,
      engine_amsEnd (engine_modPd (took ..) _)⟩
  · intro s p id rev d live _ _ new h3 _ hx _ ha clk hb
    exact ⟨_, exec_extendedAnswer_status (hears_sop rev live clk new hb) h3 ha hx d, by simp, by simp,
      engine_amsEnd (engine_modPd (took ..) _)⟩
  · intro s p id rev live _ _ new h3 _ hx hs ha clk hb
    have bytes : BitVec.ofNat 32 (field [1, 2, 3, 4] 0 4) = 0x04030201 := by decide
    have kept := noteBattery_port (s := s.takeMsg p ⟨.sop, id, rev⟩) (p := p) (by simpa using hs) (by simpa using h3)
      [1, 2, 3, 4]
    exact ⟨_, exec_batteryStatus (hears_sop rev live clk new hb) h3 hs ha hx _, by rw [kept]; exact bytes,
      by rw [kept, takeMsg_port]; rfl, engine_noteBattery (took ..) _ _⟩
  · intro s p id rev ado live _ _ new h3 hc hx hs hw own ht clk hb
    have noted := noteEvt_port (s := s.takeMsg p ⟨.sop, id, rev⟩) (p := p) (by simpa using h3) 3
    exact ⟨_, exec_alert (hears_sop rev live clk new hb) h3 ⟨own, by simp [hc], hw⟩ hs ado, by simp [noted],
      by simp [noted, merged_first, ht, hx], engine_trigger (engine_noteEvt (took ..) _) _⟩
  · intro s p id rev live _ _ new _ hc _ _ ha hv clk hb
    exact ⟨_, exec_bist_testData (hears_sop rev live clk new hb) ha hc hv, by simp, by simp [hc], engine_modPd (took ..) _⟩
  · intro s p _ _ _ _ _ _ _ _ _ hb
    exact ⟨_, rfl, by simp [hb], portOnly_modPd (portOnly_refl p s) _⟩

end Sys2Proof.Proofs
end

section
/-!
SUPPORT. EPR mode: its entry and its exit at the sink, its keep-alive, its capabilities asked for in SPR mode; with them O16 is
settled.
-/
namespace Sys2Proof.Proofs

open Sys2Proof.Machine Sys2Proof.Safety Sys2Proof.Laws

/-! ## Capabilities of an EPR source in SPR mode (R168) -/

/-- An extended message sent on a free line is on it, whole or its first chunk. -/
theorem sendExt_sends {s : State} {p : PortId} (htx : (s.port p).pd.tx = none) (ty : Mt) (d : List Byte) :
    ((s.sendExt p ty d).port p).pd.tx.map (·.ty) = some ty ∧ ((s.sendExt p ty d).port p).pd.epr = (s.port p).pd.epr := by
  unfold State.sendExt
  split
  · simp [send_port htx]
  · rw [send_port (by simpa using htx)]
    simp

/-- Objects of EPR mode go out as EPR_Source_Capabilities. -/
theorem sendObjs_epr {s : State} {p : PortId} (htx : (s.port p).pd.tx = none) (unc : Bool) (o : List Offer) :
    ((s.sendObjs p true unc o).port p).pd.tx.map (·.ty) = some .eprSourceCaps ∧
    ((s.sendObjs p true unc o).port p).pd.epr = (s.port p).pd.epr := by
  have counted : ((s.modPd p fun d => { d with reported := offersPower o }).port p).pd =
      { (s.port p).pd with reported := offersPower o } := by simp
  obtain ⟨sent, epr⟩ := sendExt_sends (p := p) (by rw [counted]; exact htx) .eprSourceCaps (wordBytes (s.capWords p true unc o))
  exact ⟨sent, by rw [State.sendObjs, if_pos rfl, epr, counted]⟩

theorem engine_sendEprInfo {p : PortId} {s a : State} (h : EngineOnly p s a) : EngineOnly p s (a.sendEprInfo p) := by
  unfold State.sendEprInfo; dsimp only
  exact engine_ite (engine_amsEnd (engine_modPd (engine_takeTables h) _))
    (engine_sendObjs (engine_modPd (engine_takeTables h) _) _ _ _)

/-- With 45 coins the EPR capabilities go out, and EPR mode stays as it is. -/
theorem sendEprInfo_sends {s : State} {p : PortId} (hg : 45 ≤ s.grantOf p) (htx : (s.port p).pd.tx = none) :
    ((s.sendEprInfo p).port p).pd.tx.map (·.ty) = some .eprSourceCaps ∧
    ((s.sendEprInfo p).port p).pd.epr = (s.port p).pd.epr := by
  have enough : ¬ ((s.takeTables p).modPd p fun d => { d with ams := .partner }).grantOf p < 45 := by
    rw [modPd_grantOf, takeTables_grantOf]; omega
  unfold State.sendEprInfo
  dsimp only
  rw [if_neg enough]
  obtain ⟨sent, epr⟩ := sendObjs_epr (s := (s.takeTables p).modPd p fun d => { d with ams := .partner }) (p := p)
    (by simpa using htx) _ _
  exact ⟨sent, by rw [epr]; simp⟩

section
variable {s : State} {p : PortId} {h : RxHdr} (hh : Hears s p h) (h3 : (s.port p).pd.txRev = 2) (he : isE p = true)
include hh h3 he

/-! ## EPR_Mode at the sink (R166) -/

/-- Enter Succeeded ends the sink's own entry in EPR mode. -/
theorem exec_eprMode_succeeded (hs : (s.port p).tc.state = .attachedSnk) (ha : (s.port p).pd.ams = .eprEntry)
    (hx : (s.port p).pd.sinkTxWait = false) (data : Byte) : exec (.eprMode p h 3 data) s =
    .next ((((s.takeMsg p h).modPd p fun d => { d with epr := true }).pdEvt p 5).amsEnd p) := by
  have own : (((s.takeMsg p h).port p).pdSnk && ((s.takeMsg p h).port p).pd.ams == .eprEntry) = true := by
    simp [Port.pdSnk, hs, ha, hx]
  show execEprMode p h 3 data s = _
  rw [execEprMode, onMsg_only3 hh (by simp [ha]) h3]
  dsimp only
  rw [he, if_neg (by simp), if_neg (by decide), if_neg (by decide), if_pos rfl, if_pos own]

/-- Exit leaves EPR mode at a sink whose contract is at 20 V or below. -/
theorem exec_eprMode_exit (idle : Idle (s.port p)) (hs : (s.port p).tc.state = .attachedSnk)
    (hc : (s.port p).pd.contract = .explicit) (hm : (s.port p).pd.epr = true) (hv : (s.port p).pd.terms.v ≤ 2000)
    (data : Byte) : exec (.eprMode p h 5 data) s = .next ((s.takeMsg p h).eprExit p) := by
  have snk : ((s.takeMsg p h).port p).pdSrc = false := by simp [Port.pdSrc, hs]
  have inMode : (!((s.takeMsg p h).port p).pd.epr || ((s.takeMsg p h).port p).pd.contract != .explicit) = false := by
    simp [hm, hc]
  have low : ((s.takeMsg p h).port p).pd.terms.v ≤ 2000 := by simpa using hv
  show execEprMode p h 5 data s = _
  rw [execEprMode, onMsg_only3 hh idle.noSoftReset h3]
  dsimp only
  rw [he, if_neg (by simp), if_neg (by decide), if_neg (by decide), if_neg (by decide), if_neg (by decide), if_pos rfl, snk,
    Bool.false_and, Bool.false_and, Bool.false_and, if_neg Bool.false_ne_true, serve_idle (idle.taken h), inMode,
    if_neg Bool.false_ne_true, if_neg Bool.false_ne_true, if_pos low]

/-! ## What an EPR source is asked -/

/-- EPR_KeepAlive is acknowledged. -/
theorem exec_eprKeepalive (idle : Idle (s.port p)) (hs : (s.port p).tc.state = .attachedSrc)
    (hm : (s.port p).pd.epr = true) :
    exec (.eprKeepalive p h) s = .next ((s.takeMsg p h).reply p .eprKeepAliveAck [] []) := by
  have src : (((s.takeMsg p h).port p).pdSrc && ((s.takeMsg p h).port p).pd.epr) = true := by simp [Port.pdSrc, hs, hm]
  show execEprKeepalive p h s = _
  rw [execEprKeepalive, onMsg_only3 hh idle.noSoftReset h3]
  dsimp only
  rw [he, if_neg (by simp), if_pos src, serve_idle (idle.taken h)]

/-- EPR_Get_Source_Cap in SPR mode is answered with the capabilities of EPR mode. -/
theorem exec_eprGetSourceCap (idle : Idle (s.port p)) (hs : (s.port p).tc.state = .attachedSrc)
    (hm : (s.port p).pd.epr = false) :
    exec (.eprGetSourceCap p h false) s = .next ((s.takeMsg p h).sendEprInfo p) := by
  have src : ((s.takeMsg p h).port p).pdSrc = true := by simp [Port.pdSrc, hs]
  have spr : ¬ ((s.takeMsg p h).port p).pd.epr = true := by simp [hm]
  have asked : (true && !(isE p && ((s.takeMsg p h).port p).pd.rev3)) = false := by simp [he, PdPort.rev3, h3]
  show execEprGetSourceCap p h false s = _
  rw [execEprGetSourceCap, onMsg_heard hh idle.noSoftReset, State.onlyEpr, asked, if_neg Bool.false_ne_true]
  dsimp only
  rw [if_neg Bool.false_ne_true, if_pos src, serve_idle (idle.taken h), if_neg spr]

end

/-! ## The timers (R167, R169) -/

section
variable {s : State} {p : PortId} (live : s.pdLive p = true)
include live

theorem exec_sinkEprKeepalive (hs : (s.port p).tc.state = .attachedSnk) (hm : (s.port p).pd.epr = true) :
    exec (.sinkEprKeepalive p) s = .next (s.trigger p .eprKeepAlive) := by
  show execSinkEprKeepalive p s = _
  simp [execSinkEprKeepalive, live, Port.pdSnk, hs, hm]

theorem exec_sourceEprKeepaliveTimeout (hs : (s.port p).tc.state = .attachedSrc) (hm : (s.port p).pd.epr = true) :
    exec (.sourceEprKeepaliveTimeout p) s = .next (s.hardReset p) := by
  show execSourceEprKeepaliveTimeout p s = _
  simp [execSourceEprKeepaliveTimeout, live, Port.pdSrc, hs, hm]

theorem exec_enterEprTimeout (hs : (s.port p).tc.state = .attachedSnk) (ha : (s.port p).pd.ams = .eprEntry) :
    exec (.enterEprTimeout p) s = .next (s.amsEnd p) := by
  show execEnterEprTimeout p s = _
  simp [execEnterEprTimeout, live, Port.pdSnk, hs, ha]

end

/-! ## The statement -/

/-- Settles O16: each clause is what is said above of its message or its timer. -/
theorem eprModeRuns : Obligations.EprModeRuns := by
  unfold Obligations.EprModeRuns
  refine ⟨?_, ?_, ?_, ?_, ?_, ?_, ?_⟩
  · intro s p id rev live _ _ new h3 hx he _ hs ha clk hb
    exact ⟨_, exec_eprMode_succeeded (hears_sop rev live clk new hb) h3 he hs ha hx 0, by simp, by simp, by simp,
      engine_amsEnd (engine_pdEvt (engine_modPd (took ..) _) _)⟩
  · intro s p id rev live _ _ new h3 _ he hc hs hw own hm hv clk hb
    exact ⟨_, exec_eprMode_exit (hears_sop rev live clk new hb) h3 he ⟨own, by simp [hc], hw⟩ hs hc hm hv.le 0,
      by simp [eprExit_pd, hm], by simp [eprExit_pd, hm], engine_eprExit (took ..)⟩
  · intro s p id rev live _ htx new h3 _ he hc hs hw own hm clk hb
    have sent := reply_port (s := s.takeMsg p ⟨.sop, id, rev⟩) (p := p) (by simpa using htx) .eprKeepAliveAck [] []
    exact ⟨_, exec_eprKeepalive (hears_sop rev live clk new hb) h3 he ⟨own, by simp [hc], hw⟩ hs hm, by simp [sent],
      by simp [sent, hm], engine_reply (took ..) _ _ _⟩
  · intro s p id rev live _ htx new h3 _ he hc hs hw own hm hg clk hb
    obtain ⟨sent, epr⟩ := sendEprInfo_sends (s := s.takeMsg p ⟨.sop, id, rev⟩) (p := p) (by simpa using hg)
      (by simpa using htx)
    exact ⟨_, exec_eprGetSourceCap (hears_sop rev live clk new hb) h3 he ⟨own, by simp [hc], hw⟩ hs hm, sent,
      by simp [epr, hm], engine_sendEprInfo (took ..)⟩
  · intro s p id live _ _ _ _ hx _ _ hs hm ht
    exact ⟨_, exec_sinkEprKeepalive live hs hm, by simp [merged_first, ht, hx], portOnly_trigger (portOnly_refl p s) _⟩
  · intro s p id live _ _ _ _ _ _ _ hs hm
    exact ⟨_, exec_sourceEprKeepaliveTimeout live hs hm, hardReset_ends s p⟩
  · intro s p id live _ _ _ _ _ _ hc hs ha
    exact ⟨_, exec_enterEprTimeout live hs ha, by simp, by simp [hc], engine_amsEnd (engine_refl p s)⟩

end Sys2Proof.Proofs
end

section
/-!
SUPPORT. Extended messages in chunks (R143) and the authentication of the device (R210, R211); with them O17 is settled.
-/
namespace Sys2Proof.Proofs

open Sys2Proof.Machine Sys2Proof.Safety Sys2Proof.Laws

@[simp] theorem takeMsg_authen (s : State) (p : PortId) (h : RxHdr) : (s.takeMsg p h).authen = s.authen := by
  simp [State.authen, State.enableBit, State.fuseWord]

/-- An extended message of one chunk is answered as any other. -/
theorem replyExt_short (s : State) (p : PortId) (ty : Mt) {d : List Byte} (short : d.length ≤ 26) :
    s.replyExt p ty d = s.reply p ty [] d := by
  rw [State.replyExt, State.sendExt, if_pos short, State.reply]

/-- A message sent on a free line says what it was given, and leaves the exchange under way as it is. -/
theorem send_says {s : State} {p : PortId} (htx : (s.port p).pd.tx = none) (ty : Mt) (o : List Word) (e : List Byte) :
    ((s.send p ty o e).port p).pd.tx.map (·.ty) = some ty ∧ ((s.send p ty o e).port p).pd.tx.map (·.ext) = some e ∧
    ((s.send p ty o e).port p).pd.chunk = (s.port p).pd.chunk ∧ ((s.send p ty o e).port p).pd.auth = (s.port p).pd.auth := by
  rw [send_port htx]
  exact ⟨rfl, rfl, rfl, rfl⟩

theorem reply_says {s : State} {p : PortId} (htx : (s.port p).pd.tx = none) (ty : Mt) (o : List Word) (e : List Byte) :
    ((s.reply p ty o e).port p).pd.tx.map (·.ty) = some ty ∧ ((s.reply p ty o e).port p).pd.tx.map (·.ext) = some e ∧
    ((s.reply p ty o e).port p).pd.chunk = (s.port p).pd.chunk ∧ ((s.reply p ty o e).port p).pd.auth = (s.port p).pd.auth := by
  rw [reply_port htx]
  exact ⟨rfl, rfl, rfl, rfl⟩

section
variable {s : State} {p : PortId} {h : RxHdr} (hh : Hears s p h) (h3 : (s.port p).pd.txRev = 2)
include hh h3

/-! ## Chunks -/

/-- With no exchange under way the first chunk of an extended message is kept, and its second asked for. -/
theorem exec_chunkRequest_first (idle : Idle (s.port p)) (hk : (s.port p).pd.chunk = none) (hn : (s.port p).pd.auth = none)
    (d : List Byte) : exec (.chunkRequest p h false 0 d) s =
    .next (((s.takeMsg p h).modPd p fun x => { x with chunk := some (d, 1, false) }).reply p .chunkRequest [] [1]) := by
  have idle' := idle.taken h
  have none' : ((s.takeMsg p h).port p).pd.chunk = none := by simpa using hk
  have notAnswering : ((s.takeMsg p h).port p).pd.answering = false := by
    rw [PdPort.answering, none']; simp [hn]
  have notAwaited : ((s.takeMsg p h).port p).awaits .sop = false := by
    obtain ⟨ams, -, swap⟩ := idle'
    rw [Port.awaits, ams, swap]
    rfl
  show execChunkRequest p h false 0 d s = _
  rw [execChunkRequest, onMsg_only3 hh idle.noSoftReset h3]
  dsimp only
  rw [none']
  dsimp only
  rw [notAnswering, if_neg (by simp), if_pos (by simp), State.serveChunk, notAwaited, if_neg Bool.false_ne_true,
    serve_idle idle']

/-- Chunk 1 of a message of the device's that has more to come goes out, and chunk 2 is due. -/
theorem exec_chunkRequest_asked (own : (s.port p).pd.ams.own = false) {b : List Byte}
    (hk : (s.port p).pd.chunk = some (b, 1, true)) (long : 52 < b.length) : exec (.chunkRequest p h true 1 []) s =
    .next (((s.takeMsg p h).modPd p fun x => { x with chunk := some (b, 2, true) }).send p (s.port p).pd.chunkTy []
      ((b.drop 26).take 26)) := by
  have kept : ((s.takeMsg p h).port p).pd.chunk = some (b, 1, true) := by simpa using hk
  have more : ¬ b.length ≤ 26 * (1 + 1) := by omega
  have ty : ((s.takeMsg p h).port p).pd.chunkTy = (s.port p).pd.chunkTy := by simp
  show execChunkRequest p h true 1 [] s = _
  rw [execChunkRequest, onMsg_only3 hh (by simp [Port.ownRuns, own]) h3]
  dsimp only
  rw [kept]
  dsimp only
  rw [if_neg (by simp), if_pos (by simp), if_neg more, ty]

/-! ## Security_Request (R210) -/

section
variable {q : List Byte} (idle : Idle (s.port p)) (hsop : h.sop = .sop) (hau : s.authen = true) (hq : q.length ≤ 260)
  (hk : (s.port p).pd.chunk = none)
include idle hsop hau hq hk

/-- Where AUTHEN is programmed a whole Security_Request is counted, and answered Busy or kept. -/
theorem exec_securityRequest : exec (.securityRequest p h q) s =
    .next (if ((s.takeMsg p h).port p).pd.answering then
      (((s.takeMsg p h).count 37 0x02 1).count 37 0x03 1).reply p .securityResponse [] (authError 3)
    else ((s.takeMsg p h).count 37 0x02 1).modPd p fun y => { y with
      auth := some q, chunk := none, ams := if y.ams == .none then .partner else y.ams }) := by
  have none' : ((s.takeMsg p h).port p).pd.chunk = none := by simpa using hk
  have taken : (!(s.takeMsg p h).authen || decide (260 < q.length)) = false := by simp [hau, hq]
  show execSecurityRequest p h q s = _
  rw [execSecurityRequest, onMsg_only3 hh idle.noSoftReset h3]
  dsimp only
  rw [none']
  dsimp only
  rw [hsop, if_neg (by simp), taken, if_neg Bool.false_ne_true, serve_idle (idle.taken h)]

theorem exec_securityRequest_kept (hn : (s.port p).pd.auth = none) : exec (.securityRequest p h q) s =
    .next (((s.takeMsg p h).count 37 0x02 1).modPd p fun y => { y with
      auth := some q, chunk := none, ams := if y.ams == .none then .partner else y.ams }) := by
  have rests : ¬ ((s.takeMsg p h).port p).pd.answering = true := by simp [PdPort.answering, hn, hk]
  rw [exec_securityRequest hh h3 idle hsop hau hq hk, if_neg rests]

theorem exec_securityRequest_busy {r : List Byte} (hr : (s.port p).pd.auth = some r) : exec (.securityRequest p h q) s =
    .next ((((s.takeMsg p h).count 37 0x02 1).count 37 0x03 1).reply p .securityResponse [] (authError 3)) := by
  have answering : ((s.takeMsg p h).port p).pd.answering = true := by simp [PdPort.answering, hr]
  rw [exec_securityRequest hh h3 idle hsop hau hq hk, if_pos answering]

end
end

/-! ## The answer is sent, or the exchange dropped -/

section
variable {s : State} {p : PortId} (live : s.pdLive p = true)
include live

theorem exec_chunkTimeout {b : List Byte × Nat × Bool} (hk : (s.port p).pd.chunk = some b) :
    exec (.chunkTimeout p) s = .next ((s.modPd p fun x => { x with chunk := none, auth := none }).amsEnd p) := by
  show execChunkTimeout p s = _
  simp [execChunkTimeout, live, hk]

/-- Without a READY Vault the request being answered is answered with ERROR, Busy, and is over. -/
theorem exec_securityResponse {q : List Byte} (hq : (s.port p).pd.auth = some q) (hv : s.sys.vaultReady = false) :
    exec (.securityResponse p) s = .next ((((s.modPd p fun x => { x with auth := none }).count 37 0x03 1).modPd p
      fun x => { x with chunk := none }).reply p .securityResponse [] (authError 3)) := by
  have answer : s.authAnswer q = (s, authError 3) := by simp [State.authAnswer, hv]
  show execSecurityResponse p s = _
  rw [execSecurityResponse, live, State.when_true, hq]
  dsimp only
  rw [answer]
  dsimp only
  rw [State.sendAuth, if_pos (by decide), replyExt_short _ _ _ (by decide)]

end

/-! ## The statement -/

/-- Settles O17: each clause is what is said above of its message or its event. -/
theorem chunksAndAuthentication : Obligations.ChunksAndAuthentication := by
  unfold Obligations.ChunksAndAuthentication
  refine ⟨?_, ?_, ?_, ?_, ?_, ?_⟩
  · intro s p id rev d live _ htx new h3 hw own hc hk hn clk hb
    obtain ⟨ty, ext, chunk, -⟩ := reply_says (s := (s.takeMsg p ⟨.sop, id, rev⟩).modPd p fun x =>
      { x with chunk := some (d, 1, false) }) (p := p) (by simpa using htx) .chunkRequest [] [1]
    exact ⟨_, exec_chunkRequest_first (hears_sop rev live clk new hb) h3 ⟨own, hc, hw⟩ hk hn d, by rw [chunk]; simp, ty, ext,
      engine_reply (engine_modPd (took ..) _) _ _ _⟩
  · intro s p id rev b live _ htx new h3 own hk long clk hb
    obtain ⟨ty, ext, chunk, -⟩ := send_says (s := (s.takeMsg p ⟨.sop, id, rev⟩).modPd p fun x =>
      { x with chunk := some (b, 2, true) }) (p := p) (by simpa using htx) (s.port p).pd.chunkTy [] ((b.drop 26).take 26)
    exact ⟨_, exec_chunkRequest_asked (hears_sop rev live clk new hb) h3 own hk long, ty, ext, by rw [chunk]; simp,
      engine_send (engine_modPd (took ..) _) _ _ _⟩
  · intro s p id b live _ _ _ _ hk
    exact ⟨_, exec_chunkTimeout live hk, by simp, by simp, by simp, engine_amsEnd (engine_modPd (engine_refl p s) _)⟩
  · intro s p id rev q live _ _ htx h3 hw own hc new hau hq hn hk clk hb
    exact ⟨_, exec_securityRequest_kept (hears_sop rev live clk new hb) h3 ⟨own, hc, hw⟩ rfl hau hq hk hn, by simp,
      by simp [htx], engine_modPd (engine_count (took ..) _ _ _) _⟩
  · intro s p id rev q r live _ _ htx h3 hw own hc new hau hq hr hk clk hb
    obtain ⟨ty, ext, -, auth⟩ := reply_says (s := ((s.takeMsg p ⟨.sop, id, rev⟩).count 37 0x02 1).count 37 0x03 1) (p := p)
      (by simpa using htx) .securityResponse [] (authError 3)
    exact ⟨_, exec_securityRequest_busy (hears_sop rev live clk new hb) h3 ⟨own, hc, hw⟩ rfl hau hq hk hr, ty, ext,
      by rw [auth]; simp [hr], engine_reply (engine_count (engine_count (took ..) _ _ _) _ _ _) _ _ _⟩
  · intro s p q live _ _ htx _ hq hv
    obtain ⟨ty, ext, -, auth⟩ := reply_says (s := ((s.modPd p fun x => { x with auth := none }).count 37 0x03 1).modPd p
      fun x => { x with chunk := none }) (p := p) (by simpa using htx) .securityResponse [] (authError 3)
    exact ⟨_, exec_securityResponse live hq hv, ty, ext, by rw [auth]; simp,
      engine_reply (engine_modPd (engine_count (engine_modPd (engine_refl p s) _) _ _ _) _) _ _ _⟩

end Sys2Proof.Proofs
end

section
/-!
SUPPORT. The counterexample to O52: where an Ember start goes on, the GoodCRC of the donor's PS_RDY isolates the house bus, and
the lost Unconstrained Power has the other sources send their capabilities again.
-/
namespace Sys2Proof.Proofs

open Sys2Proof.Machine Sys2Proof.Safety Sys2Proof.Laws

/-- P0, the donor of an Ember start, is a source whose PS_RDY is on the line in the transition of its contract; P1 is a source that
has sent its capabilities. -/
def isolating : State :=
  let s : State := { State.reset with sys.pwr := .ember, ember.donor := some 0 }
  let s := s.modPort 0 fun x => { x with
    tc := { x.tc with ready := true, leaving := false, state := .attachedSrc }
    pd := { x.pd with contract := .transition, tx := some ⟨.sop, .psRdy, [], [], 2, 0⟩ } }
  s.modPort 1 fun x => { x with
    tc := { x.tc with state := .attachedSrc }, sw := { x.sw with st := .closed }
    pd := { x.pd with offered := [⟨1, ⟨0, 500, 500, 300⟩, 300⟩] } }

/-- A completed step leaves triggers waiting at a port. -/
def triggersAt (o : Out) (q : PortId) : Bool :=
  match o with
  | .next t => !(t.port q).pd.trig.isEmpty
  | _ => false

theorem isolating_live : isolating.pdLive 0 = true ∧ isolating.sopLive 0 .sop = true ∧
    (isolating.port 0).pd.tx = some ⟨.sop, .psRdy, [], [], 2, 0⟩ := by decide +kernel

theorem isolating_quiet : (isolating.port 1).pd.trig = [] := by decide +kernel

/-- The GoodCRC at P0 has P1 negotiate anew. -/
theorem isolating_triggers : triggersAt (exec (.goodcrc 0 .sop 0) isolating) 1 = true := by decide +kernel

/-- Refutes O52: the first clause keeps every other port whatever the power state. In an Ember start the donor's PS_RDY,
acknowledged, pulls HBISO_N low (Table 3.9, step 10); Unconstrained Power is then lost, and a second source that has sent its capabilities is to
send them again. -/
theorem not_lineAndLedgerEventsTakeEffect : ¬ Obligations.LineAndLedgerEventsTakeEffect := by
  unfold Obligations.LineAndLedgerEventsTakeEffect
  rintro ⟨goodcrc, -⟩
  obtain ⟨live, sop, line⟩ := isolating_live
  obtain ⟨t, run, -, -, others⟩ := goodcrc isolating 0 .sop 0 _ live sop line rfl rfl
  have asks := isolating_triggers
  rw [run, triggersAt, others 1 (by decide), isolating_quiet] at asks
  exact absurd asks (by decide)

end Sys2Proof.Proofs
end

section
/-!
SUPPORT. Structured VDMs received in Ledger mode: a header names its command type, a request that passes the gate is heard with
the partner's version, and an answer goes on the free line; with them O21 is settled.
-/
namespace Sys2Proof.Proofs

open Sys2Proof.Machine Sys2Proof.Safety Sys2Proof.Laws

/-! ## Headers (Table 6.14) -/

theorem vdmCmd_lt (w : Word) : vdmCmd w < 32 := Nat.mod_lt _ (by decide)

theorem vdmHeader_type (svid pos : Nat) {ty cmd : Nat} (hc : cmd < 32) (ver : BitVec 2) :
    (vdmHeader svid pos ty cmd ver).extractLsb' 6 2 = BitVec.ofNat 2 ty := by
  apply BitVec.eq_of_toNat_eq
  simp only [vdmHeader, BitVec.extractLsb'_toNat, BitVec.toNat_ofNat, Nat.shiftRight_eq_div_pow]
  omega

/-! ## Answers (R199) -/

/-- An answer on a free line: its header and VDOs, with nothing else of the port changed but that the partner's AMS runs. -/
theorem answerVdm_port {s : State} {p : PortId} (htx : (s.port p).pd.tx = none) (req : Word) (ty : Nat) (vdos : List Word) :
    (s.answerVdm p req ty vdos).port p = { s.port p with pd := { (s.port p).pd with
      ams := if (s.port p).pd.ams == .none then .partner else (s.port p).pd.ams
      tx := some ⟨.sop, .vdm, vdmHeader (vdmSvid req) (vdmPos req) ty (vdmCmd req) (s.port p).vdmVer :: vdos, [],
        (s.port p).pd.txRev, (s.port p).pd.txId⟩
      tries := 0 } } := by
  rw [State.answerVdm, State.sendVdm, sendMsg_port (by simpa using htx)]
  simp [Port.vdmVer, PdPort.rev3, PdPort.idOf]

theorem answerVdm_says {s : State} {p : PortId} (htx : (s.port p).pd.tx = none) (req : Word) (ty : Nat) (vdos : List Word) :
    ((s.answerVdm p req ty vdos).port p).pd.tx.map (fun m => (m.objs.headD 0).extractLsb' 6 2) = some (BitVec.ofNat 2 ty) ∧
    ((s.answerVdm p req ty vdos).port p).pd.tx.map (·.objs.tail) = some vdos ∧
    ((s.answerVdm p req ty vdos).port p).lm = (s.port p).lm := by
  rw [answerVdm_port htx]
  exact ⟨congrArg some (vdmHeader_type _ _ (vdmCmd_lt _) _), rfl, rfl⟩

theorem engine_answerVdm {p : PortId} {s a : State} (h : EngineOnly p s a) (req : Word) (ty : Nat) (vdos : List Word) :
    EngineOnly p s (a.answerVdm p req ty vdos) := by
  unfold State.answerVdm State.sendVdm; exact engine_sendMsg (engine_modPd h _) _

/-- What a message yields that ends in an answer from a port with a free line. -/
theorem yields_answerVdm {c : Instr} {s u : State} {p : PortId} {req : Word} {ty : Nat} {vdos : List Word}
    (run : exec c s = .next (u.answerVdm p req ty vdos)) (frame : EngineOnly p s u) (htx : (u.port p).pd.tx = none) :
    Yields c s fun t =>
      (t.port p).pd.tx.map (fun m => (m.objs.headD 0).extractLsb' 6 2) = some (BitVec.ofNat 2 ty) ∧
      (t.port p).pd.tx.map (·.objs.tail) = some vdos ∧ (t.port p).lm = (u.port p).lm ∧ EngineOnly p s t := by
  obtain ⟨type, tail, lm⟩ := answerVdm_says htx req ty vdos
  exact ⟨_, run, type, tail, lm, engine_answerVdm frame _ _ _⟩

@[simp] theorem sendMsg_ledger (s : State) (p : PortId) (m : Msg) : (s.sendMsg p m).ledger = s.ledger := by
  unfold State.sendMsg
  split
  · rw [State.count_ledger, State.modPd_ledger]
  · rw [State.modPd_ledger]

@[simp] theorem answerVdm_ledger (s : State) (p : PortId) (req : Word) (ty : Nat) (vdos : List Word) :
    (s.answerVdm p req ty vdos).ledger = s.ledger := by
  simp [State.answerVdm, State.sendVdm]

/-! ## A structured VDM is heard (R154, R199) -/

/-- A structured VDM taken in, with the partner's version from the first of them. -/
def heardVdm (s : State) (p : PortId) (h : RxHdr) (w : Word) : State :=
  (s.takeMsg p h).modLm p fun l => { l with vdmVer := some (l.vdmVer.getD (vdmVerOf w)) }

@[simp] theorem heardVdm_port (s : State) (p : PortId) (h : RxHdr) (w : Word) : (heardVdm s p h w).port p = { s.port p with
    tc := { (s.port p).tc with rpAdv := tookRp s p }, pd := tookPd (s.port p).pd h
    lm := { (s.port p).lm with vdmVer := some ((s.port p).lm.vdmVer.getD (vdmVerOf w)) } } := by
  simp [heardVdm]

theorem engine_heardVdm (s : State) (p : PortId) (h : RxHdr) (w : Word) : EngineOnly p s (heardVdm s p h w) :=
  engine_modLm (took s p h) _

@[simp] theorem heardVdm_ledger (s : State) (p : PortId) (h : RxHdr) (w : Word) : (heardVdm s p h w).ledger = s.ledger := by
  simp [heardVdm]

/-- No port's account changes. -/
theorem heardVdm_lg (s : State) (p : PortId) (h : RxHdr) (w : Word) (q : PortId) :
    ((heardVdm s p h w).port q).lg = (s.port q).lg := by
  by_cases hq : q = p
  · rw [hq, heardVdm_port]
  · rw [(engine_heardVdm s p h w).2 q hq]

theorem heardVdm_outcomeVdo (s : State) (p : PortId) (h : RxHdr) (w : Word) :
    (heardVdm s p h w).outcomeVdo p = s.outcomeVdo p := by simp [State.outcomeVdo]

theorem heardVdm_demandVdo (s : State) (p : PortId) (h : RxHdr) (w : Word) :
    (heardVdm s p h w).demandVdo p = s.demandVdo p := by
  simp [State.demandVdo, State.waitPos, State.waitsBefore, heardVdm_lg]

theorem heardVdm_identVdo (s : State) (p : PortId) (h : RxHdr) (w : Word) :
    (heardVdm s p h w).identVdo p = s.identVdo p := by
  have frame := (engine_heardVdm s p h w).1
  rw [State.identVdo, heardVdm_lg, frame]
  rfl

section
variable {s : State} {p : PortId} {h : RxHdr} (hh : Hears s p h) (hi : Idle (s.port p)) (hk : h.sop = .sop)
include hh hi hk

/-- A structured VDM on SOP that nothing of the port's own stands in the way of is served. -/
theorem serveVdm_idle (w : Word) (v : List Word) (f : State → Word → State) :
    s.serveVdm p h (w :: v) f = f (heardVdm s p h w) w := by
  have idle : Idle ((heardVdm s p h w).port p) := by
    obtain ⟨ams, contract, swap⟩ := hi.taken h
    rw [takeMsg_port] at ams contract swap
    rw [heardVdm_port]
    exact ⟨ams, contract, swap⟩
  rw [State.serveVdm, State.onVdm, onMsg_heard hh hi.noSoftReset]
  dsimp only
  rw [hk, if_neg (by decide)]
  exact serve_idle idle _

theorem exec_lmVersion (hm : (s.port p).lm.mode = true) {w x : Word} (hw : vdmSvid w = ledgerSvid)
    (hx : bitsOf x.toNat 31 28 = 1) :
    exec (.lmVersion p h [w, x]) s = .next (((heardVdm s p h w).answerVdm p w 1 [versionVdo]).lmVersionOk p x) := by
  show execLmVersion p h [w, x] s = _
  rw [execLmVersion, serveVdm_idle hh hi hk]
  simp [hm, hw, hx]

/-- Past LM_VERSION a command of Ledger mode is served. -/
theorem onLm_past (hm : (s.port p).lm.mode = true) (hv : (s.port p).lm.verOk = true) {w : Word} (hw : vdmSvid w = ledgerSvid)
    (v : List Word) (f : State → Word → State) : s.onLm p h (w :: v) f = f (heardVdm s p h w) w := by
  rw [State.onLm, serveVdm_idle hh hi hk]
  simp [hm, hv, hw]

/-- Before it every one is answered NAK. -/
theorem onLm_before (hv : (s.port p).lm.verOk = false) (w : Word) (v : List Word) (f : State → Word → State) :
    s.onLm p h (w :: v) f = (heardVdm s p h w).answerVdm p w 2 [] := by
  rw [State.onLm, serveVdm_idle hh hi hk]
  simp [hv]

/-! ## The commands (Table 6.12) -/

theorem exec_lmOutcome (hm : (s.port p).lm.mode = true) (hv : (s.port p).lm.verOk = true)
    (hg : (s.port p).lm.grantor = true) {w : Word} (hw : vdmSvid w = ledgerSvid) (o d : Word) :
    exec (.lmOutcome p h [w, o, d]) s =
      .next (((heardVdm s p h w).modLm p fun l => { l with grantor := true, peer := o }).answerVdm p w 1 []) := by
  show execLmOutcome p h [w, o, d] s = _
  rw [execLmOutcome, onLm_past hh hi hk hm hv hw]
  simp [hg]

theorem exec_lmQuery (hm : (s.port p).lm.mode = true) (hv : (s.port p).lm.verOk = true) {w : Word}
    (hw : vdmSvid w = ledgerSvid) : exec (.lmQuery p h [w]) s =
      .next (((heardVdm s p h w).modLm p fun l => { l with muted := false, noAckRun := 0 }).answerVdm p w 1
        [s.outcomeVdo p, s.demandVdo p]) := by
  show execLmQuery p h [w] s = _
  rw [execLmQuery, onLm_past hh hi hk hm hv hw, heardVdm_outcomeVdo, heardVdm_demandVdo]

theorem exec_lmEnergy (hm : (s.port p).lm.mode = true) (hv : (s.port p).lm.verOk = true) {w : Word}
    (hw : vdmSvid w = ledgerSvid) : exec (.lmEnergy p h [w]) s =
      .next ((heardVdm s p h w).answerVdm p w 1
        [energyVdo (s.port p).cv.energyOut, energyVdo (s.port p).cv.energyIn]) := by
  show execLmEnergy p h [w] s = _
  rw [execLmEnergy, onLm_past hh hi hk hm hv hw, heardVdm_port]

theorem exec_lmIdent (hm : (s.port p).lm.mode = true) (hv : (s.port p).lm.verOk = true) {w : Word}
    (hw : vdmSvid w = ledgerSvid) : exec (.lmIdent p h [w]) s =
      .next ((heardVdm s p h w).answerVdm p w 1 [s.identVdo p]) := by
  show execLmIdent p h [w] s = _
  rw [execLmIdent, onLm_past hh hi hk hm hv hw, heardVdm_identVdo]

theorem exec_lmNeed_before (hv : (s.port p).lm.verOk = false) (w : Word) (v : List Word) :
    exec (.lmNeed p h (w :: v)) s = .next ((heardVdm s p h w).answerVdm p w 2 []) := by
  show execLmNeed p h (w :: v) s = _
  rw [execLmNeed, onLm_before hh hi hk hv]

/-- A stated need of an operating power beyond the grant of a source is kept, and becomes a demand for an upgrade. -/
theorem exec_lmNeed_beyond (hm : (s.port p).lm.mode = true) (hv : (s.port p).lm.verOk = true) {w n : Word}
    (hw : vdmSvid w = ledgerSvid) (hs : (s.port p).tc.state = .attachedSrc) (htx : (s.port p).pd.tx = none)
    (hl : s.ledger.ready = true)
    (op : bitsOf n.toNat 31 16 ≤ bitsOf n.toNat 15 0) (most : bitsOf n.toNat 15 0 ≤ portMaxPower p)
    (beyond : (s.port p).lg.grant < bitsOf n.toNat 31 16) : ∃ c, exec (.lmNeed p h [w, n]) s =
      .next ((((heardVdm s p h w).modLm p fun l => { l with need := n, needHeld := true }).answerVdm p w 1 []).postDemand p c
        .need false false) := by
  have kept : ¬ (bitsOf n.toNat 15 0 < bitsOf n.toNat 31 16 ∨ bitsOf n.toNat 15 0 = 0 ∨
      portMaxPower p < bitsOf n.toNat 15 0) := by omega
  have asks (u : State) (hu : u = ((heardVdm s p h w).modLm p fun l => { l with need := n, needHeld := true }).answerVdm p w 1
      []) : ((u.port p).pdSrc && decide ((u.port p).lg.grant < bitsOf n.toNat 31 16) && !u.early) = true := by
    rw [hu, answerVdm_port (by simpa using htx)]
    simp [State.early, hl, Port.pdSrc, hs, beyond]
  refine ⟨?c, ?run⟩
  case run =>
    show execLmNeed p h [w, n] s = _
    rw [execLmNeed, onLm_past hh hi hk hm hv hw, show [w, n].getD 1 0 = n from rfl]
    dsimp only
    rw [if_neg (by simpa [or_assoc] using kept), if_pos (asks _ rfl)]

end

/-! ## The statement -/

/-- Settles O21: each clause is what is said above of its command. -/
theorem ledgerModeCommandsAreAnswered : Obligations.LedgerModeCommandsAreAnswered := by
  unfold Obligations.LedgerModeCommandsAreAnswered
  refine ⟨?_, ?_, ?_, ?_, ?_, ?_, ?_⟩
  · intro s p id rev live hs _ htx new _ hm hw own hc clk hb
    obtain ⟨ack, -, -⟩ := answerVdm_says (s := heardVdm s p ⟨.sop, id, rev⟩ 0x3A8CA910) (p := p) (by simpa using htx)
      0x3A8CA910 1 [versionVdo]
    exact ⟨_, exec_lmVersion (hears_sop rev live clk new hb) ⟨own, hc, hw⟩ rfl hm (by decide) (by decide),
      by simpa [State.lmVersionOk] using ack, by simp [State.lmVersionOk], by simp [State.lmVersionOk],
      engine_trigger (engine_modLm (engine_answerVdm (engine_heardVdm ..) _ _ _) _) _⟩
  · intro s p id rev o live hs _ htx new _ hm hw own hc hv hg clk hb
    obtain ⟨t, run, ack, -, lm, frame⟩ := yields_answerVdm
      (exec_lmOutcome (w := 0x3A8CA911) (hears_sop rev live clk new hb) ⟨own, hc, hw⟩ rfl hm hv hg (by decide) o 0)
      (engine_modLm (engine_heardVdm ..) _) (by simpa using htx)
    exact ⟨t, run, ack, by rw [lm]; simp, frame⟩
  · intro s p id rev live hs _ htx new _ hm hw own hc hv clk hb
    obtain ⟨t, run, ack, vdos, lm, frame⟩ := yields_answerVdm
      (exec_lmQuery (w := 0x3A8CA912) (hears_sop rev live clk new hb) ⟨own, hc, hw⟩ rfl hm hv (by decide))
      (engine_modLm (engine_heardVdm ..) _) (by simpa using htx)
    exact ⟨t, run, ack, vdos, by rw [lm]; simp, frame⟩
  · intro s p id rev live hs _ htx new _ hm hw own hc hv hl hg clk hb
    obtain ⟨c, run⟩ := exec_lmNeed_beyond (n := 0x00640064) (hears_sop rev live clk new hb) ⟨own, hc, hw⟩ rfl hm hv
      (w := 0x3A8CA913) (by decide) hs htx hl (by decide) (by unfold portMaxPower; split <;> decide) (by rw [hg]; decide)
    obtain ⟨ack, -, lm⟩ := answerVdm_says (s := (heardVdm s p ⟨.sop, id, rev⟩ 0x3A8CA913).modLm p fun l =>
      { l with need := 0x00640064, needHeld := true }) (p := p) (by simpa using htx) 0x3A8CA913 1 []
    exact ⟨_, run, by rw [postDemand_port]; exact ack, by rw [postDemand_port, lm, State.port_modLm_self],
      by simp [State.postDemand], engine_postDemand (engine_answerVdm (engine_modLm (engine_heardVdm ..) _) _ _ _) _ _ _ _⟩
  · intro s p id rev live hs _ htx new _ hm hw own hc hv clk hb
    obtain ⟨t, run, nak, -, lm, frame⟩ := yields_answerVdm
      (exec_lmNeed_before (hears_sop rev live clk new hb) ⟨own, hc, hw⟩ rfl hv 0x3A8CA913 [0x00640064])
      (engine_heardVdm ..) (by simpa using htx)
    exact ⟨t, run, nak, by rw [lm]; simp, frame⟩
  · intro s p id rev live hs _ htx new _ hm hw own hc hv clk hb
    obtain ⟨t, run, ack, vdos, -, frame⟩ := yields_answerVdm
      (exec_lmEnergy (w := 0x3A8CA914) (hears_sop rev live clk new hb) ⟨own, hc, hw⟩ rfl hm hv (by decide))
      (engine_heardVdm ..) (by simpa using htx)
    exact ⟨t, run, ack, vdos, frame⟩
  · intro s p id rev live hs _ htx new _ hm hw own hc hv clk hb
    obtain ⟨t, run, ack, vdos, -, frame⟩ := yields_answerVdm
      (exec_lmIdent (w := 0x3A8CA915) (hears_sop rev live clk new hb) ⟨own, hc, hw⟩ rfl hm hv (by decide))
      (engine_heardVdm ..) (by simpa using htx)
    exact ⟨t, run, ack, vdos, frame⟩

end Sys2Proof.Proofs
end

section
/-!
SUPPORT. Ledger mode's timers, and what an answer to a VDM of the device's own, or the lack of one, ends; with them O22 is
settled.
-/
namespace Sys2Proof.Proofs

open Sys2Proof.Machine Sys2Proof.Safety Sys2Proof.Laws

/-! ## The end of a VDM_SEND (R446, Table 13.8) -/

@[simp] theorem amsEnd_lm (s : State) (p : PortId) : ((s.amsEnd p).port p).lm = (s.port p).lm := by simp [State.amsEnd]

theorem engine_vdmEnd {p : PortId} {s a : State} (h : EngineOnly p s a) (n : Nat) (b : Bool) (v : List Word) :
    EngineOnly p s (a.vdmEnd p n b v) := engine_amsEnd (engine_vdmDone h _ _ _)

/-- A VDM_SEND in progress that ends leaves its reply, and the AMS is over. -/
theorem vdmEnd_ends {s : State} {p : PortId} {r : VdmRun} (hr : (s.port p).lm.run = some r) (n : Nat) (v : List Word) :
    ((s.vdmEnd p n false v).port p).lm.run = none ∧
    ((s.vdmEnd p n false v).port p).lm.result = some (vdmReply n 0 v) ∧
    ((s.vdmEnd p n false v).port p).pd.ams = .none := by
  simp [State.vdmEnd, State.vdmDone, hr]

/-- A raw VDM refused ends alone. -/
theorem vdmRefused_raw {s : State} {p : PortId} {r : VdmRun} (hr : r.op = 0) (n : Nat) (v : List Word) :
    s.vdmRefused p r n v = s.vdmEnd p n false v := by
  simp [State.vdmRefused, hr]

/-! ## The timers (R198, R202, R206) -/

section
variable {s : State} {p : PortId} (live : s.pdLive p = true)
include live

theorem exec_lmVersionTimer (hm : (s.port p).lm.mode = true) (hv : (s.port p).lm.verOk = false)
    (hd : (s.port p).tc.dfp = false) : exec (.lmVersionTimer p) s = .next (s.trigger p .lmVersion) := by
  show execLmVersionTimer p s = _
  simp [execLmVersionTimer, live, hm, hv, hd]

theorem exec_lmOutcomeNotice (hn : s.noticeDue p = true) :
    exec (.lmOutcomeNotice p) s = .next (s.trigger p .notice) := by
  show execLmOutcomeNotice p s = _
  simp [execLmOutcomeNotice, live, hn]

section
variable (htx : (s.port p).pd.tx = none) (hx : (s.port p).pd.sinkTxWait = false)
include htx hx

/-- A VDM_SEND whose message has gone out is refused for want of an answer. -/
theorem exec_vdmSenderResponseTimeout_vdm {r : VdmRun} (ha : (s.port p).pd.ams = .vdm) (hr : (s.port p).lm.run = some r)
    (sent : r.sent = true) : exec (.vdmSenderResponseTimeout p) s = .next (s.vdmRefused p r 3 []) := by
  show execVdmSenderResponseTimeout p s = _
  simp [execVdmSenderResponseTimeout, live, htx, hx, ha, hr, sent]

theorem exec_vdmSenderResponseTimeout_exitMode (ha : (s.port p).pd.ams = .exitMode) :
    exec (.vdmSenderResponseTimeout p) s = .next ((s.lmEnd p).amsEnd p) := by
  show execVdmSenderResponseTimeout p s = _
  simp [execVdmSenderResponseTimeout, live, htx, hx, ha]

end
end

/-! ## The answers (R201, R206) -/

section
variable {s : State} {p : PortId} {id : BitVec 3} {rev : BitVec 2} (hh : Hears s p ⟨.sop, id, rev⟩)
  (hx : (s.port p).pd.sinkTxWait = false)
include hh hx

/-- An ACK of a notice. -/
theorem exec_structuredVdmAnswer_notice (ha : (s.port p).pd.ams = .notice) {w : Word} (hc : vdmCmd w = 0x11)
    (ack : vdmType w = 1) (v : List Word) : exec (.structuredVdmAnswer p ⟨.sop, id, rev⟩ (w :: v)) s =
      .next (((heardVdm s p ⟨.sop, id, rev⟩ w).modLm p fun l => { l with waiting := false, noAck := false, noAckRun := 0 }).amsEnd
        p) := by
  have ams : ((s.takeMsg p ⟨.sop, id, rev⟩).port p).pd.ams = .notice := by simp [hx, ha]
  show execStructuredVdmAnswer p _ (w :: v) s = _
  rw [execStructuredVdmAnswer, onMsg_heard hh (by simp [ha])]
  dsimp only
  rw [ams]
  simp [hc, ack, heardVdm]

/-- A NAK of the VDM_SEND in progress. -/
theorem exec_structuredVdmAnswer_nak (ha : (s.port p).pd.ams = .vdm) {r : VdmRun} (hr : (s.port p).lm.run = some r) {w : Word}
    (mine : runMatches r .sop w = true) (nak : vdmType w = 2) (v : List Word) :
    exec (.structuredVdmAnswer p ⟨.sop, id, rev⟩ (w :: v)) s =
      .next ((heardVdm s p ⟨.sop, id, rev⟩ w).vdmRefused p r 1 (w :: v)) := by
  have ams : ((s.takeMsg p ⟨.sop, id, rev⟩).port p).pd.ams = .vdm := by simp [hx, ha]
  have run : ((s.takeMsg p ⟨.sop, id, rev⟩).port p).lm.run = some r := by simp [hr]
  show execStructuredVdmAnswer p _ (w :: v) s = _
  rw [execStructuredVdmAnswer, onMsg_heard hh (by simp [ha])]
  dsimp only
  rw [ams, run]
  simp [mine, nak, heardVdm]

end

/-! ## The statement -/

/-- Settles O22: each clause is what is said above of its timer or its answer. -/
theorem ledgerModeTimersAndAnswers : Obligations.LedgerModeTimersAndAnswers := by
  unfold Obligations.LedgerModeTimersAndAnswers
  refine ⟨?_, ?_, ?_, ?_, ?_, ?_⟩
  · intro s p live _ _ hx hm hv hd ht
    exact ⟨_, exec_lmVersionTimer live hm hv hd, by simp [merged_first, ht, hx], portOnly_trigger (portOnly_refl p s) _⟩
  · intro s p live _ _ hx hn ht
    exact ⟨_, exec_lmOutcomeNotice live hn, by simp [merged_first, ht, hx], portOnly_trigger (portOnly_refl p s) _⟩
  · intro s p id rev live _ _ hx _ new ha clk hb
    exact ⟨_, exec_structuredVdmAnswer_notice (hears_sop rev live clk new hb) hx ha (by decide) (by decide) [], by simp, by simp,
      by simp, engine_amsEnd (engine_modLm (engine_heardVdm ..) _)⟩
  · intro s p v live _ htx hx ha hr
    have run := exec_vdmSenderResponseTimeout_vdm live htx hx ha hr rfl
    rw [vdmRefused_raw rfl] at run
    obtain ⟨ended, result, ams⟩ := vdmEnd_ends hr 3 []
    exact ⟨_, run, ended, result, ams, engine_vdmEnd (engine_refl p s) _ _ _⟩
  · intro s p id rev live _ _ hx _ new ha hr clk hb
    have run := exec_structuredVdmAnswer_nak (w := 0xFF00A881) (hears_sop rev live clk new hb) hx ha hr (by decide) (by decide) []
    rw [vdmRefused_raw rfl] at run
    obtain ⟨ended, result, ams⟩ := vdmEnd_ends (s := heardVdm s p ⟨.sop, id, rev⟩ 0xFF00A881) (p := p) (by simpa using hr) 1
      [0xFF00A881]
    exact ⟨_, run, ended, result, ams, engine_vdmEnd (engine_heardVdm ..) _ _ _⟩
  · intro s p live _ htx hx ha
    exact ⟨_, exec_vdmSenderResponseTimeout_exitMode live htx hx ha, by simp [State.lmEnd], by simp [State.lmEnd], by simp,
      by simp, engine_amsEnd (engine_lmEnd (engine_refl p s))⟩

end Sys2Proof.Proofs
end

section
/-!
SUPPORT. The commands that a host sends for a partner: the acceptance of VDM_SEND and SWAP_REQ on a port with none in progress,
and the completion of the one in progress; with them O43 is settled.
-/
namespace Sys2Proof.Proofs

open Sys2Proof.Machine Sys2Proof.Safety Sys2Proof.Laws

/-! ## The body of a port's command -/

theorem portOf_byteOf (p : PortId) : portOf (byteOf p.val 0) = some p := by
  revert p; decide

theorem host_port {s t : State} (h : HostOnly s t) (q : PortId) : t.port q = s.port q := congrArg (·.port q) h

/-- A port changed, and then the host's side alone: nothing else is touched. -/
theorem host_of_port {p : PortId} {s g t : State} (hg : PortOnly p s g) (ht : HostOnly g t) :
    HostOnly { s with ports := t.ports } t ∧ OthersSame p s t := by
  refine ⟨?_, fun q hq => (host_port ht q).trans (hg.2 q hq)⟩
  have ports : t.ports = g.ports := congrArg (·.ports) ht
  unfold HostOnly at ht ⊢
  rw [ports, ← hg.1]
  exact ht

section
variable {s u : State} {k j : Packet} (b : Begun s k u j)
include b

theorem begun_port (q : PortId) : u.port q = s.port q := host_port (begun_host b) q

theorem begun_payload : j.payload = k.payload := by rw [b.pkt]; rfl

theorem begun_onPort {p : PortId} (hk : k.target = byteOf p.val 0) (f : State → Packet → PortId → State × CmdRes) :
    u.onPort j f = f u j p := by
  have port : j.port = some p := by
    rw [Packet.port, b.pkt]
    exact (congrArg portOf hk).trans (portOf_byteOf p)
  rw [State.onPort, port]

/-- With no command in flight there is none of a port's. -/
theorem begun_flightOn (hf : s.mb.flights = []) (p : PortId) (op : Byte) : u.flightOn p op = none := by
  simp [State.flightOn, State.flight, b.mb, hf]

/-- A served command has no other before it in its lane. -/
theorem begun_laneBefore (h : Serves s k) (f : Packet → Bool) (i : Packet) : u.laneBefore f i = false := by
  obtain ⟨-, -, -, -, -, lanes, -, -, -, -⟩ := h
  simp [State.laneBefore, b.mb, lanes]

end

/-- A served command whose body changes one port and is accepted. -/
theorem accepted_on_port {s : State} {k : Packet} {p : PortId} {f : State → State} {P : Port → Prop} (h : Serves s k)
    (hd : k.dead = false) (hk : k.stale = false) (ho : (k.opcode == 0x89) = false)
    (body : ∀ u j, Begun s k u j → u.runBody j = (f u, .accepted)) (only : ∀ u, PortOnly p u (f u))
    (shows : ∀ u, u.port p = s.port p → P ((f u).port p)) :
    Accepted s k (s.submit k) ∧ P ((s.submit k).port p) ∧ OthersSame p s (s.submit k) :=
  serves_accepted (P := fun t => P (t.port p) ∧ OthersSame p s t) h hd hk ho fun u j b => by
    refine ⟨f u, body u j b, by rw [(only u).1], by rw [(only u).1], fun t ht => ⟨?_, fun q hq => ?_⟩⟩
    · rw [host_port ht]
      exact shows u (begun_port b p)
    · rw [host_port ht, (only u).2 q hq, begun_port b]

/-! ## VDM_SEND (R446) -/

/-- The VDM_SEND that a payload asks for, before its first message. -/
def runOf (pl : List Byte) : VdmRun :=
  ⟨nth pl 0, sopOf (nth pl 1), vdosOf pl, if nth pl 0 = 1 then 1 else 0, false, 0⟩

/-- A VDM_SEND that nothing has cut short waits for its AMS. -/
def vdmStarted (s : State) (p : PortId) (pl : List Byte) : State :=
  (s.modLm p fun l => { l with run := some (runOf pl) }).trigger p .vdm

theorem startVdm_uncut {s : State} {p : PortId} {k : Packet} (hc : (s.port p).lm.cuts = []) :
    s.startVdm p k = vdmStarted s p k.payload := by
  simp [State.startVdm, LmPort.cutOf, hc, vdmStarted, runOf]

theorem portOnly_vdmStarted (s : State) (p : PortId) (pl : List Byte) : PortOnly p s (vdmStarted s p pl) :=
  portOnly_trigger (portOnly_modPort (portOnly_refl p s) _) _

/-- A VDM_SEND that passes its check with none in flight starts. -/
theorem runBody_vdmSend {s u : State} {k j : Packet} {p : PortId} (h : Serves s k) (b : Begun s k u j) (hk : k.opcode = 0x22)
    (ht : k.target = byteOf p.val 0) (hv : s.vdmCheck p k.payload = 0) (hf : s.mb.flights = [])
    (hc : (s.port p).lm.cuts = []) : u.runBody j = (vdmStarted u p k.payload, .accepted) := by
  have op : j.opcode = 0x22 := by rw [b.pkt]; exact hk
  have passes : u.vdmCheck p j.payload = 0 := by
    simpa only [State.vdmCheck, begun_port b, begun_payload b] using hv
  have body : u.runBody j = u.onPort j State.cmdVdmSend := by rw [State.runBody, op]; rfl
  rw [body, begun_onPort b ht, State.cmdVdmSend, passes, begun_flightOn b hf, begun_laneBefore b h,
    startVdm_uncut (by rw [begun_port b]; exact hc), begun_payload b]
  rfl

/-! ## SWAP_REQ (R447) -/

/-- A data-role swap of the host's that waits for its AMS. -/
def drPending (s : State) (p : PortId) : State :=
  (s.modSwap p fun w => { w with kind := .dr, stage := .pending, own := true, won := false, toSrc := !(s.port p).tc.dfp }).trigger
    p .swap

theorem portOnly_drPending (s : State) (p : PortId) : PortOnly p s (drPending s p) :=
  portOnly_trigger (portOnly_modPort (portOnly_refl p s) _) _

section
variable {s : State} {p : PortId} (hc : (s.port p).pd.contract = .explicit) (hm : (s.port p).lm.mode = false)
include hc hm

theorem swapRefusal_dr : s.swapRefusal p 1 = 0 := by
  simp [State.swapRefusal, PdPort.hasContract, hc, hm]

theorem startSwap_dr : s.startSwap p 1 = drPending s p := by
  rw [State.startSwap, swapRefusal_dr hc hm]
  simp [hm, swapOf, drPending]

end

/-- A SWAP_REQ of a data-role swap with none in flight and no swap in progress stands pending. -/
theorem runBody_swapReq_dr {s u : State} {k j : Packet} {p : PortId} (b : Begun s k u j) (hk : k.opcode = 0x23)
    (ht : k.target = byteOf p.val 0) (hp : k.payload = [1]) (hr : (s.port p).swap.result = none)
    (hs : (s.port p).swap.stage = .none) (hc : (s.port p).pd.contract = .explicit) (hf : s.mb.flights = [])
    (hm : (s.port p).lm.mode = false) : u.runBody j = (drPending u p, .accepted) := by
  have op : j.opcode = 0x23 := by rw [b.pkt]; exact hk
  have same := begun_port b p
  have kind : nth j.payload 0 = 1 := by rw [begun_payload b, hp]; rfl
  have contract : (u.port p).pd.contract = .explicit := by rw [same]; exact hc
  have mode : (u.port p).lm.mode = false := by rw [same]; exact hm
  have passes : u.swapCheck j p = 0 := by
    rw [State.swapCheck, kind, swapRefusal_dr contract mode, begun_flightOn b hf]
    rfl
  have body : u.runBody j = u.onPort j State.cmdSwapReq := by rw [State.runBody, op]; rfl
  rw [body, begun_onPort b ht, State.cmdSwapReq, same, hr, Option.isSome_none, if_neg Bool.false_ne_true, passes, kind,
    startSwap_dr contract mode, same, hs]
  rfl

/-! ## Completions -/

section
variable {s : State} {p : PortId} {k : Packet} {st : Byte} (hi : s.caughtUp = true) (hh : s.mb.held = [])
  (hr : s.mb.room 1024 = true) (hf : s.mb.flights = [k])
include hf

/-- The one command in flight is the oldest of its port and opcode. -/
theorem flightOn_only {op : Byte} (hp : k.port = some p) (ho : k.opcode = op) : s.flightOn p op = some k := by
  simp [State.flightOn, State.flight, hf, hp, ho]

include hi hh hr

/-- Once it is completed none is in flight. -/
theorem flightOn_complete {r : List Byte} (hl : r.length ≤ 1024) (q : PortId) (op : Byte) :
    (s.complete k st r).flightOn q op = none := by
  simp [State.flightOn, State.flight, complete_mb hi hh hr hl, hf]

theorem exec_vdmSendComplete {r : List Byte} (hl : r.length ≤ 1024) (hp : k.port = some p) (ho : k.opcode = 0x22)
    (hres : (s.port p).lm.result = some r) :
    exec (.vdmSendComplete p) s = .next ((s.modLm p fun l => { l with result := none }).complete k 0 r) := by
  have only : (s.modLm p fun l => { l with result := none }).flightOn p 0x22 = some k := flightOn_only hf hp ho
  have last := flightOn_complete (s := s.modLm p fun l => { l with result := none }) (st := 0) hi hh hr hf hl p 0x22
  show Host.Outcome.next (s.vdmComplete p) = _
  simp only [State.vdmComplete, hres, only, State.vdmGo, last]

theorem exec_swapReqComplete {x : Byte} (hp : k.port = some p) (ho : k.opcode = 0x23)
    (hres : (s.port p).swap.result = some (st, x)) :
    exec (.swapReqComplete p) s = .next ((s.modSwap p fun w => { w with result := none }).complete k st [x]) := by
  have only : (s.modSwap p fun w => { w with result := none }).flightOn p 0x23 = some k := flightOn_only hf hp ho
  have last := flightOn_complete (s := s.modSwap p fun w => { w with result := none }) (st := st) (r := [x]) hi hh hr hf
    (by simp) p 0x23
  show Host.Outcome.next (s.swapComplete p) = _
  simp only [State.swapComplete, hres, only, last]

end

/-! ## The statement -/

/-- Settles O43: a command's body is what is said above of it, and a completion is one reply. -/
theorem partnerCommands : Obligations.PartnerCommands := by
  unfold Obligations.PartnerCommands
  refine ⟨?_, ?_, ?_, ?_⟩
  · intro s p c g q pl serves hv hf hc
    exact ⟨_, rfl, accepted_on_port serves rfl rfl rfl (fun u j b => runBody_vdmSend serves b rfl rfl hv hf hc)
      (portOnly_vdmStarted · p pl) (P := fun x => x.lm.run = some (runOf pl)) fun u _ => by simp [vdmStarted, cmdPacket]⟩
  · intro s p k r hi hh hr hf hp ho hres hl
    exact ⟨_, exec_vdmSendComplete hi hh hr hf hl hp ho hres, complete_completed hi hh hr hl,
      by rw [host_port (host_complete ..), State.port_modLm_self], host_of_port (portOnly_modPort (portOnly_refl p s) _)
        (host_complete ..)⟩
  · intro s p c g q serves hr hs hc hf hm
    exact ⟨_, rfl, accepted_on_port serves rfl rfl rfl (fun u j b => runBody_swapReq_dr b rfl rfl rfl hr hs hc hf hm)
      (portOnly_drPending · p) (P := fun x => x.swap = _) fun u same => by simp [drPending, same]⟩
  · intro s p k st x hi hh hr hf hp ho hres
    exact ⟨_, exec_swapReqComplete hi hh hr hf hp ho hres, complete_completed hi hh hr (by simp),
      by rw [host_port (host_complete ..), State.port_modSwap_self], host_of_port (portOnly_modPort (portOnly_refl p s) _)
        (host_complete ..)⟩

end Sys2Proof.Proofs
end

section
/-!
SUPPORT. The Fast Role Swap as its signal begins it on both sides, and the timers of the swaps; with them O19 is settled.
-/
namespace Sys2Proof.Proofs

open Sys2Proof.Machine Sys2Proof.Safety Sys2Proof.Laws

/-! ## A message behind one on the line (R142) -/

/-- A control message behind one on the line waits for it. -/
theorem sendCtl_waits {s : State} {p : PortId} (h : (s.port p).pd.tx.isSome = true) (ty : Mt) :
    s.sendCtl p ty = s.modPd p fun d => { d with txQ := d.txQ ++ [⟨.sop, ty, [], [], (s.port p).pd.txRev, 0⟩] } := by
  obtain ⟨m, hm⟩ := Option.isSome_iff_exists.mp h
  simp [State.sendCtl, State.send, State.sendMsg, hm]

theorem engaged_none {w : SwapPort} (h : w.stage = .none) : w.engaged = false := by simp [SwapPort.engaged, h]

/-! ## The switch stays as it is (Table 6.4) -/

section
variable (s : State) (p : PortId)

@[simp] theorem vdmDone_sw (r : Nat) (b : Bool) (v : List Word) : ((s.vdmDone p r b v).port p).sw = (s.port p).sw := by
  simp [State.vdmDone]

@[simp] theorem noticeFailed_sw : ((s.noticeFailed p).port p).sw = (s.port p).sw := by simp [State.noticeFailed]

@[simp] theorem lmVersionFail_sw : ((s.lmVersionFail p).port p).sw = (s.port p).sw := by
  unfold State.lmVersionFail; dsimp only
  split <;> simp

@[simp] theorem cutSteps_sw : ((s.cutSteps p).port p).sw = (s.port p).sw := by
  have swapped : ((if (s.port p).swap.stage == .none || (s.port p).swap.stage == .probe ||
      (s.port p).swap.stage == .pending then s else s.swapDone p 0x00 0x04 true).port p).sw = (s.port p).sw := by
    split <;> simp
  unfold State.cutSteps; dsimp only
  split
  · split
    · rw [vdmDone_sw]
      split
      · rw [lmVersionFail_sw, swapped]
      · exact swapped
    · exact swapped
  · rw [noticeFailed_sw, swapped]
  · rw [lmVersionFail_sw, swapped]
  · exact swapped

@[simp] theorem cutAms_sw : ((s.cutAms p).port p).sw = (s.port p).sw := by simp [State.cutAms]

/-! ## The forward loop of a Fast Role Swap (R267, R271) -/

theorem engine_frForward {p : PortId} {s a : State} (h : EngineOnly p s a) : EngineOnly p s (a.frForward p) := by
  unfold State.frForward; exact engine_convRegion (engine_modSw (engine_modCv h _) _)

@[simp] theorem frForward_pd : ((s.frForward p).port p).pd = (s.port p).pd := by simp [State.frForward]

@[simp] theorem frForward_switch : ((s.frForward p).port p).sw.st = (s.port p).sw.st := by simp [State.frForward]

theorem convRegion_runs : ((s.convRegion p).port p).cv.dir = (s.port p).cv.dir ∧
    ((s.convRegion p).port p).cv.vref = (s.port p).cv.vref := by
  obtain ⟨r, e⟩ := convRegion_cv s p
  rw [e]
  exact ⟨rfl, rfl⟩

/-- With the house bus in range it runs forward at 5.00 V. -/
theorem frForward_runs {s : State} (p : PortId) (hv : s.sup.vhb = .ok) :
    ((s.frForward p).port p).cv.dir = 1 ∧ ((s.frForward p).port p).cv.vref = 250 := by
  simp [State.frForward, convRegion_runs, hv]

end

/-! ## The signal seen, and FR_Swap received (R191, R192) -/

/-- A sink that has seen the signal: its converter runs forward, and FR_Swap is the message of its AMS. -/
def frAnswered (s : State) (p : PortId) : State :=
  ((((s.cutAms p).frForward p).modSwap p fun w => { w with
    kind := .fr, stage := .sent, toSrc := true, own := false, won := false, frArmed := false, frAsked := false }).modPd p fun d =>
      { d with ams := .swap }).sendCtl p .frSwap

theorem exec_fastRoleSwapSignal {s : State} {p : PortId} (live : s.pdLive p = true) (hs : (s.port p).tc.state = .attachedSnk)
    (hf : (s.port p).swap.frArmed = true) (hn : (s.port p).swap.stage = .none) (hw : (s.port p).sw.st = .closed)
    (ha : s.armed p = true) (hp : s.paramOk p = true) : exec (.fastRoleSwapSignal p) s = .next (frAnswered s p) := by
  show execFastRoleSwapSignal p s = _
  simp [execFastRoleSwapSignal, live, hf, Port.pdSnk, hs, engaged_none hn, hw, ha, hp, hn, frAnswered]

theorem frAnswered_sources {s : State} {p : PortId} (hv : s.sup.vhb = .ok) :
    ((frAnswered s p).port p).pd.tx.map (·.ty) = some .frSwap ∧ ((frAnswered s p).port p).cv.dir = 1 ∧
    ((frAnswered s p).port p).cv.vref = 250 ∧ ((frAnswered s p).port p).sw.st = (s.port p).sw.st ∧
    ((frAnswered s p).port p).swap.stage = .sent ∧ EngineOnly p s (frAnswered s p) := by
  have cut : EngineOnly p s (s.cutAms p) := engine_cutAms (engine_refl p s)
  obtain ⟨dir, vref⟩ := frForward_runs (s := s.cutAms p) p (by rw [cut.1]; exact hv)
  unfold frAnswered
  refine ⟨?_, ?_, ?_, ?_, ?_, engine_sendCtl (engine_modPd (engine_modSwap (engine_frForward cut) _) _) _⟩ <;>
    rw [State.sendCtl, send_port (by simp [State.cutAms])]
  · rfl
  · simpa using dir
  · simpa using vref
  · simp
  · simp

/-- A port that has signalled and takes FR_Swap: Accept is on the line and PS_RDY behind it. -/
def frAccepted (s : State) (p : PortId) : State :=
  State.sendCtl (p := p) (ty := .psRdy) <|
    (((s.reply p .accept [] []).modTc p fun t => { t with rpAdv := .none }).modSw p fun k => { k with
      st := if k.st == .discharge then .opn else k.st, sinkOn := false }).modSwap p fun w => { w with stage := .psRdy }

theorem exec_frSwap {s : State} {p : PortId} {h : RxHdr} (hh : Hears s p h)
    (ha : (s.port p).ownRuns = true → (s.port p).pd.ams ≠ .softReset) (h3 : (s.port p).pd.txRev = 2)
    (hk : (s.port p).swap.kind = .fr) (hs : (s.port p).swap.stage = .standby) (ht : (s.port p).swap.toSrc = false) :
    exec (.frSwap p h) s = .next (frAccepted (s.takeMsg p h) p) := by
  show execFrSwap p h s = _
  rw [execFrSwap, onMsg_only3 hh ha h3]
  dsimp only
  rw [if_pos (by simp [hk, hs, ht])]
  rfl

theorem frAccepted_says {s : State} {p : PortId} (htx : (s.port p).pd.tx = none) (hq : (s.port p).pd.txQ = []) :
    ((frAccepted s p).port p).pd.tx.map (·.ty) = some .accept ∧ ((frAccepted s p).port p).pd.txQ.map (·.ty) = [.psRdy] ∧
    ((frAccepted s p).port p).swap.stage = .psRdy ∧ ((frAccepted s p).port p).tc.rpAdv = .none := by
  unfold frAccepted
  rw [sendCtl_waits (by simp [reply_port htx])]
  simp [reply_port htx, hq]

theorem engine_frAccepted {p : PortId} {s a : State} (h : EngineOnly p s a) : EngineOnly p s (frAccepted a p) := by
  unfold frAccepted; exact engine_sendCtl (engine_modSwap (engine_modSw (engine_modTc (engine_reply h _ _ _) _) _) _) _

/-! ## Swaps that are not completed (R187, R194) -/

theorem getLsbD_setBit {n i : Nat} (v : BitVec n) (h : i < n) : (setBit v i).getLsbD i = true := by
  simp [setBit, h]

theorem errorRecovery_evt (s : State) (p : PortId) :
    ((s.errorRecovery p).port p).tc.evt = setBit (s.port p).tc.evt 6 := by simp [State.errorRecovery]

theorem exec_swapPsRdyTimeout {s : State} {p : PortId} (live : s.pdLive p = true) (hk : (s.port p).swap.kind = .pr)
    (hs : (s.port p).swap.stage = .psRdy) : exec (.swapPsRdyTimeout p) s = .next (s.errorRecovery p) := by
  simp only [State.pdLive, Bool.and_eq_true] at live
  obtain ⟨⟨⟨ready, -⟩, -⟩, -⟩ := live
  show execSwapPsRdyTimeout p s = _
  simp [execSwapPsRdyTimeout, ready, SwapPort.running, hk, hs]

theorem exec_vconnSourceTimeout {s : State} {p : PortId} (live : s.pdLive p = true) (hk : (s.port p).swap.kind = .vconn)
    (hs : (s.port p).swap.stage = .psRdy) : exec (.vconnSourceTimeout p) s = .next (s.hardReset p) := by
  show execVconnSourceTimeout p s = _
  simp [execVconnSourceTimeout, live, hk, hs]

theorem exec_swapSourceStartExpiry {s : State} {p : PortId} (live : s.pdLive p = true)
    (hs : (s.port p).tc.state = .attachedSrc) (hd : (s.port p).pd.startDue = true) :
    exec (.swapSourceStartExpiry p) s = .next ((s.modPd p fun d => { d with startDue := false }).trigger p .negotiation) := by
  show execSwapSourceStartExpiry p s = _
  simp [execSwapSourceStartExpiry, live, Port.pdSrc, hs, hd]

/-! ## A Hard Reset ends the swap (R175) -/

section
variable (s : State) (p : PortId)

theorem frDisarm_stage : ((s.frDisarm p).port p).swap.stage = (s.port p).swap.stage := by
  unfold State.frDisarm; dsimp only
  split <;> simp

theorem swapDone_stage (st r : Byte) (b : Bool) : ((s.swapDone p st r b).port p).swap.stage = .none := by
  simp [State.swapDone]

theorem swapAbort_stage (r : Byte) : ((s.swapAbort p r).port p).swap.stage = .none := by
  have ended (u : State) :
      ((if (u.port p).swap.stage == .none then u else u.swapDone p 0x00 r true).port p).swap.stage = .none := by
    split
    · exact beq_iff_eq.mp ‹_›
    · exact swapDone_stage ..
  unfold State.swapAbort
  rw [frDisarm_stage, ended]

@[simp] theorem vdmAllEnd_swap (r : Nat) : ((s.vdmAllEnd p r).port p).swap = (s.port p).swap := by
  simp [State.vdmAllEnd, State.vdmDone]

@[simp] theorem lmEnd_swap : ((s.lmEnd p).port p).swap = (s.port p).swap := by simp [State.lmEnd]

@[simp] theorem eprExit_swap : ((s.eprExit p).port p).swap = (s.port p).swap := by
  unfold State.eprExit
  split <;> simp

@[simp] theorem prunDone_swap (k : List Byte) (r : Byte) : ((s.prunDone p k r).port p).swap = (s.port p).swap := by
  simp [State.prunDone]

theorem hrCommon_stage : ((s.hrCommon p).port p).swap.stage = .none := by
  simp [State.hrCommon, swapAbort_stage]

@[simp] theorem takeFreq_swap : ((s.takeFreq p).port p).swap = (s.port p).swap := by
  obtain ⟨c, e⟩ := takeFreq_port s p
  rw [e]

@[simp] theorem openSwitch_swap : ((s.openSwitch p).port p).swap = (s.port p).swap := by
  unfold State.openSwitch State.convIdle State.vconnOff; dsimp only
  split <;> simp

@[simp] theorem convRegion_swap : ((s.convRegion p).port p).swap = (s.port p).swap := by
  unfold State.convRegion; dsimp only
  repeat' split
  all_goals simp

@[simp] theorem convStart_swap (dir : BitVec 2) (code : Nat) :
    ((s.convStart p dir code).port p).swap = (s.port p).swap := by
  unfold State.convStart State.formRef; dsimp only
  repeat' split
  all_goals simp

@[simp] theorem prebias_swap : ((s.prebias p).port p).swap = (s.port p).swap := by
  unfold State.prebias; dsimp only
  split <;> simp

@[simp] theorem holdRail_swap : ((s.holdRail p).port p).swap = (s.port p).swap := by
  unfold State.holdRail; dsimp only
  split <;> simp

theorem hardReset_stage : ((s.hardReset p).port p).swap.stage = .none := by
  have ended := hrCommon_stage s p
  unfold State.hardReset State.hrSequence State.keepGrant; dsimp only
  repeat' split
  all_goals simpa using ended

end

/-! ## The statement -/

/-- Settles O19: each clause is what is said above of its message or its timer. -/
theorem swapTimersAndFastRoleSwap : Obligations.SwapTimersAndFastRoleSwap := by
  unfold Obligations.SwapTimersAndFastRoleSwap
  refine ⟨?_, ?_, ?_, ?_, ?_⟩
  · intro s p live _ _ hs hf hn hw ha hp hv
    exact ⟨_, exec_fastRoleSwapSignal live hs hf hn hw ha hp, frAnswered_sources hv⟩
  · intro s p id rev live _ htx _ new h3 ha hq hk hs ht clk hb
    obtain ⟨accept, ready, stage, rp⟩ := frAccepted_says (s := s.takeMsg p ⟨.sop, id, rev⟩) (p := p) (by simpa using htx)
      (by simpa using hq)
    exact ⟨_, exec_frSwap (hears_sop rev live clk new hb) (fun _ => ha) h3 hk hs ht, accept, ready, stage, rp,
      engine_frAccepted (took ..)⟩
  · intro s p live _ _ _ hk hs
    exact ⟨_, exec_swapPsRdyTimeout live hk hs, errorRecovery_state s p,
      by rw [errorRecovery_evt]; exact getLsbD_setBit _ (by decide), engine_errorRecovery (engine_refl p s)⟩
  · intro s p live _ _ _ _ hk hs
    obtain ⟨contract, -, phase, frame⟩ := hardReset_ends s p
    exact ⟨_, exec_vconnSourceTimeout live hk hs, contract, phase, hardReset_stage s p, frame⟩
  · intro s p live _ _ hs hd ht hx
    exact ⟨_, exec_swapSourceStartExpiry live hs hd, by simp [merged_first, ht, hx], by simp,
      portOnly_trigger (portOnly_modPd (portOnly_refl p s) _) _⟩

end Sys2Proof.Proofs
end

section
/-!
SUPPORT. The counterexamples to O18 and O20: a state in which the port waits for tSinkTx while the AMS under way is the
partner's. The statements take every state, and do not ask that what waits be an AMS of the device's own. A message taken in drops
the start that waited (R145), which returns Rp to SinkTxOk and ends the AMS, whatever it was.
-/
namespace Sys2Proof.Proofs

open Sys2Proof.Machine Sys2Proof.Safety Sys2Proof.Laws

/-- P0, a source under contract and an end of a bridge, presents SinkTxNG and waits for tSinkTx, while an AMS of the partner's has
not ended. -/
def waitingForTx : State :=
  { State.reset with sys.pwr := .run, ledger.bridges := [⟨0, 9⟩] }.modPort 0 fun x => { x with
    tc := { x.tc with ready := true, leaving := false, state := .attachedSrc, rpAdv := .a15 }
    pd := { x.pd with contract := .explicit, txRev := 2, ng := true, sinkTxWait := true, ams := .partner } }

theorem waitingForTx_live : waitingForTx.pdLive 0 = true ∧ waitingForTx.engineClk = true ∧ waitingForTx.bridged 0 = true ∧
    waitingForTx.ledgermodeen = true := by decide +kernel

theorem waitingForTx_port : (waitingForTx.port 0).pd.tx = none ∧ (waitingForTx.port 0).pd.rxId ≠ some 0 ∧
    (waitingForTx.port 0).pd.txRev = 2 ∧ (waitingForTx.port 0).swap = SwapPort.reset ∧
    (waitingForTx.port 0).pd.contract = .explicit ∧ (waitingForTx.port 0).pd.bist = 0 := by decide +kernel

theorem waitingForTx_rp : (waitingForTx.port 0).tc.rpAdv = .a15 := by decide +kernel

theorem waitingForTx_ams : (waitingForTx.port 0).pd.ams = .partner := by decide +kernel

/-- What a port holds after a completed step. -/
def portAfter (o : Out) (p : PortId) : Option Port :=
  match o with
  | .next t => some (t.port p)
  | _ => none

/-- PR_Swap returns P0 to SinkTxOk. -/
theorem waitingForTx_prSwap :
    (portAfter (exec (.prSwap 0 ⟨.sop, 0, 2⟩) waitingForTx) 0).map (·.tc.rpAdv) = some .a30 := by decide +kernel

/-- Attention ends the AMS. -/
theorem waitingForTx_attention :
    (portAfter (exec (.attention 0 ⟨.sop, 0, 2⟩ [0x3A8CA906]) waitingForTx) 0).map (·.pd.ams) = some .none := by decide +kernel

/-- Refutes O18: the clause of a PR_Swap at an end of a bridge keeps the Type-C state whole, but does not exclude a start that
waits for tSinkTx, which the message overtakes: Rp returns to SinkTxOk (R144, R145). -/
theorem not_swapsAreServed : ¬ Obligations.SwapsAreServed := by
  unfold Obligations.SwapsAreServed
  rintro ⟨-, -, -, bridge, -, -⟩
  obtain ⟨live, clk, bridged, -⟩ := waitingForTx_live
  obtain ⟨tx, new, rev, swap, contract, bist⟩ := waitingForTx_port
  obtain ⟨t, run, -, -, tc, -⟩ := bridge waitingForTx 0 0 2 live rfl tx new rev swap rfl contract bridged clk bist
  have rp := waitingForTx_prSwap
  rw [run, portAfter, Option.map_some, tc, waitingForTx_rp] at rp
  exact absurd rp (by decide)

/-- Refutes O20: the clause of Attention, which is ignored, keeps the AMS, but does not exclude a start that waits for tSinkTx,
which the message overtakes: no AMS goes on then (R145). -/
theorem not_discoveryVdmsAreAnswered : ¬ Obligations.DiscoveryVdmsAreAnswered := by
  unfold Obligations.DiscoveryVdmsAreAnswered
  rintro ⟨-, -, -, -, -, attention, -⟩
  obtain ⟨live, clk, -, fused⟩ := waitingForTx_live
  obtain ⟨tx, new, rev, swap, contract, bist⟩ := waitingForTx_port
  obtain ⟨t, run, -, kept, -, -⟩ := attention waitingForTx 0 0 2 live rfl tx new rev fused swap rfl (by rw [contract]; decide)
    clk bist
  have ams := waitingForTx_attention
  rw [run, portAfter, Option.map_some, kept, waitingForTx_ams] at ams
  exact absurd ams (by decide)

end Sys2Proof.Proofs
end

section
/-!
SUPPORT. A protective opening: the samples that qualify for one, the switch it leaves, and what follows it with no contract, with a
contract and at the third one; with them O4 is settled.
-/
namespace Sys2Proof.Proofs

open Sys2Proof.Machine Sys2Proof.Safety Sys2Proof.Laws

/-! ## A record that finds room, whatever the power state (R29) -/

theorem leaveDoze_sbox (s : State) : s.leaveDoze.sbox = s.sbox := by
  unfold State.leaveDoze
  split <;> rfl

theorem postRec_queue_grows {s : State} (ty : Byte) (b : List Byte) (hq : s.sbox.queue.length < 32) :
    (s.postRec ty b).sbox.queue.length = s.sbox.queue.length + 1 := by
  rw [State.postRec, if_pos hq, leaveDoze_sbox]
  exact List.length_append

/-! ## The opening itself (R222, R227) -/

/-- A switch that a protective opening with supplied gates has opened and counted, with the event bits of what qualified. -/
def openedSw (w : SwPort) (bits : List Nat) : SwPort := { w with
  st := .discharge, sinkOn := true, owed := false, steps := 0, thermCeil := w.therm, blank := false,
  tripCnt := w.tripCnt + 1, evt := bits.foldl setBit w.evt }

/-- An opening that is counted and has set its event bits, before its record. -/
def openedFor (s : State) (p : PortId) (bits : List Nat) : State :=
  bits.foldl (fun s b => s.swEvt p b)
    (((s.openSwitch p).count p.val 0x0A 1).modSw p fun w => { w with tripCnt := w.tripCnt + 1 })

/-- A protective opening before what follows it. -/
def tripped (s : State) (p : PortId) (bits : List Nat) (flags : BitVec 3) (ma : Int) : State :=
  (if bits.isEmpty then openedFor s p bits
    else (openedFor s p bits).postTrip p (bits.foldl (fun n b => n + 2 ^ b) 0) ma).modPd p fun d =>
      { d with stFlags := d.stFlags ||| flags }

theorem protectiveOpen_tripped {s : State} {p : PortId} (hs : (s.port p).sw.st = .softstart ∨ (s.port p).sw.st = .closed)
    (bits : List Nat) (flags : BitVec 3) (ma : Int) :
    s.protectiveOpen p bits flags ma = (tripped s p bits flags ma).afterTrip p := by
  have carries : ((s.port p).sw.st == .softstart || (s.port p).sw.st == .closed) = true := by simpa using hs
  unfold State.protectiveOpen
  rw [if_pos carries]
  rfl

theorem foldl_swEvt_port (p : PortId) : ∀ (l : List Nat) (s : State), (l.foldl (fun s b => s.swEvt p b) s).port p =
    { s.port p with sw := { (s.port p).sw with evt := l.foldl setBit (s.port p).sw.evt } }
  | [], _ => rfl
  | b :: l, s => by
    rw [List.foldl_cons, foldl_swEvt_port p l, State.port_swEvt_self]
    rfl

theorem engine_foldl_swEvt {p : PortId} {s : State} : ∀ (l : List Nat) {a : State}, EngineOnly p s a →
    EngineOnly p s (l.foldl (fun s b => s.swEvt p b) a)
  | [], _, h => h
  | b :: l, _, h => engine_foldl_swEvt l (engine_swEvt h b)

theorem engine_openedFor (s : State) (p : PortId) (bits : List Nat) : EngineOnly p s (openedFor s p bits) :=
  engine_foldl_swEvt bits (engine_modSw (engine_count (engine_openSwitch (engine_refl p s)) _ _ _) _)

section
variable (s : State) (p : PortId) (bits : List Nat) (flags : BitVec 3) (ma : Int)

theorem tripped_port : (tripped s p bits flags ma).port p = { (openedFor s p bits).port p with
    pd := { ((openedFor s p bits).port p).pd with stFlags := ((openedFor s p bits).port p).pd.stFlags ||| flags } } := by
  unfold tripped
  split <;> simp

theorem tripped_tc : ((tripped s p bits flags ma).port p).tc =
    { (s.port p).tc with vconnOn := false, vconnSwap := false } := by
  simp [tripped_port, openedFor, foldl_swEvt_port]

theorem tripped_pd : ((tripped s p bits flags ma).port p).pd =
    { (s.port p).pd with stFlags := (s.port p).pd.stFlags ||| flags } := by
  simp [tripped_port, openedFor, foldl_swEvt_port]

theorem tripped_sw {s : State} {p : PortId} (hs : (s.port p).sw.st = .softstart ∨ (s.port p).sw.st = .closed)
    (hg : s.gateOk p = true) : ((tripped s p bits flags ma).port p).sw = openedSw (s.port p).sw bits := by
  have carries : ((s.port p).sw.st == .softstart || (s.port p).sw.st == .closed) = true := by simpa using hs
  simp [tripped_port, openedFor, foldl_swEvt_port, openSwitch_sw, carries, hg, openedSw]

theorem recorded_tripped : EngineRecorded p s (tripped s p bits flags ma) := by
  have opened := engineRecorded_of_engine (engine_openedFor s p bits)
  unfold tripped
  split
  · exact engineRecorded_trans opened (engineRecorded_of_engine (engine_modPd (engine_refl _ _) _))
  · exact engineRecorded_trans (engineRecorded_postRec opened _ _) (engineRecorded_of_engine (engine_modPd (engine_refl _ _) _))

/-- One that names no threshold is not recorded. -/
theorem engine_tripped_nil : EngineOnly p s (tripped s p [] flags ma) := engine_modPd (engine_openedFor s p []) _

theorem tripped_queue {s : State} {bits : List Nat} (hb : bits ≠ []) (hq : s.sbox.queue.length < 32) :
    (tripped s p bits flags ma).sbox.queue.length = s.sbox.queue.length + 1 := by
  have same : (openedFor s p bits).sbox = s.sbox := engine_sbox (engine_openedFor s p bits)
  have named : bits.isEmpty = false := by simpa using hb
  simp only [tripped, named, Bool.false_eq_true, if_false, State.modPd_sbox]
  rw [← same] at hq ⊢
  exact postRec_queue_grows _ _ hq

end

/-! ## With no contract: the port may close again (R227) -/

theorem afterTrip_recloses {s : State} {p : PortId} (ht : (s.port p).sw.tripCnt < 3) (hc : (s.port p).pd.contract = .none) :
    s.afterTrip p = s.modSw p fun w => { w with reclose := true } := by
  have few : ¬ 3 ≤ (s.port p).sw.tripCnt := by omega
  simp [State.afterTrip, few, PdPort.hasContract, hc]

/-- What a first protective opening with no contract shows: DISCHARGE, the count, the event bits, one record, and the reclose
to come. -/
def OpenedToReclose (p : PortId) (bits : List Nat) (s t : State) : Prop :=
  (t.port p).sw.st = .discharge ∧ (t.port p).sw.tripCnt = 1 ∧ (t.port p).sw.evt = bits.foldl setBit (s.port p).sw.evt ∧
  (t.port p).sw.reclose = true ∧ t.sbox.queue.length = s.sbox.queue.length + 1 ∧ EngineRecorded p s t

section
variable {s : State} {p : PortId} (h0 : (s.port p).sw.tripCnt = 0) (hc : (s.port p).pd.contract = .none)
  (hg : s.gateOk p = true) (hs : (s.port p).sw.st = .softstart ∨ (s.port p).sw.st = .closed)
include h0 hc hg hs

/-- A first protective opening with no contract is followed by nothing but leave to close again later. -/
theorem protectiveOpen_no_contract (bits : List Nat) (flags : BitVec 3) (ma : Int) :
    s.protectiveOpen p bits flags ma = (tripped s p bits flags ma).modSw p fun w => { w with reclose := true } := by
  rw [protectiveOpen_tripped hs]
  refine afterTrip_recloses ?_ ?_
  · simp [tripped_sw bits flags ma hs hg, openedSw, h0]
  · rw [tripped_pd, hc]

theorem protectiveOpen_no_contract_sw (bits : List Nat) (flags : BitVec 3) (ma : Int) :
    ((s.protectiveOpen p bits flags ma).port p).sw = { openedSw (s.port p).sw bits with reclose := true } := by
  rw [protectiveOpen_no_contract h0 hc hg hs, State.port_modSw_self, tripped_sw bits flags ma hs hg]

theorem protectiveOpen_recloses {bits : List Nat} (hb : bits ≠ []) (hq : s.sbox.queue.length < 32) (flags : BitVec 3)
    (ma : Int) : OpenedToReclose p bits s (s.protectiveOpen p bits flags ma) := by
  unfold OpenedToReclose
  rw [protectiveOpen_no_contract_sw h0 hc hg hs, protectiveOpen_no_contract h0 hc hg hs]
  exact ⟨rfl, congrArg (· + 1) h0, rfl, rfl, tripped_queue p flags ma hb hq,
    engineRecorded_trans (recorded_tripped s p bits flags ma) (engineRecorded_of_engine (engine_modSw (engine_refl _ _) _))⟩

end

theorem exec_softstartFail {s : State} {p : PortId} (hs : (s.port p).sw.st = .softstart) (ma : Int) :
    exec (.softstartFail p ma) s = .next (s.protectiveOpen p [9] 1 ma) := by
  show execSoftstartFail p ma s = _
  simp [execSoftstartFail, hs]

/-! ## A sample beyond a threshold (R224, R249) -/

/-- A port whose opening is to come, with the Alert that an overcurrent or a short circuit under a contract makes due. -/
def alerted (s : State) (p : PortId) (bits : List Nat) : State := s.modPd p fun d =>
  { d with alertDue := d.alertDue || ((s.port p).pd.hasContract && bits.any fun b => b == 0 || b == 1) }

section
variable (s : State) (p : PortId) (bits : List Nat)

@[simp] theorem alerted_tc : ((alerted s p bits).port p).tc = (s.port p).tc := by simp [alerted]
@[simp] theorem alerted_sw : ((alerted s p bits).port p).sw = (s.port p).sw := by simp [alerted]

theorem alerted_pd : ((alerted s p bits).port p).pd = { (s.port p).pd with
    alertDue := (s.port p).pd.alertDue || ((s.port p).pd.hasContract && bits.any fun b => b == 0 || b == 1) } := by
  rw [alerted, State.port_modPd_self]

end

theorem recorded_after_alert {s t : State} {p : PortId} {bits : List Nat} (h : EngineRecorded p (alerted s p bits) t) :
    EngineRecorded p s t := engineRecorded_trans (engineRecorded_of_engine (engine_modPd (engine_refl p s) _)) h

theorem protect_opens {s : State} {p : PortId} {x : ProtSample} {bit : Nat} {bits : List Nat}
    (hs : (s.port p).sw.st = .closed) (hb : s.beyond p x bit = true) (hq : s.qualified p x bit = bits) :
    s.protect p x bit = (alerted s p bits).protectiveOpen p bits (tripFlags bits) x.ma := by
  simp [State.protect, hs, hb, hq, alerted]

theorem exec_overvoltage {s : State} {p : PortId} {x : ProtSample} (hs : (s.port p).sw.st = .closed)
    (hb : s.beyond p x 2 = true) : exec (.overvoltage p x) s = .next ((alerted s p (s.qualified p x 2)).protectiveOpen p
      (s.qualified p x 2) (tripFlags (s.qualified p x 2)) x.ma) := by
  rw [← protect_opens hs hb rfl]
  rfl

theorem protect_recloses {s : State} {p : PortId} {x : ProtSample} {bit : Nat} {bits : List Nat}
    (h0 : (s.port p).sw.tripCnt = 0) (hc : (s.port p).pd.contract = .none) (hg : s.gateOk p = true)
    (hq : s.sbox.queue.length < 32) (hs : (s.port p).sw.st = .closed) (hb : s.beyond p x bit = true)
    (hn : s.qualified p x bit = bits) (hne : bits ≠ []) : OpenedToReclose p bits s (s.protect p x bit) := by
  rw [protect_opens hs hb hn]
  obtain ⟨st, count, evt, reclose, queue, frame⟩ := protectiveOpen_recloses (s := alerted s p bits) (by simp [h0])
    (by simp [alerted_pd, hc]) hg (by simp [hs]) hne hq (tripFlags bits) x.ma
  exact ⟨st, count, by rw [evt, alerted_sw], reclose, queue, recorded_after_alert frame⟩

section
variable {s : State} {p : PortId} {x : ProtSample}

/-- The current of a sample in the contract direction. -/
def contractMa (s : State) (p : PortId) (ma : Int) : Int := if (s.port p).sw.sinkDir then -ma else ma

theorem beyond_overcurrent : s.beyond p x 0 = decide ((s.ocLevel p : Int) < contractMa s p x.ma) := rfl
theorem beyond_shortCircuit : s.beyond p x 1 = decide (scLevel (isE p) < x.ma.natAbs) := rfl
theorem beyond_reverseCurrent : s.beyond p x 3 =
    (!(s.port p).sw.blank && decide ((rcLevel (isE p) : Int) < -contractMa s p x.ma)) := rfl

/-- With no contract the overvoltage threshold is 6.00 V. -/
theorem beyond_overvoltage (hc : (s.port p).pd.contract = .none) : s.beyond p x 2 = decide (6000 < x.mv) := by
  simp [State.beyond, State.ovLevel, PdPort.hasContract, hc]

theorem beyond_overvoltage_low (hc : (s.port p).pd.contract = .none) (hv : x.mv ≤ 6000) : s.beyond p x 2 = false := by
  simpa [beyond_overvoltage hc] using hv

theorem beyond_shortCircuit_low (h : x.ma.natAbs ≤ scLevel (isE p)) : s.beyond p x 1 = false := by
  simpa [beyond_shortCircuit] using h

theorem beyond_overcurrent_low (h : contractMa s p x.ma ≤ 0) : s.beyond p x 0 = false := by
  rw [beyond_overcurrent, decide_eq_false_iff_not]
  omega

theorem beyond_reverseCurrent_low (h : 0 ≤ contractMa s p x.ma) : s.beyond p x 3 = false := by
  rw [beyond_reverseCurrent, Bool.and_eq_false_iff, decide_eq_false_iff_not]
  right
  omega

/-- No current is beyond none of the thresholds of a current. -/
theorem beyond_no_current (h : x.ma = 0) :
    s.beyond p x 0 = false ∧ s.beyond p x 1 = false ∧ s.beyond p x 3 = false := by
  have still : contractMa s p x.ma = 0 := by simp [contractMa, h]
  exact ⟨beyond_overcurrent_low still.le, beyond_shortCircuit_low (by simp [h]), beyond_reverseCurrent_low still.ge⟩

theorem qualified_eq (bit : Nat) : s.qualified p x bit =
    [0, 1, 2, 3].filter fun b => (bit != 1 || (b != 0 && b != 3)) && s.beyond p x b := List.filter_filter ..

theorem qualified_overcurrent (hc : (s.port p).pd.contract = .none) (hi : s.beyond p x 0 = true)
    (hm : x.ma.natAbs ≤ scLevel (isE p)) (hv : x.mv ≤ 6000) : s.qualified p x 0 = [0] := by
  have forward : 0 ≤ contractMa s p x.ma := by
    have := of_decide_eq_true (beyond_overcurrent.symm.trans hi)
    omega
  simp [qualified_eq, hi, beyond_shortCircuit_low hm, beyond_overvoltage_low hc hv,
    beyond_reverseCurrent_low forward]

theorem qualified_reverseCurrent (hc : (s.port p).pd.contract = .none) (hi : s.beyond p x 3 = true)
    (hm : x.ma.natAbs ≤ scLevel (isE p)) (hv : x.mv ≤ 6000) : s.qualified p x 3 = [3] := by
  have backward : contractMa s p x.ma ≤ 0 := by
    have := of_decide_eq_true (Bool.and_eq_true_iff.mp (beyond_reverseCurrent.symm.trans hi)).2
    omega
  simp [qualified_eq, hi, beyond_shortCircuit_low hm, beyond_overvoltage_low hc hv,
    beyond_overcurrent_low backward]

/-- Beside a short circuit only an overvoltage qualifies. -/
theorem qualified_shortCircuit (hi : s.beyond p x 1 = true) :
    s.qualified p x 1 = if s.beyond p x 2 then [1, 2] else [1] := by
  cases hv : s.beyond p x 2
  · simp [qualified_eq, hi, hv]
  · simp [qualified_eq, hi, hv]

theorem qualified_overvoltage (hv : s.beyond p x 2 = true) (hi : x.ma = 0) : s.qualified p x 2 = [2] := by
  obtain ⟨h0, h1, h3⟩ := beyond_no_current (s := s) (p := p) hi
  simp [qualified_eq, h0, h1, hv, h3]

theorem qualified_nothing (hc : (s.port p).pd.contract = .none) (hi : x.ma = 0) (hv : x.mv ≤ 6000) (bit : Nat) :
    s.qualified p x bit = [] := by
  obtain ⟨h0, h1, h3⟩ := beyond_no_current (s := s) (p := p) hi
  simp [qualified_eq, h0, h1, beyond_overvoltage_low hc hv, h3]

end

/-! ## A thermal shutdown (R224, R248) -/

/-- With no contract no partner is told of the level. -/
theorem setTherm_no_contract {s : State} {p : PortId} {l : BitVec 2} (h : (s.port p).sw.therm ≠ l)
    (hc : (s.port p).pd.contract = .none) : s.setTherm p l = (s.modSw p fun w =>
      { w with therm := l, thermCeil := if w.st == .softstart then w.thermCeil else l }).swEvt p 6 := by
  have silent : (s.port p).pd.hasContract = false := by rw [PdPort.hasContract, hc]; rfl
  simp [State.setTherm, h, silent]

/-- A closed port that has reached 135 °C, before its switch opens. -/
def overheated (s : State) (p : PortId) (temp : Int) : State :=
  (s.modSw p fun w => { w with temp := temp, hot := true }).setTherm p 3

theorem overheated_frame (s : State) (p : PortId) (temp : Int) : EngineOnly p s (overheated s p temp) :=
  engine_of_portOnly (portOnly_setTherm (portOnly_modSw (portOnly_refl p s) _) _)

section
variable {s : State} {p : PortId} (hc : (s.port p).pd.contract = .none) (ht : (s.port p).sw.therm = 0)
include hc ht

theorem overheated_port (temp : Int) : (overheated s p temp).port p = { s.port p with sw := { (s.port p).sw with
    temp := temp, hot := true, therm := 3
    thermCeil := if (s.port p).sw.st == .softstart then (s.port p).sw.thermCeil else 3
    evt := setBit (s.port p).sw.evt 6 } } := by
  rw [overheated, setTherm_no_contract (by simp [ht]) (by simpa using hc)]
  simp

theorem overheated_gateOk (temp : Int) : (overheated s p temp).gateOk p = s.gateOk p := by
  rw [overheated, setTherm_no_contract (by simp [ht]) (by simpa using hc)]
  rfl

end

theorem exec_thermalShutdown {s : State} {p : PortId} {temp : Int} {mv : Nat} (hd : s.dieMeasures (dieOf p) = true)
    (h135 : 135 ≤ temp) (hc : (s.port p).pd.contract = .none) (hv : mv ≤ 6000) :
    exec (.thermalShutdown p temp ⟨0, mv⟩) s = .next ((overheated s p temp).protectiveOpen p [] 4 0) := by
  have none_qualify := qualified_nothing (s := s) (p := p) (x := ⟨0, mv, temp⟩) hc rfl hv 4
  show execThermalShutdown p temp ⟨0, mv⟩ s = _
  simp [execThermalShutdown, hd, h135, none_qualify, overheated, tripFlags]

/-- A shutdown opens as every protection does, with THERMCHG in place of a record. -/
theorem thermalShutdown_opens {s : State} {p : PortId} {temp : Int} {mv : Nat} (h0 : (s.port p).sw.tripCnt = 0)
    (hc : (s.port p).pd.contract = .none) (hg : s.gateOk p = true) (h135 : 135 ≤ temp)
    (hd : s.dieMeasures (dieOf p) = true) (hv : mv ≤ 6000) (hs : (s.port p).sw.st = .closed) (ht : (s.port p).sw.therm = 0) :
    Yields (.thermalShutdown p temp ⟨0, mv⟩) s fun t =>
      (t.port p).sw.st = .discharge ∧ (t.port p).sw.tripCnt = 1 ∧ (t.port p).sw.therm = 3 ∧ (t.port p).sw.hot = true ∧
      (t.port p).sw.evt = setBit (s.port p).sw.evt 6 ∧ t.sbox = s.sbox ∧ EngineOnly p s t := by
  have port := overheated_port hc ht temp
  have h0' : ((overheated s p temp).port p).sw.tripCnt = 0 := by rw [port]; exact h0
  have hc' : ((overheated s p temp).port p).pd.contract = .none := by rw [port]; exact hc
  have hg' := (overheated_gateOk hc ht temp).trans hg
  have hs' : ((overheated s p temp).port p).sw.st = .closed := by rw [port]; exact hs
  have frame : EngineOnly p s ((overheated s p temp).protectiveOpen p [] 4 0) := by
    rw [protectiveOpen_no_contract h0' hc' hg' (.inr hs')]
    exact engine_modSw (engine_trans (overheated_frame s p temp) (engine_tripped_nil _ p 4 0)) _
  refine ⟨_, exec_thermalShutdown hd h135 hc hv, ?_⟩
  beta_reduce
  rw [protectiveOpen_no_contract_sw h0' hc' hg' (.inr hs'), port]
  exact ⟨rfl, congrArg (· + 1) h0, rfl, rfl, rfl, engine_sbox frame, frame⟩

/-! ## With a contract: Hard Reset (R175, R227) -/

theorem hrCommon_sw (s : State) (p : PortId) :
    ((s.hrCommon p).port p).sw = { (s.port p).sw with ovBase := 0 } := by simp [State.hrCommon, State.prunDone]

/-- Hard Reset leaves the switch of a source that attached as one as it is, but for the transition's threshold. -/
theorem hardReset_source_sw {s : State} {p : PortId} (ha : (s.port p).tc.attachSrc = true)
    (hs : (s.port p).tc.state = .attachedSrc) : ((s.hardReset p).port p).sw = { (s.port p).sw with ovBase := 0 } := by
  simp [hardReset_source ha hs, hrCommon_sw]

theorem afterTrip_hardReset {s : State} {p : PortId} (ht : (s.port p).sw.tripCnt < 3)
    (hc : (s.port p).pd.hasContract = true) : s.afterTrip p = s.hardReset p := by
  have few : ¬ 3 ≤ (s.port p).sw.tripCnt := by omega
  simp [State.afterTrip, few, hc]

theorem protectiveOpen_source_contract {s : State} {p : PortId} {bits : List Nat} (hs : (s.port p).sw.st = .closed)
    (hg : s.gateOk p = true) (h0 : (s.port p).sw.tripCnt = 0) (hc : (s.port p).pd.contract = .explicit)
    (he : (s.port p).pd.epr = false) (ha : (s.port p).tc.attachSrc = true) (ht : (s.port p).tc.state = .attachedSrc)
    (flags : BitVec 3) (ma : Int) :
    ((s.protectiveOpen p bits flags ma).port p).pd.contract = .none ∧
    ((s.protectiveOpen p bits flags ma).port p).pd.hr = .srcWait ∧
    ((s.protectiveOpen p bits flags ma).port p).pd.evt = setBit (s.port p).pd.evt 1 ∧
    ((s.protectiveOpen p bits flags ma).port p).sw.st = .discharge ∧
    EngineRecorded p s (s.protectiveOpen p bits flags ma) := by
  have sw := tripped_sw bits flags ma (.inr hs) hg
  have pd := tripped_pd s p bits flags ma
  rw [protectiveOpen_tripped (.inr hs), afterTrip_hardReset (by simp [sw, openedSw, h0]) (by simp [pd, PdPort.hasContract, hc])]
  obtain ⟨contract, -, -, frame⟩ := hardReset_ends (tripped s p bits flags ma) p
  have source : ((tripped s p bits flags ma).port p).tc.attachSrc = true := by rw [tripped_tc]; exact ha
  have attached : ((tripped s p bits flags ma).port p).tc.state = .attachedSrc := by rw [tripped_tc]; exact ht
  refine ⟨contract, (hardReset_source_waits source attached).1, ?_, by rw [hardReset_source_sw source attached, sw]; rfl,
    engineRecorded_trans (recorded_tripped s p bits flags ma) (engineRecorded_of_engine frame)⟩
  rw [hardReset_evt (by rw [pd]; exact he), pd]

/-! ## The third: ErrorRecovery, with HOLDOFF to follow (R228) -/

theorem leaveAttach_sw (s : State) (p : PortId) : ∃ u : State, (u.port p).sw = (s.port p).sw ∧
    ((s.leaveAttach p).port p).sw = { ((u.openSwitch p).port p).sw with reclose := false, ovBase := 0 } := by
  unfold State.leaveAttach; dsimp only
  refine ⟨((((((s.swapAbort p 0x05).vdmAllEnd p 5).lmEnd p).eprExit p).prunDone p [0, 1] 5).modPd p PdPort.cleared).modLm p
    fun l => { l with vdmVer := none, needHeld := false }, by simp, ?_⟩
  split <;> simp

/-- ErrorRecovery finds a switch that carries nothing as it is, but for the reclose and the transition's threshold. -/
theorem errorRecovery_sw {s : State} {p : PortId} (h : (s.port p).sw.st = .discharge) :
    ((s.errorRecovery p).port p).sw = { (s.port p).sw with reclose := false, ovBase := 0 } := by
  obtain ⟨u, same, left⟩ := leaveAttach_sw s p
  simp [State.errorRecovery, left, openSwitch_sw, same, h]

theorem afterTrip_third {s : State} {p : PortId} (ht : 3 ≤ (s.port p).sw.tripCnt) :
    s.afterTrip p = (s.modSw p fun w => { w with holdNext := true }).errorRecovery p := by
  simp [State.afterTrip, ht]

theorem protectiveOpen_third {s : State} {p : PortId} {bits : List Nat} (hs : (s.port p).sw.st = .closed)
    (hg : s.gateOk p = true) (h2 : (s.port p).sw.tripCnt = 2) (flags : BitVec 3) (ma : Int) :
    ((s.protectiveOpen p bits flags ma).port p).tc.state = .errorRecovery ∧
    ((s.protectiveOpen p bits flags ma).port p).sw.holdNext = true ∧
    ((s.protectiveOpen p bits flags ma).port p).sw.tripCnt = 3 ∧
    EngineRecorded p s (s.protectiveOpen p bits flags ma) := by
  have sw := tripped_sw bits flags ma (.inr hs) hg
  have after := errorRecovery_sw (s := (tripped s p bits flags ma).modSw p fun w => { w with holdNext := true }) (p := p)
    (by rw [State.port_modSw_self, sw]; rfl)
  rw [protectiveOpen_tripped (.inr hs), afterTrip_third (by simp [sw, openedSw, h2]), after, State.port_modSw_self, sw]
  exact ⟨errorRecovery_state _ p, rfl, congrArg (· + 1) h2,
    engineRecorded_trans (recorded_tripped s p bits flags ma)
      (engineRecorded_of_engine (engine_errorRecovery (engine_modSw (engine_refl _ _) _)))⟩

/-! ## The statement -/

/-- Settles O4: each clause is an opening for the thresholds that its sample lies beyond, and what follows that opening. -/
theorem protectionsOpenTheSwitch : Obligations.ProtectionsOpenTheSwitch := by
  unfold Obligations.ProtectionsOpenTheSwitch
  refine ⟨?_, ?_, ?_, ?_, ?_, ?_, ?_, ?_, ?_⟩
  · intro s p x h0 hc hg hq hs hi hm hv
    have beyond : s.beyond p x 0 = true := decide_eq_true hi
    exact ⟨_, rfl, protect_recloses h0 hc hg hq hs beyond (qualified_overcurrent hc beyond hm hv) (by simp)⟩
  · intro s p x h0 hc hg hq hs hi hv
    have beyond : s.beyond p x 1 = true := decide_eq_true hi
    have alone : s.qualified p x 1 = [1] := by rw [qualified_shortCircuit beyond, beyond_overvoltage_low hc hv]; rfl
    exact ⟨_, rfl, protect_recloses h0 hc hg hq hs beyond alone (by simp)⟩
  · intro s p x h0 hc hg hq hs hv hi
    have beyond : s.beyond p x 2 = true := by simpa [beyond_overvoltage hc] using hv
    exact ⟨_, rfl, protect_recloses h0 hc hg hq hs beyond (qualified_overvoltage beyond hi) (by simp)⟩
  · intro s p x h0 hc hg hq hs hb hi hm hv
    have beyond : s.beyond p x 3 = true := by
      rw [beyond_reverseCurrent, hb, rcLevel]
      simpa [contractMa] using hi
    exact ⟨_, rfl, protect_recloses h0 hc hg hq hs beyond (qualified_reverseCurrent hc beyond hm hv) (by simp)⟩
  · intro s p ma h0 hc hg hq hs
    exact ⟨_, exec_softstartFail hs ma, protectiveOpen_recloses h0 hc hg (.inl hs) (by simp) hq _ _⟩
  · intro s p temp mv h0 hc hg _ h135 hd hv hs ht
    exact thermalShutdown_opens h0 hc hg h135 hd hv hs ht
  · intro s p x h0 hc hg hq hs hi hv
    have beyond : s.beyond p x 1 = true := decide_eq_true hi
    have high : s.beyond p x 2 = true := by simpa [beyond_overvoltage hc] using hv
    have both : s.qualified p x 1 = [1, 2] := by rw [qualified_shortCircuit beyond, high]; rfl
    obtain ⟨-, count, evt, -, queue, frame⟩ := protect_recloses h0 hc hg hq hs beyond both (by simp)
    exact ⟨_, rfl, evt, count, queue, frame⟩
  · intro s p x hs hg _ ht hv h0 hc he ha
    obtain ⟨contract, phase, evt, st, frame⟩ := protectiveOpen_source_contract (s := alerted s p (s.qualified p x 2))
      (bits := s.qualified p x 2) (by simp [hs]) hg (by simp [h0]) (by simp [alerted_pd, hc]) (by simp [alerted_pd, he])
      (by simp [ha]) (by simp [ht]) (tripFlags (s.qualified p x 2)) x.ma
    exact ⟨_, exec_overvoltage hs hv, contract, phase, by rw [evt, alerted_pd], st, recorded_after_alert frame⟩
  · intro s p x hs hg _ _ hv h2
    obtain ⟨state, hold, count, frame⟩ := protectiveOpen_third (s := alerted s p (s.qualified p x 2))
      (bits := s.qualified p x 2) (by simp [hs]) hg (by simp [h2]) (tripFlags (s.qualified p x 2)) x.ma
    exact ⟨_, exec_overvoltage hs hv, state, hold, count, recorded_after_alert frame⟩

end Sys2Proof.Proofs
end

section
/-!
SUPPORT. The switch on its way: soft-start to CLOSED, the end of a discharge and of HOLDOFF, and what lets it close again; with them
O5 is settled.
-/
namespace Sys2Proof.Proofs

open Sys2Proof.Machine Sys2Proof.Safety Sys2Proof.Laws

/-! ## Soft-start (R219, R266) -/

/-- The decisions of a ramp stage move its ramp and its steps alone. -/
theorem ssRamp_moves (e : Bool) (near : Nat) : ∀ (d : List (Nat × Int)) (w : SwPort),
    ∃ r n, (w.ssRamp e near d).1 = { w with ramp := r, steps := n }
  | [], w => ⟨w.ramp, w.steps, rfl⟩
  | (v, i) :: d, w => by
    unfold SwPort.ssRamp; dsimp only
    split
    · exact ⟨_, _, rfl⟩
    · obtain ⟨r, n, h⟩ := ssRamp_moves e near d (w.ssDecide e v i)
      exact ⟨r, n, h⟩

/-- The drop correction rests on the cells in service and the temperature, not on how the switch came to be closed. -/
theorem dropMv_filled {x : Port} {w : SwPort} {r n : Nat} (h : w = { x.sw with ramp := r, steps := n }) (e : Bool) (ma : Int) :
    Port.dropMv { x with sw := w.filled } e ma = x.dropMv e ma := by
  subst h
  rfl

theorem engine_startPd {p : PortId} {s a : State} (h : EngineOnly p s a) : EngineOnly p s (a.startPd p) := by
  unfold State.startPd; dsimp only
  exact engine_ite (engine_ite (engine_trigger h _) (engine_trigger h _)) h

/-- Starting PD only has an AMS wait for its turn. -/
theorem startPd_port (s : State) (p : PortId) :
    ∃ l, (s.startPd p).port p = { s.port p with pd := { (s.port p).pd with trig := l } } := by
  unfold State.startPd; dsimp only
  split
  · split <;> exact ⟨_, trigger_port ..⟩
  · exact ⟨(s.port p).pd.trig, rfl⟩

/-- A source's switch has closed: VBUS stands at the reference, and the rail above it by the drop. -/
def sourceClosed (s : State) (p : PortId) (drop : Int) : State :=
  (s.modTc p fun t => { t with
    vbusMv := (s.port p).cv.vref * 20, prailMv := ((((s.port p).cv.vref * 20 : Nat) : Int) + drop).toNat }).modCv p fun c =>
      { c with prebias := false, drop := drop }

/-- A Hard Reset that waited for the closing is over. -/
def hrRestored (s : State) (p : PortId) : State :=
  if (s.port p).pd.hr == .srcRestore then (s.modPd p fun d => { d with hr := .none }).prunDone p [1] 0 else s

theorem engine_hrRestored {p : PortId} {s a : State} (h : EngineOnly p s a) : EngineOnly p s (hrRestored a p) := by
  unfold hrRestored
  exact engine_ite (engine_prunDone (engine_modPd h _) _ _) h

theorem hrRestored_port (s : State) (p : PortId) : ((hrRestored s p).port p).tc = (s.port p).tc ∧
    ((hrRestored s p).port p).sw = (s.port p).sw ∧ ((hrRestored s p).port p).cv = (s.port p).cv := by
  unfold hrRestored
  split <;> simp [State.prunDone]

theorem switchClosed_source {s : State} {p : PortId} (hd : (s.port p).sw.sinkDir = false)
    (hn : (s.port p).swap.stage = .none) (ma : Int) :
    s.switchClosed p ma = (hrRestored (sourceClosed s p ((s.port p).dropMv (isE p) ma)) p).startPd p := by
  have phase : ((sourceClosed s p ((s.port p).dropMv (isE p) ma)).port p).pd.hr = (s.port p).pd.hr := by
    simp [sourceClosed]
  have idle : ((s.port p).swap.stage == .closing) = false := by simp [hn]
  unfold State.switchClosed hrRestored
  rw [phase]
  simp only [hd, Bool.false_eq_true, if_false, idle]
  rfl

/-- A ramp that ends fills the switch and closes it. -/
theorem softstartComplete_closes {s : State} {p : PortId} {d : List (Nat × Int)} {ma : Int}
    (hs : (s.port p).sw.st = .softstart) (hd : (s.port p).sw.sinkDir = false) (hn : (s.port p).swap.stage = .none)
    (hr : ((s.port p).sw.ssRamp (isE p) (s.port p).tc.prailMv d).2 = some ma) :
    Yields (.softstartComplete ⟨p, d⟩) s fun t =>
      (t.port p).sw.st = .closed ∧ (t.port p).tc.vbusMv = (s.port p).cv.vref * 20 ∧
      (t.port p).cv.drop = (s.port p).dropMv (isE p) ma ∧ (t.port p).cv.prebias = false ∧ EngineOnly p s t := by
  obtain ⟨r, n, moved⟩ := ssRamp_moves (isE p) (s.port p).tc.prailMv d (s.port p).sw
  generalize hw : ((s.port p).sw.ssRamp (isE p) (s.port p).tc.prailMv d).1 = w at moved
  have filled : (s.modSw p fun _ => w.filled).port p = { s.port p with sw := w.filled } := State.port_modSw_self ..
  have run : exec (.softstartComplete ⟨p, d⟩) s = .next ((s.modSw p fun _ => w.filled).switchClosed p ma) := by
    show execSoftstartComplete ⟨p, d⟩ s = _
    simp [execSoftstartComplete, hs, hd, hr, hw]
  have dir : ((s.modSw p fun _ => w.filled).port p).sw.sinkDir = false := by rw [filled, moved]; exact hd
  refine ⟨_, run, ?_⟩
  rw [switchClosed_source dir (by rw [filled]; exact hn), filled, dropMv_filled moved]
  obtain ⟨tc, sw, cv⟩ := hrRestored_port (sourceClosed (s.modSw p fun _ => w.filled) p ((s.port p).dropMv (isE p) ma)) p
  obtain ⟨l, started⟩ := startPd_port
    (hrRestored (sourceClosed (s.modSw p fun _ => w.filled) p ((s.port p).dropMv (isE p) ma)) p) p
  rw [started, sw, tc, cv]
  refine ⟨by simp [sourceClosed, SwPort.filled], by simp [sourceClosed], by simp [sourceClosed], by simp [sourceClosed],
    engine_startPd (engine_hrRestored ?_)⟩
  exact engine_modCv (engine_modTc (engine_modSw (engine_refl p s) _) _) _

/-! ## A switch that waits to close (R215, R216) -/

/-- A closing begins a soft-start, and leaves the events, the counts and the fault marks of the switch as they are. -/
theorem tryClose_sw (s : State) (p : PortId) : ∃ st dir prof n r, ((s.tryClose p).port p).sw =
    { (s.port p).sw with st := st, sinkDir := dir, ssProf := prof, steps := n, ramp := r } := by
  unfold State.tryClose State.softStart; dsimp only
  split
  · exact ⟨_, _, _, _, _, by rw [State.port_modTc_self, State.port_modSw_self]⟩
  split
  · exact ⟨_, _, _, _, _, by rw [State.port_modSw_self]⟩
  · exact ⟨_, _, _, _, _, rfl⟩

theorem retryClose_sw (s : State) (p : PortId) : ∃ st dir prof n r, ((s.retryClose p).port p).sw =
    { (s.port p).sw with st := st, sinkDir := dir, ssProf := prof, steps := n, ramp := r } := by
  unfold State.retryClose State.applyVbus; dsimp only
  split
  · obtain ⟨st, dir, prof, n, r, h⟩ := tryClose_sw _ p
    refine ⟨st, dir, prof, n, r, h.trans ?_⟩
    split <;> simp
  · exact tryClose_sw s p

theorem portOnly_retryClose {p : PortId} {s a : State} (h : PortOnly p s a) : PortOnly p s (a.retryClose p) := by
  unfold State.retryClose
  exact portOnly_ite (portOnly_applyVbus h) (portOnly_tryClose h)

/-- A port that is in no attach has nothing to close. -/
theorem retryClose_unattached {s : State} {p : PortId} (ha : (s.port p).srcAtt = false) (hk : (s.port p).snkAtt = false) :
    s.retryClose p = s := by
  simp [State.retryClose, State.tryClose, State.srcCloseOk, State.snkCloseOk, ha, hk]

theorem exec_protectiveReclose {s : State} {p : PortId} (hr : s.portReady p = true) (hc : (s.port p).sw.reclose = true) :
    exec (.protectiveReclose p) s = .next ((s.modSw p fun w => { w with reclose := false }).retryClose p) := by
  show execProtectiveReclose p s = _
  rw [execProtectiveReclose, hr, hc, Bool.and_self, State.when_true]

theorem protectiveReclose_clears {s : State} {p : PortId} (hr : s.portReady p = true) (hc : (s.port p).sw.reclose = true) :
    Yields (.protectiveReclose p) s fun t => (t.port p).sw.reclose = false ∧ PortOnly p s t := by
  obtain ⟨st, dir, prof, n, r, sw⟩ := retryClose_sw (s.modSw p fun w => { w with reclose := false }) p
  exact ⟨_, exec_protectiveReclose hr hc, by rw [sw, State.port_modSw_self],
    portOnly_retryClose (portOnly_modSw (portOnly_refl p s) _)⟩

/-! ## The end of a discharge (R231, R232) -/

/-- A port whose discharge has brought VBUS to a voltage, with no HOLDOFF and no withdrawal to follow. -/
def dischargedTo (s : State) (p : PortId) (mv : Nat) : State :=
  (s.modTc p fun t => { t with vbusMv := mv }).modSw p fun w => { w with st := .opn, sinkOn := false, monDis := false }

/-- In ErrorRecovery the switch stays open, and HOLDOFF is left for its end. -/
theorem exec_dischargeComplete {s : State} {p : PortId} {mv : Nat} (hv : mv ≤ 700) (hs : (s.port p).sw.st = .discharge)
    (ht : (s.port p).tc.state = .errorRecovery) (hh : (s.port p).tc.held = false) (hl : (s.port p).tc.leaving = false)
    (hn : (s.port p).swap.stage = .none) : exec (.dischargeComplete p mv) s = .next (dischargedTo s p mv) := by
  have unattached : (dischargedTo s p mv).retryClose p = dischargedTo s p mv := by
    apply retryClose_unattached <;> simp [dischargedTo, Port.srcAtt, Port.snkAtt, ht]
  have stays : (dischargedTo s p mv).finishLeaving p = dischargedTo s p mv := by
    simp [State.finishLeaving, dischargedTo, hl]
  unfold dischargedTo at unattached stays
  show execDischargeComplete p mv s = _
  simp [execDischargeComplete, hs, hv, ht, hh, hl, hn, dischargedTo, stays, unattached]

theorem exec_dischargeTimeout {s : State} {p : PortId} (hs : (s.port p).sw.st = .discharge)
    (hk : (s.port p).sw.sinkOn = true) :
    exec (.dischargeTimeout p) s = .next ((s.swEvt p 7).modSw p fun w => { w with sinkOn := false }) := by
  show execDischargeTimeout p s = _
  simp [execDischargeTimeout, hs, hk]

/-! ## HOLDOFF and TRIPCNT (R228) -/

theorem exec_holdoffEnd {s : State} {p : PortId} (hs : (s.port p).sw.st = .holdoff)
    (ht : (s.port p).tc.state = .unattachedSnk) :
    exec (.holdoffEnd p) s = .next (s.modSw p fun w => { w with st := .opn, tripCnt := 0 }) := by
  have unattached : (s.modSw p fun w => { w with st := .opn, tripCnt := 0 }).retryClose p =
      s.modSw p fun w => { w with st := .opn, tripCnt := 0 } := by
    apply retryClose_unattached <;> simp [Port.srcAtt, Port.snkAtt, ht]
  show execHoldoffEnd p s = _
  simp [execHoldoffEnd, hs, unattached]

/-! ## An enable that was held (R233) -/

theorem exec_heldEnable {s : State} {p : PortId} (hr : s.portReady p = true) (he : (s.port p).tc.enHeld = true)
    (ht : (s.port p).tc.state = .disabled) (hs : (s.port p).sw.st = .opn) :
    exec (.heldEnable p) s = .next ((s.toUnattached p).modTc p fun t => { t with enHeld := false }) := by
  show execHeldEnable p s = _
  rw [execHeldEnable, hr, he, hs, show (SwState.opn != .discharge) = true from rfl, Bool.and_self, Bool.and_self,
    State.when_true, ht]
  rfl

/-! ## The statement -/

/-- Settles O5: each clause is what is said above of its event. -/
theorem switchStatesGoOn : Obligations.SwitchStatesGoOn := by
  unfold Obligations.SwitchStatesGoOn
  refine ⟨?_, ?_, ?_, ?_, ?_, ?_, ?_⟩
  · intro s p d ma _ _ hs hd hn hr
    exact softstartComplete_closes hs hd hn hr
  · intro s p _ _ hs ht hh hl hn
    refine ⟨_, exec_dischargeComplete (le_refl 700) hs ht hh hl hn, ?_, ?_, ?_,
      engine_modSw (engine_modTc (engine_refl p s) _) _⟩ <;> simp [dischargedTo]
  · intro s p _ _ hs hk
    exact ⟨_, exec_dischargeTimeout hs hk, by simp [hs], by simp, by simp,
      portOnly_modSw (portOnly_swEvt (portOnly_refl p s) _) _⟩
  · intro s p _ _ hs ht
    exact ⟨_, exec_holdoffEnd hs ht, by simp, by simp, portOnly_modSw (portOnly_refl p s) _⟩
  · intro s p _ _ _ _
    exact ⟨_, rfl, by simp, by simp, portOnly_modSw (portOnly_refl p s) _⟩
  · intro s p hr _ he ht hs
    exact ⟨_, exec_heldEnable hr he ht hs, by simp, by simp, portOnly_modTc (portOnly_toUnattached (portOnly_refl p s)) _⟩
  · intro s p hr _ hc
    exact protectiveReclose_clears hr hc

end Sys2Proof.Proofs
end

section
/-!
SUPPORT. The converter at its target, at its limits and on its clock, a level of VBUS as both monitors read it, and the local bus
formed and left; with them O7 is settled.
-/
namespace Sys2Proof.Proofs

open Sys2Proof.Machine Sys2Proof.Safety Sys2Proof.Laws

/-! ## At target (R267) -/

@[simp] theorem tryClose_cv (s : State) (p : PortId) : ((s.tryClose p).port p).cv = (s.port p).cv := by
  unfold State.tryClose State.softStart; dsimp only
  split
  · simp
  · split <;> simp

/-- A forward converter behind an open switch, its rail at the reference, in the region it had. -/
def standsAtTarget (s : State) (p : PortId) : State :=
  (((s.modCv p fun c => { c with slewing := false, atTarget := true, recover := false }).modTc p fun t =>
    { t with prailMv := (s.port p).cv.vref * 20 }).modCv p fun c => { c with drop := 0 }).modSw p fun w =>
      { w with ovBase := 0, blank := false }

/-- With no transition under way, and no switch closed to carry a current, only a closing that waited goes on. -/
theorem exec_atTarget {s : State} {p : PortId} (ma : Int) (hd : (s.port p).cv.dir = 1) (hw : (s.port p).cv.slewing = true)
    (hx : (s.port p).cv.slewDue = false) (he : (s.port p).cv.diode = false) (hs : (s.port p).sw.st = .opn)
    (hc : (s.port p).pd.contract = .none) :
    exec (.atTarget ⟨p, ma⟩) s = .next (((standsAtTarget s p).convRegion p).tryClose p) := by
  have reports : (s.port p).mayTarget = true := by simp [Port.mayTarget, hd, hw, hx, he]
  have carries_none : ((s.port p).sw.st == .closed && !(s.port p).sw.sinkDir) = false := by simp [hs]
  have settled : ((s.port p).pdSrc && (s.port p).pd.contract == .transition) = false := by simp [hc]
  show execAtTarget ⟨p, ma⟩ s = _
  unfold execAtTarget
  dsimp only
  rw [reports, State.when_true, if_neg (by simp [hd]), if_neg (by simp [he]), carries_none, settled]
  rfl

theorem atTarget_sets_prail {s : State} {p : PortId} (ma : Int) (hd : (s.port p).cv.dir = 1)
    (hw : (s.port p).cv.slewing = true) (hx : (s.port p).cv.slewDue = false) (he : (s.port p).cv.diode = false)
    (hs : (s.port p).sw.st = .opn) (hc : (s.port p).pd.contract = .none) :
    Yields (.atTarget ⟨p, ma⟩) s fun t =>
      (t.port p).cv.atTarget = true ∧ (t.port p).cv.slewing = false ∧ (t.port p).tc.prailMv = (s.port p).cv.vref * 20 ∧
      EngineOnly p s t := by
  obtain ⟨r, cv⟩ := convRegion_cv (standsAtTarget s p) p
  obtain ⟨v, tc⟩ := tryClose_tc ((standsAtTarget s p).convRegion p) p
  refine ⟨_, exec_atTarget ma hd hw hx he hs hc, ?_, ?_, ?_, engine_tryClose (engine_convRegion (engine_modSw (engine_modCv
    (engine_modTc (engine_modCv (engine_refl p s) _) _) _) _))⟩
  · rw [tryClose_cv, cv]; simp [standsAtTarget]
  · rw [tryClose_cv, cv]; simp [standsAtTarget]
  · rw [tc, convRegion_tc]; simp [standsAtTarget]

/-! ## The current limit and the peak limit (R263, R264) -/

theorem exec_ilimhit_begins {s : State} {p : PortId} (hd : (s.port p).cv.dir = 1) (hi : (s.port p).cv.ilimAct = false) :
    exec (.ilimhit p true) s = .next ((s.cvEvt p 4).modCv p fun c => { c with ilimAct := true }) := by
  show execIlimhit p true s = _
  simp [execIlimhit, hd, hi]

theorem exec_ilimhit_ends {s : State} {p : PortId} (hd : (s.port p).cv.dir = 1) :
    exec (.ilimhit p false) s = .next (s.modCv p fun c => { c with ilimAct := false }) := by
  show execIlimhit p false s = _
  simp [execIlimhit, hd]

theorem exec_pklim {s : State} {p : PortId} (hr : s.portReady p = true) (hd : (s.port p).cv.dir = 1) :
    exec (.pklim p) s = .next ((s.cvEvt p 7).errorRecovery p) := by
  show execPklim p s = _
  simp [execPklim, hr, hd]

section
variable (s : State) (p : PortId)

@[simp] theorem frDisarm_cvEvt : ((s.frDisarm p).port p).cv.evt = (s.port p).cv.evt := by
  unfold State.frDisarm; dsimp only
  split <;> simp

@[simp] theorem swapDone_cv (st r : Byte) (b : Bool) : ((s.swapDone p st r b).port p).cv = (s.port p).cv := by
  unfold State.swapDone; dsimp only
  rw [State.port_modSwap_self]
  split <;> rfl

@[simp] theorem swapAbort_cvEvt (r : Byte) : ((s.swapAbort p r).port p).cv.evt = (s.port p).cv.evt := by
  have ended (u : State) :
      ((if (u.port p).swap.stage == .none then u else u.swapDone p 0x00 r true).port p).cv = (u.port p).cv := by
    split <;> simp
  unfold State.swapAbort
  rw [frDisarm_cvEvt, ended]
  cases s.swapWaits p <;> simp

@[simp] theorem vdmAllEnd_cv (r : Nat) : ((s.vdmAllEnd p r).port p).cv = (s.port p).cv := by
  simp [State.vdmAllEnd, State.vdmDone]

@[simp] theorem lmEnd_cv : ((s.lmEnd p).port p).cv = (s.port p).cv := by simp [State.lmEnd]

@[simp] theorem eprExit_cv : ((s.eprExit p).port p).cv = (s.port p).cv := by
  unfold State.eprExit
  split <;> simp

@[simp] theorem prunDone_cv (k : List Byte) (r : Byte) : ((s.prunDone p k r).port p).cv = (s.port p).cv := by
  simp [State.prunDone]

@[simp] theorem takeFreq_cv : ((s.takeFreq p).port p).cv = (s.port p).cv := by
  obtain ⟨c, e⟩ := takeFreq_port s p
  rw [e]

@[simp] theorem openSwitch_cvEvt : ((s.openSwitch p).port p).cv.evt = (s.port p).cv.evt := by
  unfold State.openSwitch State.convIdle State.vconnOff; dsimp only
  split <;> simp

/-- Leaving an attach idles the converter and leaves its events as they are. -/
theorem leaveAttach_cv : ((s.leaveAttach p).port p).cv.dir = 0 ∧
    ((s.leaveAttach p).port p).cv.evt = (s.port p).cv.evt := by
  unfold State.leaveAttach; dsimp only
  split <;> simp

theorem errorRecovery_cv : ((s.errorRecovery p).port p).cv.dir = 0 ∧
    ((s.errorRecovery p).port p).cv.evt = (s.port p).cv.evt := by
  obtain ⟨dir, evt⟩ := leaveAttach_cv s p
  simp [State.errorRecovery, dir, evt]

end

/-! ## The clock (R273, R274) -/

theorem exec_syncLock {s : State} {p : PortId} (hd : (s.port p).cv.dir = 1) (h8 : 8 ≤ cfgSyncSrc (s.port p).cfg)
    (hw : s.inSyncWindow (cfgSyncSrc (s.port p).cfg - 8) (cfgFsw (s.port p).cfg) = true) (he : (s.port p).cv.ember = false) :
    exec (.syncLock p) s = .next (s.modCv p fun c => { c with synced := true }) := by
  show execSyncLock p s = _
  simp [execSyncLock, hd, h8, hw, he]

theorem exec_synclost {s : State} {p : PortId} (hd : (s.port p).cv.dir = 1) (hc : cfgSyncSrc (s.port p).cfg ≠ 0)
    (he : (s.port p).cv.ember = false) :
    exec (.synclost p) s = .next ((s.cvEvt p 0).modCv p fun c => { c with synced := false }) := by
  have sourced : (cfgSyncSrc (s.port p).cfg != 0) = true := bne_iff_ne.mpr hc
  show execSynclost p s = _
  simp [execSynclost, hd, sourced, he]

/-! ## PRAIL recovered (R272) -/

/-- A start of the converter begins no recovery. -/
theorem convStart_recover {s : State} {p : PortId} (h : (s.port p).cv.recover = false) (dir : BitVec 2) (code : Nat) :
    ((s.convStart p dir code).port p).cv.recover = false := by
  have region (u : State) : ((u.convRegion p).port p).cv.recover = (u.port p).cv.recover := by
    obtain ⟨r, e⟩ := convRegion_cv u p
    rw [e]
  unfold State.convStart State.formRef; dsimp only
  split
  · simp [h]
  split
  · exact h
  split
  · simp [h]
  · rw [region]
    split <;> simp

/-- A rail at vSafe0V has nothing to recover from when a source prebiases it. -/
theorem prebias_recover {s : State} {p : PortId} (h : (s.port p).cv.recover = false) (hv : (s.port p).tc.prailMv ≤ 5000) :
    ((s.prebias p).port p).cv.recover = false := by
  unfold State.prebias; dsimp only
  split
  · simpa using hv
  · exact convStart_recover h 1 250

theorem retryClose_recover {s : State} {p : PortId} (h : (s.port p).cv.recover = false) (hv : (s.port p).tc.prailMv ≤ 5000) :
    ((s.retryClose p).port p).cv.recover = false := by
  unfold State.retryClose State.applyVbus; dsimp only
  split
  · rw [tryClose_cv]
    split
    · exact prebias_recover h hv
    · exact h
  · rw [tryClose_cv, h]

theorem retryClose_tc (s : State) (p : PortId) : ∃ v, ((s.retryClose p).port p).tc = { (s.port p).tc with vconnOn := v } := by
  unfold State.retryClose
  split
  · exact applyVbus_tc s p
  · exact tryClose_tc s p

/-- A port whose rail has been recovered to vSafe0V. -/
def railRecovered (s : State) (p : PortId) : State :=
  (s.modTc p fun t => { t with prailMv := min t.prailMv 700 }).modCv p fun c => { c with recover := false }

theorem exec_prailRecoveryComplete {s : State} {p : PortId} (hr : s.portReady p = true)
    (hc : (s.port p).cv.recover = true) (hd : (s.port p).cv.dir = 0) :
    exec (.prailRecoveryComplete p) s = .next ((railRecovered s p).retryClose p) := by
  have ready : (railRecovered s p).portReady p = true :=
    (portReady_of (s := s) (t := railRecovered s p) rfl (by simp [railRecovered])).trans hr
  show execPrailRecoveryComplete p s = _
  rw [execPrailRecoveryComplete, hc, hd]
  show Host.Outcome.next ((railRecovered s p).when ((railRecovered s p).portReady p) fun s => s.retryClose p) = _
  rw [ready, State.when_true]

theorem prailRecoveryComplete_ends {s : State} {p : PortId} (hr : s.portReady p = true)
    (hc : (s.port p).cv.recover = true) (hd : (s.port p).cv.dir = 0) :
    Yields (.prailRecoveryComplete p) s fun t =>
      (t.port p).cv.recover = false ∧ (t.port p).tc.prailMv ≤ 700 ∧ PortOnly p s t := by
  obtain ⟨v, tc⟩ := retryClose_tc (railRecovered s p) p
  have low : ((railRecovered s p).port p).tc.prailMv ≤ 700 := by simp [railRecovered]
  exact ⟨_, exec_prailRecoveryComplete hr hc hd, retryClose_recover (by simp [railRecovered]) (by omega), by rw [tc]; exact low,
    portOnly_retryClose (portOnly_modCv (portOnly_modTc (portOnly_refl p s) _) _)⟩

/-! ## A level of VBUS (R229, R506) -/

theorem portOnly_openSwitch {p : PortId} {s a : State} (h : PortOnly p s a) : PortOnly p s (a.openSwitch p) := by
  unfold State.openSwitch State.convIdle State.takeFreq State.vconnOff; dsimp only
  exact portOnly_modCv (portOnly_modTc (portOnly_modPort (portOnly_modCv (portOnly_ite (portOnly_modSw h _) h) _) _) _) _

/-- The port with the level that its monitors read, and what follows of it in the rail, the disagreement, the converter and PD. -/
def vbusRead (s : State) (p : PortId) (mv : Nat) : State :=
  let x := s.port p
  let s := s.modTc p fun t => { t with vbusMv := mv, prailMv := if x.sw.st == .closed then (mv + x.railDrop).toNat else t.prailMv }
  let s := s.modSw p fun w => { w with
    monDis := w.monDis && !s.monitorsOn p, ovBase := if x.snkAtt && x.inWindow mv then 0 else w.ovBase }
  let s := (s.modCv p fun c => if c.diode && mv < 5000 then { c with diode := false, atTarget := false } else c).convRegion p
  s.modPd p fun d => { d with
    sinkSlew := d.sinkSlew || (x.snkAtt && d.slewSeen mv), hr := if d.hr.isSink && mv < 4000 then .sink true else d.hr }

/-- The same, where a sink's soft-start has lost its VBUS. -/
def vbusTaken (s : State) (p : PortId) (mv : Nat) : State :=
  (vbusRead s p mv).when ((s.port p).sw.st == .softstart && (s.port p).sw.sinkDir && mv < 4000) fun s => s.openSwitch p

theorem monitorsOn_run {s t : State} (h : t.sys = s.sys) (hp : s.sys.pwr = .run) (p : PortId) :
    t.monitorsOn p = s.monitorsOn p := by
  simp [State.monitorsOn, State.monitorMode, State.groupOn, h, hp]

theorem portOnly_vbusTaken (s : State) (p : PortId) (mv : Nat) : PortOnly p s (vbusTaken s p mv) := by
  have read : PortOnly p s (vbusRead s p mv) := by
    unfold vbusRead
    exact portOnly_modPd (portOnly_convRegion (portOnly_modCv (portOnly_modSw (portOnly_modTc (portOnly_refl p s) _) _) _)) _
  exact portOnly_when read (portOnly_openSwitch read)

section
variable (s : State) (p : PortId) (mv : Nat)

theorem vbusTaken_tc : ((vbusTaken s p mv).port p).tc.vbusMv = mv ∧
    ((vbusTaken s p mv).port p).tc.leaving = (s.port p).tc.leaving ∧
    ((vbusTaken s p mv).port p).tc.ccHeld = (s.port p).tc.ccHeld := by
  unfold vbusTaken State.when
  split <;> simp [vbusRead]

/-- While the monitors are powered the level they read alike is no disagreement. -/
theorem vbusTaken_monDis {s : State} {p : PortId} (hp : s.sys.pwr = .run) (hm : s.monitorsOn p = true) :
    ((vbusTaken s p mv).port p).sw.monDis = false := by
  have on (f : TcPort → TcPort) : (s.modTc p f).monitorsOn p = true :=
    (monitorsOn_run (s := s) (t := s.modTc p f) rfl hp p).trans hm
  have read : ((vbusRead s p mv).port p).sw.monDis = false := by simp [vbusRead, on]
  unfold vbusTaken State.when
  split
  · obtain ⟨-, -, dis, -⟩ : _ ∧ _ ∧ _ ∧ _ := by
      simpa only [swMarks, Prod.mk.injEq] using openSwitch_marks (vbusRead s p mv) p
    rw [dis, read]
  · exact read

end

/-- A port that neither leaves an attach nor holds one back only tries to close. -/
theorem exec_vbusLevelChange {s : State} {p : PortId} (mv : Nat) (hl : (s.port p).tc.leaving = false)
    (hc : (s.port p).tc.ccHeld = false) :
    ∃ c, exec (.vbusLevelChange p mv) s = .next ((vbusTaken s p mv).when c fun s => s.tryClose p) := by
  obtain ⟨-, leaving, held⟩ := vbusTaken_tc s p mv
  have stays : (vbusTaken s p mv).finishLeaving p = vbusTaken s p mv := by simp [State.finishLeaving, leaving, hl]
  have follows (c : Bool) : ((vbusTaken s p mv).when c fun s =>
      let s := s.finishLeaving p
      if (s.port p).tc.ccHeld && 4000 ≤ mv then s.sinkDebounced p else s.tryClose p) =
      (vbusTaken s p mv).when c fun s => s.tryClose p := by
    cases c
    · rfl
    · simp [stays, held, hc]
  exact ⟨_, congrArg Host.Outcome.next (follows _)⟩

theorem vbusLevelChange_read {s : State} {p : PortId} (mv : Nat) (hp : s.sys.pwr = .run) (hm : s.monitorsOn p = true)
    (hl : (s.port p).tc.leaving = false) (hc : (s.port p).tc.ccHeld = false) :
    Yields (.vbusLevelChange p mv) s fun t =>
      (t.port p).tc.vbusMv = mv ∧ (t.port p).sw.monDis = false ∧ PortOnly p s t := by
  obtain ⟨level, -, -⟩ := vbusTaken_tc s p mv
  have agree := vbusTaken_monDis mv hp hm
  have frame := portOnly_vbusTaken s p mv
  obtain ⟨c, run⟩ := exec_vbusLevelChange mv hl hc
  refine ⟨_, run, ?_⟩
  cases c
  · exact ⟨level, agree, frame⟩
  · obtain ⟨v, tc⟩ := tryClose_tc (vbusTaken s p mv) p
    obtain ⟨st, dir, prof, n, r, sw⟩ := tryClose_sw (vbusTaken s p mv) p
    exact ⟨by rw [State.when_true, tc]; exact level, by rw [State.when_true, sw]; exact agree, portOnly_tryClose frame⟩

/-! ## The local bus (R279, R282) -/

theorem formStart_refBus (s : State) (p : PortId) (code : Nat) : ((formStart s p code).port p).cv.refBus = true := by
  unfold formStart
  generalize s.modCv p _ = u
  obtain ⟨r, cv⟩ := convRegion_cv (u.formRef p) p
  rw [cv, State.formRef, State.port_modCv_self]

theorem exec_formingDwell {s : State} {p : PortId} (hr : s.portReady p = true) (hb : s.sys.hbisoLow = true)
    (hf : s.mayForm p = true) (hj : s.ledger.joining = false) (hs : (s.port p).sw.st = .closed)
    (hk : (s.port p).sw.sinkDir = true) (hd : (s.port p).cv.dir = 0) (ho : s.paramOk p = true) (ha : s.armed p = true) :
    exec (.formingDwell p) s = .next ((formStart s p (s.ledger.vform * 50)).setIlim p) := by
  have starts : s.convStart p 3#2 (s.ledger.vform * 50) = formStart s p (s.ledger.vform * 50) := convStart_forming _ ho ha
  show execFormingDwell p s = _
  simp [execFormingDwell, hr, hb, hf, hj, hs, hk, hd, starts]

theorem formingDwell_forms {s : State} {p : PortId} (hr : s.portReady p = true) (hb : s.sys.hbisoLow = true)
    (hf : s.mayForm p = true) (hj : s.ledger.joining = false) (hs : (s.port p).sw.st = .closed)
    (hk : (s.port p).sw.sinkDir = true) (hd : (s.port p).cv.dir = 0) (ho : s.paramOk p = true) (ha : s.armed p = true) :
    Yields (.formingDwell p) s fun t =>
      (t.port p).cv.dir = 3 ∧ (t.port p).cv.vref = s.ledger.vform * 50 ∧ (t.port p).cv.refBus = true ∧ PortOnly p s t := by
  obtain ⟨dir, vref⟩ := formStart_cv s p (s.ledger.vform * 50)
  have bus := formStart_refBus s p (s.ledger.vform * 50)
  exact ⟨_, exec_formingDwell hr hb hf hj hs hk hd ho ha, by simp [State.setIlim, dir], by simp [State.setIlim, vref],
    by simp [State.setIlim, bus], portOnly_setIlim (portOnly_formStart (portOnly_refl p s) _)⟩

theorem exec_formfail {s : State} {p : PortId} (hd : (s.port p).cv.dir = 3) (ha : (s.port p).cv.atTarget = false) :
    exec (.formfail p) s = .next (s.cvEvt p 6) := by
  show execFormfail p s = _
  simp [execFormfail, hd, ha]

/-- The local bus has joined the house bus, before the change of the flags that follows. -/
def busJoined (s : State) : State :=
  { s with sys.hbisoLow := false, ledger.joining := false, ledger.islChg := s.ledger.islChg || s.sys.hbisoLow }

theorem exec_joinRelease {s : State} (hj : s.ledger.joining = true) :
    exec .joinRelease s = .next ((busJoined s).flagChange s.unconstrained) := by
  show execJoinRelease s = _
  rw [execJoinRelease, hj, State.when_true]
  rfl

theorem joinRelease_releases {s : State} (hj : s.ledger.joining = true) (hb : s.sys.hbisoLow = true) :
    Yields .joinRelease s fun t =>
      t.sys.hbisoLow = false ∧ t.ledger.joining = false ∧ t.ledger.islChg = true ∧ t.fuse = s.fuse ∧ t.sbox = s.sbox := by
  have told := engines_flagChange (busJoined s) s.unconstrained
  refine ⟨_, exec_joinRelease hj, ?_⟩
  rw [told]
  exact ⟨rfl, rfl, by simp [busJoined, hb], rfl, rfl⟩

/-! ## The statement -/

/-- Settles O7: each clause is what is said above of its event. -/
theorem converterAndLocalBusEvents : Obligations.ConverterAndLocalBusEvents := by
  unfold Obligations.ConverterAndLocalBusEvents
  refine ⟨?_, ?_, ?_, ?_, ?_, ?_, ?_, ?_, ?_, ?_, ?_⟩
  · intro s p ma _ _ hd hw hx he hs hc
    exact atTarget_sets_prail ma hd hw hx he hs hc
  · intro s p _ _ hd hi
    exact ⟨_, exec_ilimhit_begins hd hi, by simp, by simp, portOnly_modCv (portOnly_cvEvt (portOnly_refl p s) _) _⟩
  · intro s p _ _ hd
    exact ⟨_, exec_ilimhit_ends hd, by simp, by simp, portOnly_modCv (portOnly_refl p s) _⟩
  · intro s p hr _ hd
    obtain ⟨dir, evt⟩ := errorRecovery_cv (s.cvEvt p 7) p
    exact ⟨_, exec_pklim hr hd, errorRecovery_state _ p, dir, by rw [evt, State.port_cvEvt_self],
      engine_errorRecovery (engine_cvEvt (engine_refl p s) _)⟩
  · intro s p _ _ hd h8 hw he
    exact ⟨_, exec_syncLock hd h8 hw he, by simp, by simp, portOnly_modCv (portOnly_refl p s) _⟩
  · intro s p _ _ hd hc he
    exact ⟨_, exec_synclost hd hc he, by simp, by simp, portOnly_modCv (portOnly_cvEvt (portOnly_refl p s) _) _⟩
  · intro s p hr _ hc hd
    exact prailRecoveryComplete_ends hr hc hd
  · intro s p mv _ hp hm hl hc
    exact vbusLevelChange_read mv hp hm hl hc
  · intro s p hr _ hb hf hj hs hk hd ho ha
    exact formingDwell_forms hr hb hf hj hs hk hd ho ha
  · intro s p _ _ hd ha
    exact ⟨_, exec_formfail hd ha, by simp, by simp [hd], portOnly_cvEvt (portOnly_refl p s) _⟩
  · intro s _ _ _ hj hb
    exact joinRelease_releases hj hb

end Sys2Proof.Proofs
end

section
/-!
SUPPORT. A level of VHB as the converters read it, the stop of every converter above VHB's range, the restart of those that were
stopped, and the end of the ride-through; with them O25 is settled.
-/
namespace Sys2Proof.Proofs

open Sys2Proof.Machine Sys2Proof.Safety Sys2Proof.Laws

/-! ## VHB reads a level (R256, R267) -/

/-- One converter's answer to a level of VHB. -/
def readOne (s : State) (p : PortId) : State :=
  (s.convRegion p).when (((s.convRegion p).port p).cv.dir = 3) fun s => s.modCv p fun c => { c with atTarget := s.atVform }

theorem vhbRead_eq (s : State) (mv : Nat) : s.vhbRead mv = ({ s with sup.vhbMv := mv } : State).eachPort readOne := rfl

theorem engine_readOne (s : State) (p : PortId) : EngineOnly p s (readOne s p) :=
  engine_when (engine_convRegion (engine_refl p s)) (engine_modCv (engine_convRegion (engine_refl p s)) _)

theorem engines_vhbRead (s : State) (mv : Nat) : EnginesOnly { s with sup.vhbMv := mv } (s.vhbRead mv) :=
  engines_eachPort engine_readOne _

/-- A level of VHB changes the region and the report of a converter alone. -/
theorem readOne_cv (s : State) (p : PortId) :
    ∃ r a, ((readOne s p).port p).cv = { (s.port p).cv with region := r, atTarget := a } := by
  obtain ⟨r, e⟩ := convRegion_cv s p
  unfold readOne State.when
  split
  · exact ⟨r, _, by rw [State.port_modCv_self, e]⟩
  · exact ⟨r, (s.port p).cv.atTarget, e⟩

theorem vhbRead_cv (s : State) (mv : Nat) (p : PortId) :
    ∃ r a, ((s.vhbRead mv).port p).cv = { (s.port p).cv with region := r, atTarget := a } := by
  obtain ⟨u, same, -, e⟩ := eachPort_port engine_readOne { s with sup.vhbMv := mv } p
  obtain ⟨r, a, read⟩ := readOne_cv u p
  exact ⟨r, a, by rw [vhbRead_eq, e, read, same]; rfl⟩

/-- An idle converter has no region, and reports no target, to bring up to date. -/
theorem readOne_idle {s : State} {p : PortId} (h : (s.port p).cv.dir = 0) : readOne s p = s := by
  have kept : s.convRegion p = s := by simp [State.convRegion, h]
  simp [readOne, kept, h]

theorem vhbRead_port_idle {s : State} {p : PortId} (mv : Nat) (h : (s.port p).cv.dir = 0) :
    (s.vhbRead mv).port p = s.port p := by
  obtain ⟨u, same, -, e⟩ := eachPort_port engine_readOne { s with sup.vhbMv := mv } p
  have here : u.port p = s.port p := same
  rw [vhbRead_eq, e, readOne_idle (by rw [here, h]), here]

/-! ## The Unconstrained Power flag and the converter -/

/-- One source's answer to a change of the Unconstrained Power flag. -/
def toldOne (s : State) (p : PortId) : State :=
  s.when ((s.port p).sw.st == .closed && (s.port p).pdSrc && !(s.port p).pd.offered.isEmpty) fun u =>
    (u.when ((s.port p).pd.hasContract && (s.port p).pd.rev3) fun u => u.trigger p .alertInput).trigger p .negotiation

theorem flagChange_eq (s : State) (was : Bool) :
    s.flagChange was = if s.unconstrained == was then s else s.eachPort toldOne := rfl

theorem engine_toldOne (s : State) (p : PortId) : EngineOnly p s (toldOne s p) :=
  engine_when (engine_refl p s) (engine_trigger (engine_when (engine_refl p s) (engine_trigger (engine_refl p s) _)) _)

theorem toldOne_cv (s : State) (p : PortId) : ((toldOne s p).port p).cv = (s.port p).cv := by
  unfold toldOne State.when State.trigger
  split
  · split <;> simp
  · rfl

/-- What the sources then send is no affair of the converters. -/
theorem flagChange_cv (s : State) (was : Bool) (p : PortId) : ((s.flagChange was).port p).cv = (s.port p).cv := by
  rw [flagChange_eq]
  split
  · rfl
  · obtain ⟨u, same, -, e⟩ := eachPort_port engine_toldOne s p
    rw [e, toldOne_cv, same]

/-! ## Every converter stops (R275) -/

theorem engine_vhbStopOne (s : State) (p : PortId) : EngineOnly p s (s.vhbStopOne p) := by
  unfold State.vhbStopOne; dsimp only
  have stops (f : CvPort → CvPort) := engine_takeFreq (engine_cvEvt (engine_modCv (engine_refl p s) f) 1)
  exact engine_ite (engine_refl p s) (engine_ite (engine_modCv (engine_openSwitch (stops _)) _) (stops _))

theorem vhbStopOne_dir (s : State) (p : PortId) : ((s.vhbStopOne p).port p).cv.dir = 0 := by
  unfold State.vhbStopOne; dsimp only
  split
  · assumption
  · split <;> simp

/-- A converter that fed or was a source's has its direction remembered, and VHBSTOP is set. -/
theorem vhbStopOne_remembers {s : State} {p : PortId} (h0 : (s.port p).cv.dir ≠ 0) (h3 : (s.port p).cv.dir ≠ 3) :
    ((s.vhbStopOne p).port p).cv.stopped = (s.port p).cv.dir ∧
    ((s.vhbStopOne p).port p).cv.evt = setBit (s.port p).cv.evt 1 := by
  unfold State.vhbStopOne; dsimp only
  simp only [if_neg h0, if_neg h3]
  split <;> simp

theorem coreOn_of_run {s : State} (hp : s.sys.pwr = .run) (hl : s.sys.resetLow = false) : s.coreOn = true := by
  rw [State.coreOn, hp, hl]; rfl

theorem vhbOut_above (s : State) : s.vhbOut true = s.eachPort State.vhbStopOne := rfl

@[simp] theorem leftRange_port (s : State) (su : Supply) (bit : Nat) (hi : Bool) (p : PortId) :
    (leftRange s su bit hi).port p = s.port p := by
  rw [leftRange, State.postSupply, postRec_port, setSupply_frame]
  rfl

/-- A supply that leaves its range after the ports have changed is marked and recorded as it would have been before. -/
theorem engines_leftRange {s u : State} (h : EnginesOnly s u) (su : Supply) (bit : Nat) (hi : Bool)
    (hq : s.sbox.queue.length < 32) (hp : s.sys.pwr = .run) : ∃ r, EnginesOnly { s with
      sup := (s.setSupply (supOf hi) su).sup, safety.evt := setBit s.safety.evt bit, sbox.queue := s.sbox.queue ++ [r] }
      (leftRange u su bit hi) := by
  obtain ⟨r, marked⟩ := leftRange_room su bit hi (by rwa [engines_sbox h]) (by rwa [engines_sys h])
  refine ⟨r, ?_⟩
  unfold EnginesOnly at h ⊢
  rw [marked, h]
  cases su <;> rfl

/-- VHB has risen above its range: the level is read, the supply marked, and its record posted. -/
def vhbAbove (s : State) (mv : Nat) : State := leftRange (s.vhbRead mv) .vhb 11 true

theorem engines_vhbAbove {s : State} (mv : Nat) (hq : s.sbox.queue.length < 32) (hp : s.sys.pwr = .run) :
    ∃ r, EnginesOnly { s with
      sup := { s.sup with vhb := .above, vhbMv := mv }, safety.evt := setBit s.safety.evt 11,
      sbox.queue := s.sbox.queue ++ [r] } (vhbAbove s mv) :=
  engines_leftRange (engines_vhbRead s mv) .vhb 11 true hq hp

theorem exec_vhbExcursion_above {s : State} (mv : Nat) (hc : s.coreOn = true) (hok : s.sup.vhb = .ok)
    (h4 : s.safeOn 4 = true) :
    exec (.vhbExcursion true mv) s = .next (((vhbAbove s mv).eachPort State.vhbStopOne).flagChange s.unconstrained) := by
  have read := engines_vhbRead s mv
  have on : (s.vhbRead mv).coreOn = true := by rw [State.coreOn, engines_sys read]; exact hc
  have watched : (s.vhbRead mv).safeOn 4 = true := by rw [State.safeOn, engines_safety read]; exact h4
  have inRange : (s.vhbRead mv).supply .vhb = .ok := by rw [State.supply, engines_sup read]; exact hok
  show execVhbExcursion true mv s = _
  simp only [execVhbExcursion, hc, h4, excursion_acted 11 true _ on watched inRange, Bool.not_true, Bool.false_eq_true,
    if_false, if_true, vhbOut_above, vhbAbove]

theorem vhbExcursion_stops {s : State} {p : PortId} (mv : Nat) (hp : s.sys.pwr = .run) (hl : s.sys.resetLow = false)
    (hok : s.sup.vhb = .ok) (h4 : s.safeOn 4 = true) (hq : s.sbox.queue.length < 32) :
    Yields (.vhbExcursion true mv) s fun t =>
      t.sup.vhb = .above ∧ t.sup.vhbMv = mv ∧ t.safety.evt = setBit s.safety.evt 11 ∧ t.sbox.queue.length =
      s.sbox.queue.length + 1 ∧ (t.port p).cv.dir = 0 ∧ ((s.port p).cv.dir = 1 → (t.port p).cv.stopped = 1 ∧ (t.port
      p).cv.evt = setBit (s.port p).cv.evt 1) ∧ StoresSame s t := by
  obtain ⟨r, above⟩ := engines_vhbAbove mv hq hp
  have fr := engines_trans above (engines_trans (engines_eachPort engine_vhbStopOne _)
    (engines_flagChange _ s.unconstrained))
  obtain ⟨u, same, -, stops⟩ := eachPort_port engine_vhbStopOne (vhbAbove s mv) p
  obtain ⟨g, a, cv⟩ := vhbRead_cv s mv p
  rw [← leftRange_port (s.vhbRead mv) .vhb 11 true, ← vhbAbove, ← same] at cv
  refine ⟨_, exec_vhbExcursion_above mv (coreOn_of_run hp hl) hok h4, ?_, ?_, ?_, ?_, ?_, fun hd => ?_, ?_⟩
  · rw [engines_sup fr]
  · rw [engines_sup fr]
  · rw [engines_safety fr]
  · rw [engines_sbox fr]; exact List.length_append
  · rw [flagChange_cv, stops, vhbStopOne_dir]
  · have forward : (u.port p).cv.dir = 1 := by rw [cv]; exact hd
    obtain ⟨dir, evt⟩ := vhbStopOne_remembers (s := u) (p := p) (by rw [forward]; decide) (by rw [forward]; decide)
    rw [flagChange_cv, stops, dir, evt, forward, cv]
    exact ⟨rfl, rfl⟩
  · exact storesSame_engines (storesSame_of (by rfl) (by rfl) (by rfl)) fr

/-! ## A stopped converter restarts (R275, R276) -/

/-- In RUN what keeps a port's gates from switching is read off VDRV and the links alone (R15, R17). -/
theorem armed_of_engines {s t : State} (p : PortId) (h : EnginesOnly s t) (hp : s.sys.pwr = .run) :
    t.armed p = s.armed p := by
  have past : (s.sys.pwr == .ember) = false := by rw [hp]; rfl
  rw [h]
  simp [State.armed, State.gateOk, State.linkLost, State.vdrv, past]

/-- PARAMOK rests on the fuses and the port's configuration. -/
theorem paramOk_of {s t : State} {p : PortId} (f : t.fuse = s.fuse) (h : t.port p = s.port p) : t.paramOk p = s.paramOk p := by
  simp [State.paramOk, State.lind, State.rshunt, State.custField, State.fuseWord, f, h]

section
variable {s : State} {p : PortId} (hv : s.sup.vhb = .ok) (ha : s.armed p = true) (ho : s.paramOk p = true)
include hv ha ho

/-- With its parameters, its gates and VHB in order a converter other than a forming one starts. -/
theorem convStart_starts {dir : BitVec 2} (h3 : dir ≠ 3) (code : Nat) :
    ((s.convStart p dir code).port p).cv.dir = dir ∧ ((s.convStart p dir code).port p).cv.stopped = 0 := by
  unfold State.convStart
  simp only [ho, ha, hv, h3, Bool.not_true, Bool.false_eq_true, bne_self_eq_false, Bool.false_and, if_false]
  generalize hu : s.modCv p _ = u
  obtain ⟨r, cv⟩ := convRegion_cv u p
  rw [cv, ← hu, State.port_modCv_self]
  exact ⟨rfl, rfl⟩

theorem restartOne_starts (h0 : (s.port p).cv.stopped ≠ 0) (h3 : (s.port p).cv.stopped ≠ 3) :
    ((s.restartOne p).port p).cv.dir = (s.port p).cv.stopped ∧ ((s.restartOne p).port p).cv.stopped = 0 := by
  obtain ⟨dir, stopped⟩ := convStart_starts hv ha ho h3 (s.port p).cv.vref
  unfold State.restartOne State.setIlim; dsimp only
  rw [if_neg h0]
  generalize s.convStart p _ _ = u at dir stopped ⊢
  rw [← dir]
  unfold State.when
  split_ifs <;> simp [stopped]

end

theorem engine_restartOne (s : State) (p : PortId) : EngineOnly p s (s.restartOne p) := by
  unfold State.restartOne; dsimp only
  have starts := engine_convStart (engine_refl p s) (s.port p).cv.stopped (s.port p).cv.vref
  have resumes (c : Bool) (f : CvPort → CvPort) (g : PdPort → PdPort) : EngineOnly p s
      ((s.convStart p (s.port p).cv.stopped (s.port p).cv.vref).when c fun u => (u.modCv p f).modPd p g) :=
    engine_when starts (engine_modPd (engine_modCv starts f) g)
  exact engine_ite (engine_refl p s) (engine_ite (engine_modCv (resumes _ _ _) _)
    (engine_ite (engine_setIlim (resumes _ _ _)) (resumes _ _ _)))

/-! ## VHB is back (R275) -/

/-- A converter's restart at the end of an excursion: above VHB's range one that runs in reverse waits on. -/
def backOne (above : Bool) (s : State) (p : PortId) : State :=
  if above && (s.port p).cv.stopped = 2 then s else s.restartOne p

theorem engine_backOne (above : Bool) (s : State) (p : PortId) : EngineOnly p s (backOne above s p) :=
  engine_ite (engine_refl p s) (engine_restartOne s p)

/-- VHB is in its range again, and its level is read. -/
def vhbInRange (s : State) (mv : Nat) : State := ({ s with sup.vhb := .ok } : State).vhbRead mv

theorem engines_vhbInRange (s : State) (mv : Nat) :
    EnginesOnly { s with sup := { s.sup with vhb := .ok, vhbMv := mv } } (vhbInRange s mv) :=
  engines_vhbRead { s with sup.vhb := .ok } mv

/-- At 60.0 V an overvoltage is over (Table 3.1). -/
theorem exec_vhbReturn_above {s : State} {mv : Nat} (hv : s.sup.vhb = .above) (hlo : 16500 ≤ mv) (hhi : mv ≤ 60000) :
    exec (.vhbReturn mv) s = .next (((vhbInRange s mv).eachPort (backOne true)).flagChange s.unconstrained) := by
  have released : s.vhbReleased mv = true := by simp [State.vhbReleased, hv, hlo, hhi]
  show execVhbReturn mv s = _
  rw [execVhbReturn, released, if_pos rfl, State.vhbBack, hv]
  rfl

theorem vhbReturn_restarts {s : State} {p : PortId} {mv : Nat} (hlo : 16500 ≤ mv) (hhi : mv ≤ 60000)
    (hp : s.sys.pwr = .run) (hv : s.sup.vhb = .above) (hs : (s.port p).cv.stopped = 1) (hd : (s.port p).cv.dir = 0)
    (ha : s.armed p = true) (ho : s.paramOk p = true) :
    Yields (.vhbReturn mv) s fun t =>
      t.sup.vhb = .ok ∧ t.sup.vhbMv = mv ∧ (t.port p).cv.dir = 1 ∧ (t.port p).cv.stopped = 0 ∧ t.sbox = s.sbox ∧
      StoresSame s t := by
  have back := engines_vhbInRange s mv
  have fr := engines_trans back (engines_trans (engines_eachPort (engine_backOne true) _)
    (engines_flagChange _ s.unconstrained))
  obtain ⟨u, same, ue, restarts⟩ := eachPort_port (engine_backOne true) (vhbInRange s mv) p
  have ub := engines_trans back ue
  have here : u.port p = s.port p := same.trans (vhbRead_port_idle (s := { s with sup.vhb := .ok }) mv hd)
  have turn : backOne true u p = u.restartOne p := by simp [backOne, here, hs]
  obtain ⟨dir, stopped⟩ := restartOne_starts (s := u) (p := p) (by rw [engines_sup ub])
    ((armed_of_engines p ub hp).trans ha) ((paramOk_of (by rw [engines_fuse ub]) here).trans ho)
    (by rw [here, hs]; decide) (by rw [here, hs]; decide)
  refine ⟨_, exec_vhbReturn_above hv hlo hhi, ?_, ?_, ?_, ?_, ?_, ?_⟩
  · rw [engines_sup fr]
  · rw [engines_sup fr]
  · rw [flagChange_cv, restarts, turn, dir, here, hs]
  · rw [flagChange_cv, restarts, turn, stopped]
  · rw [engines_sbox fr]
  · exact storesSame_engines (storesSame_of (by rfl) (by rfl) (by rfl)) fr

/-! ## VHB has been at or below 60.0 V for 100 ms (R276) -/

/-- A converter that was stopped in reverse restarts. -/
def reverseOne (s : State) (p : PortId) : State := if (s.port p).cv.stopped = 2 then s.restartOne p else s

theorem engine_reverseOne (s : State) (p : PortId) : EngineOnly p s (reverseOne s p) :=
  engine_ite (engine_restartOne s p) (engine_refl p s)

theorem exec_reverseRestart {s : State} (hv : s.sup.vhb = .ok) : exec .reverseRestart s = .next (s.eachPort reverseOne) := by
  show execReverseRestart s = _
  rw [execReverseRestart, hv]
  rfl

theorem reverseRestart_restarts {s : State} {p : PortId} (hp : s.sys.pwr = .run) (hv : s.sup.vhb = .ok)
    (hs : (s.port p).cv.stopped = 2) (ha : s.armed p = true) (ho : s.paramOk p = true) :
    Yields .reverseRestart s fun t =>
      (t.port p).cv.dir = 2 ∧ (t.port p).cv.stopped = 0 ∧ t.sup = s.sup ∧ t.sbox = s.sbox ∧ StoresSame s t := by
  have fr := engines_eachPort engine_reverseOne s
  obtain ⟨u, here, ue, restarts⟩ := eachPort_port engine_reverseOne s p
  have turn : reverseOne u p = u.restartOne p := by rw [reverseOne, here, if_pos hs]
  obtain ⟨dir, stopped⟩ := restartOne_starts (s := u) (p := p) (by rw [engines_sup ue, hv])
    ((armed_of_engines p ue hp).trans ha) ((paramOk_of (engines_fuse ue) here).trans ho)
    (by rw [here, hs]; decide) (by rw [here, hs]; decide)
  exact ⟨_, exec_reverseRestart hv, by rw [restarts, turn, dir, here, hs], by rw [restarts, turn, stopped],
    engines_sup fr, engines_sbox fr, storesSame_engines (storesSame_of rfl rfl rfl) fr⟩

/-! ## VHB has not come back (R275) -/

/-- A source that is in no Fast Role Swap gives up. -/
def rideOne (s : State) (p : PortId) : State :=
  s.when (s.portReady p && (s.port p).srcAtt && !((s.port p).swap.kind == .fr && (s.port p).swap.engaged)) fun s =>
    (s.cvEvt p 2).errorRecovery p

theorem engine_rideOne (s : State) (p : PortId) : EngineOnly p s (rideOne s p) :=
  engine_when (engine_refl p s) (engine_errorRecovery (engine_cvEvt (engine_refl p s) 2))

theorem rideOne_recovers {s : State} {p : PortId} (hr : s.portReady p = true) (hs : (s.port p).tc.state = .attachedSrc)
    (hw : (s.port p).swap.stage = .none) : rideOne s p = (s.cvEvt p 2).errorRecovery p := by
  have source : (s.port p).srcAtt = true := by rw [Port.srcAtt, hs]; rfl
  have noSwap : (s.port p).swap.engaged = false := by simp [SwapPort.engaged, hw]
  rw [rideOne, hr, source, noSwap, Bool.and_false]
  rfl

theorem exec_ridefail {s : State} (hc : s.coreOn = true) (hv : s.sup.vhb ≠ .ok) :
    exec .ridefail s = .next (s.eachPort rideOne) := by
  have out : (s.sup.vhb != .ok) = true := bne_iff_ne.mpr hv
  show execRidefail s = _
  rw [execRidefail, out, hc]
  rfl

theorem ridefail_recovers {s : State} {p : PortId} (hc : s.coreOn = true) (hv : s.sup.vhb ≠ .ok)
    (hr : s.portReady p = true) (hs : (s.port p).tc.state = .attachedSrc) (hw : (s.port p).swap.stage = .none) :
    Yields .ridefail s fun t =>
      (t.port p).tc.state = .errorRecovery ∧ (t.port p).cv.dir = 0 ∧ t.sup = s.sup ∧ StoresSame s t := by
  have fr := engines_eachPort engine_rideOne s
  obtain ⟨u, here, ue, turn⟩ := eachPort_port engine_rideOne s p
  have ready : u.portReady p = true := (portReady_of (engines_fuse ue) (by rw [here])).trans hr
  have gives := rideOne_recovers ready (by rw [here, hs]) (by rw [here, hw])
  exact ⟨_, exec_ridefail hc hv, by rw [turn, gives, errorRecovery_state], by rw [turn, gives, (errorRecovery_cv _ p).1],
    engines_sup fr, storesSame_engines (storesSame_of rfl rfl rfl) fr⟩

/-! ## The statement -/

/-- Settles O25: each clause is what is said above of its event. -/
theorem houseBusExcursions : Obligations.HouseBusExcursions := by
  unfold Obligations.HouseBusExcursions
  refine ⟨?_, ?_, ?_, ?_⟩
  · intro s p hp hl hok h4 hq _
    exact vhbExcursion_stops 63000 hp hl hok h4 hq
  · intro s p hp _ hv hs hd ha ho
    exact vhbReturn_restarts (by decide) (by decide) hp hv hs hd ha ho
  · intro s p hp _ hv hs _ ha ho
    exact reverseRestart_restarts hp hv hs ha ho
  · intro s p hp hl hv hr hs hw
    exact ridefail_recovers (coreOn_of_run hp hl) (by rw [hv]; decide) hr hs hw

end Sys2Proof.Proofs
end

section
/-!
SUPPORT. A node's place on the ring: what following a master, dropping nodes and withdrawing their loans change, and what they leave
alone; with them O37 is settled.
-/
namespace Sys2Proof.Proofs

open Sys2Proof.Machine Sys2Proof.Safety Sys2Proof.Laws

/-! ## The master followed (R357, R367) -/

theorem setMaster_frame (s : State) (n : Node) :
    s.setMaster n = { s with ring := { s.ring with master := n, evt := (s.setMaster n).ring.evt } } := by
  unfold State.setMaster
  split
  · next same => rw [← beq_iff_eq.mp same]
  · rfl

@[simp] theorem setMaster_master (s : State) (n : Node) : (s.setMaster n).ring.master = n := by rw [setMaster_frame]
@[simp] theorem setMaster_node (s : State) (n : Node) : (s.setMaster n).ring.node = s.ring.node := by rw [setMaster_frame]
@[simp] theorem setMaster_link (s : State) (n : Node) : (s.setMaster n).ring.link = s.ring.link := by rw [setMaster_frame]
@[simp] theorem setMaster_peers (s : State) (n : Node) : (s.setMaster n).ring.peers = s.ring.peers := by rw [setMaster_frame]
@[simp] theorem setMaster_joinDue (s : State) (n : Node) : (s.setMaster n).ring.joinDue = s.ring.joinDue := by
  rw [setMaster_frame]
@[simp] theorem setMaster_ringDown (s : State) (n : Node) : (s.setMaster n).ring.ringDown = s.ring.ringDown := by
  rw [setMaster_frame]
@[simp] theorem setMaster_ports (s : State) (n : Node) : (s.setMaster n).ports = s.ports := by rw [setMaster_frame]

/-- An event set before MASTERCHG is still set after it (R10). -/
theorem setMaster_keeps_evt {s : State} {i : Nat} (n : Node) (h : s.ring.evt.getLsbD i = true) :
    (s.setMaster n).ring.evt.getLsbD i = true := by
  unfold State.setMaster
  split
  · exact h
  · simp [State.rgEvt, setBit, h]

/-! ## Settings that awaited a join (Table 1.7) -/

/-- They are ENABLE, the node number and RCYC. -/
theorem ringTake_frame (s : State) : s.ringTake = { s with ring := { s.ring with
    enable := s.ringTake.ring.enable, node := s.ringTake.ring.node, rcyc := s.ringTake.ring.rcyc,
    pend := s.ringTake.ring.pend } } := by
  unfold State.ringTake
  split <;> rfl

@[simp] theorem ringTake_link (s : State) : s.ringTake.ring.link = s.ring.link := by rw [ringTake_frame]
@[simp] theorem ringTake_peers (s : State) : s.ringTake.ring.peers = s.ring.peers := by rw [ringTake_frame]
@[simp] theorem ringTake_ports (s : State) : s.ringTake.ports = s.ports := by rw [ringTake_frame]

/-! ## Nodes dropped (R365, R366) -/

/-- Nothing but the nodes present, their panel information, the lost ones with loans, RINGEVT and the counters has changed. -/
def NodesOnly (s t : State) : Prop :=
  t = { s with
    ring := { s.ring with
      peers := t.ring.peers, infos := t.ring.infos, lostNodes := t.ring.lostNodes, evt := t.ring.evt }
    perf := t.perf }

theorem nodes_refl (s : State) : NodesOnly s s := rfl

theorem nodes_trans {s t u : State} (h : NodesOnly s t) (k : NodesOnly t u) : NodesOnly s u := by
  unfold NodesOnly at *; rw [k, h]

theorem nodes_dropNode (s : State) (n : Node) : NodesOnly s (s.dropNode n) := by
  unfold State.dropNode State.nodeGone
  split
  · rw [count_eq]; rfl
  · rfl

theorem nodes_foldl_dropNode : ∀ (l : List Peer) (s : State), NodesOnly s (l.foldl (fun s q => s.dropNode q.node) s)
  | [], s => nodes_refl s
  | q :: l, s => nodes_trans (nodes_dropNode s q.node) (nodes_foldl_dropNode l (s.dropNode q.node))

theorem nodes_dropAll (s : State) : NodesOnly s s.dropAll := nodes_foldl_dropNode _ _

@[simp] theorem dropAll_node (s : State) : s.dropAll.ring.node = s.ring.node := by rw [nodes_dropAll s]
@[simp] theorem dropAll_link (s : State) : s.dropAll.ring.link = s.ring.link := by rw [nodes_dropAll s]
@[simp] theorem dropAll_master (s : State) : s.dropAll.ring.master = s.ring.master := by rw [nodes_dropAll s]
@[simp] theorem dropAll_ports (s : State) : s.dropAll.ports = s.ports := by rw [nodes_dropAll s]

/-- A dropped node is present no more, and the others stay. -/
theorem dropNode_peers (s : State) (n : Node) :
    (s.dropNode n).ring.peers = s.ring.peers.filter fun q => q.node != n := by
  unfold State.dropNode State.nodeGone
  cases h : s.ring.present n
  · have absent : ∀ q ∈ s.ring.peers, (q.node != n) = true := by simpa [Ring.present] using h
    exact (List.filter_eq_self.mpr absent).symm
  · simp [State.rgEvt, Ring.forget]

theorem mem_foldl_dropNode_peers (x : Peer) : ∀ (l : List Peer) (s : State),
    x ∈ (l.foldl (fun s q => s.dropNode q.node) s).ring.peers ↔ x ∈ s.ring.peers ∧ ∀ q ∈ l, x.node ≠ q.node
  | [], s => by simp
  | q :: l, s => by
    rw [List.foldl_cons, mem_foldl_dropNode_peers x l, dropNode_peers]
    simp [and_assoc]

@[simp] theorem dropAll_peers (s : State) : s.dropAll.ring.peers = [] := by
  refine List.eq_nil_iff_forall_not_mem.mpr fun x hx => ?_
  obtain ⟨present, others⟩ := (mem_foldl_dropNode_peers x _ _).mp hx
  exact others x present rfl

/-- A present node that is dropped is forgotten, which sets NODELOST (R365). -/
theorem dropNode_ring {s : State} {n : Node} (h : s.ring.present n = true) :
    (s.dropNode n).ring = { s.ring.forget n with evt := setBit s.ring.evt 3 } := by
  simp [State.dropNode, State.nodeGone, h, State.rgEvt, Ring.forget]

/-- Where a forgotten node has loans they are to be withdrawn (R327). -/
theorem forget_lostNodes {r : Ring} {n : Node} (h : r.deals n = true) : (r.forget n).lostNodes.contains n = true := by
  cases c : r.lostNodes.contains n <;> simp_all [Ring.forget]

/-! ## Synchronisation (R338) -/

theorem exec_syncAcquired {s : State} (east : Bool) (h : s.ringHears = true) : exec (.syncAcquired east) s =
    .next (if east then { s with ring.esync := true } else { s with ring.wsync := true }) := by
  show execSyncAcquired east s = _
  rw [execSyncAcquired, h, State.when_true]

theorem exec_syncLoss (s : State) (east : Bool) : exec (.syncLoss east) s =
    .next ((if east then { s with ring.esync := false } else { s with ring.wsync := false }).count 33 0x06 1) := rfl

theorem syncLoss_shown (s : State) (east : Bool) :
    Yields (.syncLoss east) s fun t =>
      t = { (if east then { s with ring.esync := false } else { s with ring.wsync := false } : State) with perf := t.perf } :=
  ⟨_, exec_syncLoss s east, count_eq _ _ _ _⟩

/-! ## Joining (R354) -/

theorem exec_ringJoin {s : State} (hi : s.sys.interp = true) (hl : s.ring.link = 1) (ho : s.ring.isOpen = false)
    (hn : s.ring.node ≠ 0) (hw : s.ring.wsync = true) (hc : s.ring.clean = 3) (hp : s.ring.present s.ring.node = false) :
    exec .ringJoin s = .next { s.ringTake with ring.joinDue := true } := by
  have asks : (s.sys.interp && s.ring.link = 1 && !s.ring.isOpen && s.ring.node != 0 && s.ring.wsync && s.ring.clean == 3 &&
      !s.ring.present s.ring.node) = true := by
    simpa [hi, hl, ho, hw, hc, hp] using hn
  show execRingJoin s = _
  rw [execRingJoin, asks, State.when_true]

theorem ringJoin_goes_on {s : State} (hi : s.sys.interp = true) (hl : s.ring.link = 1) (ho : s.ring.isOpen = false)
    (hn : s.ring.node ≠ 0) (hw : s.ring.wsync = true) (hc : s.ring.clean = 3) (hp : s.ring.present s.ring.node = false) :
    Yields .ringJoin s fun t => t.ring.joinDue = true ∧ t.ring.link = 1 ∧ t = { s with ring := t.ring } :=
  ⟨_, exec_ringJoin hi hl ho hn hw hc hp, rfl, (ringTake_link s).trans hl, by rw [ringTake_frame]⟩

/-- The node that has heard no CYCLE, with the settings that awaited a join, before it counts itself as MASTER. -/
def alone (s : State) : State := { s with ring := { s.ring with
  upRun := 0, clean := 0, ownCyc := false, link := 3, peers := [], trainOut := false, handover := 0 } }

theorem exec_masterOfRingOfOne {s : State} (hi : s.sys.interp = true) (hl : s.ring.link = 1) (ho : s.ring.isOpen = false)
    (hn : s.ring.node ≠ 0) :
    exec .masterOfRingOfOne s = .next ((alone s.ringTake).setMaster s.ringTake.ring.node) := by
  have waits : (s.sys.interp && s.ring.link = 1 && !s.ring.isOpen && s.ring.node != 0) = true := by
    simpa [hi, hl, ho] using hn
  show execMasterOfRingOfOne s = _
  rw [execMasterOfRingOfOne, waits, State.when_true, alone]

theorem masterOfRingOfOne_is_master {s : State} (hi : s.sys.interp = true) (hl : s.ring.link = 1)
    (ho : s.ring.isOpen = false) (hn : s.ring.node ≠ 0) :
    Yields .masterOfRingOfOne s fun t =>
      t.ring.link = 3 ∧ t.ring.master = t.ring.node ∧ t.ring.peers = [] ∧ t = { s with ring := t.ring } :=
  ⟨_, exec_masterOfRingOfOne hi hl ho hn, by simp [alone], by simp [alone], by simp [alone],
    by rw [setMaster_frame, alone, ringTake_frame]⟩

/-! ## A node lost (R327, R365) -/

theorem exec_nodelost {s : State} (n : Node) (h : s.ring.link = 2) : exec (.nodelost n) s = .next (s.dropNode n) := by
  show execNodelost n s = _
  simp [execNodelost, h]

theorem nodelost_drops {s : State} {n : Node} (hl : s.ring.link = 2) (hp : s.ring.present n = true) :
    Yields (.nodelost n) s fun t =>
      t.ring.present n = false ∧ t.ring.evt = setBit s.ring.evt 3 ∧
      (s.ring.deals n = true → t.ring.lostNodes.contains n = true) ∧ t = { s with ring := t.ring, perf := t.perf } := by
  refine ⟨_, exec_nodelost n hl, ?_, by rw [dropNode_ring hp], fun deals => ?_, by rw [nodes_dropNode s n]⟩
  · simp [Ring.present, dropNode_peers]
  · rw [dropNode_ring hp]
    exact forget_lostNodes deals

/-! ## Loans on the books (R324, R327) -/

/-- Booking the loans changes the Ledger's sums and its events alone. -/
theorem bookLoans_frame (s : State) : s.bookLoans = { s with ledger := { s.ledger with
    evt := s.bookLoans.ledger.evt, borrowed := sumLoans s.ring.borrowedFrom,
    uncounted := min s.ledger.uncounted (sumLoans s.ring.borrowedFrom),
    lent := sumLoans s.ring.lentTo + sumLoans s.ring.offers } } := by
  simp only [State.bookLoans]
  split <;> split <;> rfl

@[simp] theorem bookLoans_ring (s : State) : s.bookLoans.ring = s.ring := by rw [bookLoans_frame]
@[simp] theorem bookLoans_sbox (s : State) : s.bookLoans.sbox = s.sbox := by rw [bookLoans_frame]
@[simp] theorem bookLoans_ports (s : State) : s.bookLoans.ports = s.ports := by rw [bookLoans_frame]
@[simp] theorem bookLoans_borrowed (s : State) : s.bookLoans.ledger.borrowed = sumLoans s.ring.borrowedFrom := by
  rw [bookLoans_frame]
@[simp] theorem bookLoans_lent (s : State) :
    s.bookLoans.ledger.lent = sumLoans s.ring.lentTo + sumLoans s.ring.offers := by rw [bookLoans_frame]

/-- A balance with a node of which no loan is left is 0. -/
theorem loanOf_filter_ne (l : List Loan) (n : Node) : loanOf (l.filter fun x => x.node != n) n = 0 := by
  have gone : (l.filter fun x => x.node != n).find? (fun x => x.node == n) = none := by simp
  rw [loanOf, gone]
  rfl

/-- A balance set to a value reads as it. -/
theorem loanOf_setLoan (l : List Loan) (n : Node) (c : Nat) : loanOf (setLoan l n c) n = c := by
  unfold setLoan
  split
  · next listed =>
    induction l with
    | nil => simp at listed
    | cons x l ih =>
      by_cases h : x.node = n
      · simp [loanOf, h]
      · have rest : (l.any fun x => x.node == n) = true := by simpa [h] using listed
        simpa [loanOf, h] using ih rest
  · simp [loanOf]

/-- Every loan, offer and recall with a node is struck off (R327). -/
def struck (r : Ring) (n : Node) : Ring := { r with
  lostNodes := r.lostNodes.filter (· != n), lentTo := r.lentTo.filter fun l => l.node != n,
  borrowedFrom := r.borrowedFrom.filter fun l => l.node != n, offers := r.offers.filter fun o => o.node != n,
  recalls := r.recalls.filter fun l => l.node != n, lentDue := r.lentDue.filter fun l => l.node != n,
  differ := r.differ.filter fun x => x.1 != n, toAck := r.toAck.filter fun l => l.node != n }

/-- The books without the node's loans, the shrink's reason, and the event of the withdrawal. -/
def withdrawn (s : State) (n : Node) : State :=
  let t := { s with ring := struck s.ring n }.bookLoans
  { t with ledger.shrinkRsn := if loanOf s.ring.borrowedFrom n == 0 then t.ledger.shrinkRsn else 6 }.lgEvt 4

@[simp] theorem withdrawn_ring (s : State) (n : Node) : (withdrawn s n).ring = struck s.ring n := by
  simp [withdrawn, State.lgEvt]

@[simp] theorem withdrawn_sbox (s : State) (n : Node) : (withdrawn s n).sbox = s.sbox := by simp [withdrawn, State.lgEvt]
@[simp] theorem withdrawn_ports (s : State) (n : Node) : (withdrawn s n).ports = s.ports := by simp [withdrawn, State.lgEvt]

@[simp] theorem withdrawn_borrowed (s : State) (n : Node) :
    (withdrawn s n).ledger.borrowed = sumLoans (struck s.ring n).borrowedFrom := by simp [withdrawn, State.lgEvt]

theorem withdrawn_evt (s : State) (n : Node) : (withdrawn s n).ledger.evt.getLsbD 4 = true :=
  getLsbD_setBit _ (by decide)

theorem exec_loanWithdraw {s : State} {n : Node} (hn : s.ring.lostNodes.contains n = true)
    (hl : loanOf s.ring.lentTo n ≠ 0) :
    ∃ b, exec (.loanWithdraw n) s = .next ((withdrawn s n).postRec 0x09 b) := by
  have dealt : (loanOf s.ring.lentTo n + sumLoans (s.ring.offers.filter fun o => o.node == n) +
      loanOf s.ring.borrowedFrom n != 0) = true := by rw [bne_iff_ne]; omega
  refine ⟨[n] ++ leBytes 2 (loanOf s.ring.lentTo n + sumLoans (s.ring.offers.filter fun o => o.node == n)) ++
    leBytes 2 (loanOf s.ring.borrowedFrom n) ++ [byteOf (withdrawn s n).trimCount 0], ?_⟩
  show execLoanWithdraw n s = _
  simp only [execLoanWithdraw, hn, dealt, State.when_true]
  rfl

@[simp] theorem postRec_ring (s : State) (ty : Byte) (b : List Byte) : (s.postRec ty b).ring = s.ring := by
  rw [postRec_frame]

@[simp] theorem postRec_ledger (s : State) (ty : Byte) (b : List Byte) : (s.postRec ty b).ledger = s.ledger := by
  rw [postRec_frame]

@[simp] theorem postRec_ports (s : State) (ty : Byte) (b : List Byte) : (s.postRec ty b).ports = s.ports := by
  rw [postRec_frame]

theorem loanWithdraw_withdraws {s : State} {n : Node} (hn : s.ring.lostNodes.contains n = true)
    (hl : loanOf s.ring.lentTo n ≠ 0) (hq : s.sbox.queue.length < 32) :
    Yields (.loanWithdraw n) s fun t =>
      loanOf t.ring.lentTo n = 0 ∧ loanOf t.ring.borrowedFrom n = 0 ∧ t.ring.lostNodes.contains n = false ∧
      t.ledger.borrowed = sumLoans t.ring.borrowedFrom ∧ t.ledger.evt.getLsbD 4 = true ∧
      t.sbox.queue.length = s.sbox.queue.length + 1 ∧ PortsSame s t := by
  obtain ⟨b, run⟩ := exec_loanWithdraw hn hl
  refine ⟨_, run, ?_, ?_, ?_, by simp, ?_, ?_, ?_⟩
  · simp [struck, loanOf_filter_ne]
  · simp [struck, loanOf_filter_ne]
  · simp [struck]
  · rw [postRec_ledger]; exact withdrawn_evt s n
  · rw [postRec_queue_grows _ _ (by simpa using hq), withdrawn_sbox]
  · exact (postRec_ports _ _ _).trans (withdrawn_ports s n)

/-! ## Offers taken back (R324) -/

/-- The books without the offers to a node that are three cycles old. -/
def takenBack (s : State) (n : Node) : State :=
  { s with ring := { s.ring with
    offers := s.ring.offers.filter fun o => !(o.node == n && 3 ≤ o.age),
    lentTo := setLoan s.ring.lentTo n (loanOf s.ring.lentTo n) } }.bookLoans

theorem exec_offerTakeback_old {s : State} {n : Node} (h : (s.ring.offers.any fun o => o.node == n && 3 ≤ o.age) = true) :
    exec (.offerTakeback n) s = .next (takenBack s n) := by
  show execOfferTakeback n s = _
  rw [execOfferTakeback, h, State.when_true, takenBack]

theorem offerTakeback_returns {s : State} {n : Node} (ho : s.ring.offers = [⟨n, 50, 3⟩]) :
    Yields (.offerTakeback n) s fun t =>
      (t.ring.offers.any fun o => o.node == n) = false ∧ t.ring.borrowedFrom = s.ring.borrowedFrom ∧
      t.ledger.lent = sumLoans t.ring.lentTo + sumLoans t.ring.offers ∧ PortsSame s t ∧
      loanOf t.ring.lentTo n = loanOf s.ring.lentTo n :=
  ⟨_, exec_offerTakeback_old (by simp [ho]), by simp [takenBack, ho], by simp [takenBack], by simp [takenBack],
    bookLoans_ports _, by simp [takenBack, loanOf_setLoan]⟩

theorem offerTakeback_young {s : State} (n : Node) (h : ∀ o ∈ s.ring.offers, o.age < 3) :
    exec (.offerTakeback n) s = .next s := by
  have young : (s.ring.offers.any fun o => o.node == n && 3 ≤ o.age) = false := by
    simpa using fun o ho _ => h o ho
  show execOfferTakeback n s = _
  rw [execOfferTakeback, young, State.when_false]

/-! ## The ring is down (R366), and a lower master (R367) -/

/-- Every node is dropped, with RINGDOWN and its event. -/
def downed (s : State) (noCycle : Bool) : State :=
  let t := s.dropAll.rgEvt 6
  { t with ring := { t.ring with ringDown := true, upRun := if noCycle then 0 else t.ring.upRun } }

theorem downed_evt (s : State) (b : Bool) : (downed s b).ring.evt.getLsbD 6 = true := getLsbD_setBit _ (by decide)

/-- The node takes the ring over before it counts itself as MASTER. -/
def takenOver (s : State) : State :=
  { s with ring := { s.ring with link := 3, trainOut := false, handover := 0, joinDue := false, joinSent := false } }

theorem exec_ringdown_noCycle {s : State} (h : s.ring.isOpen = true) :
    exec (.ringdown true) s = .next ((takenOver (downed s true)).setMaster s.ring.node) := by
  have same : (takenOver (downed s true)).ring.node = s.ring.node := dropAll_node s
  rw [← same]
  show execRingdown true s = _
  rw [execRingdown, h]
  rfl

theorem exec_ringdown_cycle {s : State} (h : s.ring.isOpen = true) : exec (.ringdown false) s = .next (downed s false) := by
  show execRingdown false s = _
  rw [execRingdown, h]
  rfl

theorem isOpen_joined {r : Ring} (h : r.link = 2) : r.isOpen = true := by simp [Ring.isOpen, h]

theorem ringdown_makes_master {s : State} (h : s.ring.isOpen = true) :
    Yields (.ringdown true) s fun t =>
      t.ring.link = 3 ∧ t.ring.master = s.ring.node ∧ t.ring.ringDown = true ∧ t.ring.peers = [] ∧
      t.ring.evt.getLsbD 6 = true ∧ PortsSame s t :=
  ⟨_, exec_ringdown_noCycle h, by simp [takenOver], by simp, by simp [takenOver, downed],
    by simp [takenOver, downed, State.rgEvt], setMaster_keeps_evt _ (downed_evt s true),
    (setMaster_ports _ _).trans (dropAll_ports s)⟩

theorem ringdown_drops_all {s : State} (h : s.ring.isOpen = true) :
    Yields (.ringdown false) s fun t =>
      t.ring.link = s.ring.link ∧ t.ring.master = s.ring.master ∧ t.ring.ringDown = true ∧ t.ring.peers = [] ∧
      t.ring.evt.getLsbD 6 = true ∧ PortsSame s t :=
  ⟨_, exec_ringdown_cycle h, dropAll_link s, dropAll_master s, rfl, dropAll_peers s, downed_evt s false, dropAll_ports s⟩

theorem exec_lowerMasterCycle {s : State} {n : Node} (hl : s.ring.link = 3) (h0 : n ≠ 0) (hn : n < s.ring.node)
    (hh : s.ring.handover ≠ n) : exec (.lowerMasterCycle n) s = .next (s.lowerMaster n) := by
  have yields : (s.ring.link = 3 && n != 0 && n < s.ring.node && s.ring.handover != n) = true := by
    simpa [hl, hn, bne_iff_ne.mpr hh] using h0
  show execLowerMasterCycle n s = _
  rw [execLowerMasterCycle, yields, State.when_true]

theorem lowerMasterCycle_follows {s : State} {n : Node} (hl : s.ring.link = 3) (h0 : n ≠ 0) (hn : n < s.ring.node)
    (hh : s.ring.handover ≠ n) :
    Yields (.lowerMasterCycle n) s fun t =>
      t.ring.link = 1 ∧ t.ring.joinDue = true ∧ t.ring.master = n ∧ t.ring.peers = [] ∧ PortsSame s t :=
  ⟨_, exec_lowerMasterCycle hl h0 hn hh, by simp [State.lowerMaster], by simp [State.lowerMaster],
    by simp [State.lowerMaster], by simp [State.lowerMaster], by simp [PortsSame, State.lowerMaster]⟩

/-! ## The statement -/

/-- Settles O37: each clause is what is said above of its event. -/
theorem ridgelineJoinsLendsAndLoses : Obligations.RidgelineJoinsLendsAndLoses := by
  unfold Obligations.RidgelineJoinsLendsAndLoses
  refine ⟨?_, ?_, ?_, ?_, ?_, ?_, ?_, ?_, ?_, ?_, ?_, ?_, ?_⟩
  · intro s h
    exact ⟨_, exec_syncAcquired true h, rfl⟩
  · intro s h
    exact ⟨_, exec_syncAcquired false h, rfl⟩
  · intro s
    exact syncLoss_shown s true
  · intro s
    exact syncLoss_shown s false
  · intro s hi hl ho hn hw hc hp
    exact ringJoin_goes_on hi hl ho hn hw hc hp
  · intro s hi hl ho hn
    exact masterOfRingOfOne_is_master hi hl ho hn
  · intro s n hl hp
    exact nodelost_drops hl hp
  · intro s n hn hl hq
    exact loanWithdraw_withdraws hn hl hq
  · intro s n ho
    exact offerTakeback_returns ho
  · intro s n h
    exact ⟨_, offerTakeback_young n h, rfl⟩
  · intro s hl
    exact ringdown_makes_master (isOpen_joined hl)
  · intro s h
    exact ringdown_drops_all h
  · intro s n hl h0 hn hh
    exact lowerMasterCycle_follows hl h0 hn hh

end Sys2Proof.Proofs
end

section
/-!
SUPPORT. The counterexample to O32: the statement asks that LENT be 0, but not that the ring's book hold no loan. A decision cycle
books the loans before it decides (R302), so that what the book holds is not free.
-/
namespace Sys2Proof.Proofs

open Sys2Proof.Machine Sys2Proof.Safety Sys2Proof.Laws

/-- The Ledger runs with its default budget of 1,440 coins, P9 has posted a demand for all of them, and the book holds a loan of one
coin that LENT does not show. -/
def unbookedLoan : State :=
  { State.reset with
    sys := { Sys.reset with boot := 12 }
    ledger := { Ledger.reset 32 with ready := true, posts := [.demand 9 1440 .attach false false] }
    ring := { Ring.reset with lentTo := [⟨3, 1, 0⟩] } }.modTc 9 fun t => { t with state := .unattachedSrc }

theorem unbookedLoan_runs : unbookedLoan.ledgerRuns = true := by decide +kernel

theorem unbookedLoan_ports : ∀ q, (unbookedLoan.port q).lg = LgPort.reset ∧
    (unbookedLoan.port q).tc.state.attached = false := by decide +kernel

theorem unbookedLoan_port : (unbookedLoan.port 9).tc.state = .unattachedSrc ∧ (unbookedLoan.port 9).sw = SwPort.reset ∧
    (unbookedLoan.port 9).tc.held = false ∧ (unbookedLoan.port 9).tc.inReset = false ∧
    (unbookedLoan.port 9).pd.asked = none := by decide +kernel

/-- The cycle books the loan, and the demand is trimmed to the 1,439 coins that are left. -/
theorem unbookedLoan_decided :
    (portAfter (exec (.decisionCycle false) unbookedLoan) 9).map (·.lg.grant) = some 1439 := by decide +kernel

/-- Refutes O32: its first clause, of a demand granted whole, asks that LENT be 0 before the cycle, but not that the book hold no
loan. The cycle takes LENT from the book before it decides (R302), and a lent coin is none of the panel account's capacity
(Table 9.1). -/
theorem not_theLedgerDecides : ¬ Obligations.TheLedgerDecides := by
  unfold Obligations.TheLedgerDecides
  rintro ⟨whole, -⟩
  obtain ⟨src, sw, held, engine, asked⟩ := unbookedLoan_port
  obtain ⟨t, run, grant, -⟩ := whole unbookedLoan 9 1440 unbookedLoan_runs rfl rfl rfl rfl rfl rfl rfl rfl rfl rfl rfl rfl
    (fun q => (unbookedLoan_ports q).1) (fun q => (unbookedLoan_ports q).2) src sw held engine asked rfl (by decide)
    (by decide) (by decide)
  have trimmed := unbookedLoan_decided
  rw [run, portAfter, Option.map_some, grant] at trimmed
  exact absurd trimmed (by decide)

end Sys2Proof.Proofs
end


section
/-!
SUPPORT. A frame of another node at a joined node: how each kind is taken and sent on, and what that leaves alone; with them O36 is
settled.
-/
namespace Sys2Proof.Proofs

open Sys2Proof.Machine Sys2Proof.Safety Sys2Proof.Laws

/-! ## Lending changes the loans and the Ledger's sums alone (R324 to R326) -/

/-- Nothing but loans, offers, recalls, the balances stated and the Ledger has changed. -/
def LoansOnly (s t : State) : Prop :=
  t = { s with
    ring := { s.ring with
      offers := t.ring.offers, lentTo := t.ring.lentTo, borrowedFrom := t.ring.borrowedFrom, recalls := t.ring.recalls,
      lentDue := t.ring.lentDue, differ := t.ring.differ }
    ledger := t.ledger }

theorem loans_refl (s : State) : LoansOnly s s := rfl

theorem loans_trans {s t u : State} (h : LoansOnly s t) (k : LoansOnly t u) : LoansOnly s u := by
  unfold LoansOnly at *; rw [k, h]

theorem loans_bookLoans {s t : State} (h : LoansOnly s t) : LoansOnly s t.bookLoans := by
  unfold LoansOnly at *; rw [bookLoans_frame, h]

theorem loans_takeAcks (s : State) (f : List Byte) : LoansOnly s (s.takeAcks f) := by
  refine List.foldlRecOn (motive := LoansOnly s) _ _ (loans_refl s) fun t h i _ => ?_
  dsimp only
  split
  · exact loans_trans h (loans_bookLoans rfl)
  · exact h

theorem loans_recallDue (s : State) (l : Loan) : LoansOnly s (s.recallDue l) := by
  unfold State.recallDue
  split
  · exact loans_bookLoans rfl
  · exact loans_refl s

theorem loans_borrowerSays (s : State) (n : Node) (c : Nat) : LoansOnly s (s.borrowerSays n c) := by
  unfold State.borrowerSays Ring.differs
  dsimp only
  split <;> rfl

theorem loans_lenderSays (s : State) (n : Node) (c : Nat) : LoansOnly s (s.lenderSays n c) := by
  have counted : LoansOnly s { s with ring := (s.ring.differs n (c != loanOf s.ring.borrowedFrom n)).1 } := rfl
  unfold State.lenderSays
  dsimp only
  generalize s.ring.differs n _ = d at counted ⊢
  obtain ⟨r, k⟩ := d
  dsimp only at counted ⊢
  split
  · split
    · exact loans_trans counted (loans_recallDue _ _)
    · split
      · exact counted
      · exact loans_trans counted rfl
  · exact counted

/-- The shed level that a NODE frame gives its sender (R364). -/
def shedSaid (s : State) (f : List Byte) : State :=
  { s with ring.peers := s.ring.peers.map fun q =>
      if q.node == nth f 1 then { q with shed := (nth f 4).truncate 2 } else q }

theorem loans_takeNode (s : State) (f : List Byte) : LoansOnly (shedSaid s f) (s.takeNode f) := by
  have acks : LoansOnly (shedSaid s f) ((shedSaid s f).takeAcks f) := loans_takeAcks _ f
  show LoansOnly _ (if _ then _ else _)
  split
  · exact acks
  · split
    · exact loans_trans acks (loans_borrowerSays _ _ _)
    · split
      · exact loans_trans acks (loans_lenderSays _ _ _)
      · exact acks

/-! ## Sending on (R347, R353) -/

theorem sendEast_open {s : State} {l : List RingSym} (h : s.ring.isOpen = true) (hl : l ≠ []) :
    s.sendEast l = { s with ring.out := l } := by
  simp [State.sendEast, h, hl]

theorem forward_open {s : State} (f : List Byte) (h : s.ring.isOpen = true) :
    s.forward f = { s with ring.out := frameSyms f } := sendEast_open h (by simp [frameSyms])

/-- A control frame is sent on, and counted in the train. -/
def sentOn (s : State) (f : List Byte) : State :=
  { s with ring := { s.ring with out := frameSyms f, passed := s.ring.passed + 1 } }

theorem passOn_open {s : State} (f : List Byte) (h : s.ring.isOpen = true) : s.passOn f = sentOn s f := by
  rw [State.passOn, forward_open f h]; rfl

/-! ## The CRC (R342) -/

theorem crcGood_frame (s : State) : s.crcGood = { s with perf := s.crcGood.perf } := count_eq _ _ _ _

/-- A damaged control frame changes RGCRC, RINGEVT and the counters alone. -/
theorem crcBad_frame (s : State) : s.crcBad = { s with
    ring := { s.ring with crc := satAdd s.ring.crc 1, evt := setBit s.ring.evt 7 }, perf := s.crcBad.perf } := count_eq _ _ _ _

theorem crcSeen_good {s : State} {f : List Byte} (h : frameGood f = true) : s.crcSeen f = s.crcGood := if_pos h
theorem crcSeen_bad {s : State} {f : List Byte} (h : frameGood f = false) : s.crcSeen f = s.crcBad := by
  simp [State.crcSeen, h]

theorem crcSeen_frame (s : State) (f : List Byte) : s.crcSeen f = { s with
    ring := { s.ring with crc := (s.crcSeen f).ring.crc, evt := (s.crcSeen f).ring.evt }, perf := (s.crcSeen f).perf } := by
  cases h : frameGood f
  · rw [crcSeen_bad h, crcBad_frame]
  · rw [crcSeen_good h, crcGood_frame]

/-! ## Admission and the master's time (R355, R361) -/

/-- Nothing but which nodes are present, the joins that wait, STS's trim, RINGEVT, the counters and the free values drawn has
changed. -/
def AdmitsOnly (s t : State) : Prop :=
  t = { s with
    ring := { s.ring with peers := t.ring.peers, joiners := t.ring.joiners, evt := t.ring.evt, trim := t.ring.trim }
    perf := t.perf, free := t.free }

theorem admits_refl (s : State) : AdmitsOnly s s := rfl

theorem admits_trans {s t u : State} (h : AdmitsOnly s t) (k : AdmitsOnly t u) : AdmitsOnly s u := by
  unfold AdmitsOnly at *; rw [k, h]

theorem admits_admitNode (s : State) (n : Node) : AdmitsOnly s (s.admitNode n) := by
  unfold State.admitNode
  split <;> rfl

theorem admits_settleJoins (s : State) (n : Node) : AdmitsOnly s (s.settleJoins n) := by
  refine admits_trans (List.foldlRecOn (motive := AdmitsOnly s) s.ring.joiners _ (admits_refl s) fun t h j _ => ?_) rfl
  split
  · exact h
  · exact admits_trans h (admits_admitNode t j.1)

theorem admits_discipline (s : State) (f : List Byte) : AdmitsOnly s (s.discipline f) := by
  unfold State.discipline
  cases decide (s.ring.link = 2) <;> rfl

/-! ## A CYCLE taken (R347, R355, R357, R359) -/

/-- Without recalls a cycle's start ages the offers and the panel information alone. -/
theorem ringTick_noRecalls {s : State} (h : s.ring.recalls = []) : s.ringTick = { s with
    ring := { s.ring with
      sinceInfo := s.ringTick.ring.sinceInfo, offers := s.ringTick.ring.offers, infos := s.ringTick.ring.infos }
    perf := s.ringTick.perf } := by
  unfold State.ringTick
  rw [count_eq]
  simp [h]

/-- What a CYCLE tells of the ring, and RINGUP's run of them. -/
def told (s : State) (f : List Byte) : State :=
  let r := s.ring
  let next := nth f 3 == r.cyc + 1
  { s with ring := { r with
    upRun := if r.upRun == 0 || next then min 3 (r.upRun + 1) else 1,
    clean := if r.clean == 0 || next then min 3 (r.clean + 1) else 1, cycSeen := true, cyc := nth f 3,
    rcycNow := (nth f 15).truncate 2, rver := nth f 16, dpos := (nth f 18).toNat, dcount := (nth f 19).toNat,
    ttrain := field f 20 2, handover := nth f 22, cycDiff := (nth f 15).truncate 2 != r.cfgRcyc } }

theorem joinAnswer_notSent {s : State} (f : List Byte) (h : s.ring.joinSent = false) : s.joinAnswer f = s := by
  simp [State.joinAnswer, h]

/-- The joins of the cycle before settled, and the master admitted. -/
def joined (s : State) (f : List Byte) : State := (s.settleJoins (nth f 23)).admitNode (nth f 1)

theorem admits_joined (s : State) (f : List Byte) : AdmitsOnly s (joined s f) :=
  admits_trans (admits_settleJoins s _) (admits_admitNode _ _)

section
variable {s : State} {f : List Byte} (hl : s.ring.link = 2) (hs : s.ring.joinSent = false)
  (hp : s.ring.present (nth f 1) = true) (hr : s.ring.recalls = [])
include hl hs hp hr

/-- A joined node follows the CYCLE of a present one. -/
theorem takeCycle_present :
    s.takeCycle f = (joined ((told s.ringTick f).setMaster (nth f 1)) f).discipline f := by
  have stays : (joined ((told s.ringTick f).setMaster (nth f 1)) f).ring.joinSent = false := by
    rw [admits_joined, setMaster_frame, told, ringTick_noRecalls hr]; exact hs
  have opened : (((told s.ringTick f).setMaster (nth f 1)).settleJoins (nth f 23)).ring.isOpen = true := by
    refine isOpen_joined ?_
    rw [admits_settleJoins, setMaster_frame, told, ringTick_noRecalls hr]; exact hl
  have known : (decide (s.ring.link = 2) && s.ring.handover != nth f 1 && !s.ring.present (nth f 1) &&
      !s.ring.joinSent) = false := by simp [hp]
  rw [← joinAnswer_notSent f stays, joined]
  simp only [State.takeCycle, show s.ring.link ≠ 3 by simp [hl], known, if_false, Bool.false_eq_true]
  exact congrArg (fun t => (State.joinAnswer t f).discipline f) (if_pos opened)

end

/-! ## A CYCLE sent on with its DELAY edited (R344, R359) -/

/-- The status channel carries an echo request in the ring gap; the train begins. -/
def gapPassed (s : State) : State := { s with ring := { s.ring with
  wout := orderedSet 0x02 s.ring.node s.ring.wseq, wseq := s.ring.wseq + 1, passed := 0 } }

theorem ringGap_open {s : State} (ho : s.ring.isOpen = true) (hg : s.ring.gapClose = false) :
    { s.ringGap with ring.passed := 0 } = gapPassed s := by
  simp [State.ringGap, State.sendWest, ho, hg, gapPassed]

theorem own_otherNode {r : Ring} {f : List Byte} (h : nth f 1 ≠ r.node) : r.own f = false := by
  simp [Ring.own, h]

@[simp] theorem leBytes_length (n v : Nat) : (leBytes n v).length = n := by simp [leBytes]

/-- The edit leaves a frame its length and its code. -/
theorem delayEdit_length {r : Ring} {f : List Byte} (good : Bool) (h : f.length = 32) :
    (r.delayEdit f good).length = 32 := by
  simp [Ring.delayEdit, reseal, setBytes, h]

theorem delayEdit_code {r : Ring} {f : List Byte} (good : Bool) (h : f.length = 32) :
    nth (r.delayEdit f good) 0 = nth f 0 := by
  obtain ⟨b, g, rfl⟩ := List.exists_cons_of_length_eq_add_one h
  rfl

/-- The first frame among the characters sent, where it alone was sent. -/
theorem sentFrame_frameSyms {f : List Byte} (h : f.length = 32) : sentFrame (frameSyms f) 0 = f := by
  have whole : (f.map RingSym.d).take 32 = f.map RingSym.d := List.take_of_length_le (by simp [h])
  simp [sentFrame, frameSyms, whole, Function.comp_def]

/-- A CYCLE of another node as it has been sent on. -/
def cycleSent (s : State) (f : List Byte) : State := sentOn (gapPassed s) (s.ring.delayEdit f (frameGood f))

/-! ## The frames of another node at a joined node -/

section
variable {s : State} {f : List Byte} (hl : s.ring.link = 2) (hg : s.ring.gapClose = false)
  (hn : nth f 1 ≠ s.ring.node) (hh : s.ringHears = true) (hw : s.ring.wsync = true)

include hh hw in
/-- A frame is taken by its code (Table 10.3). -/
theorem onFrame_code : s.onFrame f =
    if nth f 0 = fcCycle then s.onCycle f else if nth f 0 = fcNode then s.onNode f else if nth f 0 = fcJoin then s.onJoin f
    else if nth f 0 = fcLeave then s.onLeave f else if nth f 0 = fcInfo then s.onInfo f else s.onReserved f := by
  simp [State.onFrame, hh, hw]

include hl hn

include hg in
theorem onCycle_other : s.onCycle f =
    if frameGood f then (cycleSent s f).crcGood.takeCycle f else (cycleSent s f).crcBad.noCycle := by
  have opened := isOpen_joined hl
  have sent : ({ s.ringGap with ring.passed := 0 } : State).passOn
      (({ s.ringGap.ring with passed := 0 } : Ring).delayEdit f (frameGood f)) = cycleSent s f := by
    rw [show ({ s.ringGap.ring with passed := 0 } : Ring) = (gapPassed s).ring from
      congrArg State.ring (ringGap_open opened hg), ringGap_open opened hg]
    exact passOn_open _ opened
  simp only [State.onCycle, own_otherNode hn, sent, Bool.false_eq_true, if_false]

theorem onNode_present (hf : frameGood f = true) (hp : s.ring.present (nth f 1) = true) (ha : field f 6 2 = 0) :
    s.onNode f = (sentOn s f).crcGood.takeNode f := by
  have taken : (decide (2 ≤ (sentOn s f).crcGood.ring.link.toNat) &&
      (sentOn s f).crcGood.ring.present (nth f 1)) = true := by
    rw [crcGood_frame]; exact Bool.and_eq_true_iff.mpr ⟨by simp [sentOn, hl], hp⟩
  simp [State.onNode, own_otherNode hn, passOn_open f (isOpen_joined hl), ha, hf, taken]

theorem onNode_bad (hf : frameGood f = false) (ha : field f 6 2 = 0) : s.onNode f = (sentOn s f).crcBad := by
  simp [State.onNode, own_otherNode hn, passOn_open f (isOpen_joined hl), ha, hf]

theorem onJoin_other : s.onJoin f = ((sentOn s f).crcSeen f).when (frameGood f) fun s =>
    { s with ring := { s.ring with joiners := s.ring.joiners ++ [(nth f 1, nth f 5)] } } := by
  simp [State.onJoin, own_otherNode hn, passOn_open f (isOpen_joined hl)]

theorem onLeave_other : s.onLeave f = ((sentOn s f).crcSeen f).when (frameGood f) fun s => s.nodeGone (nth f 1) := by
  simp [State.onLeave, own_otherNode hn, passOn_open f (isOpen_joined hl)]

theorem onReserved_other (h : (nth f 0).msb = false) : s.onReserved f = (sentOn s f).crcSeen f := by
  simp [State.onReserved, own_otherNode hn, passOn_open f (isOpen_joined hl), h]

theorem onInfo_present (hp : s.ring.present (nth f 1) = true) : s.onInfo f =
    (({ s with ring := { s.ring with
      out := frameSyms f,
      infos := s.ring.infos.filter (fun i => i.1 != nth f 1) ++ [(nth f 1, 0, (f.drop 4).take 28)] } } : State).rgEvt 10).count
        33 0x04 1 := by
  have present : (s.forward f).ring.present (nth f 1) = true := by rw [forward_open f (isOpen_joined hl)]; exact hp
  simp only [State.onInfo, own_otherNode hn, present, Bool.false_eq_true, if_false, if_true]
  rw [forward_open f (isOpen_joined hl)]

end

/-! ## What each frame gives -/

section
variable {s : State} {f : List Byte} (hl : s.ring.link = 2) (hj : s.ring.joinSent = false) (hg : s.ring.gapClose = false)
  (hn : nth f 1 ≠ s.ring.node) (hh : s.ringHears = true) (hw : s.ring.wsync = true)
include hl hn hh hw

include hj hg in
theorem cycle_taken (hf : frameGood f = true) (h32 : f.length = 32) (hc : nth f 0 = fcCycle)
    (hp : s.ring.present (nth f 1) = true) (hr : s.ring.recalls = []) :
    Yields (.cycle f) s fun t =>
      t.ring.cyc = nth f 3 ∧ t.ring.master = nth f 1 ∧ t.ring.link = 2 ∧ t.ring.crc = s.ring.crc ∧ t.ring.out.length = 33 ∧
      nth (sentFrame t.ring.out 0) 0 = fcCycle ∧ t.ring.passed = 1 ∧ t.ring.dcount = (nth f 19).toNat ∧ t.sys = s.sys ∧
      PortsSame s t := by
  have run : s.onFrame f = (cycleSent s f).crcGood.takeCycle f := by
    rw [onFrame_code hh hw, if_pos hc, onCycle_other hl hg hn, if_pos hf]
  generalize hu : (cycleSent s f).crcGood = u at run
  have sent : u = { cycleSent s f with perf := u.perf } := by rw [← hu]; exact crcGood_frame _
  have took : AdmitsOnly ((told u.ringTick f).setMaster (nth f 1)) (u.takeCycle f) := by
    rw [takeCycle_present (by rw [sent]; exact hl) (by rw [sent]; exact hj) (by rw [sent]; exact hp) (by rw [sent]; exact hr)]
    exact admits_trans (admits_joined _ f) (admits_discipline _ f)
  have tick := ringTick_noRecalls (s := u) (by rw [sent]; exact hr)
  refine ⟨_, congrArg Host.Outcome.next run, ?_⟩
  rw [took, setMaster_frame, told, tick, sent]
  refine ⟨rfl, rfl, hl, rfl, ?_, ?_, rfl, rfl, rfl, rfl⟩
  · show (frameSyms _).length = 33
    simp [frameSyms, delayEdit_length _ h32]
  · show nth (sentFrame (frameSyms _) 0) 0 = fcCycle
    rw [sentFrame_frameSyms (delayEdit_length _ h32), delayEdit_code _ h32, hc]

include hg in
theorem cycle_damaged (hf : frameGood f = false) (hc : nth f 0 = fcCycle) :
    Yields (.cycle f) s fun t =>
      t.ring.crc = satAdd s.ring.crc 1 ∧ t.ring.evt = setBit s.ring.evt 7 ∧ t.ring.cyc = s.ring.cyc ∧
      t.ring.master = s.ring.master ∧ t.ring.link = 2 ∧ PortsSame s t := by
  have run : s.onFrame f = (cycleSent s f).crcBad.noCycle := by
    rw [onFrame_code hh hw, if_pos hc, onCycle_other hl hg hn, hf]
    rfl
  refine ⟨_, congrArg Host.Outcome.next run, ?_⟩
  rw [crcBad_frame]
  exact ⟨rfl, rfl, rfl, rfl, hl, rfl⟩

theorem node_taken (hf : frameGood f = true) (hc : nth f 0 = fcNode) (hp : s.ring.present (nth f 1) = true)
    (ha : field f 6 2 = 0) :
    Yields (.node f) s fun t =>
      t.ring.peers = s.ring.peers.map (fun q => if q.node == nth f 1 then { q with shed := (nth f 4).truncate 2 } else q) ∧
      t.ring.out = frameSyms f ∧ t.ring.passed = s.ring.passed + 1 ∧ PortsSame s t ∧ t.ring.crc = s.ring.crc := by
  have run : s.onFrame f = (sentOn s f).crcGood.takeNode f := by
    rw [onFrame_code hh hw, hc, if_neg (by decide), if_pos rfl, onNode_present hl hn hf hp ha]
  refine ⟨_, congrArg Host.Outcome.next run, ?_⟩
  rw [loans_takeNode, crcGood_frame]
  exact ⟨rfl, rfl, rfl, rfl, rfl⟩

theorem node_damaged (hf : frameGood f = false) (hc : nth f 0 = fcNode) (ha : field f 6 2 = 0) :
    Yields (.node f) s fun t => t = { s with
      ring := { s.ring with
        crc := satAdd s.ring.crc 1, evt := setBit s.ring.evt 7, out := frameSyms f, passed := s.ring.passed + 1 }
      perf := t.perf } := by
  have run : s.onFrame f = (sentOn s f).crcBad := by
    rw [onFrame_code hh hw, hc, if_neg (by decide), if_pos rfl, onNode_bad hl hn hf ha]
  exact ⟨_, congrArg Host.Outcome.next run, crcBad_frame _⟩

theorem join_waits (hf : frameGood f = true) (hc : nth f 0 = fcJoin) :
    Yields (.join f) s fun t => t = { s with
      ring := { s.ring with
        joiners := s.ring.joiners ++ [(nth f 1, nth f 5)], out := frameSyms f, passed := s.ring.passed + 1 }
      perf := t.perf } := by
  have run : s.onFrame f = { (sentOn s f).crcGood with
      ring.joiners := (sentOn s f).crcGood.ring.joiners ++ [(nth f 1, nth f 5)] } := by
    rw [onFrame_code hh hw, hc, if_neg (by decide), if_neg (by decide), if_pos rfl, onJoin_other hl hn, crcSeen_good hf, hf,
      State.when_true]
  refine ⟨_, congrArg Host.Outcome.next run, ?_⟩
  rw [crcGood_frame]
  rfl

theorem leave_drops (hf : frameGood f = true) (hc : nth f 0 = fcLeave) (hp : s.ring.present (nth f 1) = true) :
    Yields (.leave f) s fun t =>
      t.ring.present (nth f 1) = false ∧ t.ring.evt = setBit s.ring.evt 3 ∧ t.ring.out = frameSyms f ∧ t.ring.link = 2 ∧
      PortsSame s t ∧ t.ledger = s.ledger := by
  have run : s.onFrame f = (sentOn s f).crcGood.nodeGone (nth f 1) := by
    rw [onFrame_code hh hw, hc, if_neg (by decide), if_neg (by decide), if_neg (by decide), if_pos rfl, onLeave_other hl hn,
      crcSeen_good hf, hf, State.when_true]
  have present : (sentOn s f).crcGood.ring.present (nth f 1) = true := by rw [crcGood_frame]; exact hp
  refine ⟨_, congrArg Host.Outcome.next run, ?_⟩
  rw [State.nodeGone, if_pos present, crcGood_frame]
  exact ⟨by simp [Ring.present, State.rgEvt, Ring.forget], rfl, rfl, hl, rfl, rfl⟩

theorem panelInfo_kept (hc : nth f 0 = fcInfo) (hp : s.ring.present (nth f 1) = true) :
    Yields (.panelInfo f) s fun t =>
      t.ring.infos.getLast? = some (nth f 1, 0, (f.drop 4).take 28) ∧ t.ring.evt = setBit s.ring.evt 10 ∧
      t.ring.out = frameSyms f ∧ t = { s with ring := t.ring, perf := t.perf } := by
  have run := onFrame_code (f := f) hh hw
  rw [hc, if_neg (by decide), if_neg (by decide), if_neg (by decide), if_neg (by decide), if_pos rfl,
    onInfo_present hl hn hp, count_eq] at run
  exact ⟨_, congrArg Host.Outcome.next run, by simp [State.rgEvt], rfl, rfl, rfl⟩

theorem reserved_sentOn (hc : nth f 0 = 0x05) :
    Yields (.node f) s fun t =>
      t.ring.out = frameSyms f ∧ t.ring.peers = s.ring.peers ∧ t = { s with
        ring := { s.ring with crc := t.ring.crc, evt := t.ring.evt, out := t.ring.out, passed := t.ring.passed }
        perf := t.perf } := by
  have run : s.onFrame f = (sentOn s f).crcSeen f := by
    rw [onFrame_code hh hw, hc, if_neg (by decide), if_neg (by decide), if_neg (by decide), if_neg (by decide),
      if_neg (by decide), onReserved_other hl hn (by rw [hc]; decide)]
  refine ⟨_, congrArg Host.Outcome.next run, ?_⟩
  rw [crcSeen_frame]
  exact ⟨rfl, rfl, rfl⟩

end

/-! ## The statement -/

/-- Settles O36: each clause is what is said above of its frame. -/
theorem ridgelineTakesFramesIn : Obligations.RidgelineTakesFramesIn := by
  unfold Obligations.RidgelineTakesFramesIn
  refine ⟨?_, ?_, ?_, ?_, ?_, ?_, ?_, ?_⟩
  · intro s f hl _ hj hg hn hh hw hf h32 hc hp hr
    exact cycle_taken hl hj hg hn hh hw hf h32 hc hp hr
  · intro s f hl _ _ hg hn hh hw hf hc
    exact cycle_damaged hl hg hn hh hw hf hc
  · intro s f hl _ _ _ hn hh hw hf hc hp ha
    exact node_taken hl hn hh hw hf hc hp ha
  · intro s f hl _ _ _ hn hh hw hf hc ha
    exact node_damaged hl hn hh hw hf hc ha
  · intro s f hl _ _ _ hn hh hw hf hc
    exact join_waits hl hn hh hw hf hc
  · intro s f hl _ _ _ hn hh hw hf hc hp
    exact leave_drops hl hn hh hw hf hc hp
  · intro s f hl _ _ _ hn hh hw hc hp
    exact panelInfo_kept hl hn hh hw hc hp
  · intro s f hl _ _ _ hn hh hw hc
    exact reserved_sentOn hl hn hh hw hc

end Sys2Proof.Proofs
end

section
/-!
SUPPORT. The counterexample to O35: PANEL_INFO is as long as the host's information makes it (R350), and the statement bounds the
characters of a slot without bounding that.
-/
namespace Sys2Proof.Proofs

open Sys2Proof.Machine Sys2Proof.Safety Sys2Proof.Laws

/-- How many characters a node has on RGE_TX after a command or event. -/
def sentAfter : Out → Option Nat
  | .next t => some t.ring.out.length
  | _ => none

/-- Node 5 of a ring, joined, whose slot permits it a data frame, with eleven bytes of the host's information, one more than
RING_CFG carries. -/
def longHostInfo : State :=
  { State.reset with
    sys := { Sys.reset with pwr := .run, boot := 12 }
    ring := { Ring.reset with node := 5, link := 2, wsync := true, dcount := 1, hostInfo := List.replicate 11 0 } }

theorem longHostInfo_sends : sentAfter (exec .ringSlot longHostInfo) = some 68 := by decide +kernel

/-- Refutes O35: its first clause bounds the characters of a slot by those of two frames of 32 bytes and the EOT, but does not ask
that the host's part of PANEL_INFO (R350) have its ten bytes. With eleven the data frame has 33 bytes, and the slot 68
characters. -/
theorem not_ridgelineSendsItsFrames : ¬ Obligations.RidgelineSendsItsFrames := by
  unfold Obligations.RidgelineSendsItsFrames
  rintro ⟨slot, -⟩
  obtain ⟨t, run, -, -, -, -, -, bound, -⟩ :=
    slot longHostInfo rfl rfl rfl rfl (by decide +kernel) rfl
  have sent := longHostInfo_sends
  rw [run, sentAfter, Option.some_inj] at sent
  omega

end Sys2Proof.Proofs
end

section
/-!
SUPPORT. A microsecond without CORE: what STS counts on the LFO (Table 14.8); with it O57 is refuted.
-/
namespace Sys2Proof.Proofs

open Sys2Proof.Machine Sys2Proof.Safety Sys2Proof.Laws

/-- On the LFO STS counts what the accumulator has gathered from whole LFO periods. -/
theorem stsUs_onLfo {s : State} (h : s.stsOnLfo = true) :
    s.stsUs.sys.sts = s.sys.sts + BitVec.ofNat 64 ((s.sys.stsAcc + 15625 * s.lfoTicks) / 512) := by
  rw [State.stsUs, if_pos h]

theorem presentUs_sys (s : State) : s.presentUs.sys = s.sys := by
  unfold State.presentUs
  dsimp only
  split <;> rfl

/-- With CORE off only AON's part of a microsecond runs. -/
theorem idle_coreOff {s : State} (ha : s.aonOn = true) (hm : s.memOn = false) :
    s.idle = { s.stsUs.presentUs with sys.tick := s.stsUs.presentUs.sys.tick + 1 } := by
  simp [State.idle, ha, hm]

theorem idle_sts_onLfo {s : State} (ha : s.aonOn = true) (hm : s.memOn = false) (hl : s.stsOnLfo = true) :
    s.idle.sys.sts = s.sys.sts + BitVec.ofNat 64 ((s.sys.stsAcc + 15625 * s.lfoTicks) / 512) := by
  rw [idle_coreOff ha hm]
  show s.stsUs.presentUs.sys.sts = _
  rw [presentUs_sys, stsUs_onLfo hl]

/-- The device in OFF, with AON held by VBAT alone (R18). -/
def onBattery : State := { State.reset with sys.pwr := .off, sup.vmain := .below }

/-- No LFO period ends in its next microsecond. -/
theorem onBattery_onLfo : onBattery.aonOn = true ∧ onBattery.memOn = false ∧ onBattery.stsOnLfo = true ∧
    onBattery.sys.stsAcc + 15625 * onBattery.lfoTicks = 0 := by decide +kernel

/-- Refutes O57: it has STS count one microsecond in every step with AON on, but in OFF STS runs on the LFO (Table 14.8) and stands
in a microsecond in which no LFO period ends. -/
theorem not_anEmptyQueueLetsTimePass : ¬ Obligations.AnEmptyQueueLetsTimePass := by
  unfold Obligations.AnEmptyQueueLetsTimePass
  intro passes
  obtain ⟨aon, core, lfo, gathered⟩ := onBattery_onLfo
  obtain ⟨t, run, -, counts, -⟩ := passes onBattery rfl
  have idles : t = onBattery.idle := by injection run with e; exact e.symm
  have one := counts aon (by decide) (.inl rfl)
  rw [idles, idle_sts_onLfo aon core lfo, gathered] at one
  exact absurd one (by decide)

end Sys2Proof.Proofs
end

section
/-!
SUPPORT. What every command and event has in common, and what the window reads at reset; with them O55, O56 and O58 are settled.
-/
namespace Sys2Proof.Proofs

open Sys2Proof.Machine Sys2Proof.Safety Sys2Proof.Laws

/-- Settles O55: it is how a step is defined. -/
theorem stepRunsTheFrontCommand : Obligations.StepRunsTheFrontCommand := fun _ _ => rfl

/-- Settles O56: every command and event answers a next state by its own definition. -/
theorem everyCommandCompletes : Obligations.EveryCommandCompletes := by
  unfold Obligations.EveryCommandCompletes
  intro c s
  cases c <;> exact ⟨_, rfl⟩

theorem reset_tmrBlock : ∀ k : TmrId, State.reset.tmrBlock k = List.replicate 16 0 := by decide +kernel

theorem reset_portBlock :
    ∀ p : PortId, State.reset.portLive p = false ∧ State.reset.portBlock p = State.reset.portBlockReset p := by decide +kernel

/-- Settles O58: the reset state is closed, and each page of it is read. -/
theorem resetRegistersReadTheirResetValues : Obligations.ResetRegistersReadTheirResetValues := by
  unfold Obligations.ResetRegistersReadTheirResetValues
  exact ⟨by decide +kernel, by decide +kernel, by decide +kernel, by decide +kernel, by decide +kernel, by decide +kernel,
    by decide +kernel, reset_tmrBlock, reset_portBlock, rfl⟩

end Sys2Proof.Proofs
end

section
/-!
SUPPORT. The window pointer (R377); with its equation O51 is settled.
-/
namespace Sys2Proof.Proofs

open Sys2Proof.Machine Sys2Proof.Safety Sys2Proof.Laws

/-- With blocks of `w` bytes the pointer stays in its own. -/
theorem next_of_block {b : HostBus} {w : Nat} (hw : (if b.wrap = 0 then 256 else 8 * 2 ^ b.wrap.toNat) = w) :
    b.next = byteOf (b.ptr.toNat / w * w + (b.ptr.toNat + 1) % w) 0 := by
  rw [← hw]; rfl

/-- Settles O51: each size of block has its own equation, which is checked of every pointer. -/
theorem pointerWrapsInItsBlock : Obligations.PointerWrapsInItsBlock := by
  unfold Obligations.PointerWrapsInItsBlock
  refine ⟨?_, ?_, ?_, ?_, ?_, ?_, rfl⟩
  · intro b h
    rw [next_of_block (w := 256) (by rw [h]; rfl)]
    generalize b.ptr = x; revert x; decide +kernel
  · intro b h
    rw [next_of_block (w := 16) (by rw [h]; rfl)]
    generalize b.ptr = x; revert x; decide +kernel
  · intro b h
    rw [next_of_block (w := 32) (by rw [h]; rfl)]
    generalize b.ptr = x; revert x; decide +kernel
  · intro b h
    rw [next_of_block (w := 64) (by rw [h]; rfl)]
    generalize b.ptr = x; revert x; decide +kernel
  · intro s v
    show ({ s with bus.wrap := v.truncate 2 } : State) = _
    rw [BitVec.truncate_eq_setWidth, BitVec.setWidth_eq_extractLsb' (by decide)]
  · intro s role
    rfl

end Sys2Proof.Proofs
end

section
/-!
SUPPORT. The header code (R410) one bit at a time; with its linearity O53 is settled.
-/
namespace Sys2Proof.Proofs

open Sys2Proof.Machine Sys2Proof.Safety Sys2Proof.Laws

/-- One bit of the header code. -/
def crc8Bit (c : Byte) : Byte := if c.msb then (c <<< 1) ^^^ 0x07 else c <<< 1

theorem crc8Bit_xor (x y : Byte) : crc8Bit (x ^^^ y) = crc8Bit x ^^^ crc8Bit y := by
  unfold crc8Bit
  rw [BitVec.msb_xor, BitVec.shiftLeft_xor_distrib]
  have pair (a b : Byte) : (a ^^^ 7) ^^^ (b ^^^ 7) = a ^^^ b := by
    rw [show (a ^^^ 7) ^^^ (b ^^^ 7) = (a ^^^ b) ^^^ (7 ^^^ 7) by ac_rfl, BitVec.xor_self, BitVec.xor_zero]
  cases x.msb <;> cases y.msb
  · rfl
  · exact BitVec.xor_assoc ..
  · show (x <<< 1 ^^^ y <<< 1) ^^^ 7 = (x <<< 1 ^^^ 7) ^^^ y <<< 1
    ac_rfl
  · exact (pair ..).symm

theorem crc8_singleton (x : Byte) : crc8 [x] = crc8Bit^[8] x := by
  have zero : (0 : Byte) ^^^ x = x := BitVec.zero_xor
  show (List.range 8).foldl (fun c _ => crc8Bit c) (0 ^^^ x) = _
  rw [zero]
  rfl

theorem crc8Bits_xor (n : Nat) (x y : Byte) : crc8Bit^[n] (x ^^^ y) = crc8Bit^[n] x ^^^ crc8Bit^[n] y := by
  induction n generalizing x y with
  | zero => rfl
  | succ n ih => rw [Function.iterate_succ_apply, crc8Bit_xor, ih]; rfl

theorem crc8_append (l : List Byte) (b : Byte) : crc8 (l ++ [b]) = crc8 [crc8 l ^^^ b] := by
  rw [crc8_singleton]
  show (l ++ [b]).foldl crc8Byte 0 = _
  rw [List.foldl_append]
  rfl

theorem bytes_headerOk (r : Reply) : headerOk r.bytes = true := by
  simp only [headerOk, Bool.and_eq_true, decide_eq_true_eq]
  constructor
  · simp [Reply.bytes, leBytes]; omega
  · exact beq_self_eq_true _

/-- Settles O53: a bit of the code is linear, and so are eight of them; the code of an empty list is 0. -/
theorem headerCodeIsCrc8 : Obligations.HeaderCodeIsCrc8 := by
  unfold Obligations.HeaderCodeIsCrc8
  refine ⟨by decide +kernel, by decide +kernel, crc8_append, fun x y => ?_, bytes_headerOk⟩
  rw [crc8_singleton, crc8_singleton, crc8_singleton, crc8Bits_xor]

end Sys2Proof.Proofs
end

section
/-!
SUPPORT. DIGEST (R612) as its fields put together, each in its own place; with them O54 is settled.
-/
namespace Sys2Proof.Proofs

open Sys2Proof.Machine Sys2Proof.Safety Sys2Proof.Laws

/-! ## Words put together from fields -/

/-- Fields, each with its width, the first lowest. -/
def pack : List (Nat × Nat) → Nat
  | [] => 0
  | (w, v) :: l => v + 2 ^ w * pack l

/-- Every field lies within its width. -/
def packFits (l : List (Nat × Nat)) : Prop := ∀ x ∈ l, x.2 < 2 ^ x.1

theorem testBit_pack {w v : Nat} {l : List (Nat × Nat)} (h : v < 2 ^ w) (i : Nat) :
    (pack ((w, v) :: l)).testBit i = if i < w then v.testBit i else (pack l).testBit (i - w) := by
  rw [pack, Nat.add_comm, Nat.testBit_two_pow_mul_add _ h]

/-- Past its first field. -/
theorem testBit_pack_skip {w v : Nat} {l : List (Nat × Nat)} (h : v < 2 ^ w) (i : Nat) :
    (pack ((w, v) :: l)).testBit (w + i) = (pack l).testBit i := by
  rw [testBit_pack h, if_neg (by omega), Nat.add_sub_cancel_left]

/-- In its first field. -/
theorem testBit_pack_first {w v : Nat} {l : List (Nat × Nat)} (h : v < 2 ^ w) {i : Nat} (hi : i < w) :
    (pack ((w, v) :: l)).testBit i = v.testBit i := by
  rw [testBit_pack h, if_pos hi]

theorem pack_lt {l : List (Nat × Nat)} (h : packFits l) : pack l < 2 ^ (l.map (·.1)).sum := by
  induction l with
  | nil => exact Nat.one_pos
  | cons x l ih =>
    have hx := h x List.mem_cons_self
    have hl := ih fun y hy => h y (List.mem_cons_of_mem _ hy)
    rw [List.map_cons, List.sum_cons, Nat.pow_add]
    calc x.2 + 2 ^ x.1 * pack l < 2 ^ x.1 + 2 ^ x.1 * pack l := by omega
      _ = 2 ^ x.1 * (pack l + 1) := by ring
      _ ≤ 2 ^ x.1 * 2 ^ (l.map (·.1)).sum := Nat.mul_le_mul_left _ hl

/-! ## Words with a bit for each of a number of tests -/

/-! ## Words of single bits -/

theorem testBit_toNat (b : Bool) (i : Nat) : b.toNat.testBit i = (decide (i = 0) && b) := by
  cases b
  · simp
  · cases i <;> simp [Nat.testBit_succ]

theorem toNat_lt (b : Bool) : b.toNat < 2 ^ 1 := by cases b <;> decide

/-- A field of one bit. -/
def bitField (b : Bool) : Nat × Nat := (1, b.toNat)

/-- Where the first fields are of one bit each. -/
theorem testBit_pack_bits (bs : List Bool) (l : List (Nat × Nat)) (i : Nat) :
    (pack (bs.map bitField ++ l)).testBit i = bs[i]?.getD ((pack l).testBit (i - bs.length)) := by
  induction bs generalizing i with
  | nil => rfl
  | cons b bs ih =>
    show (pack ((1, b.toNat) :: (bs.map bitField ++ l))).testBit i = _
    cases i with
    | zero => rw [testBit_pack_first (toNat_lt b) Nat.one_pos, testBit_toNat]; simp
    | succ i =>
      rw [Nat.add_comm, testBit_pack_skip (toNat_lt b), ih, Nat.add_comm]
      simp

theorem bitsWord_succ (n : Nat) (f : Nat → Bool) : bitsWord (n + 1) f = bitsWord n f + 2 ^ n * (f n).toNat := by
  rw [bitsWord, List.range_succ, List.foldl_append]
  show bitsWord n f + flag (f n) n = _
  cases f n <;> simp [flag]

theorem bitsWord_lt (n : Nat) (f : Nat → Bool) : bitsWord n f < 2 ^ n := by
  induction n with
  | zero => exact Nat.one_pos
  | succ n ih =>
    have := Bool.toNat_le (f n)
    rw [bitsWord_succ, Nat.pow_succ]
    nlinarith

theorem testBit_bitsWord (n : Nat) (f : Nat → Bool) (i : Nat) : (bitsWord n f).testBit i = (decide (i < n) && f i) := by
  induction n with
  | zero => simp [bitsWord]
  | succ n ih =>
    rw [bitsWord_succ, Nat.add_comm, Nat.testBit_two_pow_mul_add _ (bitsWord_lt n f), ih]
    rcases lt_trichotomy i n with h | rfl | h
    · simp [h, Nat.lt_succ_of_lt h]
    · rw [if_neg (lt_irrefl _), Nat.sub_self, testBit_toNat]
      simp
    · simp [testBit_toNat, show ¬ i < n by omega, show ¬ i < n + 1 by omega, show i - n ≠ 0 by omega]

/-- A test of the numbers below a bound, as one of any number. -/
def finTest {n : Nat} (f : Fin n → Bool) (i : Nat) : Bool := if h : i < n then f ⟨i, h⟩ else false

theorem foldl_finRange {n : Nat} (f : Fin n → Bool) :
    (List.finRange n).foldl (fun a p => a + flag (f p) p.val) 0 = bitsWord n (finTest f) := by
  rw [bitsWord, ← List.map_coe_finRange_eq_range, List.foldl_map]
  congr 1
  funext a p
  rw [finTest, dif_pos p.isLt]

theorem portBits_eq (f : PortId → Bool) : portBits f = bitsWord 32 (finTest f) := by
  rw [portBits, allPorts, foldl_finRange]

theorem portBits_lt (f : PortId → Bool) : portBits f < 2 ^ 32 := portBits_eq f ▸ bitsWord_lt 32 _

theorem testBit_portBits (f : PortId → Bool) (p : PortId) : (portBits f).testBit p.val = f p := by
  rw [portBits_eq, testBit_bitsWord]
  simp [finTest]

/-! ## DIGEST -/

/-- The events of Ridgeline, where it is READY. -/
def ringBits (s : State) : BitVec 16 := if s.ringReady then s.ring.evt else 0

/-- Bits 72 to 79 of DIGEST. -/
def ringDigest (s : State) : List Bool :=
  [s.ledger.islChg, ringBits s &&& 0x13 != 0, ringBits s &&& 0x2C != 0, (ringBits s).getLsbD 6, (ringBits s).getLsbD 7,
    ringBits s &&& 0x300 != 0, (ringBits s).getLsbD 10, false]

/-- One of timers 3 g to 3 g + 2 has a flag. -/
def timerGroup (s : State) (g : Nat) : Bool := s.tmrHot (3 * g) || s.tmrHot (3 * g + 1) || s.tmrHot (3 * g + 2)

/-- Bits 112 to 119 of DIGEST. -/
def unitDigest (s : State) : List Bool :=
  [!s.mb.replies.isEmpty, s.bus.hdrErr != 0, s.sys.sboxReady && s.sbox.evt != 0, s.alarm.evt != 0, s.fuse.evt != 0,
    s.safety.evt != 0, s.sys.evt.getLsbD 0, s.sys.evt.getLsbD 1]

/-- The fields of DIGEST from bit 80 up. -/
def digestUpper (s : State) : List (Nat × Nat) :=
  (16, bitsWord 16 (timerGroup s)) :: (16, s.gwcEvt.toNat) :: ((unitDigest s).map bitField ++ [])

/-- The fields of DIGEST. -/
def digestFields (s : State) : List (Nat × Nat) :=
  (32, portBits s.attention) :: (32, portBits s.portFault) :: (8, if s.ledger.ready then s.ledger.evt.toNat else 0) ::
    ((ringDigest s).map bitField ++ digestUpper s)

theorem flag_eq (b : Bool) (i : Nat) : flag b i = b.toNat * 2 ^ i := by cases b <;> simp [flag]

theorem digest_eq (s : State) : s.digest = pack (digestFields s) := by
  simp only [State.digest, digestFields, ringDigest, digestUpper, unitDigest, List.map, List.cons_append, List.nil_append,
    bitField, pack, flag_eq, ringBits, Bool.toNat_false]
  unfold timerGroup
  ring

theorem ledgerEvt_lt (s : State) : (if s.ledger.ready then s.ledger.evt.toNat else 0) < 2 ^ 8 := by
  split
  · exact s.ledger.evt.isLt
  · decide

theorem bitFields_fit (bs : List Bool) : packFits (bs.map bitField) := by
  intro x hx
  obtain ⟨b, -, rfl⟩ := List.mem_map.mp hx
  exact toNat_lt b

theorem digestFields_fit (s : State) : packFits (digestFields s) := by
  have ring := bitFields_fit (ringDigest s)
  have unit := bitFields_fit (unitDigest s)
  simp only [packFits, digestFields, digestUpper, List.append_nil, List.forall_mem_cons, List.forall_mem_append] at ring unit ⊢
  exact ⟨portBits_lt _, portBits_lt _, ledgerEvt_lt s, ring, bitsWord_lt _ _, s.gwcEvt.isLt, unit⟩

theorem digest_attention (s : State) (p : PortId) : s.digest.testBit p.val = s.attention p := by
  rw [digest_eq, digestFields, testBit_pack_first (portBits_lt _) p.isLt, testBit_portBits]

theorem digest_fault (s : State) (p : PortId) : s.digest.testBit (32 + p.val) = s.portFault p := by
  rw [digest_eq, digestFields, testBit_pack_skip (portBits_lt _), testBit_pack_first (portBits_lt _) p.isLt, testBit_portBits]

/-- Past the bits of the ports. -/
theorem digest_pastPorts (s : State) (i : Nat) : s.digest.testBit (64 + i) =
    (pack ((8, if s.ledger.ready then s.ledger.evt.toNat else 0) :: ((ringDigest s).map bitField ++ digestUpper s))).testBit i := by
  rw [show 64 + i = 32 + (32 + i) by omega, digest_eq, digestFields, testBit_pack_skip (portBits_lt _),
    testBit_pack_skip (portBits_lt _)]

theorem digest_ledger (s : State) (i : Fin 8) :
    s.digest.testBit (64 + i.val) = (s.ledger.ready && s.ledger.evt.getLsbD i.val) := by
  rw [digest_pastPorts, testBit_pack_first (ledgerEvt_lt s) i.isLt]
  cases s.ledger.ready <;> simp [BitVec.getLsbD]

/-- From bit 72 up. -/
theorem digest_ring (s : State) (i : Nat) :
    s.digest.testBit (72 + i) = (ringDigest s)[i]?.getD ((pack (digestUpper s)).testBit (i - 8)) := by
  rw [show 72 + i = 64 + (8 + i) by omega, digest_pastPorts, testBit_pack_skip (ledgerEvt_lt s), testBit_pack_bits]
  rfl

/-- From bit 80 up. -/
theorem digest_upper (s : State) (i : Nat) : s.digest.testBit (80 + i) = (pack (digestUpper s)).testBit i := by
  rw [show 80 + i = 72 + (i + 8) by omega, digest_ring, List.getElem?_eq_none (by simp [ringDigest]), Option.getD_none,
    Nat.add_sub_cancel]

theorem digest_timers (s : State) (g : Fin 16) : s.digest.testBit (80 + g.val) = timerGroup s g.val := by
  rw [digest_upper, digestUpper, testBit_pack_first (bitsWord_lt _ _) g.isLt, testBit_bitsWord, decide_eq_true g.isLt,
    Bool.true_and]

theorem digest_comparators (s : State) (g : Fin 16) : s.digest.testBit (96 + g.val) = s.gwcEvt.getLsbD g.val := by
  rw [show 96 + g.val = 80 + (16 + g.val) by omega, digest_upper, digestUpper, testBit_pack_skip (bitsWord_lt _ _),
    testBit_pack_first s.gwcEvt.isLt g.isLt]
  rfl

/-- From bit 112 up. -/
theorem digest_units (s : State) (i : Nat) : s.digest.testBit (112 + i) = (unitDigest s)[i]?.getD false := by
  rw [show 112 + i = 80 + (16 + (16 + i)) by omega, digest_upper, digestUpper, testBit_pack_skip (bitsWord_lt _ _),
    testBit_pack_skip s.gwcEvt.isLt, testBit_pack_bits]
  simp [pack]

theorem digest_above (s : State) {i : Nat} (h : 120 ≤ i) : s.digest.testBit i = false := by
  obtain ⟨j, rfl⟩ := Nat.exists_eq_add_of_le h
  rw [show 120 + j = 112 + (j + 8) by omega, digest_units, List.getElem?_eq_none (by simp [unitDigest]), Option.getD_none]

/-! ## Ridgeline's bits -/

/-- A word tested under a mask has a bit of the mask set. -/
theorem masked_ne_zero {n : Nat} (v m : BitVec n) :
    (v &&& m != 0) = (List.range n).any fun i => m.getLsbD i && v.getLsbD i := by
  rw [Bool.eq_iff_iff, bne_iff_ne, Ne, BitVec.eq_of_getLsbD_eq_iff, List.any_eq_true]
  simp [and_comm]

theorem ringBits_getLsbD (s : State) (i : Nat) : (ringBits s).getLsbD i = (s.ringReady && s.ring.evt.getLsbD i) := by
  unfold ringBits
  cases s.ringReady <;> simp

/-- Page 0x00 ends in DIGEST, behind sixteen bytes. -/
theorem page00_digest (s : State) : ∃ l, l.length = 16 ∧ s.page00 = l ++ leBytes 16 s.digest := ⟨_, rfl, rfl⟩

theorem winByte_digest (s : State) (role : Nat) (i : Fin 16) : s.winByte role 0 (0x10 + i.val) = byteOf s.digest i.val := by
  obtain ⟨l, hl, page⟩ := page00_digest s
  rw [State.winByte, if_neg (by omega), if_pos rfl, page, nth, List.getD_eq_getElem?_getD, List.getElem?_append_right (by omega),
    hl, Nat.add_sub_cancel_left]
  simp [leBytes]

/-! ## The statement -/

/-- Settles O54: DIGEST is its fields put together, and each bit is read off the field it lies in. -/
theorem digestBitsAreTheirSources : Obligations.DigestBitsAreTheirSources := by
  unfold Obligations.DigestBitsAreTheirSources
  refine ⟨fun s p => ⟨digest_attention s p, digest_fault s p⟩, digest_ledger, fun s => ?_, fun s g => ⟨digest_timers s g,
    digest_comparators s g⟩, fun s => ?_, fun s i => digest_above s, winByte_digest⟩
  · have bit := digest_ring s
    refine ⟨bit 0, (bit 1).trans ?_, (bit 2).trans ?_, (bit 3).trans (ringBits_getLsbD s 6), (bit 4).trans (ringBits_getLsbD s 7),
      (bit 5).trans ?_, (bit 6).trans (ringBits_getLsbD s 10), bit 7⟩
    all_goals
      refine (masked_ne_zero _ _).trans ?_
      simp [List.range, List.range.loop, ringBits_getLsbD, Bool.and_or_distrib_left, Bool.or_assoc]
  · have bit := digest_units s
    exact ⟨bit 0, bit 1, bit 2, bit 3, bit 4, bit 5, bit 6, bit 7⟩

end Sys2Proof.Proofs
end

section
/-!
SUPPORT. A served command seen as one change of the state and one change of the host's side: the rules by which a command's answer
or acceptance follows from its body alone; with them O50 is settled.
-/
namespace Sys2Proof.Proofs

open Sys2Proof.Machine Sys2Proof.Safety Sys2Proof.Laws

/-! ## The host's side of a state -/

/-- What a state holds of the host's side: all that `HostOnly` lets change. -/
structure HostSide where
  mb : Mailbox
  perf : Perf
  trace : Trace
  free : Nat
  pwr : Pwr
  acked : Bool
  out : List Byte
  acks : Nat
  lastAddr : Byte

/-- A state with the host's side replaced. -/
def withHost (s : State) (v : HostSide) : State :=
  { s with
    mb := v.mb, perf := v.perf, trace := v.trace, free := v.free, sys := { s.sys with pwr := v.pwr },
    bus := { s.bus with acked := v.acked, out := v.out, acks := v.acks, lastAddr := v.lastAddr } }

theorem hostOnly_iff {s t : State} : HostOnly s t ↔ ∃ v, t = withHost s v :=
  ⟨fun h => ⟨⟨t.mb, t.perf, t.trace, t.free, t.sys.pwr, t.bus.acked, t.bus.out, t.bus.acks, t.bus.lastAddr⟩, h⟩,
    by rintro ⟨v, rfl⟩; rfl⟩

theorem host_withHost (s : State) (v : HostSide) : HostOnly s (withHost s v) := hostOnly_iff.mpr ⟨v, rfl⟩

/-- The packet that the body of a served command gets. -/
def begunPacket (s : State) (k : Packet) : Packet :=
  { (s.traceCount k).2 with minor := s.sys.minor, ord := s.mb.acc, sts := s.sys.sts }

theorem begunPacket_opcode (s : State) (k : Packet) : (begunPacket s k).opcode = k.opcode := rfl

/-- A served command but FW_COMMIT is its body, and then its answer. -/
theorem submit_begun {s : State} {h : CmdHdr} {op : Byte} {pl : List Byte} (serves : Serves s (cmdPacket h op pl))
    (ho : (op == 0x89) = false) :
    ∃ v, Begun s (cmdPacket h op pl) (withHost s v) (begunPacket s (cmdPacket h op pl)) ∧
      s.submit (cmdPacket h op pl) =
        ((withHost s v).runBody (begunPacket s (cmdPacket h op pl))).1.answer (begunPacket s (cmdPacket h op pl))
          ((withHost s v).runBody (begunPacket s (cmdPacket h op pl))).2 := by
  obtain ⟨u, j, b, e⟩ := submit_serves serves rfl rfl
  obtain ⟨v, rfl⟩ := hostOnly_iff.mp (begun_host b)
  obtain rfl : j = begunPacket s (cmdPacket h op pl) := b.pkt
  refine ⟨v, b, ?_⟩
  rw [e, begunPacket_opcode, show (cmdPacket h op pl).opcode = op from rfl, ho]
  rfl

/-- The final answer of a served command, once its body has taken the state to `x`. -/
theorem answered_of_begun {s x : State} {k : Packet} {v w : HostSide} {st : Byte} {r : List Byte} (serves : Serves s k)
    (b : Begun s k (withHost s v) (begunPacket s k)) (hi : x.sys.interp = s.sys.interp) (mb : w.mb = v.mb) (hl : r.length ≤ 1024) :
    Answered s k st r ((withHost x w).answer (begunPacket s k) (.final st r)) := by
  have begun : v.mb = _ := b.mb
  have c : (withHost x w).caughtUp = true :=
    caughtUp_of (begun_caughtUp serves b) hi (congrArg (·.late) mb) (congrArg (·.inbox) mb)
  obtain ⟨-, -, -, -, -, -, held, -, room, -⟩ := serves
  rw [Answered, answer_final_mb c (by rw [withHost, mb, begun]; exact held) (by rw [withHost, mb, begun]; exact room) hl,
    withHost, mb, begun]
  rfl

/-- The acceptance of a served command, once its body has taken the state to `x`. -/
theorem accepted_of_begun {s x : State} {k : Packet} {v w : HostSide} (serves : Serves s k)
    (b : Begun s k (withHost s v) (begunPacket s k)) (hi : x.sys.interp = s.sys.interp) (mb : w.mb = v.mb) :
    Accepted s k ((withHost x w).answer (begunPacket s k) .accepted) := by
  have begun : v.mb = _ := b.mb
  have c : (withHost x w).caughtUp = true :=
    caughtUp_of (begun_caughtUp serves b) hi (congrArg (·.late) mb) (congrArg (·.inbox) mb)
  obtain ⟨-, -, -, -, -, -, held, -, room, -⟩ := serves
  rw [Accepted, answer_accepted_mb c (by rw [withHost, mb, begun]; exact held) (by rw [withHost, mb, begun]; exact room),
    withHost, mb, begun]
  rfl

/-! ## A command follows from its body -/

section
variable {s x : State} {h : CmdHdr} {op : Byte} {pl : List Byte}

/-- A served command whose body takes the state to `x` and ends in a final status. -/
theorem submit_final {st : Byte} {r : List Byte} (serves : Serves s (cmdPacket h op pl)) (ho : (op == 0x89) = false)
    (hl : r.length ≤ 1024) (hi : x.sys.interp = s.sys.interp)
    (body : ∀ v, Begun s (cmdPacket h op pl) (withHost s v) (begunPacket s (cmdPacket h op pl)) →
      ∃ w, (withHost s v).runBody (begunPacket s (cmdPacket h op pl)) = (withHost x w, .final st r) ∧ w.mb = v.mb) :
    Answered s (cmdPacket h op pl) st r (s.submit (cmdPacket h op pl)) ∧ ∃ w, s.submit (cmdPacket h op pl) = withHost x w :=
  serves_final serves rfl rfl ho hl fun u j b => by
    obtain ⟨v, rfl⟩ := hostOnly_iff.mp (begun_host b)
    obtain rfl := b.pkt
    obtain ⟨w, run, mb⟩ := body v b
    exact ⟨withHost x w, run, mb, hi, fun t ht => hostOnly_iff.mp (host_trans (host_withHost x w) ht)⟩

/-- A served command whose body takes the state to `x` and is accepted. -/
theorem submit_accepted (serves : Serves s (cmdPacket h op pl)) (ho : (op == 0x89) = false) (hi : x.sys.interp = s.sys.interp)
    (body : ∀ v, Begun s (cmdPacket h op pl) (withHost s v) (begunPacket s (cmdPacket h op pl)) →
      ∃ w, (withHost s v).runBody (begunPacket s (cmdPacket h op pl)) = (withHost x w, .accepted) ∧ w.mb = v.mb) :
    Accepted s (cmdPacket h op pl) (s.submit (cmdPacket h op pl)) ∧ ∃ w, s.submit (cmdPacket h op pl) = withHost x w :=
  serves_accepted serves rfl rfl ho fun u j b => by
    obtain ⟨v, rfl⟩ := hostOnly_iff.mp (begun_host b)
    obtain rfl := b.pkt
    obtain ⟨w, run, mb⟩ := body v b
    exact ⟨withHost x w, run, mb, hi, fun t ht => hostOnly_iff.mp (host_trans (host_withHost x w) ht)⟩

/-- A served command, but TRACE_READ, whose body takes the state to `x` and ends in one part. -/
theorem submit_part {st : Byte} {r : List Byte} (serves : Serves s (cmdPacket h op pl)) (ho : (op == 0x89) = false)
    (ht : (op == 0x83) = false) (hl : r.length ≤ 1024) (hi : x.sys.interp = s.sys.interp)
    (body : ∀ v, Begun s (cmdPacket h op pl) (withHost s v) (begunPacket s (cmdPacket h op pl)) →
      ∃ w, (withHost s v).runBody (begunPacket s (cmdPacket h op pl)) = (withHost x w, .parts st [r]) ∧ w.mb = v.mb) :
    Answered s (cmdPacket h op pl) st r (s.submit (cmdPacket h op pl)) ∧ ∃ w, s.submit (cmdPacket h op pl) = withHost x w := by
  obtain ⟨v, b, e⟩ := submit_begun serves ho
  obtain ⟨w, run, mb⟩ := body v b
  have last : s.submit (cmdPacket h op pl) = (withHost x w).answer (begunPacket s (cmdPacket h op pl)) (.final st r) := by
    have keeps (z : State) : z.partsOver (begunPacket s (cmdPacket h op pl)) = z :=
      if_neg (by rw [begunPacket_opcode, show (cmdPacket h op pl).opcode = op from rfl, ht]; decide)
    rw [e, run]
    simp only [State.answer, State.emitPart, keeps, List.length_singleton, le_refl, if_true]
  rw [last]
  exact ⟨answered_of_begun serves b hi mb hl, hostOnly_iff.mp (host_trans (host_withHost x w) (host_answer _ _ _))⟩

end

/-! ## A command's clause from its body -/

section
variable {s : State} {c : Instr} {h : CmdHdr} {op : Byte} {pl : List Byte} {P : State → Prop}

/-- The clause of a command that is answered with a final status and takes the state to `x`. -/
theorem yields_final {st : Byte} {r : List Byte} (x : State) (serves : Serves s (cmdPacket h op pl))
    (run : exec c s = .next (s.submit (cmdPacket h op pl))) (ho : (op == 0x89) = false) (hl : r.length ≤ 1024)
    (hi : x.sys.interp = s.sys.interp)
    (body : ∀ v, Begun s (cmdPacket h op pl) (withHost s v) (begunPacket s (cmdPacket h op pl)) →
      ∃ w, (withHost s v).runBody (begunPacket s (cmdPacket h op pl)) = (withHost x w, .final st r) ∧ w.mb = v.mb)
    (shows : ∀ w, P (withHost x w)) : Yields c s fun t => Answered s (cmdPacket h op pl) st r t ∧ P t := by
  obtain ⟨answered, w, e⟩ := submit_final serves ho hl hi body
  exact ⟨_, run, answered, e ▸ shows w⟩

/-- The clause of a command that is accepted and takes the state to `x`. -/
theorem yields_accepted (x : State) (serves : Serves s (cmdPacket h op pl))
    (run : exec c s = .next (s.submit (cmdPacket h op pl))) (ho : (op == 0x89) = false) (hi : x.sys.interp = s.sys.interp)
    (body : ∀ v, Begun s (cmdPacket h op pl) (withHost s v) (begunPacket s (cmdPacket h op pl)) →
      ∃ w, (withHost s v).runBody (begunPacket s (cmdPacket h op pl)) = (withHost x w, .accepted) ∧ w.mb = v.mb)
    (shows : ∀ w, P (withHost x w)) : Yields c s fun t => Accepted s (cmdPacket h op pl) t ∧ P t := by
  obtain ⟨accepted, w, e⟩ := submit_accepted serves ho hi body
  exact ⟨_, run, accepted, e ▸ shows w⟩

/-- The clause of a command that is answered with one part and takes the state to `x`. -/
theorem yields_part {st : Byte} {r : List Byte} (x : State) (serves : Serves s (cmdPacket h op pl))
    (run : exec c s = .next (s.submit (cmdPacket h op pl))) (ho : (op == 0x89) = false) (ht : (op == 0x83) = false)
    (hl : r.length ≤ 1024) (hi : x.sys.interp = s.sys.interp)
    (body : ∀ v, Begun s (cmdPacket h op pl) (withHost s v) (begunPacket s (cmdPacket h op pl)) →
      ∃ w, (withHost s v).runBody (begunPacket s (cmdPacket h op pl)) = (withHost x w, .parts st [r]) ∧ w.mb = v.mb)
    (shows : ∀ w, P (withHost x w)) : Yields c s fun t => Answered s (cmdPacket h op pl) st r t ∧ P t := by
  obtain ⟨answered, w, e⟩ := submit_part serves ho ht hl hi body
  exact ⟨_, run, answered, e ▸ shows w⟩

/-- The clause of a command that is answered with a final status, whatever its body's state. -/
theorem yields_final_of {st : Byte} {r : List Byte} (serves : Serves s (cmdPacket h op pl))
    (run : exec c s = .next (s.submit (cmdPacket h op pl))) (ho : (op == 0x89) = false) (hl : r.length ≤ 1024)
    (body : ∀ v, Begun s (cmdPacket h op pl) (withHost s v) (begunPacket s (cmdPacket h op pl)) →
      ∃ g, (withHost s v).runBody (begunPacket s (cmdPacket h op pl)) = (g, .final st r) ∧ g.mb = v.mb ∧
        g.sys.interp = s.sys.interp ∧ ∀ w, P (withHost g w)) :
    Yields c s fun t => Answered s (cmdPacket h op pl) st r t ∧ P t := by
  refine ⟨_, run, serves_final serves rfl rfl ho hl fun u j b => ?_⟩
  obtain ⟨v, rfl⟩ := hostOnly_iff.mp (begun_host b)
  obtain rfl := b.pkt
  obtain ⟨g, body, mb, interp, shows⟩ := body v b
  refine ⟨g, body, mb, interp, fun t ht => ?_⟩
  obtain ⟨w, rfl⟩ := hostOnly_iff.mp ht
  exact shows w

/-- The clause of a command that is accepted, whatever its body's state. -/
theorem yields_accepted_of (serves : Serves s (cmdPacket h op pl))
    (run : exec c s = .next (s.submit (cmdPacket h op pl))) (ho : (op == 0x89) = false)
    (body : ∀ v, Begun s (cmdPacket h op pl) (withHost s v) (begunPacket s (cmdPacket h op pl)) →
      ∃ g, (withHost s v).runBody (begunPacket s (cmdPacket h op pl)) = (g, .accepted) ∧ g.mb = v.mb ∧
        g.sys.interp = s.sys.interp ∧ ∀ w, P (withHost g w)) :
    Yields c s fun t => Accepted s (cmdPacket h op pl) t ∧ P t := by
  refine ⟨_, run, serves_accepted serves rfl rfl ho fun u j b => ?_⟩
  obtain ⟨v, rfl⟩ := hostOnly_iff.mp (begun_host b)
  obtain rfl := b.pkt
  obtain ⟨g, body, mb, interp, shows⟩ := body v b
  refine ⟨g, body, mb, interp, fun t ht => ?_⟩
  obtain ⟨w, rfl⟩ := hostOnly_iff.mp ht
  exact shows w

end

/-- The body of a served command draws from the state's own free values. -/
theorem begun_free {s u : State} {k j : Packet} (b : Begun s k u j) : u.free = s.free := by rw [b.rest]

/-- The checks let no longer payload through than 1,024 bytes. -/
theorem payload_le_of_serves {s : State} {h : CmdHdr} {op : Byte} {pl : List Byte} (serves : Serves s (cmdPacket h op pl)) :
    pl.length ≤ 1024 := by
  obtain ⟨-, -, -, -, -, -, -, -, -, checks⟩ := serves
  by_contra long
  have tooLong : decide (1024 < (cmdPacket h op pl).len) = true := decide_eq_true (by simpa [cmdPacket] using long)
  unfold State.checks at checks
  rw [tooLong] at checks
  simp only [Bool.true_or, if_true] at checks
  split at checks
  · exact absurd checks (by simp)
  · split at checks
    · exact absurd checks (by simp)
    · split at checks <;> exact absurd checks (by simp)

/-! ## The port of a command -/

theorem begunPacket_port {s : State} {c : BitVec 2} {g : BitVec 6} {q op : Byte} {pl : List Byte} (p : PortId) :
    (begunPacket s (cmdPacket ⟨c, g, byteOf p.val 0, q⟩ op pl)).port = some p := portOf_byteOf p

/-- A port's command runs on its port. -/
theorem onPort_begun {s t : State} {c : BitVec 2} {g : BitVec 6} {q op : Byte} {pl : List Byte} (p : PortId)
    (f : State → Packet → PortId → State × CmdRes) :
    t.onPort (begunPacket s (cmdPacket ⟨c, g, byteOf p.val 0, q⟩ op pl)) f =
      f t (begunPacket s (cmdPacket ⟨c, g, byteOf p.val 0, q⟩ op pl)) p := by
  rw [State.onPort, begunPacket_port]

theorem port_modPort_withHost (s : State) (p : PortId) (f : Port → Port) (w : HostSide) :
    (withHost (s.modPort p f) w).port p = f (s.port p) := State.port_modPort_self s p f

theorem othersSame_modPort {s t : State} {p : PortId} {f : Port → Port} {w : HostSide} (same : ∀ q, t.port q = s.port q) :
    OthersSame p s (withHost (t.modPort p f) w) :=
  fun q other => (State.port_modPort_ne t p q f other).trans (same q)

/-! ## The completion of a long operation -/

/-- A completion with room is one change of the host's side. -/
theorem complete_withHost {s : State} {k : Packet} {st : Byte} {pl : List Byte} (hi : s.caughtUp = true) (hh : s.mb.held = [])
    (hr : s.mb.room 1024 = true) (hl : pl.length ≤ 1024) :
    ∃ w, s.complete k st pl = withHost s w ∧ Completed s k st pl (withHost s w) := by
  obtain ⟨w, e⟩ := hostOnly_iff.mp (host_complete s k st pl)
  exact ⟨w, e, e ▸ complete_completed hi hh hr hl⟩

/-! ## ECHO (R437) -/

/-- Settles O50: the body of ECHO is its payload, and changes nothing. -/
theorem echoReturnsItsPayload : Obligations.EchoReturnsItsPayload := by
  unfold Obligations.EchoReturnsItsPayload
  refine ⟨fun s c g q pl serves => ?_, fun _ pl _ => ⟨rfl, rfl⟩⟩
  exact yields_final s serves rfl rfl (payload_le_of_serves serves) rfl (fun v _ => ⟨v, rfl, rfl⟩) (host_withHost s)

end Sys2Proof.Proofs
end

section
/-!
SUPPORT. The write of an EMBER record; with it O33 is refuted.
-/
namespace Sys2Proof.Proofs

open Sys2Proof.Machine Sys2Proof.Safety Sys2Proof.Laws

/-- A record that is written sets SYSEVT EMBER where it is an EMBER record (R611). -/
theorem exec_recordWrite_ember {s : State} {r : Rec} {b : Sbox} (hi : s.sys.interp = true) (hs : s.sys.sboxReady = true)
    (hh : s.sbox.head (s.sys.sts.truncate 48) = some (r, b)) (ht : r.ty = 0x11) (n : Nat) :
    ∃ t, exec (.recordWrite n) s = .next t ∧ t.sys.evt = setBit s.sys.evt 1 := by
  refine ⟨_, rfl, ?_⟩
  simp only [State.when, hi, hs, Bool.and_self, if_true, hh, ht, BEq.rfl]
  rw [count_eq, count_eq, count_eq]

/-- The head of its record queue is an EMBER record. -/
def emberQueued : State :=
  { State.reset with sys.interp := true, sys.sboxReady := true, sbox.queue := [⟨0x11, [], 0⟩] }

/-- Refutes O33: a record of EMBER is not pinned, and its write sets the EMBER bit of SYSEVT, which the clause of an unpinned record
says no write changes. -/
theorem not_recordsAndFusesOnTheirOwn : ¬ Obligations.RecordsAndFusesOnTheirOwn := by
  unfold Obligations.RecordsAndFusesOnTheirOwn
  rintro ⟨writes, -⟩
  obtain ⟨t, run, -, -, -, -, -, -, -, -, -, -, frame⟩ :=
    writes emberQueued ⟨0x11, [], 0⟩ [] rfl rfl rfl rfl (by decide) rfl (by decide)
  obtain ⟨u, run', evt⟩ := exec_recordWrite_ember (s := emberQueued) rfl rfl (r := ⟨0x11, [], 0⟩) rfl rfl 0
  obtain rfl : u = t := by rw [run] at run'; injection run' with e; exact e.symm
  have same : u.sys.evt = emberQueued.sys.evt := congrArg (·.sys.evt) frame
  exact absurd (same.symm.trans evt) (by decide)

end Sys2Proof.Proofs
end

section
/-!
SUPPORT. A reset of the interpreter with a VDM_SEND waiting on a port; with it O30 and O31 are refuted.
-/
namespace Sys2Proof.Proofs

open Sys2Proof.Machine Sys2Proof.Safety Sys2Proof.Laws

/-- A VDM_SEND is in flight on P0, and has not begun. -/
def vdmWaiting : State :=
  { State.reset with
    sys.boot := 13, sys.interp := true, sys.interpSeen := true,
    mb.flights := [cmdPacket ⟨0, 0, 0, 0⟩ 0x22 [0, 0, 1, 0, 0, 0x80, 0, 0]] }

/-- A VDM_SEND runs on P0 after a command or event. -/
def vdmRuns (c : Instr) (s : State) : Bool :=
  match exec c s with
  | .next t => (t.port 0).lm.run.isSome
  | _ => false

theorem vdmWaiting_lockstep : vdmRuns .lockstepMismatch vdmWaiting = true := by decide +kernel

theorem vdmWaiting_doubleBit : vdmRuns (.doubleBitError .interp 0) vdmWaiting = true := by decide +kernel

theorem vdmRuns_next {c : Instr} {s t : State} (h : vdmRuns c s = true) (run : exec c s = .next t) :
    (t.port 0).lm.run.isSome = true := by
  rw [vdmRuns, run] at h
  exact h

/-- Refutes O31: a double-bit error under the interpreter resets it, and a VDM_SEND in flight that had not begun begins on its port. -/
theorem not_memoryFaultsAndSelfTests : ¬ Obligations.MemoryFaultsAndSelfTests := by
  unfold Obligations.MemoryFaultsAndSelfTests
  rintro ⟨-, -, -, resets, -⟩
  obtain ⟨t, run, -, -, -, ports⟩ := resets vdmWaiting 0 rfl rfl (by decide) (by decide) rfl rfl rfl rfl
  have runs := vdmRuns_next vdmWaiting_doubleBit run
  rw [State.port, show t.ports = vdmWaiting.ports from ports] at runs
  exact absurd runs (by decide +kernel)

/-- Refutes O30: a lockstep mismatch resets the interpreter, and a VDM_SEND in flight that had not begun begins on its port. -/
theorem not_faultsOfThePairsAndTheInterpreter : ¬ Obligations.FaultsOfThePairsAndTheInterpreter := by
  unfold Obligations.FaultsOfThePairsAndTheInterpreter
  rintro ⟨-, -, -, resets, -⟩
  obtain ⟨t, run, -, -, -, -, -, -, -, ports, -⟩ := resets vdmWaiting rfl rfl (by decide) rfl rfl rfl rfl
  have runs := vdmRuns_next vdmWaiting_lockstep run
  rw [State.port, ports] at runs
  exact absurd runs (by decide +kernel)

end Sys2Proof.Proofs
end

section
/-!
SUPPORT. A reply longer than the reply queue; with it O48 is refuted.
-/
namespace Sys2Proof.Proofs

open Sys2Proof.Machine Sys2Proof.Safety Sys2Proof.Laws

/-- A reply that the queue has no room for is not placed in it. -/
theorem emit_noRoom {s : State} {r : Reply} (h : s.mb.room r.payload.length = false) : (s.emit r).mb.replies = s.mb.replies := by
  unfold State.emit State.place
  split
  · simp [h]
  · rfl

/-- No queue has room for more bytes than its own. -/
theorem room_false {m : Mailbox} {n : Nat} (h : 65536 < n) : m.room n = false := by
  simp [Mailbox.room]
  omega

/-- A served command whose reply is longer than the reply queue is not answered at once. -/
theorem not_answered_of_long {s : State} {k : Packet} {st : Byte} {pl : List Byte} (h : Serves s k) (hd : k.dead = false)
    (hk : k.stale = false) (ho : (k.opcode == 0x89) = false) (hl : 65536 < pl.length)
    (body : ∀ u j, Begun s k u j → ∃ g, u.runBody j = (g, .final st pl) ∧ g.mb = u.mb) : ¬ Answered s k st pl (s.submit k) := by
  obtain ⟨u, j, b, run⟩ := submit_serves h hd hk
  obtain ⟨g, final, mb⟩ := body u j b
  have op : j.opcode = k.opcode := (begun_reply b st pl false false true).2
  have kept : (s.submit k).mb.replies = s.mb.replies := by
    rw [run, final]
    dsimp only
    rw [op, ho, Bool.false_and, if_neg Bool.false_ne_true, State.answer, traceReply_mb, emit_noRoom (room_false hl), mb, b.mb]
  intro ans
  rw [ans] at kept
  simpa using congrArg List.length kept

/-- A device that serves its host and whose eight key slots hold a check value of `n` bytes. -/
def vaultOf (n : Nat) : State :=
  { State.reset with
    sys.boot := 13, sys.interp := true, sys.interpSeen := true, sys.vaultReady := true,
    vault.slots := Vector.replicate 8 ⟨1, 1, [], List.replicate n 0⟩ }

theorem vaultOf_serves (n : Nat) : Serves (vaultOf n) (cmdPacket ⟨0, 0, 0xFF, 0⟩ 0x78 [0, 0, 1, 0]) := by
  have empty : Serves (vaultOf 0) (cmdPacket ⟨0, 0, 0xFF, 0⟩ 0x78 [0, 0, 1, 0]) := by
    refine ⟨rfl, rfl, rfl, ?_, rfl, rfl, rfl, rfl, ?_, ?_⟩ <;> decide +kernel
  exact empty

theorem vaultOf_status_length (n v : Nat) : n < (leBytes 4 v ++ (vaultOf n).vault.slots.toList.flatMap KeySlot.entry).length := by
  have slots : (vaultOf n).vault.slots.toList = List.replicate 8 ⟨1, 1, [], List.replicate n 0⟩ := Vector.toList_replicate ..
  have entry : (KeySlot.entry ⟨1, 1, [], List.replicate n 0⟩).length = n + 4 := by simp [KeySlot.entry]
  rw [slots, List.length_append, List.replicate_succ, List.flatMap_cons, List.length_append, entry]
  omega

/-- Refutes O48: a key slot of the model may hold a check value of any length, and with one the status is no reply that the queue
has room for. -/
theorem not_strongboxVaultAndAlarmCommands : ¬ Obligations.StrongboxVaultAndAlarmCommands := by
  unfold Obligations.StrongboxVaultAndAlarmCommands
  rintro ⟨-, -, -, -, reads, -⟩
  have serves := vaultOf_serves 65536
  obtain ⟨t, run, answered, -⟩ := reads (vaultOf 65536) 0 0 0 serves
  have e : (vaultOf 65536).submit (cmdPacket ⟨0, 0, 0xFF, 0⟩ 0x78 [0, 0, 1, 0]) = t := by
    injection (show exec _ _ = .next (State.submit _ _) from rfl).symm.trans run
  rw [← e] at answered
  refine not_answered_of_long serves rfl rfl rfl (vaultOf_status_length 65536 _) (fun u j b => ⟨u, ?_, rfl⟩) answered
  obtain ⟨v, rfl⟩ := hostOnly_iff.mp (begun_host b)
  obtain rfl := b.pkt
  rfl

end Sys2Proof.Proofs
end

section
/-!
SUPPORT. The bodies of the Ledger, bridge, Ember, island and Ridgeline commands, and the length of the Ledger's summary; with them
O44 is settled.
-/
namespace Sys2Proof.Proofs

open Sys2Proof.Machine Sys2Proof.Safety Sys2Proof.Laws

/-! ## The waiting list -/

/-- Placing ports one by one in a list adds one place for each. -/
theorem length_foldl_place (f : PortId → PortId → Bool) (l acc : List PortId) :
    (l.foldl (fun acc p => acc.takeWhile (f p) ++ p :: acc.dropWhile (f p)) acc).length = acc.length + l.length := by
  induction l generalizing acc with
  | nil => rfl
  | cons p l ih =>
    have parts : acc.length = (acc.takeWhile (f p)).length + (acc.dropWhile (f p)).length := by
      rw [← List.length_append, List.takeWhile_append_dropWhile]
    rw [List.foldl_cons, ih, List.length_append, List.length_cons, List.length_cons]
    omega

theorem waitList_length_le (s : State) : s.waitList.length ≤ 32 := by
  rw [State.waitList, length_foldl_place fun p q => !s.waitsBefore p q]
  calc _ = (allPorts.filter fun p => (s.port p).lg.waiting.isSome).length := by simp
    _ ≤ allPorts.length := List.length_filter_le _ _
    _ = 32 := by decide

theorem ledgerSummary_length_le (s : State) : s.ledgerSummary.length ≤ 1024 := by
  have entries := waitList_length_le s
  simp [State.ledgerSummary]
  omega

/-! ## RING_CFG -/

/-- What RING_CFG of a node that is not joined sets, before its bypass closes. -/
def ringAwaits (s : State) (e : Bool) (n : Byte) (c : BitVec 2) (d : List Byte) : State :=
  { s with ring.pend := some (e, n, c), ring.hostInfo := d, ring.refused := false, ring.cycDiff := false }

/-- The body of RING_CFG of a node that is not joined. -/
theorem cmdRingCfg_unjoined {s : State} {k : Packet} {x n : Byte} {d : List Byte} (hk : k.payload = x :: n :: d) (hn : n ≠ 0xFF)
    (link : s.ring.link.toNat < 2) : s.cmdRingCfg k =
      ((ringAwaits (s.saveEntry 0x48 0xFF ((x &&& 0xFD) :: n :: d)) (x.getLsbD 0) n (x.extractLsb' 2 2) d).ringLeave, ok) := by
  have number : ¬(n == 0xFF) = true := by simpa using hn
  have leaves : (!x.getLsbD 0 || x.getLsbD 1 || decide (s.ring.link.toNat < 2)) = true := by simp [link]
  rw [State.cmdRingCfg, hk]
  refine (if_neg number).trans (Prod.ext ((if_pos leaves).trans (congrArg State.ringLeave ?_)) rfl)
  rw [if_pos link]
  rfl

/-- A node that is not joined closes an open bypass in the next ring gap. -/
theorem ringLeave_open {s : State} (link : s.ring.link.toNat < 2) (isOpen : s.ring.isOpen = true) :
    s.ringLeave = { s with ring.joinDue := false, ring.joinSent := false, ring.gapClose := true } := by
  rw [State.ringLeave, if_neg (Nat.not_le.mpr link), isOpen]
  rfl

/-- What awaited the next join is in force, and the node listens. -/
def ringTaken (s : State) : State :=
  { s with ring.joinDue := false, ring.joinSent := false, ring.gapClose := false }.ringTake.ringListen

/-- A node that is not joined and whose bypass is closed takes what awaited its next join, and listens. -/
theorem ringLeave_closed {s : State} (link : s.ring.link.toNat < 2) (closed : s.ring.isOpen = false) :
    s.ringLeave = ringTaken s := by
  have unjoined : ¬2 ≤ s.ring.link.toNat := Nat.not_le.mpr link
  rw [State.ringLeave, if_neg unjoined, closed, if_neg Bool.false_ne_true, State.ringClosed, if_neg unjoined]
  rfl

/-- RING_BYPASS has a joined node leave. -/
theorem cmdRingBypass_leave {s : State} {k : Packet} (hk : k.payload = [1]) (link : s.ring.link = 2) :
    s.cmdRingBypass k = ({ s with ring.bypassed := true, ring.leaveDue := true }, ok) := by
  simp [State.cmdRingBypass, hk, nth, State.ringLeave, link]

/-- BRIDGE_SET of two ports that no bridge has. -/
theorem cmdBridgeSet_on {s : State} {k : Packet} {p q : PortId} (hk : k.payload = [byteOf q.val 0, 1]) (other : p ≠ q)
    (enabled : s.porten q = true) (source : cfgRole (s.port p).cfg ≠ 1) (sink : cfgRole (s.port q).cfg ≠ 0)
    (unbridged : s.bridgesNext = []) (idle : (s.port p).inPrSwap = false) (idle' : (s.port q).inPrSwap = false) :
    s.cmdBridgeSet k p = ({ s with ledger.brPend := s.ledger.brPend ++ [(⟨p, q⟩, true)] }, ok) := by
  have named : portOf (nth k.payload 0) = some q := by
    rw [hk]
    exact portOf_byteOf q
  have on : (nth k.payload 1).getLsbD 0 = true := by simp [hk, nth]
  rw [State.cmdBridgeSet, named]
  simp [unbridged, enabled, on, other, source, sink, idle, idle']

/-- ISLAND_SET arms where no HBISO# is low. -/
theorem cmdIslandSet_arm {s : State} {k : Packet} (hk : k.payload = [2, 0]) (minor : k.minor = 2) (hbiso : s.sys.hbisoLow = false) :
    s.cmdIslandSet k = ({ s with ledger.armed := true }, ok) := by
  simp [State.cmdIslandSet, hk, nth, minor, hbiso]

/-- Settles O44. -/
theorem ledgerAndPanelCommands : Obligations.LedgerAndPanelCommands := by
  unfold Obligations.LedgerAndPanelCommands
  refine ⟨?_, ?_, ?_, ?_, ?_, ?_, ?_, ?_, ?_, ?_, ?_, ?_, ?_⟩
  · intro s c g q pl serves some_pl within
    refine yields_final { s.saveEntry 0x30 0xFF pl with ledger.pend := some (lgCfgOf pl) } serves rfl rfl (Nat.zero_le _) rfl
      (fun v _ => ⟨v, ?_, rfl⟩) fun w => ⟨rfl, rfl, rfl⟩
    cases pl with
    | nil => exact absurd rfl some_pl
    | cons a l => exact if_pos within
  · intro s p c g q x a b serves class_ok
    refine yields_final ((s.saveEntry 0x31 p.val [x, 0, a, b]).modLg p fun l =>
        { l with pendCls := some (x.truncate 2, a.toNat + 256 * b.toNat) }) serves rfl rfl (Nat.zero_le _) rfl
      (fun v _ => ⟨v, ?_, rfl⟩) fun w => ⟨?_, ?_, rfl, rfl⟩
    · show State.onPort _ _ _ = _
      rw [onPort_begun]
      have known : x.truncate 2 ≠ 3#2 := fun e => by
        have := congrArg BitVec.toNat e
        simp at this
        omega
      exact if_neg known
    · exact congrArg Port.lg (port_modPort_withHost _ _ _ _)
    · exact othersSame_modPort fun _ => rfl
  · intro s p c g q serves
    refine yields_final s serves rfl rfl (by simp [State.ledgerPort]) rfl (fun v _ => ⟨v, ?_, rfl⟩) (host_withHost s)
    show State.cmdLedgerQuery _ _ = _
    rw [State.cmdLedgerQuery, begunPacket_port]
    rfl
  · intro s c g q serves
    exact yields_final s serves rfl rfl (ledgerSummary_length_le s) rfl (fun v _ => ⟨v, rfl, rfl⟩) (host_withHost s)
  · intro s p c g q serves
    refine yields_final (s.post (.hostRelease p)) serves rfl rfl (Nat.zero_le _) rfl (fun v _ => ⟨v, ?_, rfl⟩) fun w => ⟨rfl, rfl⟩
    show State.cmdLedgerRelease _ _ = _
    rw [State.cmdLedgerRelease, begunPacket_port]
    rfl
  · intro s c g q serves
    exact yields_final { s with ledger.returnAll := true, ledger.noBorrow := true } serves rfl rfl (Nat.zero_le _) rfl
      (fun v _ => ⟨v, rfl, rfl⟩) fun w => ⟨rfl, rfl⟩
  · intro s p c g q k serves other enabled source sink none_due idle idle'
    refine yields_final { s with ledger.brPend := s.ledger.brPend ++ [(⟨p, k⟩, true)] } serves rfl rfl (Nat.zero_le _) rfl
      (fun v _ => ⟨v, ?_, rfl⟩) fun w => ⟨rfl, rfl⟩
    show State.onPort _ _ _ = _
    rw [onPort_begun]
    exact cmdBridgeSet_on (s := withHost s v) (k := begunPacket s (cmdPacket ⟨c, g, _, q⟩ 0x40 [byteOf k.val 0, 1])) rfl other
      enabled source sink none_due idle idle'
  · intro s c g q x w a b d e serves hw
    refine yields_final
      { s.saveEntry 0x41 0xFF [x, w, 0, 0, a, b, d, e] with
        ember.forbid := x.getLsbD 0, ember.pwrMax := w.truncate 2, ember.mask := BitVec.ofNat 32 (leVal [a, b, d, e]) }
      serves rfl rfl (Nat.zero_le _) rfl (fun v _ => ⟨v, if_neg ?_, rfl⟩) fun w => ⟨rfl, rfl, rfl⟩
    show ¬ (3 < w)
    rw [BitVec.lt_def]
    exact Nat.not_lt.mpr hw
  · intro s c g q serves minor hbiso
    refine yields_final { s with ledger.armed := true } serves rfl rfl (Nat.zero_le _) rfl (fun v _ => ⟨v, ?_, rfl⟩)
      fun w => ⟨rfl, rfl⟩
    exact cmdIslandSet_arm (s := withHost s v) (k := begunPacket s (cmdPacket ⟨c, g, 0xFF, q⟩ 0x42 [2, 0])) rfl minor hbiso
  · intro s c g q x n d serves number cycle link closed
    have unjoined : s.ring.link.toNat < 2 := by simp [link]
    refine yields_final (ringTaken (ringAwaits (s.saveEntry 0x48 0xFF ((x &&& 0xFD) :: n :: d)) (x.getLsbD 0) n
      (x.extractLsb' 2 2) d)) serves rfl rfl (Nat.zero_le _) rfl (fun v _ => ⟨v, ?_, rfl⟩)
      fun w => ⟨rfl, rfl, rfl, rfl, rfl, rfl, rfl⟩
    refine (cmdRingCfg_unjoined (s := withHost s v) (k := begunPacket s (cmdPacket ⟨c, g, 0xFF, q⟩ 0x48 (x :: n :: d))) rfl
      number unjoined).trans ?_
    exact congrArg (·, ok) (ringLeave_closed (s := ringAwaits _ _ _ _ _) unjoined closed)
  · intro s c g q x n d serves number cycle unjoined isOpen
    refine yields_final { ringAwaits (s.saveEntry 0x48 0xFF ((x &&& 0xFD) :: n :: d)) (x.getLsbD 0) n
      (x.extractLsb' 2 2) d with ring.joinDue := false, ring.joinSent := false, ring.gapClose := true }
      serves rfl rfl (Nat.zero_le _) rfl (fun v _ => ⟨v, ?_, rfl⟩) fun w => ⟨rfl, rfl, rfl, rfl, rfl, rfl⟩
    refine (cmdRingCfg_unjoined (s := withHost s v) (k := begunPacket s (cmdPacket ⟨c, g, 0xFF, q⟩ 0x48 (x :: n :: d))) rfl
      number unjoined).trans ?_
    exact congrArg (·, ok) (ringLeave_open (s := ringAwaits _ _ _ _ _) unjoined isOpen)
  · intro s c g q serves
    exact yields_part s serves rfl rfl rfl (by simp [State.ringStatus]) rfl (fun v _ => ⟨v, rfl, rfl⟩) (host_withHost s)
  · intro s c g q serves link
    refine yields_final { s with ring.bypassed := true, ring.leaveDue := true } serves rfl rfl (Nat.zero_le _) rfl
      (fun v _ => ⟨v, ?_, rfl⟩) fun w => ⟨rfl, rfl⟩
    exact cmdRingBypass_leave (s := withHost s v) (k := begunPacket s (cmdPacket ⟨c, g, 0xFF, q⟩ 0x4A [1])) rfl link

end Sys2Proof.Proofs
end

section
/-!
SUPPORT. What a timer and a comparator read after a change of one of them, and the bodies of TMR_CFG, TMR_CMP, TMR_LINK and CMP_CFG;
with them O45 is settled.
-/
namespace Sys2Proof.Proofs

open Sys2Proof.Machine Sys2Proof.Safety Sys2Proof.Laws

/-! ## A changed timer or comparator, and the others -/

@[simp] theorem tmr_modTmr_self (s : State) (k : TmrId) (f : Tmr → Tmr) : (s.modTmr k f).tmr k = f (s.tmr k) := by
  simp [State.modTmr, State.setTmr, State.tmr, Vector.get_eq_getElem]

@[simp] theorem tmr_modTmr_ne (s : State) (k j : TmrId) (f : Tmr → Tmr) (h : j ≠ k) : (s.modTmr k f).tmr j = s.tmr j := by
  have : k.val ≠ j.val := fun e => h (Fin.ext e.symm)
  simp [State.modTmr, State.setTmr, State.tmr, Vector.get_eq_getElem, this]

@[simp] theorem gwc_setGwc_self (s : State) (g : Fin 16) (x : Gwc) : (s.setGwc g x).gwc g = x := by
  simp [State.setGwc, State.gwc, Vector.get_eq_getElem]

@[simp] theorem gwc_setGwc_ne (s : State) (g j : Fin 16) (x : Gwc) (h : j ≠ g) : (s.setGwc g x).gwc j = s.gwc j := by
  have : g.val ≠ j.val := fun e => h (Fin.ext e.symm)
  simp [State.setGwc, State.gwc, Vector.get_eq_getElem, this]

theorem otherTmrs_modTmr {s t : State} {k : TmrId} {f : Tmr → Tmr} {w : HostSide} (same : ∀ j, t.tmr j = s.tmr j) :
    ∀ j, j ≠ k → (withHost (t.modTmr k f) w).tmr j = s.tmr j :=
  fun j other => (tmr_modTmr_ne t k j f other).trans (same j)

theorem tmrOf_byteOf : ∀ k : TmrId, tmrOf (byteOf k.val 0) = some k := by decide

theorem gwcOf_byteOf : ∀ g : Fin 16, gwcOf (byteOf g.val 0) = some g := by decide

/-! ## TMR_CFG, TMR_CMP, TMR_LINK and CMP_CFG -/

/-- TMR_CFG of a timer whose clock no other setting needs. -/
theorem cmdTmrCfg_sets {s : State} {k : Packet} {t : TmrId} (named : tmrOf (nth k.payload 0) = some t)
    (long : (k.payload.length == 1) = false) (fields : tmrCfgOk t k.payload = true) (unshared : s.syncUse t = false) :
    s.cmdTmrCfg k = ((s.saveEntry 0x50 t.val k.payload).modTmr t fun x => x.applyCfg k.payload, ok) := by
  rw [State.cmdTmrCfg, named]
  exact (if_neg (by rw [long]; decide)).trans ((if_neg (by rw [fields]; decide)).trans (if_neg (by rw [unshared]; exact Bool.false_ne_true)))

/-- A timer's mode is 0 where the byte that names it is. -/
theorem truncate_ne_zero_of_mode : ∀ m : Byte, m ≤ 4 → (m.truncate 3 != 0#3) = (m != 0) := by decide

/-- A stopped timer takes its settings at once, and counts from 0. -/
theorem applyCfg_stopped {t : Tmr} (pl : List Byte) (stopped : t.run = false) :
    (t.applyCfg pl).mode = (nth pl 1).truncate 3 ∧ (t.applyCfg pl).clkSrc = nth pl 2 ∧
      (t.applyCfg pl).presc = BitVec.ofNat 16 (field pl 4 2) ∧ (t.applyCfg pl).prescFrac = nth pl 6 ∧
      (t.applyCfg pl).reload = BitVec.ofNat 32 (field pl 8 4) ∧ (t.applyCfg pl).count = 0 ∧
      (t.applyCfg pl).run = ((nth pl 3).getLsbD 0 && (nth pl 1).truncate 3 != 0#3) ∧ (t.applyCfg pl).cmpa = t.nextA := by
  simp [Tmr.applyCfg, stopped, Tmr.takePend, Tmr.nextA]

/-- A timer with a compare register written. -/
def cmpPut (isB : Bool) (v : Word) (t : Tmr) : Tmr :=
  if isB then { t with cmpb := v, wrB := none } else { t with cmpa := v, wrA := none }

/-- TMR_CMP of a stopped timer writes its register, with no late match. -/
theorem cmdTmrCmp_stopped {s : State} {k : Packet} {t : TmrId} (named : tmrOf (nth k.payload 0) = some t)
    (long : (k.payload.length == 1) = false) (stopped : (s.tmr t).run = false) :
    s.cmdTmrCmp k = ((s.saveEntry 0x51 t.val k.payload).modTmr t
      (cmpPut ((nth k.payload 1).getLsbD 0) (BitVec.ofNat 32 (field k.payload 4 4))), .final 0 [0]) := by
  have write (v : Word) (isB : Bool) :
      (s.saveEntry 0x51 t.val k.payload).cmpWrite t isB v =
        ((s.saveEntry 0x51 t.val k.payload).modTmr t (cmpPut isB v), false) := by
    have still : (!((s.saveEntry 0x51 t.val k.payload).tmr t).run) = true := by rw [Bool.not_eq_true']; exact stopped
    exact if_pos still
  rw [State.cmdTmrCmp, named]
  refine (if_neg (by rw [long]; decide)).trans ?_
  rw [write]
  rfl

/-- TMR_LINK of a mode but clock, with an event source that is not the timer's own. -/
theorem cmdTmrLink_sets {s : State} {k : Packet} {t : TmrId} {e : Byte} (hk : k.payload = [byteOf t.val 0, 2, e, 0])
    (source : evsrcFor t e = true) :
    s.cmdTmrLink k = (((s.saveEntry 0x52 t.val [byteOf t.val 0, 2, e, 0]).modTmr t fun x =>
      { x with smode := 2, trig := e, gate := s.freeNat % 2 == 1 }).drawn, ok) := by
  have named : tmrOf (nth k.payload 0) = some t := by rw [hk]; exact tmrOf_byteOf t
  simp [State.cmdTmrLink, named]
  simp [hk, nth, source]

/-- CMP_CFG sets all of a comparator, its history kept where nothing of its decision changes. -/
def cmpSet (x : Gwc) (pl : List Byte) : Gwc :=
  let y : Gwc := { x with
    mode := (nth pl 1).truncate 3, hyst := (nth pl 2).truncate 2, filtM := (nth pl 3).truncate 5,
    filtClk := (nth pl 4).truncate 2, thLo := BitVec.ofNat 10 (field pl 5 2), thHi := BitVec.ofNat 10 (field pl 7 2) }
  { y with
    evtMask := (nth pl 9).truncate 3, hist := if y == x then x.hist else [],
    raw := if nth pl 1 == 0 then .off else x.raw, st := if nth pl 1 == 0 then .off else x.st }

theorem cmdCmpCfg_sets {s : State} {k : Packet} {g : Fin 16} (named : gwcOf (nth k.payload 0) = some g)
    (long : (k.payload.length == 1) = false) (fields : cmpCfgOk k.payload = true) :
    s.cmdCmpCfg k = ((s.saveEntry 0x53 g.val k.payload).setGwc g (cmpSet (s.gwc g) k.payload), ok) := by
  rw [State.cmdCmpCfg, named]
  exact (if_neg (by rw [long]; decide)).trans (if_neg (by rw [fields]; decide))

/-- Settles O45. -/
theorem timerAndComparatorCommands : Obligations.TimerAndComparatorCommands := by
  unfold Obligations.TimerAndComparatorCommands
  refine ⟨?_, ?_, ?_, ?_⟩
  · intro s k c g q m c0 f a b x y r0 r1 r2 r3 serves stopped fields unshared
    refine yields_final (((s.saveEntry 0x50 k.val [byteOf k.val 0, m, c0, f, a, b, x, y, r0, r1, r2, r3]).modTmr k fun t =>
      t.applyCfg [byteOf k.val 0, m, c0, f, a, b, x, y, r0, r1, r2, r3])) serves rfl rfl (Nat.zero_le _) rfl
      (fun v b => ⟨v, ?_, rfl⟩) fun w => ?_
    · exact cmdTmrCfg_sets (s := withHost s v) (k := begunPacket s _) (tmrOf_byteOf k) rfl fields unshared
    · have small : m ≤ 4 := by
        simp only [tmrCfgOk, Bool.and_eq_true, decide_eq_true_eq] at fields
        obtain ⟨⟨⟨small, -⟩, -⟩, -⟩ := fields
        exact small
      obtain ⟨mode, clk, presc, frac, reload, count, run, cmpa⟩ :=
        applyCfg_stopped [byteOf k.val 0, m, c0, f, a, b, x, y, r0, r1, r2, r3] stopped
      have changed := tmr_modTmr_self (s.saveEntry 0x50 k.val [byteOf k.val 0, m, c0, f, a, b, x, y, r0, r1, r2, r3]) k
        (·.applyCfg [byteOf k.val 0, m, c0, f, a, b, x, y, r0, r1, r2, r3])
      exact ⟨(congrArg Tmr.mode changed).trans mode, (congrArg Tmr.clkSrc changed).trans clk,
        (congrArg Tmr.presc changed).trans presc, (congrArg Tmr.prescFrac changed).trans frac,
        (congrArg Tmr.reload changed).trans reload, (congrArg Tmr.count changed).trans count,
        (congrArg Tmr.run changed).trans (run.trans (congrArg _ (truncate_ne_zero_of_mode m small))), (congrArg Tmr.cmpa changed).trans cmpa,
        otherTmrs_modTmr fun _ => rfl, rfl, rfl⟩
  · intro s k c g q f r0 r1 r2 r3 serves stopped
    refine yields_final (((s.saveEntry 0x51 k.val [byteOf k.val 0, f, 0, 0, r0, r1, r2, r3]).modTmr k
      (cmpPut (f.getLsbD 0) (BitVec.ofNat 32 (leVal [r0, r1, r2, r3]))))) serves rfl rfl (by decide) rfl
      (fun v b => ⟨v, ?_, rfl⟩) fun w => ?_
    · exact cmdTmrCmp_stopped (s := withHost s v) (k := begunPacket s _) (tmrOf_byteOf k) rfl stopped
    · have changed := tmr_modTmr_self (s.saveEntry 0x51 k.val [byteOf k.val 0, f, 0, 0, r0, r1, r2, r3]) k
        (cmpPut (f.getLsbD 0) (BitVec.ofNat 32 (leVal [r0, r1, r2, r3])))
      have put : ∀ (isB : Bool) (v : Word) (t : Tmr), (cmpPut isB v t).cmpa = (if isB then t.cmpa else v) ∧
          (cmpPut isB v t).cmpb = (if isB then v else t.cmpb) ∧ (cmpPut isB v t).count = t.count ∧
          (cmpPut isB v t).flag = t.flag := by
        rintro (_ | _) v t <;> exact ⟨rfl, rfl, rfl, rfl⟩
      obtain ⟨cmpa, cmpb, count, flags⟩ := put (f.getLsbD 0) (BitVec.ofNat 32 (leVal [r0, r1, r2, r3])) (s.tmr k)
      exact ⟨(congrArg Tmr.cmpa changed).trans cmpa, (congrArg Tmr.cmpb changed).trans cmpb,
        (congrArg Tmr.count changed).trans count, (congrArg Tmr.flag changed).trans flags, otherTmrs_modTmr fun _ => rfl, rfl,
        rfl⟩
  · intro s k c g q e serves source
    refine yields_final (((s.saveEntry 0x52 k.val [byteOf k.val 0, 2, e, 0]).modTmr k fun x =>
      { x with smode := 2, trig := e, gate := s.freeNat % 2 == 1 })) serves rfl rfl (Nat.zero_le _) rfl
      (fun v b => ⟨{ v with free := v.free + 1 }, ?_, rfl⟩) fun w => ?_
    · have free : (withHost s v).freeNat = s.freeNat := congrArg Config.free (begun_free b)
      refine (cmdTmrLink_sets (s := withHost s v) (k := begunPacket s _) rfl source).trans ?_
      rw [free]
      rfl
    · have changed := tmr_modTmr_self (s.saveEntry 0x52 k.val [byteOf k.val 0, 2, e, 0]) k fun x =>
        { x with smode := 2, trig := e, gate := s.freeNat % 2 == 1 }
      exact ⟨congrArg Tmr.smode changed, congrArg Tmr.trig changed, (congrArg Tmr.run changed :), otherTmrs_modTmr fun _ => rfl,
        rfl, rfl⟩
  · intro s c g q j m y f z a b x e v serves fields
    refine yields_final ((s.saveEntry 0x53 j.val [byteOf j.val 0, m, y, f, z, a, b, x, e, v]).setGwc j
      (cmpSet (s.gwc j) [byteOf j.val 0, m, y, f, z, a, b, x, e, v])) serves rfl rfl (Nat.zero_le _) rfl
      (fun v b => ⟨v, ?_, rfl⟩) fun w => ?_
    · exact cmdCmpCfg_sets (s := withHost s v) (k := begunPacket s _) (gwcOf_byteOf j) rfl fields
    · have changed := gwc_setGwc_self (s.saveEntry 0x53 j.val [byteOf j.val 0, m, y, f, z, a, b, x, e, v]) j
        (cmpSet (s.gwc j) [byteOf j.val 0, m, y, f, z, a, b, x, e, v])
      exact ⟨congrArg Gwc.mode changed, congrArg Gwc.hyst changed, congrArg Gwc.filtM changed, congrArg Gwc.filtClk changed,
        congrArg Gwc.evtMask changed, congrArg Gwc.thLo changed, congrArg Gwc.thHi changed,
        fun i other => gwc_setGwc_ne _ j i _ other, rfl, rfl⟩

end Sys2Proof.Proofs
end

section
/-!
SUPPORT. What a peripheral bus reads after a change of one of them, what an idle controller does next, and the bodies of PBUS_CFG,
PBUS_XFER and PBUS_CLEAR; with them O46 is settled.
-/
namespace Sys2Proof.Proofs

open Sys2Proof.Machine Sys2Proof.Safety Sys2Proof.Laws

/-! ## A changed bus, and the others -/

@[simp] theorem pb_modPb_self (s : State) (b : BusId) (f : Pbus → Pbus) : (s.modPb b f).pb b = f (s.pb b) := by
  simp [State.modPb, State.pb, Vector.get_eq_getElem]

@[simp] theorem pb_modPb_ne (s : State) (b d : BusId) (f : Pbus → Pbus) (h : d ≠ b) : (s.modPb b f).pb d = s.pb d := by
  have : b.val ≠ d.val := fun e => h (Fin.ext e.symm)
  simp [State.modPb, State.pb, Vector.get_eq_getElem, this]

@[simp] theorem modPb_sup (s : State) (b : BusId) (f : Pbus → Pbus) : (s.modPb b f).sup = s.sup := rfl
@[simp] theorem modPb_mb (s : State) (b : BusId) (f : Pbus → Pbus) : (s.modPb b f).mb = s.mb := rfl

/-- Two changes of one bus are one. -/
theorem modPb_modPb (s : State) (b : BusId) (f g : Pbus → Pbus) : (s.modPb b f).modPb b g = s.modPb b (g ∘ f) := by
  rw [State.modPb, pb_modPb_self]
  simp [State.modPb]

theorem modPb_withHost (s : State) (b : BusId) (f : Pbus → Pbus) (v : HostSide) :
    (withHost s v).modPb b f = withHost (s.modPb b f) v := rfl

theorem busOf_byteOf : ∀ b : BusId, busOf (byteOf b.val 0) = some b := by decide

/-- A clause about the changed bus and the others, after the host's side has changed as well. -/
theorem shows_modPb {s t : State} {b : BusId} {f : Pbus → Pbus} {w : HostSide} (same : ∀ d, t.pb d = s.pb d) :
    (withHost (t.modPb b f) w).pb b = f (s.pb b) ∧ ∀ d, d ≠ b → (withHost (t.modPb b f) w).pb d = s.pb d :=
  ⟨(pb_modPb_self t b f).trans (congrArg f (same b)), fun d other => (pb_modPb_ne t b d f other).trans (same d)⟩

/-! ## What a controller does next -/

/-- A controller with nothing queued does nothing. -/
theorem pbusNext_empty {s : State} {b : BusId} (clears : (s.pb b).clears = []) (queue : (s.pb b).queue = []) :
    s.pbusNext b = s := by
  simp [State.pbusNext, clears, queue]

/-- An idle controller begins the clear that PBUS_CLEAR asked for. -/
theorem pbusNext_clear {s : State} {b : BusId} (xfer : (s.pb b).xfer = false) (clearing : (s.pb b).clearing = false)
    (clears : (s.pb b).clears ≠ []) : s.pbusNext b = s.modPb b fun x => x.clear true := by
  simp [State.pbusNext, xfer, clearing, clears]

/-- The last transfer of a bus ends. -/
theorem pbusEnd_last {s : State} {b : BusId} {k : Packet} (queue : (s.pb b).queue = [k]) (pend : (s.pb b).pend = none)
    (clears : (s.pb b).clears = []) :
    s.pbusEnd b = s.modPb b fun y => { y with xfer := false, queue := y.queue.drop 1 } := by
  rw [State.pbusEnd, pend]
  exact pbusNext_empty (by simp [clears]) (by simp [queue])

/-! ## PBUS_CFG, PBUS_XFER and PBUS_CLEAR -/

/-- PBUS_CFG of an enabled bus that runs no transfer takes its rate at once. -/
theorem cmdPbusCfg_idle {s : State} {k : Packet} {b : BusId} (hk : k.payload = [byteOf b.val 0, 5])
    (enabled : (s.pb b).enabled = true) (idle : (s.pb b).xfer = false) :
    s.cmdPbusCfg k = ((s.saveEntry 0x60 b.val [byteOf b.val 0, 5]).modPb b fun y =>
      { y with enabled := true, rate := 2, pend := none }, ok) := by
  have named : busOf (nth k.payload 0) = some b := by rw [hk]; exact busOf_byteOf b
  have enabled' : ((s.saveEntry 0x60 b.val [byteOf b.val 0, 5]).pb b).enabled = true := enabled
  have apply (r : BitVec 2) : (s.saveEntry 0x60 b.val [byteOf b.val 0, 5]).pbusApply b true r =
      (s.saveEntry 0x60 b.val [byteOf b.val 0, 5]).modPb b fun y => { y with enabled := true, rate := r, pend := none } := by
    rw [State.pbusApply, enabled']
    rfl
  have two : ¬([byteOf b.val 0, 5].length == 1) = true := Bool.false_ne_true
  have on : (nth [byteOf b.val 0, 5] 1).getLsbD 0 = true := show (5 : Byte).getLsbD 0 = true by decide
  have rate : (nth [byteOf b.val 0, 5] 1).extractLsb' 1 2 = 2 := show (5 : Byte).extractLsb' 1 2 = 2 by decide
  rw [State.cmdPbusCfg, named, hk]
  simp only [idle, two, on, rate, if_false, Bool.false_and, Bool.false_eq_true, apply]
  exact if_neg (by decide)

/-- PBUS_XFER within its lengths starts on a bus that is idle. -/
theorem cmdPbusXfer_idle {s : State} {k : Packet} {b : BusId} (named : nth k.payload 0 = byteOf b.val 0)
    (lengths : Machine.xferOk (nth k.payload 2).toNat (field k.payload 4 2) (field k.payload 6 2) = true)
    (idle : s.pb b = { Pbus.reset with ready := true, enabled := true }) (vio : s.sup.vio = .ok) (lanes : s.mb.lanes = []) :
    s.cmdPbusXfer k = (s.modPb b fun y => { y with queue := insertOrd k y.queue, xfer := true }, .accepted) := by
  have named' : busOf (nth k.payload 0) = some b := by rw [named]; exact busOf_byteOf b
  have lengths' : Machine.xferOk (nth k.payload 2).toNat (wlenOf k) (rlenOf k) = true := lengths
  rw [State.cmdPbusXfer, named']
  simp [lengths', idle, Pbus.reset, State.pbusNext, State.laneBefore, lanes, vio, modPb_modPb, Function.comp_def]
  rfl

/-- PBUS_CLEAR begins on a bus that runs nothing. -/
theorem cmdPbusClear_idle {s : State} {k : Packet} {b : BusId} (named : nth k.payload 0 = byteOf b.val 0)
    (xfer : (s.pb b).xfer = false) (clearing : (s.pb b).clearing = false) (clears : (s.pb b).clears = []) :
    s.cmdPbusClear k = (s.modPb b fun y => { y with clears := insertOrd k y.clears }.clear true, .accepted) := by
  rw [State.cmdPbusClear, named, busOf_byteOf]
  refine congrArg (·, CmdRes.accepted) ((pbusNext_clear ?_ ?_ ?_).trans (modPb_modPb ..)) <;>
    simp [xfer, clearing, clears, insertOrd]

/-! ## The ends of a transfer and of a clear -/

/-- A transfer that ends with a RESULT of its target completes. -/
theorem exec_pbusXferComplete {s : State} {b : BusId} {k : Packet} {r : Byte} {w : Nat} {d : List Byte}
    (xfer : (s.pb b).xfer = true) (queue : (s.pb b).queue = [k]) (result : r ≤ 3) :
    exec (.pbusXferComplete b r w d) s = .next ((s.complete k 0 (xferReply k r w d)).pbusEnd b) := by
  show execPbusXferComplete b r w d s = _
  rw [execPbusXferComplete, xfer, queue, decide_eq_true result]
  rfl

/-- A transfer whose target holds SCL low completes, and leaves the bus stuck. -/
theorem exec_pbusStuck {s : State} {b : BusId} {k : Packet} (xfer : (s.pb b).xfer = true) (queue : (s.pb b).queue = [k]) :
    exec (.pbusStuck b) s = .next (((s.modPb b fun y => { y with stuck := true }).complete k 0x51 []).pbusEnd b) := by
  show execPbusStuck b s = _
  rw [execPbusStuck, xfer, queue]

/-- What the end of a clear leaves of its bus. -/
def clearEnded (s : State) (free : Bool) (y : Pbus) : Pbus :=
  { y with
    stuck := if free then y.stuck && !y.forHost else true, clearing := false, forHost := false,
    ready := y.ready || Nat.ble 10 s.sys.boot, needClear := y.needClear || !free }

/-- A clear that PBUS_CLEAR asked for completes. -/
theorem exec_busClearComplete_host {s : State} {b : BusId} {k : Packet} {free : Bool} (clearing : (s.pb b).clearing = true)
    (forHost : (s.pb b).forHost = true) (clears : (s.pb b).clears = [k]) :
    exec (.busClearComplete b free) s =
      .next (((s.modPb b fun y => { clearEnded s free y with clears := [] }).complete k (if free then 0 else 0x51) []).pbusNext
        b) := by
  show execBusClearComplete b free s = _
  rw [execBusClearComplete]
  dsimp only
  rw [clearing, forHost, clears, if_pos rfl]
  dsimp only
  rw [modPb_modPb]
  rfl

/-- The controller's own clear answers nothing. -/
theorem exec_busClearComplete_own {s : State} {b : BusId} {free : Bool} (clearing : (s.pb b).clearing = true)
    (forHost : (s.pb b).forHost = false) : exec (.busClearComplete b free) s = .next ((s.modPb b (clearEnded s free)).pbusNext b) := by
  show execBusClearComplete b free s = _
  rw [execBusClearComplete]
  dsimp only
  rw [clearing, forHost]
  rfl

/-- Settles O46. -/
theorem peripheralBusCommands : Obligations.PeripheralBusCommands := by
  unfold Obligations.PeripheralBusCommands
  refine ⟨?_, ?_, ?_, ?_, ?_, ?_, ?_⟩
  · intro s b c g q serves enabled idle
    refine yields_final ((s.saveEntry 0x60 b.val [byteOf b.val 0, 5]).modPb b fun y =>
        { y with enabled := true, rate := 2, pend := none }) serves rfl rfl (Nat.zero_le _) rfl
      (fun v _ => ⟨v, cmdPbusCfg_idle (s := withHost s v) (k := begunPacket s _) rfl enabled idle, rfl⟩) fun w => ?_
    obtain ⟨own, others⟩ := shows_modPb (s := s) (t := s.saveEntry 0x60 b.val [byteOf b.val 0, 5]) (b := b)
      (f := fun y => { y with enabled := true, rate := 2, pend := none }) (w := w) fun _ => rfl
    exact ⟨own.trans (by rw [← enabled]), others, rfl, rfl⟩
  · intro s b c g q pl serves named lengths idle vio
    refine yields_accepted (s.modPb b fun y => { y with queue := insertOrd (begunPacket s (cmdPacket ⟨c, g, 0xFF, q⟩ 0x61 pl)) y.queue, xfer := true })
      serves rfl rfl rfl (fun v begun => ⟨v, ?_, rfl⟩) fun w => ?_
    · have lanes : v.mb.lanes = [] := by
        obtain ⟨-, -, -, -, -, lanes, -⟩ := serves
        exact (congrArg Mailbox.lanes begun.mb).trans lanes
      exact cmdPbusXfer_idle (s := withHost s v) (k := begunPacket s _) named lengths idle vio lanes
    · obtain ⟨own, others⟩ := shows_modPb (s := s) (t := s) (b := b) (w := w) (f := fun y =>
        { y with queue := insertOrd (begunPacket s (cmdPacket ⟨c, g, 0xFF, q⟩ 0x61 pl)) y.queue, xfer := true }) fun _ => rfl
      exact ⟨by rw [own], by rw [own, idle]; rfl, others, rfl⟩
  · intro s b k r w d caught held room flights xfer queue pend clears clearing result short
    obtain ⟨v, done, completed⟩ := complete_withHost (k := k) (st := 0) (pl := xferReply k r w d) caught held room short
    obtain ⟨own, others⟩ := shows_modPb (s := s) (t := s) (b := b) (w := v)
      (f := fun y => { y with xfer := false, queue := y.queue.drop 1 }) fun _ => rfl
    refine ⟨_, exec_pbusXferComplete xfer queue result, ?_⟩
    rw [done, pbusEnd_last (s := withHost s v) queue pend clears]
    exact ⟨completed, congrArg Pbus.xfer own, (congrArg Pbus.queue own).trans (by simp [queue]), others, rfl⟩
  · intro s b k caught held room flights xfer queue pend clears clearing
    obtain ⟨v, done, completed⟩ := complete_withHost (s := s.modPb b fun y => { y with stuck := true }) (k := k) (st := 0x51)
      (pl := []) caught held room (Nat.zero_le _)
    obtain ⟨own, others⟩ := shows_modPb (s := s) (t := s) (b := b) (w := v)
      (f := fun y => { y with stuck := true, xfer := false, queue := y.queue.drop 1 }) fun _ => rfl
    have same := pb_modPb_self s b fun y => { y with stuck := true }
    refine ⟨_, exec_pbusStuck xfer queue, ?_⟩
    rw [done, pbusEnd_last (s := withHost (s.modPb b fun y => { y with stuck := true }) v) (b := b) (k := k)
      ((congrArg Pbus.queue same).trans queue)
      ((congrArg Pbus.pend same).trans pend) ((congrArg Pbus.clears same).trans clears)]
    rw [modPb_withHost, modPb_modPb]
    exact ⟨completed, congrArg Pbus.stuck own, congrArg Pbus.xfer own, others, rfl⟩
  · intro s b c g q serves xfer clearing clears
    refine yields_accepted (s.modPb b fun y =>
        { y with clears := insertOrd (begunPacket s (cmdPacket ⟨c, g, 0xFF, q⟩ 0x62 [byteOf b.val 0])) y.clears }.clear true)
      serves rfl rfl rfl (fun v _ => ⟨v, ?_, rfl⟩) fun w => ?_
    · exact cmdPbusClear_idle (s := withHost s v) (k := begunPacket s _) rfl xfer clearing clears
    · obtain ⟨own, others⟩ := shows_modPb (s := s) (t := s) (b := b) (w := w) (f := fun y =>
        { y with clears := insertOrd (begunPacket s (cmdPacket ⟨c, g, 0xFF, q⟩ 0x62 [byteOf b.val 0])) y.clears }.clear true)
        fun _ => rfl
      exact ⟨by rw [own]; rfl, by rw [own, Pbus.clear, clears]; rfl, others, rfl⟩
  · intro s b k o caught held room flights boot xfer clearing forHost clears queue
    obtain ⟨v, done, completed⟩ := complete_withHost (s := s.modPb b fun y => { clearEnded s o y with clears := [] }) (k := k)
      (st := if o then 0 else 0x51) (pl := []) caught held room (Nat.zero_le _)
    obtain ⟨own, others⟩ := shows_modPb (s := s) (t := s) (b := b) (w := v)
      (f := fun y => { clearEnded s o y with clears := [] }) fun _ => rfl
    refine ⟨_, exec_busClearComplete_host clearing forHost clears, ?_⟩
    rw [done, pbusNext_empty (congrArg Pbus.clears own) ((congrArg Pbus.queue own).trans queue)]
    have settled : Nat.ble 10 s.sys.boot = true := Nat.ble_eq.mpr boot
    exact ⟨completed, congrArg Pbus.clearing own, congrArg Pbus.clears own,
      (congrArg Pbus.stuck own).trans (by cases o <;> simp [clearEnded, forHost]),
      (congrArg Pbus.ready own).trans (by simp [clearEnded, settled]), congrArg Pbus.needClear own, others, rfl⟩
  · intro s b boot clearing forHost clears queue
    have own := pb_modPb_self s b (clearEnded s true)
    refine ⟨_, exec_busClearComplete_own clearing forHost, ?_⟩
    rw [pbusNext_empty ((congrArg Pbus.clears own).trans clears) ((congrArg Pbus.queue own).trans queue)]
    have settled : Nat.ble 10 s.sys.boot = true := Nat.ble_eq.mpr boot
    exact ⟨congrArg Pbus.clearing own, (congrArg Pbus.stuck own).trans (by simp [clearEnded, forHost]),
      (congrArg Pbus.ready own).trans (by simp [clearEnded, settled]), fun d other => pb_modPb_ne s b d _ other, rfl⟩

end Sys2Proof.Proofs
end

section
/-!
SUPPORT. The commands of one port: what their bodies do to it, and that a PORT_RESET in progress outlasts ErrorRecovery; with them
O42 is settled.
-/
namespace Sys2Proof.Proofs

open Sys2Proof.Machine Sys2Proof.Safety Sys2Proof.Laws

/-! ## One port changed, and an entry saved -/

/-- A port changed beside a saved entry: the others, the store, and nothing else. -/
theorem saved_of_portOnly {s x : State} {p : PortId} {op : Byte} {sel : Nat} {pl : List Byte} {w : HostSide}
    (only : PortOnly p (s.saveEntry op sel pl) x) :
    OthersSame p s (withHost x w) ∧ (withHost x w).store = (s.saveEntry op sel pl).store ∧
      HostOnly { s with ports := (withHost x w).ports, store := (withHost x w).store } (withHost x w) := by
  obtain ⟨e, others⟩ := only
  refine ⟨others, ?_⟩
  generalize x.ports = ports at e
  subst e
  exact ⟨rfl, rfl⟩

/-- As `saved_of_portOnly`, for what an engine does beside its port. -/
theorem saved_of_engineOnly {s x : State} {v w : HostSide} {p : PortId} {op : Byte} {sel : Nat} {pl : List Byte}
    (only : EngineOnly p (withHost s v) x) :
    OthersSame p s (withHost (x.saveEntry op sel pl) w) ∧
      (withHost (x.saveEntry op sel pl) w).store = (s.saveEntry op sel pl).store ∧
      HostOnly
        { s with
          ports := (withHost (x.saveEntry op sel pl) w).ports, store := (withHost (x.saveEntry op sel pl) w).store,
          ledger := (withHost (x.saveEntry op sel pl) w).ledger, ember := (withHost (x.saveEntry op sel pl) w).ember }
        (withHost (x.saveEntry op sel pl) w) := by
  obtain ⟨e, others⟩ := only
  refine ⟨others, ?_⟩
  generalize x.ports = ports, x.perf = perf, x.ledger.posts = posts, x.ember.donor = donor, x.free = free at e
  subst e
  exact ⟨rfl, rfl⟩

theorem engine_mb {p : PortId} {s t : State} (h : EngineOnly p s t) : t.mb = s.mb := by rw [h.1]

theorem portOnly_saveEntry {s x : State} {p : PortId} (only : PortOnly p s x) (op : Byte) (sel : Nat) (pl : List Byte) :
    PortOnly p (s.saveEntry op sel pl) (x.saveEntry op sel pl) := by
  obtain ⟨e, others⟩ := only
  refine ⟨?_, others⟩
  generalize x.ports = ports at e
  subst e
  rfl

/-! ## PORT_CFG, PORT_ENABLE and PORT_DISABLE (R439, R440) -/

/-- Two changes of one port are one. -/
theorem modPort_modPort (s : State) (p : PortId) (f g : Port → Port) : (s.modPort p f).modPort p g = s.modPort p (g ∘ f) := by
  rw [State.modPort, State.port_modPort_self]
  simp [State.modPort, State.setPort]

/-- A Disabled port takes a configuration at once. -/
theorem takeCfg_disabled {s : State} {p : PortId} (disabled : (s.port p).tc.state = .disabled) (c : PortCfg) :
    s.takeCfg p c = s.modPort p fun x => { x with cfg := c, cfgPend := none } := by
  have still : ((s.modPort p fun x => { x with cfgPend := some c }).port p).tc.state == .disabled := by
    rw [State.port_modPort_self]
    exact beq_iff_eq.mpr disabled
  rw [State.takeCfg]
  exact (if_pos still).trans (modPort_modPort ..)

theorem cmdPortCfg_disabled {s : State} {p : PortId} {k : Packet} {pl : List Byte} (hk : k.payload = pl) (len : pl.length = 10)
    (disabled : (s.port p).tc.state = .disabled)
    (valid : cfgValid (isE p) s.ledgermodeen (BitVec.ofNat 80 (leVal pl) &&& cfgMask) = true) :
    s.cmdPortCfg k p = ((s.saveEntry 0x10 p.val pl).modPort p fun x =>
      { x with cfg := BitVec.ofNat 80 (leVal pl) &&& cfgMask, cfgPend := none }, ok) := by
  rw [← takeCfg_disabled (s := s.saveEntry 0x10 p.val pl) disabled, State.cmdPortCfg, hk]
  cases pl with
  | nil => exact absurd len (by decide)
  | cons b r => exact if_pos valid

section
variable {s : State} {p : PortId} (state : (s.port p).tc.state = .disabled) (free : (s.port p).tc.enHeld = false)
  (opn : (s.port p).sw.st = .opn)
include state free opn

/-- PORT_ENABLE puts a Disabled port in the Unattached state of its role. -/
theorem portEnable_disabled (untripped : (s.port p).sw.tripWire = false) : s.portEnable p = (s.toUnattached p, 0) := by
  rw [State.portEnable, free, opn, state, untripped]
  rfl

/-- PORT_ENABLE puts a Disabled port whose trip wire has tripped in ErrorRecovery. -/
theorem portEnable_tripped (tripped : (s.port p).sw.tripWire = true) :
    ∃ t, s.portEnable p = (t, 0) ∧ EngineOnly p s t ∧ (t.port p).tc.state = .errorRecovery := by
  refine ⟨(s.errorRecovery p).modTc p fun t => { t with erBack := false }, ?_,
    engine_modTc (engine_errorRecovery (engine_refl p s)) _, ?_⟩
  · rw [State.portEnable, free, opn, state, tripped]
    rfl
  · simp

end

/-- During a discharge PORT_ENABLE is held. -/
theorem portEnable_discharge {s : State} {p : PortId} (free : (s.port p).tc.enHeld = false)
    (discharge : (s.port p).sw.st = .discharge) :
    s.portEnable p = (s.modTc p fun t => { t with enHeld := true }, 2) := by
  rw [State.portEnable, free, discharge]
  rfl

theorem portEnable_held {s : State} {p : PortId} (held : (s.port p).tc.enHeld = true) : s.portEnable p = (s, 3) := by
  rw [State.portEnable, held]
  rfl

/-- PORT_ENABLE that is not a duplicate is saved. -/
theorem cmdPortEnable_eq {s g : State} {p : PortId} {k : Packet} {st : Byte} (e : s.portEnable p = (g, st))
    (hst : (st == 3) = false) : s.cmdPortEnable k p = (g.saveEntry 0x11 p.val [1], .final st []) := by
  rw [State.cmdPortEnable, e]
  simp only [hst]
  rfl

/-- What PORT_DISABLE leaves of a port that is not attached. -/
def disabledPort (x : Port) : Port :=
  { x with
    tc := { x.tc with
      state := .disabled, cc1 := .opn, cc2 := .opn, oriented := false, rpAdv := .none, rpSeen := .none, vconnOn := false,
      raSeen := false, dbAttach := false, leaving := false, enHeld := false, safeDef := false, tryDone := false,
      erBack := false, ccHeld := false }
    sw := { x.sw with st := if x.sw.st == .holdoff then .opn else x.sw.st, tripCnt := 0, holdNext := false }
    cfg := x.cfgPend.getD x.cfg, cfgPend := none, src := x.srcPend.getD x.src, srcPend := none,
    snk := x.snkPend.getD x.snk, snkPend := none }

theorem portDisable_unattached {s : State} {p : PortId} (unattached : (s.port p).tc.state.attached = false) :
    s.portDisable p = s.modPort p disabledPort := by
  have skip : (if (s.port p).tc.state.attached then s.leaveAttach p else s) = s := by simp [unattached]
  rw [State.portDisable]
  simp only [skip]
  rw [State.applyCfg, State.modSw, State.modTc, modPort_modPort, modPort_modPort]
  rfl

/-! ## PORT_STATUS (R441) -/

theorem portStatus_length (s : State) (p : PortId) : (s.portStatus p).length = 72 := by
  delta State.portStatus
  simp

/-- A served command runs awake. -/
theorem begun_pwr_run {s : State} {v : HostSide} {k j : Packet} (serves : Serves s k) (b : Begun s k (withHost s v) j)
    (ember : s.sys.pwr ≠ .ember) : v.pwr = .run := by
  obtain ⟨up, -⟩ := serves
  have on : s.sys.pwr ≠ .off := by simp only [State.hostUp, Bool.and_eq_true, bne_iff_ne] at up; exact up.2
  have woken : v.pwr = awake s.sys.pwr := b.pwr
  rw [woken]
  cases h : s.sys.pwr
  · exact absurd h on
  · exact absurd h ember
  all_goals rfl

/-- A port with its four event registers clear. -/
def eventsCleared (x : Port) : Port :=
  { x with tc := { x.tc with evt := 0 }, pd := { x.pd with evt := 0 }, sw := { x.sw with evt := 0 }, cv := { x.cv with evt := 0 } }

theorem clearEvents_eq (s : State) (p : PortId) : s.clearEvents p = s.modPort p eventsCleared := by
  rw [State.clearEvents, State.modCv, State.modSw, State.modPd, State.modTc, modPort_modPort, modPort_modPort, modPort_modPort]
  rfl

/-- PORT_STATUS with its clear bit set clears the port's event registers. -/
theorem cmdPortStatus_clear {s : State} {k : Packet} (hk : k.payload = [1]) (p : PortId) :
    s.cmdPortStatus k p = (s.modPort p eventsCleared, .final 0 (s.portStatus p)) := by
  rw [State.cmdPortStatus, hk, ← clearEvents_eq]
  rfl

theorem cmdPortStatus_keep {s : State} {k : Packet} (hk : k.payload = []) (p : PortId) :
    s.cmdPortStatus k p = (s, .final 0 (s.portStatus p)) := by
  rw [State.cmdPortStatus, hk]
  rfl

/-- PORT_STATUS reads the device as it is awake. -/
theorem portStatus_begun {s : State} {v : HostSide} (p : PortId) (run : v.pwr = .run) :
    (withHost s v).portStatus p = ({ s with sys.pwr := .run } : State).portStatus p := by
  obtain ⟨mb, perf, trace, free, pwr, acked, out, acks, lastAddr⟩ := v
  obtain rfl : pwr = .run := run
  rfl

/-! ## PORT_RESET (R442) -/

/-- A PORT_RESET of a tag and a kind is in progress on a port. -/
def prunHas (s : State) (p : PortId) (g : BitVec 6) (kind : Byte) : Bool :=
  (s.port p).prun.any fun r => r.tag == g && r.kind == kind

/-- The end of a PORT_RESET keeps its entry. -/
theorem prunHas_prunDone (s : State) (p : PortId) (l : List Byte) (r : Byte) (g : BitVec 6) (kind : Byte) :
    prunHas (s.prunDone p l r) p g kind = prunHas s p g kind := by
  simp only [prunHas, State.prunDone, State.port_modPort_self, List.any_map]
  refine congrArg (List.any · _) rfl |>.trans (congrArg _ (funext fun x => ?_))
  dsimp only [Function.comp]
  split <;> rfl

theorem swapDone_prun (s : State) (p : PortId) (st r : Byte) (b : Bool) :
    ((s.swapDone p st r b).port p).prun = (s.port p).prun := by
  unfold State.swapDone
  dsimp only
  split <;> simp

theorem frDisarm_prun (s : State) (p : PortId) : ((s.frDisarm p).port p).prun = (s.port p).prun := by
  unfold State.frDisarm
  dsimp only
  split <;> simp

theorem swapAbort_prun (s : State) (p : PortId) (r : Byte) : ((s.swapAbort p r).port p).prun = (s.port p).prun := by
  have waits : ((s.when (s.swapWaits p) fun s => s.modSwap p fun w => { w with result := some (0, r) }).port p).prun =
      (s.port p).prun := by
    unfold State.when
    split <;> simp
  unfold State.swapAbort
  dsimp only
  rw [frDisarm_prun]
  split
  · exact waits
  · rw [swapDone_prun, waits]

theorem eprExit_prun (s : State) (p : PortId) : ((s.eprExit p).port p).prun = (s.port p).prun := by
  unfold State.eprExit
  split <;> simp

theorem convIdle_prun (s : State) (p : PortId) : ((s.convIdle p).port p).prun = (s.port p).prun := by
  unfold State.convIdle
  generalize idle : s.modCv p _ = t
  obtain ⟨c, taken⟩ := takeFreq_port t p
  rw [taken, ← idle]
  simp

theorem openSwitch_prun (s : State) (p : PortId) : ((s.openSwitch p).port p).prun = (s.port p).prun := by
  unfold State.openSwitch State.vconnOff
  dsimp only
  split <;> simp [convIdle_prun]

theorem leaveAttach_prun (s : State) (p : PortId) :
    ((s.leaveAttach p).port p).prun = ((s.prunDone p [0, 1] 5).port p).prun := by
  have before (t : State) (e : (t.port p).prun = (s.port p).prun) :
      ((t.prunDone p [0, 1] 5).port p).prun = ((s.prunDone p [0, 1] 5).port p).prun := by
    simp [State.prunDone, e]
  have ended := before ((((s.swapAbort p 0x05).vdmAllEnd p 5).lmEnd p).eprExit p) (by
    simp [eprExit_prun, State.lmEnd, State.vdmAllEnd, State.vdmDone, swapAbort_prun])
  unfold State.leaveAttach
  dsimp only
  split <;> simp [openSwitch_prun] <;> exact ended

/-- Leaving an attach keeps the entry of a PORT_RESET. -/
theorem prunHas_leaveAttach (s : State) (p : PortId) (g : BitVec 6) (kind : Byte) :
    prunHas (s.leaveAttach p) p g kind = prunHas s p g kind := by
  rw [← prunHas_prunDone s p [0, 1] 5, prunHas, leaveAttach_prun]
  rfl

/-- ErrorRecovery keeps the entry of a PORT_RESET. -/
theorem prunHas_errorRecovery (s : State) (p : PortId) (g : BitVec 6) (kind : Byte) :
    prunHas (s.errorRecovery p) p g kind = prunHas s p g kind := by
  rw [← prunHas_leaveAttach s]
  simp [prunHas, State.errorRecovery, State.portEvt]

/-- A PORT_RESET of kind 2 stands in progress, and its port goes through ErrorRecovery. -/
theorem cmdPortReset_recovery {s : State} {k : Packet} (hk : k.payload = [2]) (p : PortId) :
    ∃ t, s.cmdPortReset k p = (t, .accepted) ∧ EngineOnly p s t ∧ (t.port p).tc.state = .errorRecovery ∧
      prunHas t p k.tag 2 = true := by
  refine ⟨(s.modPort p fun x => { x with prun := x.prun ++ [⟨k.tag, 2, none⟩] }).errorRecovery p, ?_,
    engine_errorRecovery (engine_modPort (engine_refl p s) _), errorRecovery_state _ p, ?_⟩
  · rw [State.cmdPortReset, hk]
    rfl
  · rw [prunHas_errorRecovery]
    simp [prunHas]

/-- The one PORT_RESET that has ended on a port completes. -/
theorem exec_portResetComplete {s : State} {p : PortId} {k : Packet} (flights : s.mb.flights = [k]) (op : k.opcode = 0x14)
    {kind r : Byte} (ended : (s.port p).prun = [⟨k.tag, kind, some r⟩]) :
    exec (.portResetComplete p) s =
      .next ((s.modPort p fun x => { x with prun := x.prun.filter fun q => q.tag != k.tag }).complete k 0 [r]) := by
  show execPortResetComplete p s = _
  simp [execPortResetComplete, State.portResetComplete, ended, State.flight, flights, op]

/-! ## PDO_SET and SINK_PREF_SET (R443, R444) -/

/-- PDO_SET of a port that is not attached. -/
theorem cmdPdoSet_unattached {s : State} {p : PortId} {k : Packet} {n : Nat} {d : List Byte}
    (hk : k.payload = byteOf n 0 :: 0 :: 0 :: 0 :: d) (some_entry : 1 ≤ n) (few : n ≤ 11)
    (table : srcTableOk (isE p) s.epren (entriesOf n d) = true) (unattached : (s.port p).tc.state.attached = false) :
    s.cmdPdoSet k p = ((s.saveEntry 0x20 p.val (byteOf n 0 :: 0 :: 0 :: 0 :: d)).modPort p fun x =>
      { x with src := entriesOf n d, srcPend := none }, ok) := by
  have count : (byteOf n 0).toNat = n := by simp [byteOf]; omega
  have nonzero : ¬(n == 0) = true := by simp; omega
  have within : ¬(decide (11 < n) || !srcTableOk (isE p) s.epren (entriesOf n d)) = true := by simp [table, few]
  have waits : ¬(s.port p).tableWaits = true := by simp [Port.tableWaits, unattached]
  rw [State.cmdPdoSet, hk]
  simp only [nth, List.getD_cons_zero, List.drop_succ_cons, List.drop_zero, count]
  exact (if_neg nonzero).trans ((if_neg within).trans (if_neg waits))

/-- SINK_PREF_SET of a port that is not attached. -/
theorem cmdSinkPrefSet_unattached {s : State} {p : PortId} {k : Packet} {n : Nat} {d : List Byte}
    (hk : k.payload = byteOf n 0 :: 0 :: 0 :: 0 :: d) (some_entry : 1 ≤ n) (few : n ≤ 6)
    (table : (entriesOf n d).all (snkEntryOk (isE p) s.epren) = true) (unattached : (s.port p).tc.state.attached = false) :
    s.cmdSinkPrefSet k p = ((s.saveEntry 0x21 p.val (byteOf n 0 :: 0 :: 0 :: 0 :: d)).modPort p fun x =>
      { x with snk := entriesOf n d, snkPend := none }, ok) := by
  have count : (byteOf n 0).toNat = n := by simp [byteOf]; omega
  have nonzero : ¬(n == 0) = true := by simp; omega
  have within : ¬(decide (6 < n) || !(entriesOf n d).all (snkEntryOk (isE p) s.epren)) = true := by
    rw [table]
    simp [few]
  have waits : ¬(s.port p).tableWaits = true := by simp [Port.tableWaits, unattached]
  rw [State.cmdSinkPrefSet, hk]
  simp only [nth, List.getD_cons_zero, List.drop_succ_cons, List.drop_zero, count]
  exact (if_neg nonzero).trans ((if_neg within).trans (if_neg waits))

/-- A body of a port's command, seen on its port. -/
theorem runBody_port {s : State} {v : HostSide} {c : BitVec 2} {g : BitVec 6} {q op : Byte} {pl : List Byte} {p : PortId}
    {f : State → Packet → PortId → State × CmdRes} {r : State × CmdRes}
    (row : (withHost s v).runBody (begunPacket s (cmdPacket ⟨c, g, byteOf p.val 0, q⟩ op pl)) =
      (withHost s v).onPort (begunPacket s (cmdPacket ⟨c, g, byteOf p.val 0, q⟩ op pl)) f)
    (body : f (withHost s v) (begunPacket s (cmdPacket ⟨c, g, byteOf p.val 0, q⟩ op pl)) p = r) :
    (withHost s v).runBody (begunPacket s (cmdPacket ⟨c, g, byteOf p.val 0, q⟩ op pl)) = r := by
  rw [row, onPort_begun, body]

/-- Settles O42. -/
theorem portCommands : Obligations.PortCommands := by
  unfold Obligations.PortCommands
  refine ⟨?_, ?_, ?_, ?_, ?_, ?_, ?_, ?_, ?_, ?_, ?_, ?_, ?_⟩
  · intro s p c g q pl serves len disabled valid
    refine yields_final ((s.saveEntry 0x10 p.val pl).modPort p fun x =>
        { x with cfg := BitVec.ofNat 80 (leVal pl) &&& cfgMask, cfgPend := none }) serves rfl rfl (Nat.zero_le _) rfl
      (fun v _ => ⟨v, runBody_port rfl (cmdPortCfg_disabled (s := withHost s v) rfl len disabled valid), rfl⟩) fun w => ?_
    exact ⟨port_modPort_withHost _ p _ w, saved_of_portOnly (portOnly_modPort (portOnly_refl p _) _)⟩
  · intro s p c g q serves disabled free opn untripped
    refine yields_final ((s.toUnattached p).saveEntry 0x11 p.val [1]) serves rfl rfl (Nat.zero_le _) rfl
      (fun v _ => ⟨v, runBody_port rfl ?_, rfl⟩) fun w => ⟨?_, ?_, rfl, rfl⟩
    · exact cmdPortEnable_eq (portEnable_disabled (s := withHost s v) disabled free opn untripped) rfl
    · exact toUnattached_state s p
    · exact (portOnly_toUnattached (portOnly_refl p s)).2
  · intro s p c g q serves disabled free opn tripped
    refine yields_final_of serves rfl rfl (Nat.zero_le _) fun v _ => ?_
    obtain ⟨t, enabled, only, recovers⟩ := portEnable_tripped (s := withHost s v) disabled free opn tripped
    have interp : t.sys.interp = (withHost s v).sys.interp := congrArg Sys.interp (engine_sys only)
    have mb : t.mb = v.mb := engine_mb only
    exact ⟨t.saveEntry 0x11 p.val [1], runBody_port rfl (cmdPortEnable_eq enabled rfl), mb, interp,
      fun w => ⟨recovers, saved_of_engineOnly only⟩⟩
  · intro s p c g q serves free discharge
    refine yields_final ((s.modTc p fun t => { t with enHeld := true }).saveEntry 0x11 p.val [1]) serves rfl rfl
      (Nat.zero_le _) rfl (fun v _ => ⟨v, runBody_port rfl ?_, rfl⟩) fun w => ⟨?_, ?_⟩
    · exact cmdPortEnable_eq (portEnable_discharge (s := withHost s v) free discharge) rfl
    · exact (congrArg Port.tc (State.port_modTc_self s p fun t => { t with enHeld := true }) :)
    · exact saved_of_portOnly (portOnly_saveEntry (portOnly_modTc (portOnly_refl p s) _) _ _ _)
  · intro s p c g q serves unattached
    refine yields_final ((s.modPort p disabledPort).saveEntry 0x11 p.val [0]) serves rfl rfl (Nat.zero_le _) rfl
      (fun v _ => ⟨v, runBody_port rfl ?_, rfl⟩) fun w => ?_
    · have off : ((withHost s v).port p).tc.state.attached = false := by
        rw [show ((withHost s v).port p).tc.state = .unattachedSrc from unattached]
        rfl
      exact congrArg (fun t : State => (t.saveEntry 0x11 p.val [0], ok)) (portDisable_unattached off)
    · have own := port_modPort_withHost s p disabledPort w
      exact ⟨congrArg (·.tc.state) own, congrArg (·.tc.rpAdv) own, congrArg (·.tc.vconnOn) own,
        saved_of_portOnly (portOnly_saveEntry (portOnly_modPort (portOnly_refl p s) _) _ _ _)⟩
  · intro s p c g q serves ember
    refine yields_final (s.modPort p eventsCleared) serves rfl rfl (by rw [portStatus_length]; decide) rfl
      (fun v b => ⟨v, runBody_port rfl ?_, rfl⟩) fun w => ?_
    · rw [← portStatus_begun p (begun_pwr_run serves b ember)]
      exact cmdPortStatus_clear (s := withHost s v) rfl p
    · have own := port_modPort_withHost s p eventsCleared w
      exact ⟨congrArg (·.tc.evt) own, congrArg (·.pd.evt) own, congrArg (·.sw.evt) own, congrArg (·.cv.evt) own,
        (congrArg Port.lg own :), othersSame_modPort fun _ => rfl, rfl⟩
  · intro s p c g q serves ember
    refine yields_final s serves rfl rfl (by rw [portStatus_length]; decide) rfl (fun v b => ⟨v, ?_, rfl⟩) (host_withHost s)
    rw [← portStatus_begun p (begun_pwr_run serves b ember)]
    exact runBody_port rfl (cmdPortStatus_keep (s := withHost s v) rfl p)
  · intro s p c g q serves attached
    refine yields_accepted_of serves rfl rfl fun v _ => ?_
    obtain ⟨t, run, only, recovers, inProgress⟩ := cmdPortReset_recovery (s := withHost s v)
      (k := begunPacket s (cmdPacket ⟨c, g, byteOf p.val 0, q⟩ 0x14 [2])) rfl p
    have interp : t.sys.interp = (withHost s v).sys.interp := congrArg Sys.interp (engine_sys only)
    exact ⟨t, runBody_port rfl run, engine_mb only, interp, fun w => ⟨recovers, inProgress, only.2⟩⟩
  · intro s p k caught held room flights op ended
    obtain ⟨v, done, completed⟩ := complete_withHost (s := s.modPort p fun x =>
      { x with prun := x.prun.filter fun q => q.tag != k.tag }) (k := k) (st := 0) (pl := [3]) caught held room (by decide)
    refine ⟨_, exec_portResetComplete flights op ended, ?_⟩
    rw [done]
    have own := port_modPort_withHost s p (fun x => { x with prun := x.prun.filter fun q => q.tag != k.tag }) v
    exact ⟨completed, (congrArg Port.prun own).trans (by simp [ended]), rfl, othersSame_modPort fun _ => rfl⟩
  · intro s p c g q n d serves some_entry few table unattached
    refine yields_final ((s.saveEntry 0x20 p.val (byteOf n 0 :: 0 :: 0 :: 0 :: d)).modPort p fun x =>
      { x with src := entriesOf n d, srcPend := none }) serves rfl rfl (Nat.zero_le _) rfl
      (fun v _ => ⟨v, runBody_port rfl ?_, rfl⟩) fun w => ⟨port_modPort_withHost _ p _ w, saved_of_portOnly ?_⟩
    · exact cmdPdoSet_unattached (s := withHost s v) rfl some_entry few table (congrArg TcState.attached unattached)
    · exact portOnly_modPort (portOnly_refl p _) _
  · intro s p c g q n d serves some_entry few table unattached
    refine yields_final ((s.saveEntry 0x21 p.val (byteOf n 0 :: 0 :: 0 :: 0 :: d)).modPort p fun x =>
      { x with snk := entriesOf n d, snkPend := none }) serves rfl rfl (Nat.zero_le _) rfl
      (fun v _ => ⟨v, runBody_port rfl ?_, rfl⟩) fun w => ⟨port_modPort_withHost _ p _ w, saved_of_portOnly ?_⟩
    · exact cmdSinkPrefSet_unattached (s := withHost s v) rfl some_entry few table (congrArg TcState.attached unattached)
    · exact portOnly_modPort (portOnly_refl p _) _
  · intro s p c g q serves held
    refine yields_final s serves rfl rfl (Nat.zero_le _) rfl (fun v _ => ⟨v, runBody_port rfl ?_, rfl⟩) (host_withHost s)
    rw [State.cmdPortEnable, portEnable_held (s := withHost s v) held]
    rfl
  · intro s p c g q serves held disabled discharge
    refine yields_final ((s.modPort p disabledPort).saveEntry 0x11 p.val [0]) serves rfl rfl (Nat.zero_le _) rfl
      (fun v _ => ⟨v, runBody_port rfl ?_, rfl⟩) fun w => ?_
    · have off : ((withHost s v).port p).tc.state.attached = false := congrArg TcState.attached disabled
      exact congrArg (fun t : State => (t.saveEntry 0x11 p.val [0], ok)) (portDisable_unattached off)
    · have own := port_modPort_withHost s p disabledPort w
      exact ⟨congrArg (·.tc.enHeld) own, (congrArg (·.sw.st) own).trans (by simp [disabledPort, discharge]),
        congrArg (·.tc.state) own, saved_of_portOnly (portOnly_saveEntry (portOnly_modPort (portOnly_refl p s) _) _ _ _)⟩

end Sys2Proof.Proofs
end

section
/-!
SUPPORT. The bodies of the device, firmware and safety commands, and ABORT of one tag and of all; with them O41 is settled.
-/
namespace Sys2Proof.Proofs

open Sys2Proof.Machine Sys2Proof.Safety Sys2Proof.Laws

/-! ## DEVICE_STATUS (R438) -/

/-- Beside the host's side DEVICE_STATUS reads the power state alone. -/
theorem deviceStatus_withHost {s : State} {v w : HostSide} (pwr : v.pwr = w.pwr) :
    (withHost s v).deviceStatus = (withHost s w).deviceStatus := by
  obtain ⟨mb, perf, trace, free, pwr', acked, out, acks, lastAddr⟩ := v
  obtain rfl : pwr' = w.pwr := pwr
  rfl

theorem deviceStatus_length (s : State) : s.deviceStatus.length = 28 := by simp [State.deviceStatus]

theorem count_sys (s : State) (b e n : Nat) : (s.count b e n).sys = s.sys := by rw [count_eq]

theorem emit_sys (s : State) (r : Reply) : (s.emit r).sys = s.sys := by
  unfold State.emit State.place
  dsimp only
  split
  · split
    · split
      · rw [count_sys, count_sys]
      · rw [count_sys]
    · rfl
  · rfl

/-- An answer leaves the system state. -/
theorem answer_final_sys (s : State) (k : Packet) (st : Byte) (r : List Byte) : (s.answer k (.final st r)).sys = s.sys := by
  have traced (t : State) : (t.traceReply k st).sys = t.sys := by
    unfold State.traceReply
    split <;> rfl
  rw [State.answer, traced, emit_sys]

/-! ## Firmware (R478 to R480) -/

/-- FW_STAGE at offset 0 begins an image. -/
theorem cmdFwStage_first {s : State} {k : Packet} {d : List Byte} (hk : k.payload = [0, 0, 0, 0] ++ d) (short : d.length ≤ 131072) :
    s.cmdFwStage k = ({ s with fw.staged := d }, ok) := by
  rw [State.cmdFwStage, hk]
  exact if_neg (by simpa [field, leVal] using short)

/-- FW_COMMIT discards. -/
theorem cmdFwCommit_discard {s : State} {k : Packet} (hk : k.payload = [1]) :
    s.cmdFwCommit k = ({ s with fw.staged := [] }, ok) := by
  rw [State.cmdFwCommit, hk]
  rfl

/-- FW_COMMIT of a staged image begins its verification. -/
theorem cmdFwCommit_verify {s : State} {k : Packet} (hk : k.payload = [0]) (staged : s.fw.staged ≠ []) (idle : s.fw.runs = []) :
    s.cmdFwCommit k = ({ s with fw.runs := [⟨k.tag, k.ord, .verify⟩] }, .accepted) := by
  rw [State.cmdFwCommit, hk]
  simp [nth, staged, Fw.begin, idle]

/-- FW_COMMIT whose body marks no image. -/
theorem submit_unmarked {s x : State} {h : CmdHdr} {pl : List Byte} {r : CmdRes} (serves : Serves s (cmdPacket h 0x89 pl))
    (unmarked : x.fw.marked = false)
    (body : ∀ v, (withHost s v).runBody (begunPacket s (cmdPacket h 0x89 pl)) = (withHost x v, r)) :
    ∃ v, Begun s (cmdPacket h 0x89 pl) (withHost s v) (begunPacket s (cmdPacket h 0x89 pl)) ∧
      s.submit (cmdPacket h 0x89 pl) = (withHost x v).answer (begunPacket s (cmdPacket h 0x89 pl)) r := by
  obtain ⟨u, j, b, e⟩ := submit_serves serves rfl rfl
  obtain ⟨v, rfl⟩ := hostOnly_iff.mp (begun_host b)
  obtain rfl : j = begunPacket s (cmdPacket h 0x89 pl) := b.pkt
  refine ⟨v, b, ?_⟩
  have still : ((withHost x v).answer (begunPacket s (cmdPacket h 0x89 pl)) r).fw.marked = false := by
    have fw := congrArg State.fw (host_answer (withHost x v) (begunPacket s (cmdPacket h 0x89 pl)) r)
    exact (congrArg Fw.marked fw).trans unmarked
  rw [e, body]
  exact if_neg (by rw [still, Bool.and_false]; exact Bool.false_ne_true)

/-- A denied FW_COMMIT completes. -/
theorem exec_fwCommitComplete_denied {s : State} {k : Packet} {o : Nat} (interp : s.sys.interp = true)
    (flights : s.mb.flights = [k]) (op : k.opcode = 0x89) (runs : s.fw.runs = [⟨k.tag, o, .denied⟩]) :
    exec .fwCommitComplete s = .next ({ s with fw.runs := [] }.complete k 0x23 [1]) := by
  show execFwCommitComplete s = _
  have ended : FwRun.over ⟨k.tag, o, .denied⟩ = true := rfl
  simp [execFwCommitComplete, interp, runs, ended, State.fwComplete, State.flight, flights, op]

/-! ## Safety (R481, R482) -/

/-- SELFTEST of a test of the device is accepted. -/
theorem cmdSelftest_accepted {s : State} {k : Packet} {x : Byte} (hk : k.payload = [x]) (known : x.toNat ≤ 6) (notPort : x ≠ 3)
    (notPort' : x ≠ 4) (target : k.port = none) : s.cmdSelftest k = (s, .accepted) := by
  have within : ¬6 < x := by rw [BitVec.lt_def]; exact Nat.not_lt.mpr known
  rw [State.cmdSelftest, hk, target]
  exact if_neg (by simpa [nth] using And.intro within (And.intro notPort notPort'))

/-- SAFECFG without a lock sets its bits. -/
theorem cmdSafecfg_sets {s : State} {k : Packet} {v : Byte} (hk : k.payload = [v, 0, 0, 0])
    (unlocked : s.safety.cfg.getLsbD 7 = false) (unfused : s.safeCfgLock = false) :
    s.cmdSafecfg k = ({ s with safety.cfg := v }.saveEntry 0x91 0xFF [v, 0, 0, 0], ok) := by
  have set : s.safeCfgSet v = some { s with safety.cfg := v } := by
    rw [State.safeCfgSet, unlocked, unfused]
    exact if_neg (by simp)
  rw [State.cmdSafecfg, hk]
  simp only [nth, List.getD_cons_zero, set]

/-- Where LOCK is clear it adds nothing to the bits set. -/
theorem or_and_lock (v : Byte) {c : Byte} (h : c.getLsbD 7 = false) : v ||| (c &&& 0x80) = v := by
  have none_left : c &&& 0x80 = 0 := by
    revert c
    decide
  rw [none_left]
  exact BitVec.or_zero

/-- The end of a self-test of the interpreter's memories that nothing failed. -/
theorem exec_selftestComplete_passed {s : State} {k : Packet} (flights : s.mb.flights = [k]) (op : k.opcode = 0x90)
    (hk : k.payload = [2]) :
    exec (.selftestComplete ⟨0, 0⟩) s =
      .next ({ s with safety.stFail := clrBit s.safety.stFail 2 }.complete k 0 [0, 0, 0, 0]) := by
  show execSelftestComplete _ s = _
  have ran : testsOf (nth k.payload 0) = 4 := by rw [hk]; decide
  simp [execSelftestComplete, State.flight, flights, op, ran]
  rfl

/-! ## ABORT (R427) -/

theorem truncate_zeroExtend (g : BitVec 6) : (g.zeroExtend 8).truncate 6 = g := by
  revert g
  decide

theorem zeroExtend_truncate : ∀ x : Byte, x.toNat < 64 → (x.truncate 6).zeroExtend 8 = x := by decide

theorem zeroExtend_lt (g : BitVec 6) : (g.zeroExtend 8).toNat < 64 := by
  revert g
  decide

/-- ABORT of a tag answers what its abort says. -/
theorem cmdAbort_tag {s t : State} {k : Packet} {x r : Byte} (hk : k.payload = [x]) (tag : x.toNat < 64)
    (abort : s.abortTag k.tag (x.truncate 6) false = (t, r)) : s.cmdAbort k = (t, .final 0 [r]) := by
  rw [State.cmdAbort, hk]
  refine (if_pos tag).trans ?_
  rw [show (nth [x] 0).truncate 6 = x.truncate 6 from rfl, abort]

section
variable {s : State} {own t : BitVec 6} {all : Bool}

/-- ABORT of a tag that is not in use. -/
theorem abortTag_unused (other : t ≠ own) (unused : s.mb.tags.contains t = false) : s.abortTag own t all = (s, 1) := by
  rw [State.abortTag, if_neg (by simpa using other), unused]
  rfl

/-- ABORT of a long operation. -/
theorem abortTag_flight {j : Packet} (other : t ≠ own) (used : s.mb.tags.contains t = true) (lanes : s.mb.lanes = [])
    (parts : s.mb.parts = []) (flights : s.mb.flights = [j]) (tag : j.tag = t) : s.abortTag own t all = s.abortLong j := by
  have found : (j.tag == t) = true := by simp [tag]
  rw [State.abortTag, if_neg (by simpa using other), used, lanes, parts, flights]
  simp [found]

/-- ABORT of a reply in parts but TRACE_READ. -/
theorem abortTag_parts {j : Packet} {st : Byte} {l : List (List Byte)} (other : t ≠ own) (used : s.mb.tags.contains t = true)
    (lanes : s.mb.lanes = []) (parts : s.mb.parts = [(j, st, l)]) (tag : j.tag = t) (op : j.opcode ≠ 0x83) :
    s.abortTag own t all = ({ s with mb.parts := [] }.emit (j.reply 0x32 [] false false true), 0) := by
  have keeps (z : State) : z.partsOver j = z := if_neg (by simpa using op)
  rw [State.abortTag, if_neg (by simpa using other), used, lanes, parts]
  simp [tag, keeps]

end

/-- A SELFTEST leaves at once. -/
theorem abortLong_selftest {s : State} {j : Packet} (op : j.opcode = 0x90) : s.abortLong j = (s.complete j 0x32 [], 0) := by
  rw [State.abortLong, op]
  rfl

/-- A FW_COMMIT goes on. -/
theorem abortLong_fwCommit {s : State} {j : Packet} (op : j.opcode = 0x89) : s.abortLong j = (s, 2) := by
  rw [State.abortLong, op]
  cases j.port <;> rfl

/-- One tag of an ABORT of all. -/
def abortStep (own : BitVec 6) (acc : State × List Byte) (i : Nat) : State × List Byte :=
  ((acc.1.abortTag own (BitVec.ofNat 6 i) true).1, acc.2 ++ [(acc.1.abortTag own (BitVec.ofNat 6 i) true).2])

/-- The answer for one tag of an ABORT of all, `n` being the one that leaves. -/
def abortAnswer (n i : Nat) : Byte := if i = n then 0 else 1

/-- ABORT finds no tag in use but the one that leaves and its own. -/
theorem foldl_abortStep_others {s : State} {own tag : BitVec 6}
    (tags : ∀ x, s.mb.tags.contains x = (x == own || x == tag)) :
    ∀ (l : List Nat) (acc : List Byte), (∀ i ∈ l, i < 64 ∧ i ≠ tag.toNat) →
      l.foldl (abortStep own) (s, acc) = (s, acc ++ l.map (abortAnswer tag.toNat)) := by
  intro l
  induction l with
  | nil => simp
  | cons i l ih =>
    intro acc away
    obtain ⟨small, other⟩ := away i List.mem_cons_self
    have differs : BitVec.ofNat 6 i ≠ tag := fun e => other (by
      rw [← e, BitVec.toNat_ofNat]
      omega)
    have none_left : s.abortTag own (BitVec.ofNat 6 i) true = (s, 1) := by
      by_cases mine : BitVec.ofNat 6 i = own
      · rw [State.abortTag, if_pos (by simpa using mine)]
        rfl
      · exact abortTag_unused mine (by rw [tags]; simp [mine, differs])
    rw [List.foldl_cons, abortStep, none_left, ih _ fun k hk => away k (List.mem_cons_of_mem _ hk)]
    simp [abortAnswer, other]

theorem range_split {n : Nat} (h : n < 64) : List.range 64 = List.range n ++ n :: List.range' (n + 1) (63 - n) := by
  rw [List.range_eq_range', List.range_eq_range', show (64 : Nat) = n + (63 - n + 1) by omega, ← List.range'_append_1]
  simp [List.range'_succ]

/-- ABORT of every tag aborts the one that is in use beside its own. -/
theorem cmdAbort_all {s t : State} {k : Packet} {tag : BitVec 6} (hk : k.payload = [0xFF])
    (tags : ∀ x, s.mb.tags.contains x = (x == k.tag || x == tag)) (abort : s.abortTag k.tag tag true = (t, 0))
    (tags' : t.mb.tags = s.mb.tags) :
    s.cmdAbort k = (t, .final 0 ((List.range 64).map (abortAnswer tag.toNat))) := by
  have before : ∀ i ∈ List.range tag.toNat, i < 64 ∧ i ≠ tag.toNat := by
    intro i hi
    have := List.mem_range.mp hi
    omega
  have after : ∀ i ∈ List.range' (tag.toNat + 1) (63 - tag.toNat), i < 64 ∧ i ≠ tag.toNat := by
    intro i hi
    have := List.mem_range'_1.mp hi
    omega
  have all : (List.range 64).foldl (abortStep k.tag) (s, []) = (t, (List.range 64).map (abortAnswer tag.toNat)) := by
    rw [range_split tag.isLt, List.foldl_append, foldl_abortStep_others tags _ _ before, List.foldl_cons, abortStep]
    simp only [BitVec.ofNat_toNat, BitVec.setWidth_eq, abort]
    rw [foldl_abortStep_others (by rw [tags']; exact tags) _ _ after]
    simp [abortAnswer]
  have folded : (List.range 64).foldl (fun (acc : State × List Byte) i =>
      let (s, r) := acc.1.abortTag k.tag (BitVec.ofNat 6 i) true
      (s, acc.2 ++ [r])) (s, []) = (t, (List.range 64).map (abortAnswer tag.toNat)) := all
  rw [State.cmdAbort, hk]
  refine (if_neg (by decide)).trans ((if_pos (by decide)).trans ?_)
  rw [folded]

/-- An ABORT whose body has answered what it aborts. -/
theorem submit_abort {s : State} {h : CmdHdr} {pl r : List Byte} {first : Reply} {flights : List Packet}
    {parts : List (Packet × Byte × List (List Byte))} (serves : Serves s (cmdPacket h 0x01 pl)) (hl : r.length ≤ 1024)
    (replies : s.mb.replies = []) (short : first.payload = [])
    (body : ∀ v, Begun s (cmdPacket h 0x01 pl) (withHost s v) (begunPacket s (cmdPacket h 0x01 pl)) →
      ∃ g, (withHost s v).runBody (begunPacket s (cmdPacket h 0x01 pl)) = (g, .final 0 r) ∧
        g.mb = { v.mb with flights := flights, parts := parts, replies := v.mb.replies ++ [first] } ∧
        HostOnly (withHost s v) g) :
    (s.submit (cmdPacket h 0x01 pl)).mb = { s.mb with
      flights := flights, parts := parts,
      replies := s.mb.replies ++ [first, (cmdPacket h 0x01 pl).reply 0 r false false true],
      tags := h.tag :: s.mb.tags, acc := s.mb.acc + 1 } ∧
    HostOnly s (s.submit (cmdPacket h 0x01 pl)) := by
  obtain ⟨v, b, e⟩ := submit_begun serves rfl
  obtain ⟨g, run, mb, host⟩ := body v b
  have begun : v.mb = _ := b.mb
  have c : g.caughtUp = true :=
    caughtUp_of (begun_caughtUp serves b) (congrArg (·.sys.interp) host) (congrArg (·.late) mb) (congrArg (·.inbox) mb)
  have held : g.mb.held = [] := by
    obtain ⟨-, -, -, -, -, -, held, -⟩ := serves
    rw [mb, begun]
    exact held
  have room : g.mb.room 1024 = true := by
    rw [mb, begun]
    simp [Mailbox.room, Mailbox.bytes, replies, short]
  rw [e, run]
  refine ⟨?_, host_trans (host_withHost s v) (host_trans host (host_answer _ _ _))⟩
  rw [answer_final_mb c held room hl, mb, begun]
  simp only [List.append_assoc, List.singleton_append]
  rfl

/-- The mailbox when an ABORT of another tag begins. -/
theorem begun_tag_used {s : State} {k : Packet} {v : HostSide} {t : BitVec 6} (b : Begun s k (withHost s v) (begunPacket s k))
    (tags : s.mb.tags = [t]) (x : BitVec 6) : (withHost s v).mb.tags.contains x = (x == k.tag || x == t) := by
  rw [b.mb, tags]
  simp [Bool.beq_eq_decide_eq]

section
variable {s : State} {h : CmdHdr} {pl : List Byte} {v : HostSide} {j : Packet} {all : Bool}
  (serves : Serves s (cmdPacket h 0x01 pl))
  (b : Begun s (cmdPacket h 0x01 pl) (withHost s v) (begunPacket s (cmdPacket h 0x01 pl))) (tags : s.mb.tags = [j.tag])
  (other : j.tag ≠ h.tag)
include serves b tags other

/-- An ABORT finds the one long operation that is in flight. -/
theorem begun_abort_flight (flights : s.mb.flights = [j]) (parts : s.mb.parts = []) :
    (withHost s v).abortTag h.tag j.tag all = (withHost s v).abortLong j := by
  have begun : (withHost s v).mb = _ := b.mb
  obtain ⟨-, -, -, -, -, lanes, -⟩ := serves
  exact abortTag_flight other (by rw [begun_tag_used b tags]; simp) (by rw [begun]; exact lanes) (by rw [begun]; exact parts)
    (by rw [begun]; exact flights) rfl

/-- An ABORT finds the one reply in parts. -/
theorem begun_abort_parts {st : Byte} {l : List (List Byte)} (parts : s.mb.parts = [(j, st, l)]) (op : j.opcode ≠ 0x83) :
    (withHost s v).abortTag h.tag j.tag all =
      ({ withHost s v with mb.parts := [] }.emit (j.reply 0x32 [] false false true), 0) := by
  have begun : (withHost s v).mb = _ := b.mb
  obtain ⟨-, -, -, -, -, lanes, -⟩ := serves
  exact abortTag_parts other (by rw [begun_tag_used b tags]; simp) (by rw [begun]; exact lanes) (by rw [begun]; exact parts)
    rfl op

end

section
variable {s : State} {k j : Packet} {v : HostSide} (serves : Serves s k)
  (b : Begun s k (withHost s v) (begunPacket s k))
include serves b

/-- A long operation that completes places the first reply. -/
theorem complete_first (flights : s.mb.flights = [j]) :
    ((withHost s v).complete j 0x32 []).mb =
      { v.mb with flights := [], parts := s.mb.parts, replies := v.mb.replies ++ [j.reply 0x32 [] true false true] } := by
  have begun : v.mb = _ := b.mb
  have caught := begun_caughtUp serves b
  obtain ⟨-, -, -, -, -, -, held, -, room, -⟩ := serves
  rw [complete_mb caught (by rw [withHost, begun]; exact held) (by rw [withHost, begun]; exact room) (Nat.zero_le _)]
  have left : v.mb.flights.filter (fun x => x.tag != j.tag) = [] := by rw [begun]; simp [flights]
  rw [withHost, left, begun]

/-- A reply in parts that is cut short places the first reply. -/
theorem emit_first :
    (({ withHost s v with mb.parts := [] } : State).emit (j.reply 0x32 [] false false true)).mb =
      { v.mb with flights := s.mb.flights, parts := [], replies := v.mb.replies ++ [j.reply 0x32 [] false false true] } := by
  have begun : v.mb = _ := b.mb
  have caught := begun_caughtUp serves b
  obtain ⟨-, -, -, -, -, -, held, -, room, -⟩ := serves
  rw [emit_mb (s := { withHost s v with mb.parts := [] }) caught (by rw [withHost, begun]; exact held)
    (room_le (by rw [withHost, begun]; exact room) (Nat.zero_le _)), withHost, begun]

end

/-- Settles O41. -/
theorem deviceAndFirmwareCommands : Obligations.DeviceAndFirmwareCommands := by
  unfold Obligations.DeviceAndFirmwareCommands
  refine ⟨?_, ?_, ?_, ?_, ?_, ?_, ?_, ?_, ?_, ?_, ?_, ?_, ?_, ?_, ?_, ?_, ?_⟩
  · intro s c g q m x y serves
    exact yields_final { s with sys.minor := min m.toNat 2 } serves rfl rfl (by simp) rfl (fun v _ => ⟨v, rfl, rfl⟩)
      fun w => ⟨rfl, rfl⟩
  · intro s c g q pl serves
    exact yields_final s serves rfl rfl (payload_le_of_serves serves) rfl (fun v _ => ⟨v, rfl, rfl⟩) (host_withHost s)
  · intro s c g q x serves
    obtain ⟨v, b, e⟩ := submit_begun serves rfl
    have body : (withHost s v).runBody (begunPacket s (cmdPacket ⟨c, g, 0xFF, q⟩ 0x03 [0, x])) =
        (withHost s v, .final 0 (withHost s v).deviceStatus) := rfl
    have host := host_trans (host_withHost s v) (host_answer (withHost s v)
      (begunPacket s (cmdPacket ⟨c, g, 0xFF, q⟩ 0x03 [0, x])) (.final 0 (withHost s v).deviceStatus))
    rw [body] at e
    refine ⟨_, rfl, ?_, e ▸ host⟩
    obtain ⟨w, after⟩ := hostOnly_iff.mp host
    have pwr : w.pwr = v.pwr := (congrArg (·.sys.pwr) after).symm.trans (congrArg (·.pwr) (answer_final_sys ..))
    rw [e, after, deviceStatus_withHost pwr, ← after]
    exact answered_of_begun serves b rfl rfl (by rw [deviceStatus_length]; decide)
  · intro s c g q serves
    exact yields_final { s with store.erase := s.store.entries.map fun e => (e.op, e.sel) } serves rfl rfl (Nat.zero_le _) rfl
      (fun v _ => ⟨v, rfl, rfl⟩) fun w => ⟨rfl, rfl⟩
  · intro s c g q x serves tag other idle
    refine yields_final s serves rfl rfl (by decide) rfl (fun v b => ⟨v, ?_, rfl⟩) (host_withHost s)
    have tags : v.mb.tags = [g] := by
      rw [show v.mb = _ from b.mb, idle]
      rfl
    have differs : x.truncate 6 ≠ g := fun e => other (by rw [← e, zeroExtend_truncate x tag])
    exact cmdAbort_tag (s := withHost s v) (k := begunPacket s (cmdPacket ⟨c, g, 0xFF, q⟩ 0x01 [x])) rfl tag
      (abortTag_unused differs (by rw [show (withHost s v).mb.tags = [g] from tags]; simpa using differs))
  · intro s c g q j serves tags other replies flights parts op
    refine ⟨_, rfl, submit_abort serves (by decide) replies (first := j.reply 0x32 [] true false true) rfl fun v b =>
      ⟨(withHost s v).complete j 0x32 [], ?_, complete_first serves b flights, host_complete _ _ _ _⟩⟩
    refine cmdAbort_tag (s := withHost s v) (k := begunPacket s (cmdPacket ⟨c, g, 0xFF, q⟩ 0x01 [j.tag.zeroExtend 8])) rfl
      (zeroExtend_lt _) ?_
    rw [truncate_zeroExtend]
    exact (begun_abort_flight serves b tags other flights parts).trans (abortLong_selftest op)
  · intro s c g q j serves tags other replies flights parts op
    have answers : ((List.range 64).map fun i => if i = j.tag.toNat then (0 : Byte) else 1) =
      (List.range 64).map (abortAnswer j.tag.toNat) := rfl
    rw [answers]
    refine ⟨_, rfl, submit_abort serves (by simp) replies (first := j.reply 0x32 [] true false true) rfl fun v b =>
      ⟨(withHost s v).complete j 0x32 [], ?_, complete_first serves b flights, host_complete _ _ _ _⟩⟩
    have used := begun_tag_used b tags
    refine cmdAbort_all (s := withHost s v) (k := begunPacket s (cmdPacket ⟨c, g, 0xFF, q⟩ 0x01 [0xFF])) (tag := j.tag) rfl
      used ?_ ?_
    · exact (begun_abort_flight serves b tags other flights parts).trans (abortLong_selftest op)
    · rw [complete_first serves b flights]
      rfl
  · intro s c g q j serves tags other replies flights parts op
    have short : ¬j.opcode = 0x83 := by rw [op]; decide
    refine ⟨_, rfl, submit_abort serves (by decide) replies (first := j.reply 0x32 [] false false true) rfl fun v b =>
      ⟨_, cmdAbort_tag (s := withHost s v) (k := begunPacket s (cmdPacket ⟨c, g, 0xFF, q⟩ 0x01 [j.tag.zeroExtend 8])) rfl
        (zeroExtend_lt _) ?_, emit_first serves b,
        host_trans (t := { withHost s v with mb.parts := [] }) rfl (host_emit _ _)⟩⟩
    rw [truncate_zeroExtend]
    exact begun_abort_parts serves b tags other parts short
  · intro s c g q j serves tags other replies flights parts op
    refine yields_final s serves rfl rfl (by decide) rfl (fun v b => ⟨v, ?_, rfl⟩) (host_withHost s)
    refine cmdAbort_tag (s := withHost s v) (k := begunPacket s (cmdPacket ⟨c, g, 0xFF, q⟩ 0x01 [j.tag.zeroExtend 8])) rfl
      (zeroExtend_lt _) ?_
    rw [truncate_zeroExtend]
    exact (begun_abort_flight serves b tags other flights parts).trans (abortLong_fwCommit op)
  · intro s c g q d serves
    refine yields_final { s with fw.staged := d } serves rfl rfl (Nat.zero_le _) rfl (fun v _ => ⟨v, ?_, rfl⟩) fun w => ⟨rfl, rfl⟩
    have short := payload_le_of_serves serves
    rw [List.length_append] at short
    exact cmdFwStage_first (s := withHost s v) rfl (by omega)
  · intro s c g q serves unmarked
    obtain ⟨v, b, e⟩ := submit_unmarked (x := { s with fw.staged := [] }) (r := ok) serves unmarked
      fun v => cmdFwCommit_discard (s := withHost s v) (k := begunPacket s (cmdPacket ⟨c, g, 0xFF, q⟩ 0x89 [1])) rfl
    refine ⟨_, rfl, ?_⟩
    rw [e]
    refine ⟨answered_of_begun serves b rfl rfl (Nat.zero_le _), ?_⟩
    obtain ⟨w, after⟩ := hostOnly_iff.mp (host_trans (host_withHost _ v) (host_answer _ _ ok))
    rw [after]
    exact ⟨rfl, rfl⟩
  · intro s c g q serves staged idle
    obtain ⟨v, b, e⟩ := submit_unmarked (x := { s with fw.runs := [⟨g, s.mb.acc, .verify⟩] }) (r := .accepted) serves rfl
      fun v => cmdFwCommit_verify (s := withHost s v) (k := begunPacket s (cmdPacket ⟨c, g, 0xFF, q⟩ 0x89 [0])) rfl staged idle
    refine ⟨_, rfl, ?_⟩
    rw [e]
    refine ⟨accepted_of_begun serves b rfl rfl, ?_⟩
    obtain ⟨w, after⟩ := hostOnly_iff.mp (host_trans (host_withHost _ v) (host_answer _ _ .accepted))
    rw [after]
    exact ⟨rfl, rfl⟩
  · intro s k o caught held room flights op runs
    have interp : s.sys.interp = true := by
      simp only [State.caughtUp, Bool.and_eq_true] at caught
      obtain ⟨⟨interp, -⟩, -⟩ := caught
      exact interp
    obtain ⟨v, done, completed⟩ := complete_withHost (s := { s with fw.runs := [] }) (k := k) (st := 0x23) (pl := [1]) caught
      held room (by decide)
    refine ⟨_, exec_fwCommitComplete_denied interp flights op runs, ?_⟩
    rw [done]
    exact ⟨completed, rfl, rfl⟩
  · intro s c g q serves
    exact yields_final s serves rfl rfl (by simp) rfl (fun v _ => ⟨v, rfl, rfl⟩) (host_withHost s)
  · intro s c g q x serves known notPort notPort'
    exact yields_accepted s serves rfl rfl rfl
      (fun v _ => ⟨v, cmdSelftest_accepted (s := withHost s v) rfl known notPort notPort' rfl, rfl⟩) (host_withHost s)
  · intro s k caught held room flights op hk
    obtain ⟨v, done, completed⟩ := complete_withHost (s := { s with safety.stFail := clrBit s.safety.stFail 2 }) (k := k)
      (st := 0) (pl := [0, 0, 0, 0]) caught held room (by decide)
    refine ⟨_, exec_selftestComplete_passed flights op hk, ?_⟩
    rw [done]
    exact ⟨completed, rfl, rfl⟩
  · intro s c g q v serves unlocked unfused
    refine yields_final (({ s with safety.cfg := v } : State).saveEntry 0x91 0xFF [v, 0, 0, 0]) serves rfl rfl (Nat.zero_le _) rfl
      (fun w _ => ⟨w, ?_, rfl⟩) fun w => ⟨?_, rfl, rfl⟩
    · exact cmdSafecfg_sets (s := withHost s w) (k := begunPacket s (cmdPacket ⟨c, g, 0xFF, q⟩ 0x91 [v, 0, 0, 0])) rfl unlocked
        unfused
    · rw [or_and_lock v unlocked]
      rfl

end Sys2Proof.Proofs
end

section
/-!
SUPPORT. What a word reads after a word is written, what the programming of a word does to the array, and the fuse commands and
their ends; with them O47 is settled.
-/
namespace Sys2Proof.Proofs

open Sys2Proof.Machine Sys2Proof.Safety Sys2Proof.Laws

/-! ## Words of a store -/

/-- Bytes written read as written. -/
theorem read_writeBytes_in {m : Mem} (w : m.wf = true) : ∀ (bs : List Byte) (k i : Nat) (h : i < bs.length),
    (m.writeBytes k bs).read (k + i) = bs[i] := by
  intro bs
  induction bs generalizing m with
  | nil => intro k i h; exact absurd h (Nat.not_lt_zero i)
  | cons b bs ih =>
    intro k i h
    show ((m.write k b).writeBytes (k + 1) bs).read (k + i) = _
    cases i with
    | zero =>
      rw [Mem.read_writeBytes_out _ _ (Mem.write_wf k b w) (by omega)]
      exact Mem.read_write_self k b w
    | succ i =>
      rw [show k + (i + 1) = k + 1 + i by omega]
      exact ih (Mem.write_wf k b w) (k + 1) i (Nat.lt_of_succ_lt_succ h)

theorem leVal_leBytes_four (v : Word) : BitVec.ofNat 32 (leVal (leBytes 4 v.toNat)) = v := by
  apply BitVec.eq_of_toNat_eq
  have bound := v.isLt
  simp [leBytes, List.range_succ, leVal, byteOf, Nat.shiftRight_eq_div_pow]
  omega

/-- A word written reads as written. -/
theorem word_setWord_self {m : Mem} (w : Nat) (v : Word) (h : m.wf = true) : (m.setWord w v).word w = v := by
  have bytes : (m.setWord w v).readBytes (4 * w) 4 = leBytes 4 v.toNat := by
    refine List.ext_getElem (by simp [Mem.readBytes]) fun i _ hi => ?_
    simp only [Mem.readBytes, List.getElem_map, List.getElem_range]
    exact read_writeBytes_in h _ _ _ hi
  rw [Mem.word, bytes, leVal_leBytes_four]

/-- A word written reaches no address outside it. -/
theorem read_setWord_out {m : Mem} (w : Nat) (v : Word) (h : m.wf = true) {a : Nat} (out : a < 4 * w ∨ 4 * w + 4 ≤ a) :
    (m.setWord w v).read a = m.read a :=
  Mem.read_writeBytes_out _ _ h (by simpa using out)

/-! ## Programming (R562) -/

/-- Programming a word of the array; which bits that do not verify read 1 at NORMAL margin is open. -/
theorem progWord_fuse (s : State) (w : Nat) (b fail : Word) :
    ∃ weak, (s.progWord w b fail).fuse = s.fuse.program w b fail weak := by
  unfold State.progWord
  dsimp only [State.drawn]
  rw [count_eq]
  exact ⟨_, rfl⟩

/-- The array once every bit named of a word has verified. -/
def programmed (f : Fuse) (x : Nat × Word) : Fuse := f.program x.1 x.2 0 0

/-- Where every bit verifies, nothing is left open. -/
theorem program_good (f : Fuse) (w : Nat) (b weak : Word) : f.program w b 0 weak = programmed f (w, b) := by
  have none_left (x : Word) : b &&& ~~~f.strict.word w &&& 0 &&& x = 0 := by simp
  rw [programmed, Fuse.program, Fuse.program, none_left, none_left]

theorem and_not_zero (b : Word) : b &&& ~~~0 = b := BitVec.and_allOnes

theorem programmed_normal (f : Fuse) (w : Nat) (b : Word) :
    (programmed f (w, b)).normal = f.normal.setWord w (f.normal.word w ||| (b &&& ~~~f.strict.word w)) := by
  rw [programmed, Fuse.program, and_not_zero]
  simp

theorem programmed_strict (f : Fuse) (w : Nat) (b : Word) :
    (programmed f (w, b)).strict = f.strict.setWord w (f.strict.word w ||| (b &&& ~~~f.strict.word w)) := by
  rw [programmed, Fuse.program, and_not_zero]

/-- Programming leaves the controller and the latched image. -/
theorem foldl_programmed_rest (l : List (Nat × Word)) (f : Fuse) :
    (l.foldl programmed f).queue = f.queue ∧ (l.foldl programmed f).latched = f.latched := by
  induction l generalizing f with
  | nil => exact ⟨rfl, rfl⟩
  | cons x l ih => exact ih (programmed f x)

/-- What programming a word changes of the device. -/
theorem progWord_frame (s : State) (w : Nat) (b fail : Word) : ∃ weak v, v.mb = s.mb ∧ v.pwr = s.sys.pwr ∧
    s.progWord w b fail = withHost { s with fuse := s.fuse.program w b fail weak } v := by
  obtain ⟨weak, fuse⟩ := progWord_fuse s w b fail
  have frame : s.progWord w b fail = _ := fuses_progWord s w b fail
  rw [fuse] at frame
  exact ⟨weak, ⟨s.mb, (s.progWord w b fail).perf, s.trace, (s.progWord w b fail).free, s.sys.pwr, s.bus.acked, s.bus.out,
    s.bus.acks, s.bus.lastAddr⟩, rfl, rfl, frame⟩

/-- Where every bit verifies, a list of words is programmed whole. -/
theorem progList_good (l : List (Nat × Word)) (s : State) :
    ∃ v, v.mb = s.mb ∧ v.pwr = s.sys.pwr ∧ State.progList 0 l s = (withHost { s with fuse := l.foldl programmed s.fuse } v, none) := by
  induction l generalizing s with
  | nil => exact ⟨⟨s.mb, s.perf, s.trace, s.free, s.sys.pwr, s.bus.acked, s.bus.out, s.bus.acks, s.bus.lastAddr⟩, rfl, rfl, rfl⟩
  | cons x l ih =>
    obtain ⟨w, b⟩ := x
    obtain ⟨weak, v, mb, pwr, frame⟩ := progWord_frame s w b 0
    obtain ⟨v', mb', pwr', rest⟩ := ih (s.progWord w b 0)
    have none_left : s.fuse.failMask w b 0 = 0 := by simp [Fuse.failMask]
    refine ⟨v', mb'.trans (by rw [frame]; exact mb), pwr'.trans (by rw [frame]; exact pwr), ?_⟩
    rw [State.progList]
    simp only [none_left, if_true]
    rw [rest, frame, program_good]
    rfl

/-- The bits that were to be set are. -/
theorem or_diff_and (b x : Word) : (x ||| (b &&& ~~~x)) &&& b = b := by
  ext i hi
  rw [BitVec.getElem_and, BitVec.getElem_or, BitVec.getElem_and, BitVec.getElem_not]
  cases b[i] <;> cases x[i] <;> rfl

/-! ## The ends of the fuse commands -/

section
variable {s : State} {k : Packet} {u : Bool} (run : s.fuse.run = some ⟨k, u, 0, 0⟩) (kill : s.alarm.killPend = false)
include run kill

/-- The end of the command that has the controller. -/
theorem fuseEnd_run {op : Byte} (hk : k.opcode = op) (fl : Word) (f : State → Word → Packet → State) :
    s.fuseEnd op fl f = { f s fl k with fuse.run := none }.fuseGo := by
  have without : fl ||| FuseRun.without ⟨k, u, 0, 0⟩ = fl := by simp [FuseRun.without]
  rw [State.fuseEnd, run]
  simp only [hk, kill, without]
  exact if_pos (by simp)

end

section
variable {s : State} {k : Packet} (caught : s.caughtUp = true) (held : s.mb.held = []) (room : s.mb.room 1024 = true)
  (queue : s.fuse.queue = [])
include caught held room queue

/-- A command whose words all verify, and that forces nothing, completes OK. -/
theorem fuseWords_good (unforced : (k.opcode == 0x6A && (nth k.payload 1).getLsbD 7) = false) (l : List (Nat × Word)) :
    ∃ w, ({ s.fuseWords 0 k l with fuse.run := none } : State).fuseGo =
        withHost { s with fuse := { l.foldl programmed s.fuse with run := none } } w ∧ Completed s k 0 [] (withHost s w) := by
  obtain ⟨v, mb, -, done⟩ := progList_good l s
  obtain ⟨w, e, completed⟩ := complete_withHost (s := withHost { s with fuse := l.foldl programmed s.fuse } v) (k := k) (st := 0)
    (pl := []) (caughtUp_of caught rfl (congrArg (·.late) mb) (congrArg (·.inbox) mb)) (by rw [withHost, mb]; exact held)
    (by rw [withHost, mb]; exact room) (Nat.zero_le _)
  have words : s.fuseWords 0 k l = withHost (withHost { s with fuse := l.foldl programmed s.fuse } v) w := by
    rw [State.fuseWords, done, ← e]
    show State.fuseOk _ k = _
    rw [State.fuseOk]
    simp only [unforced, Bool.false_eq_true, if_false]
  refine ⟨w, ?_, ?_⟩
  · rw [words]
    exact fuseGo_idle ((foldl_programmed_rest l s.fuse).1.trans queue)
  · rw [Completed] at completed ⊢
    rw [show (withHost s w).mb = _ from completed, withHost, mb]

end

/-- A record posted to a queue with room: what it leaves. -/
theorem postRec_spare {s : State} (ty : Byte) (b : List Byte) (spare : s.sbox.queue.length < 32) :
    (s.postRec ty b).sbox.queue.length = s.sbox.queue.length + 1 ∧ (s.postRec ty b).fuse = s.fuse ∧
      (s.postRec ty b).mb = s.mb ∧ (s.postRec ty b).sys.interp = s.sys.interp := by
  unfold State.postRec State.leaveDoze
  rw [if_pos spare]
  split <;> exact ⟨by simp, rfl, rfl, rfl⟩

/-- The bits that do not verify: the array, and the rest of the device but the record and the host's side. -/
theorem fuseWords_failed {s : State} {k : Packet} (caught : s.caughtUp = true) (held : s.mb.held = [])
    (room : s.mb.room 1024 = true) (queue : s.fuse.queue = []) (spare : s.sbox.queue.length < 32) {w : Nat} {v f : Word}
    (fails : s.fuse.failMask w v f ≠ 0) :
    ∃ t weak, ({ s.fuseWords f k [(w, v)] with fuse.run := none } : State).fuseGo = t ∧
      Completed s k 0x41 (leBytes 4 (s.fuse.failMask w v f).toNat) t ∧ t.fuse.evt = setBit s.fuse.evt 1 ∧
      t.sbox.queue.length = s.sbox.queue.length + 1 ∧ t.fuse.normal = (s.fuse.program w v f weak).normal ∧ t.fuse.run = none := by
  obtain ⟨weak, x, mb, -, frame⟩ := progWord_frame s w v f
  have words : s.fuseWords f k [(w, v)] = (s.progWord w v f).fuseFailed k w (s.fuse.failMask w v f) := by
    rw [State.fuseWords, State.progList]
    simp only [fails, if_false]
  rw [words, State.fuseFailed, frame]
  dsimp only
  generalize noted : State.fuseEvt _ 1 = n
  have seen : n.sbox = s.sbox ∧ n.mb = s.mb ∧ n.sys.interp = s.sys.interp ∧ n.fuse.evt = setBit s.fuse.evt 1 ∧
      n.fuse.normal = (s.fuse.program w v f weak).normal ∧ n.fuse.queue = [] := by
    rw [← noted]
    exact ⟨rfl, mb, rfl, rfl, rfl, queue⟩
  obtain ⟨sbox, nmb, ninterp, evt, normal, nqueue⟩ := seen
  obtain ⟨length, fuse, pmb, pinterp⟩ := postRec_spare (s := n) 0x0F
    (k.opcode :: leBytes 2 w ++ leBytes 4 (s.fuse.failMask w v f).toNat) (by rw [sbox]; exact spare)
  generalize n.postRec 0x0F _ = q at length fuse pmb pinterp
  have qmb : q.mb = s.mb := pmb.trans nmb
  obtain ⟨y, done, completed⟩ := complete_withHost (s := q) (k := k) (st := 0x41)
    (pl := leBytes 4 (s.fuse.failMask w v f).toNat) (caughtUp_of caught (pinterp.trans ninterp) (by rw [qmb]) (by rw [qmb]))
    (by rw [qmb]; exact held) (by rw [qmb]; exact room) (by simp)
  refine ⟨_, weak, rfl, ?_⟩
  rw [done, fuseGo_idle (s := { withHost q y with fuse.run := none }) ((congrArg Fuse.queue fuse).trans nqueue)]
  refine ⟨?_, (congrArg Fuse.evt fuse).trans evt, length.trans (by rw [sbox]), (congrArg Fuse.normal fuse).trans normal, rfl⟩
  rw [Completed] at completed ⊢
  rw [show ({ withHost q y with fuse.run := none } : State).mb = _ from completed, qmb]

/-! ## FUSE_READ and the start of a programming command -/

/-- The one region that a word lies in. -/
theorem regOf_unique {w r : Nat} (hr : r < 5) (low : regBase r ≤ w) (high : w ≤ regLock r) : r = regOf w := by
  unfold regOf
  interval_cases r <;> simp [regBase, regLock] at low high <;> (repeat' split) <;> omega

theorem bitMap_one (b : Bool) : bitMap [b] = [if b then 1 else 0] := by
  cases b <;> decide

theorem cut_short {n f : Nat} {l : List Byte} (h : l.length ≤ n) : cut n (f + 1) l = [l] := by
  rw [cut, if_pos h]

/-- FUSE_READ of one word of a region that may be read. -/
theorem cmdFuseRead_word {s : State} {k : Packet} {w : Nat}
    (hk : k.payload = [0, 0, byteOf w 0, byteOf w 1, 1, 0]) (inArray : w < 1024) (unlocked : s.rlocked (regOf w) = false) :
    s.cmdFuseRead k = (s, .parts (if s.fuse.marginal.contains w then 0x40 else 0) [leBytes 2 w ++ [1, 0] ++
      leBytes 4 (s.fuseWord w).toNat ++ [if s.fuse.marginal.contains w then 1 else 0]]) := by
  have arg : fuseArg k = w := by
    rw [fuseArg, hk]
    simp [field, leVal, byteOf, Nat.shiftRight_eq_div_pow]
    omega
  have one : field k.payload 4 2 = 1 := by rw [hk]; rfl
  have mode : nth k.payload 0 = 0 := by rw [hk]; rfl
  have within : ¬(decide (2 < (0 : Byte)) || decide (1023 < w) || (1 : Nat) == 0 || decide (256 < 1) || decide (1024 < w + 1)) = true := by
    simp
    omega
  have readable : ¬((List.range 5).any fun r => s.rlocked r && decide (w ≤ regLock r) && decide (regBase r < w + 1)) = true := by
    simp only [List.any_eq_true, List.mem_range, Bool.and_eq_true, decide_eq_true_eq, not_exists, not_and]
    rintro r hr ⟨locked, high⟩ low
    rw [regOf_unique hr (Nat.le_of_lt_succ low) high, unlocked] at locked
    exact absurd locked Bool.false_ne_true
  rw [State.cmdFuseRead]
  simp only [arg, one, mode]
  refine (if_neg within).trans ((if_neg readable).trans ?_)
  show (s, CmdRes.parts (if s.fuse.marginal.contains w || false then 0x40 else 0)
    (cut 1024 2 (leBytes 2 w ++ [1, 0] ++ (leBytes 4 (s.fuseWord w).toNat ++ []) ++ bitMap [s.fuse.marginal.contains w]))) = _
  rw [Bool.or_false, List.append_nil, bitMap_one, cut_short (by simp)]

/-- A lock word with the bits of a write lock is one. -/
theorem wlockIn_or (x : Word) : wlockIn (x ||| 0x0F) = true := by
  have bits : (x ||| 0x0F) &&& 0x0F = 0x0F := by
    ext i hi
    rw [BitVec.getElem_and, BitVec.getElem_or]
    cases x[i] <;> cases (0x0F : Word)[i] <;> rfl
  rw [wlockIn, bits]
  rfl

/-- A programming command that passes its check takes the idle controller. -/
theorem fuseStart_idle {s : State} {k : Packet} (check : s.fuseCheck k = 0) (idle : s.fuseBusy = false)
    (keygen : s.lantern.keygen = none) (lanes : s.mb.lanes = []) : s.fuseStart k = (s.fuseBegin k, .accepted) := by
  simp [State.fuseStart, check, idle, keygen, State.laneBefore, lanes]

/-- The body of a programming command that passes its check. -/
theorem fuseStart_begun {s : State} {k : Packet} {v : HostSide} (serves : Serves s k)
    (begun : Begun s k (withHost s v) (begunPacket s k)) (check : s.fuseCheck k = 0) (idle : s.fuseBusy = false)
    (keygen : s.lantern.keygen = none) :
    (withHost s v).fuseStart (begunPacket s k) = (withHost (s.fuseBegin (begunPacket s k)) v, .accepted) := by
  have lanes : v.mb.lanes = [] := by
    obtain ⟨-, -, -, -, -, lanes, -⟩ := serves
    exact (congrArg Mailbox.lanes begun.mb).trans lanes
  exact fuseStart_idle (s := withHost s v) (k := begunPacket s k) check idle keygen lanes

/-- Settles O47: a command's words are programmed one after another, each as Table 17.5 gives (R562). -/
theorem fuseCommandsAndTheirEnds : Obligations.FuseCommandsAndTheirEnds := by
  unfold Obligations.FuseCommandsAndTheirEnds
  refine ⟨?_, ?_, ?_, ?_, ?_, ?_, ?_, ?_, ?_⟩
  · intro s c g q w serves inArray unlocked
    exact yields_part s serves rfl rfl rfl (by simp) rfl
      (fun v _ => ⟨v, cmdFuseRead_word (s := withHost s v) (k := begunPacket s _) rfl inArray unlocked, rfl⟩) (host_withHost s)
  · intro s c g q pl serves check idle keygen
    exact yields_accepted (s.fuseBegin (begunPacket s (cmdPacket ⟨c, g, 0xFF, q⟩ 0x69 pl))) serves rfl rfl rfl
      (fun v begun => ⟨v, fuseStart_begun serves begun check idle keygen, rfl⟩) fun w => ⟨rfl, rfl, rfl, rfl, rfl⟩
  · intro s c g q pl serves check idle keygen
    exact yields_accepted (s.fuseBegin (begunPacket s (cmdPacket ⟨c, g, 0xFF, q⟩ 0x6A pl))) serves rfl rfl rfl
      (fun v begun => ⟨v, fuseStart_begun serves begun check idle keygen, rfl⟩) fun w => ⟨rfl, rfl, rfl, rfl, rfl⟩
  · intro s c g q pl serves check idle keygen
    exact yields_accepted (s.fuseBegin (begunPacket s (cmdPacket ⟨c, g, 0xFF, q⟩ 0x6B pl))) serves rfl rfl rfl
      (fun v begun => ⟨v, fuseStart_begun serves begun check idle keygen, rfl⟩) fun w => ⟨rfl, rfl, rfl, rfl, rfl⟩
  · intro s k u w v caught held room flights op run queue kill work nwf swf
    obtain ⟨x, done, completed⟩ := fuseWords_good caught held room queue (by rw [op]; rfl) [(w, v)]
    refine ⟨_, congrArg Host.Outcome.next (fuseEnd_run run kill op 0 State.fuseProgEnd), ?_⟩
    rw [State.fuseProgEnd, work, done]
    refine ⟨completed, ?_, ?_, fun a outside => ?_, rfl, rfl⟩
    · show (programmed s.fuse (w, v)).strict.word w &&& v = v
      rw [programmed_strict, word_setWord_self w _ swf, or_diff_and]
    · show (programmed s.fuse (w, v)).normal.word w = _
      rw [programmed_normal, word_setWord_self w _ nwf]
    · show (programmed s.fuse (w, v)).normal.read a = _
      rw [programmed_normal, read_setWord_out w _ nwf outside]
  · intro s k u w v f caught held room flights op run queue kill work fails spare nwf
    obtain ⟨t, weak, done, completed, evt, length, normal, ended⟩ := fuseWords_failed (k := k) caught held room queue spare fails
    refine ⟨_, congrArg Host.Outcome.next (fuseEnd_run run kill op f State.fuseProgEnd), ?_⟩
    rw [State.fuseProgEnd, work, done]
    refine ⟨completed, ?_, length, fun a outside => ?_, ended⟩
    · rw [evt]
      simp [setBit]
    · rw [normal, Fuse.program, read_setWord_out w _ nwf outside]
  · intro s k u w caught held room flights op run queue kill plan nwf swf blank unforced
    obtain ⟨x, done, completed⟩ := fuseWords_good (k := k) caught held room queue (by rw [unforced, Bool.and_false]) [(w, 0x0F)]
    refine ⟨_, congrArg Host.Outcome.next (fuseEnd_run run kill op 0 State.fuseLockEnd), ?_⟩
    rw [show s.fuseLockEnd 0 k = s.fuseWords 0 k [(w, 0x0F)] by rw [State.fuseLockEnd, plan]; rfl, done]
    refine ⟨completed, ?_, fun a outside => ?_, rfl⟩
    · show wlockIn ((programmed s.fuse (w, 0x0F)).normal.word w) = true
      rw [programmed_normal, word_setWord_self w _ nwf, blank, and_not_zero]
      exact wlockIn_or _
    · show (programmed s.fuse (w, 0x0F)).normal.read a = _
      rw [programmed_normal, read_setWord_out w _ nwf outside]
  · intro s k u caught held room flights op run queue kill plan
    obtain ⟨x, done, completed⟩ := complete_withHost (k := k) (st := 0x22) (pl := []) caught held room (Nat.zero_le _)
    refine ⟨_, congrArg Host.Outcome.next (fuseEnd_run run kill op 0 State.fuseLockEnd), ?_⟩
    have locked : s.fuseLockEnd 0 k = withHost s x := by
      rw [← done, State.fuseLockEnd, show s.lockPlan k = (0x22, (s.lockPlan k).2) from Prod.ext plan rfl]
      rfl
    rw [locked, fuseGo_idle (s := { withHost s x with fuse.run := none }) queue]
    exact ⟨completed, rfl, rfl, rfl⟩
  · intro s k u caught held room flights op run queue kill payload normal strict
    obtain ⟨x, done, completed⟩ := fuseWords_good (k := k) caught held room queue (by rw [op]; rfl) [(0x402, 5), (0x3E1, BitVec.ofNat 32 (mapEntry 0xD0 2))]
    refine ⟨_, congrArg Host.Outcome.next (fuseEnd_run run kill op 0 State.fuseSpareEnd), ?_⟩
    have work : s.fuseWork k = [(0x402, 5), (0x3E1, BitVec.ofNat 32 (mapEntry 0xD0 2))] := by
      rw [State.fuseWork, op, fuseArg, payload]
      rfl
    rw [State.fuseSpareEnd, work, done]
    refine ⟨completed, ?_, ?_, rfl⟩
    · show spareOf (readMap (programmed (programmed s.fuse (0x402, 5)) (0x3E1, BitVec.ofNat 32 (mapEntry 0xD0 2))).normal
        (programmed (programmed s.fuse (0x402, 5)) (0x3E1, BitVec.ofNat 32 (mapEntry 0xD0 2))).strict).1 0xD0 = some 2
      simp only [programmed_normal, programmed_strict, normal, strict]
      decide +kernel
    · show (programmed (programmed s.fuse (0x402, 5)) (0x3E1, BitVec.ofNat 32 (mapEntry 0xD0 2))).normal.word 0x402 = 5
      simp only [programmed_normal, programmed_strict, normal, strict]
      decide +kernel

end Sys2Proof.Proofs
end

section
/-!
SUPPORT. What counting leaves of the counters, the way of a command to its answer with the counters and the trace told, the bodies
of the counter and trace commands, freezes and snapshots; with them O49 is settled.
-/
namespace Sys2Proof.Proofs

open Sys2Proof.Machine Sys2Proof.Safety Sys2Proof.Laws

/-! ## Counting (R582) -/

/-- What PERF_CFG sets of a counter. -/
def ctrSettings (c : Ctr) : Byte × Bool × Bool := (c.event, c.enable, c.chain)

/-- Nothing but the counters' values and their overflow bits differs. -/
structure Counted (f g : Perf) : Prop where
  rest : g = { f with ctrs := g.ctrs, ovf := g.ovf }
  settings : ∀ i : Nat, g.ctrs[i]?.map ctrSettings = f.ctrs[i]?.map ctrSettings

theorem Counted.refl (f : Perf) : Counted f f := ⟨rfl, fun _ => rfl⟩

theorem Counted.trans {f g h : Perf} (a : Counted f g) (b : Counted g h) : Counted f h :=
  ⟨by rw [b.rest, a.rest], fun i => (b.settings i).trans (a.settings i)⟩

/-- A counter that takes a value keeps its settings. -/
theorem counted_set (f : Perf) (i : Nat) (hi : i < 152) (v : Word) (o : BitVec 152) :
    Counted f { f with ctrs := f.ctrs.set i { f.ctrs[i] with val := v }, ovf := o } := by
  refine ⟨rfl, fun j => ?_⟩
  rw [Vector.getElem?_set]
  split
  next same => subst same; simp [ctrSettings, hi]
  next => rfl

theorem counted_add (f : Perf) (i n : Nat) : Counted f (f.add i n) := by
  unfold Perf.add
  split
  next hi =>
    dsimp only
    split
    · exact counted_set f i hi _ f.ovf
    · split
      · split
        next h2 =>
          split
          · exact (counted_set f i hi _ f.ovf).trans (counted_set _ (i + 1) h2 _ _)
          · exact (counted_set f i hi _ f.ovf).trans (counted_set _ (i + 1) h2 _ f.ovf)
        next => exact counted_set f i hi _ f.ovf
      · exact counted_set f i hi _ _
  next => exact .refl f

theorem counted_foldl {α : Type} {step : Perf → α → Perf} (one : ∀ f a, Counted f (step f a)) (l : List α) (f : Perf) :
    Counted f (l.foldl step f) := by
  induction l generalizing f with
  | nil => exact .refl f
  | cons a l ih => exact (one f a).trans (ih (step f a))

theorem count_counted (s : State) (b e n : Nat) : Counted s.perf (s.count b e n).perf := by
  unfold State.count
  split
  · exact .refl _
  · refine counted_foldl (fun f c => ?_) _ _
    split
    · split
      · exact counted_add f _ n
      · exact .refl f
    · exact .refl f

theorem count_frame (s : State) (b e n : Nat) : ∃ f, s.count b e n = { s with perf := f } ∧ Counted s.perf f :=
  ⟨_, count_eq s b e n, count_counted s b e n⟩

/-- A clock counter that counts on to its wrap. -/
theorem add_to_wrap {f : Perf} {i : Nat} (hi : i < 152) {c : Ctr} (at_i : f.ctrs[i] = c) (single : c.chain = false) :
    f.add i (2 ^ 32 - c.val.toNat) =
      { f with ctrs := f.ctrs.set i { c with val := 0 }, ovf := setBit f.ovf i } := by
  have wrap : c.val.toNat + (2 ^ 32 - c.val.toNat) = 2 ^ 32 := by have := c.val.isLt; omega
  unfold Perf.add
  rw [dif_pos hi]
  simp only [at_i, wrap, single, lt_irrefl, if_false, Bool.false_and, Bool.false_eq_true]
  rfl

/-- A counter of SYSCLK clocks wraps (R581). -/
theorem exec_perfCounterWrap_clock {s : State} {v : Word} (live : s.perf.frozen = false)
    (ctr : s.perf.ctrs[140]? = some ⟨7, true, false, v⟩) :
    exec (.perfCounterWrap 35 0) s = .next { s with perf := s.perf.add 140 (2 ^ 32 - v.toNat) } := by
  have counter : s.perf.ctrs[4 * (35 : Fin 38).val + (0 : Fin 4).val]? = some ⟨7, true, false, v⟩ := ctr
  show execPerfCounterWrap 35 0 s = _
  rw [execPerfCounterWrap]
  dsimp only
  rw [counter]
  dsimp only
  rw [live]
  rfl

/-! ## What an answer leaves of the counters and the trace -/

/-- Nothing but the records and the lost count differs. -/
def Recorded (x y : Trace) : Prop := y = { x with ring := y.ring, side := y.side, lost := y.lost }

/-- The host's side after an answer: the counters have counted, and the trace may have its record. -/
def Noted (s : State) (w : HostSide) : Prop := Counted s.perf w.perf ∧ Recorded s.trace w.trace

theorem place_frame (s : State) (r : Reply) :
    ∃ m f, s.place r = { s with mb := m, perf := f } ∧ Counted s.perf f := by
  unfold State.place
  split
  · obtain ⟨f, counts, counted⟩ := count_frame { s with mb.replies := s.mb.replies ++ [r] } 35 0x03 1
    rw [counts]
    dsimp only
    split
    · obtain ⟨g, counts', counted'⟩ :=
        count_frame { s with mb.replies := s.mb.replies ++ [r], perf := f } 35 0x04 1
      exact ⟨_, g, counts', counted.trans counted'⟩
    · exact ⟨_, f, rfl, counted⟩
  · exact ⟨_, s.perf, rfl, .refl _⟩

/-- A reply is counted; beside the mailbox it leaves the rest alone. -/
theorem emit_frame (s : State) (r : Reply) : ∃ m f, s.emit r = { s with mb := m, perf := f } ∧ Counted s.perf f := by
  unfold State.emit
  split
  · exact place_frame s r
  · exact ⟨_, s.perf, rfl, .refl _⟩

theorem push_recorded (x : Trace) (r : TraceRec) : Recorded x (x.push r) := by
  unfold Trace.push
  split <;> rfl

theorem Recorded.trans {x y z : Trace} (a : Recorded x y) (b : Recorded y z) : Recorded x z := by
  unfold Recorded at *
  rw [b, a]

theorem foldl_push_recorded (l : List TraceRec) (x : Trace) : Recorded x (l.foldl Trace.push x) := by
  induction l generalizing x with
  | nil => rfl
  | cons r l ih => exact (push_recorded x r).trans (ih _)

/-- A record of the trace leaves the counters. -/
theorem traceReply_frame (s : State) (k : Packet) (st : Byte) :
    ∃ x n, s.traceReply k st = { s with trace := x, free := n } ∧ Recorded s.trace x := by
  unfold State.traceReply
  split
  · refine ⟨_, _, rfl, ?_⟩
    dsimp only
    split
    · exact push_recorded _ _
    · split <;> rfl
  · exact ⟨s.trace, s.free, rfl, rfl⟩

/-- A final answer. -/
theorem answer_final_noted (s : State) (k : Packet) (st : Byte) (r : List Byte) :
    ∃ w, s.answer k (.final st r) = withHost s w ∧ Noted s w := by
  obtain ⟨m, f, emitted, counted⟩ := emit_frame s (k.reply st r false false true)
  obtain ⟨x, n, traced, recorded⟩ := traceReply_frame (s.emit (k.reply st r false false true)) k st
  rw [emitted] at recorded
  refine ⟨⟨m, f, x, n, s.sys.pwr, s.bus.acked, s.bus.out, s.bus.acks, s.bus.lastAddr⟩, ?_, counted, recorded⟩
  rw [State.answer, traced, emitted]
  rfl

/-! ## The way of a command, with the counters and the trace -/

/-- A packet that passes the checks is counted, by the counters and by the trace. -/
theorem accept_noted {w : State} {k : Packet} (checks : w.checks k = none) : ∃ f, Counted w.perf f ∧
    w.accept k = { w with
      perf := f, trace.seen := w.trace.seen + 1, mb := { w.mb with
        tags := k.tag :: w.mb.tags, acc := w.mb.acc + 1,
        lanes := w.mb.lanes ++ [{ (w.traceCount k).2 with minor := w.sys.minor, ord := w.mb.acc }] } } := by
  have same : ({ w with trace.seen := w.trace.seen + 1 } : State).checks (w.traceCount k).2 = none :=
    (checks_same w k w.mb w.perf _ w.sys.pwr w.bus _ _ rfl).trans checks
  unfold State.accept
  rw [show w.traceCount k = ({ w with trace.seen := w.trace.seen + 1 }, (w.traceCount k).2) from rfl]
  dsimp only
  rw [same]
  dsimp only
  obtain ⟨f, counts, counted⟩ := count_frame { w with
    trace.seen := w.trace.seen + 1, mb := { w.mb with
      tags := k.tag :: w.mb.tags, acc := w.mb.acc + 1,
      lanes := w.mb.lanes ++ [{ (w.traceCount k).2 with minor := w.sys.minor, ord := w.mb.acc }] } } 35 0x02 1
  exact ⟨f, counted, counts⟩

theorem leaveDoze_eq (s : State) :
    s.leaveDoze = { s with sys.pwr := if s.sys.pwr = .doze then .run else s.sys.pwr } := by
  obtain ⟨⟨w⟩⟩ := s
  cases w <;> rfl

/-- The host's way of a packet into an empty mailbox. -/
theorem submit_handed_counted {s : State} {k : Packet} (up : s.hostUp = true) (inbox : s.mb.inbox = []) : ∃ f n, Counted s.perf f ∧
    s.submit k = State.drain { s with
      mb := { s.mb with inbox := [{ k with sts := s.sys.sts }] }, perf := f,
      sys := { s.sys with pwr := awake s.sys.pwr }, bus := busAt s s.ca n } := by
  generalize hn : min 1032 (8 + k.payload.length) = n
  have sent : s.submit k = ((s.hostAck s.ca false).ackBytes n).handOver k := by
    unfold State.submit
    rw [up, inbox, hn, if_neg (by decide), if_neg (by simp)]
  obtain ⟨f, acked⟩ := ack_eq s s.ca n
  have first : Counted s.perf f := by
    rw [show f = ((s.hostAck s.ca false).ackBytes n).perf by rw [acked], State.ackBytes]
    refine Counted.trans ?_ (count_counted _ 34 0x06 n)
    rw [State.hostAck, State.wakeUp]
    split <;> exact .refl _
  rw [sent, State.handOver, leaveDoze_eq, acked]
  obtain ⟨g, counts, counted⟩ := count_frame (s := { s with
    mb.inbox := s.mb.inbox ++ [{ k with sts := s.sys.sts }], perf := f, bus := busAt s s.ca n,
    sys.pwr := if (if s.sys.pwr = .sleep then Pwr.doze else s.sys.pwr) = .doze then .run
      else if s.sys.pwr = .sleep then .doze else s.sys.pwr }) 34 0x02 1
  refine ⟨g, n, first.trans counted, congrArg State.drain (counts.trans ?_)⟩
  rw [awake_eq, inbox]
  rfl

/-- A mailbox with one packet: it is accepted, run and answered. -/
theorem drain_one {w : State} {q : Packet} (seen : w.sys.interpSeen = true) (serve : w.canServe = true) (late : w.mb.late = [])
    (inbox : w.mb.inbox = [q]) (lanes : w.mb.lanes = []) (alive : q.dead = false) (fresh : q.stale = false)
    (checks : w.checks q = none) : ∃ f u j, Counted w.perf f ∧
      j = { (w.traceCount q).2 with minor := w.sys.minor, ord := w.mb.acc } ∧
      u = { w with
        perf := f, trace.seen := w.trace.seen + 1, mb := { w.mb with
          inbox := [], tags := q.tag :: w.mb.tags, acc := w.mb.acc + 1 } } ∧
      w.drain = (let v := (u.runBody j).1.answer j (u.runBody j).2
        if j.opcode == 0x89 && v.fw.marked then v.interpReset else v) := by
  obtain ⟨f, counted, accepted⟩ := accept_noted (w := { w with mb.inbox := [] }) (k := q)
    ((checks_same w q _ w.perf w.trace w.sys.pwr w.bus q.traced q.idx rfl).trans checks)
  rw [State.drain, if_pos seen]
  dsimp only
  rw [stale_none inbox fresh, late_none late, acceptAll_one inbox serve, accepted]
  refine ⟨f, _, { (w.traceCount q).2 with minor := w.sys.minor, ord := w.mb.acc }, counted, rfl, rfl, ?_⟩
  refine (runLanes_one (j := { (w.traceCount q).2 with minor := w.sys.minor, ord := w.mb.acc }) (by rw [lanes]; rfl)
    (by exact serve) alive).trans ?_
  rw [← lanes]

/-- A served command but FW_COMMIT is its body, and then its answer; until then the counters have only counted, and the trace has
counted the packet. -/
theorem submit_noted {s : State} {h : CmdHdr} {op : Byte} {pl : List Byte} (serves : Serves s (cmdPacket h op pl))
    (ho : (op == 0x89) = false) :
    ∃ v, Begun s (cmdPacket h op pl) (withHost s v) (begunPacket s (cmdPacket h op pl)) ∧ Counted s.perf v.perf ∧
      v.trace = { s.trace with seen := s.trace.seen + 1 } ∧
      s.submit (cmdPacket h op pl) =
        ((withHost s v).runBody (begunPacket s (cmdPacket h op pl))).1.answer (begunPacket s (cmdPacket h op pl))
          ((withHost s v).runBody (begunPacket s (cmdPacket h op pl))).2 := by
  obtain ⟨up, interp, seen, mhz, inbox, lanes, held, late, room, checks⟩ := serves
  obtain ⟨f, n, counted, sent⟩ := submit_handed_counted (k := cmdPacket h op pl) up inbox
  obtain ⟨g, u, j, counted', rfl, rfl, drained⟩ := drain_one (w := { s with
      mb := { s.mb with inbox := [{ cmdPacket h op pl with sts := s.sys.sts }] }, perf := f,
      sys := { s.sys with pwr := awake s.sys.pwr }, bus := busAt s s.ca n }) (q := { cmdPacket h op pl with sts := s.sys.sts })
    seen (canServe_of interp mhz held late room) late rfl lanes rfl rfl
    ((checks_sts _ _ _).trans ((checks_same s (cmdPacket h op pl) { s.mb with inbox := [{ cmdPacket h op pl with sts := s.sys.sts }] } f s.trace
        (awake s.sys.pwr) (busAt s s.ca n) false 0 rfl).trans checks))
  refine ⟨⟨{ s.mb with tags := (cmdPacket h op pl).tag :: s.mb.tags, acc := s.mb.acc + 1 }, g,
    { s.trace with seen := s.trace.seen + 1 }, s.free, awake s.sys.pwr, true, [], n, s.ca.zeroExtend 8 ||| 0⟩,
    ⟨rfl, rfl, rfl, rfl⟩, counted.trans counted', rfl, ?_⟩
  rw [sent, drained]
  dsimp only
  rw [if_neg]
  · rw [← inbox]
    rfl
  · rw [show (_ : Packet).opcode = op from rfl, ho]
    exact Bool.false_ne_true

/-- The clause of a command that is answered with a final status, with the counters and the trace told. -/
theorem yields_noted {s : State} {c : Instr} {h : CmdHdr} {op : Byte} {pl : List Byte} {P : State → Prop} {st : Byte}
    {r : List Byte} (serves : Serves s (cmdPacket h op pl)) (run : exec c s = .next (s.submit (cmdPacket h op pl)))
    (ho : (op == 0x89) = false) (hl : r.length ≤ 1024)
    (body : ∀ v, Begun s (cmdPacket h op pl) (withHost s v) (begunPacket s (cmdPacket h op pl)) → Counted s.perf v.perf → v.trace = { s.trace with seen := s.trace.seen + 1 } →
      ∃ x y, (withHost s v).runBody (begunPacket s (cmdPacket h op pl)) = (withHost x y, .final st r) ∧ y.mb = v.mb ∧
        x.sys.interp = s.sys.interp ∧ ∀ w, Counted y.perf w.perf → Recorded y.trace w.trace → P (withHost x w)) :
    Yields c s fun t => Answered s (cmdPacket h op pl) st r t ∧ P t := by
  obtain ⟨v, begun, counted, traced, sent⟩ := submit_noted serves ho
  obtain ⟨x, y, ran, mb, interp, shows⟩ := body v begun counted traced
  obtain ⟨w, answered, counted', recorded⟩ := answer_final_noted (withHost x y) (begunPacket s (cmdPacket h op pl)) st r
  refine ⟨_, run, ?_, ?_⟩ <;> rw [sent, ran]
  · exact answered_of_begun serves begun interp mb hl
  · dsimp only
    rw [answered]
    exact shows w counted' recorded

/-! ## The bodies of the counter and trace commands (R474 to R477) -/

/-- The counters after a PERF_CFG (R474). -/
theorem cfg_sets {f : Perf} {b n : Nat} {e v m : Byte} (hb : b < 38) (hn : n < 4) :
    ((f.cfg [byteOf b 0, byteOf n 0, e, v, m]).ctrs[4 * b + n]?).map ctrSettings = some (e, v.getLsbD 0, v.getLsbD 1) ∧
      (f.cfg [byteOf b 0, byteOf n 0, e, v, m]).perm[b]? = some m := by
  have block : (byteOf b 0).toNat = b := by simp [byteOf]; omega
  have counter : (byteOf n 0).toNat = n := by simp [byteOf]; omega
  constructor
  · simp only [Perf.cfg, nth, List.getD_cons_zero, List.getD_cons_succ, block, counter]
    rw [Vector.getElem?_eq_getElem (by omega)]
    simp [ctrSettings]
  · simp only [Perf.cfg, nth, List.getD_cons_zero, List.getD_cons_succ, block]
    rw [Vector.getElem?_eq_getElem hb]
    simp

/-- PERF_CFG of a counter and an event that exist, with no snapshot being gathered. -/
theorem cmdPerfCfg_set {s : State} {k : Packet} {b n : Nat} {e v m : Byte} (hk : k.payload = [byteOf b 0, byteOf n 0, e, v, m])
    (hb : b < 38) (hn : n < 4) (event : e.toNat ≤ lastEvent b) (low : n % 2 = 1 → v.getLsbD 1 = false)
    (still : s.perf.gather = false) :
    s.cmdPerfCfg k = ({ s.saveEntry 0x80 (4 * b + n) [byteOf b 0, byteOf n 0, e, v, m] with
      perf := s.perf.cfg [byteOf b 0, byteOf n 0, e, v, m] }, ok) := by
  have block : (byteOf b 0).toNat = b := by simp [byteOf]; omega
  have counter : (byteOf n 0).toNat = n := by simp [byteOf]; omega
  have named : ¬(decide (37 < b) || decide (3 < n)) = true := by simp; omega
  have valid : ¬(decide (lastEvent b < e.toNat) || (n % 2 == 1 && v.getLsbD 1)) = true := by
    simp only [Bool.or_eq_true, decide_eq_true_eq, Bool.and_eq_true, beq_iff_eq, not_or, not_and]
    exact ⟨by omega, fun odd => by rw [low odd]; exact Bool.false_ne_true⟩
  rw [State.cmdPerfCfg, hk]
  simp only [nth, List.getD_cons_zero, List.getD_cons_succ, block, counter]
  rw [if_neg named, if_neg (by simp), if_neg valid, if_neg (by show ¬s.perf.gather = true; rw [still]; decide)]
  rfl

/-- A freeze at this moment, with no snapshot being gathered (R587). -/
theorem perfStop_starts {s : State} (still : s.perf.gather = false) :
    s.perfStop = { s with perf.frozen := true, perf.gather := true, perf.taken := s.perf.live, perf.takenSts := s.sys.sts } := by
  rw [State.perfStop]
  dsimp only
  rw [still]
  rfl

/-- PERF_FREEZE that arms a trigger. -/
theorem cmdPerfFreeze_arm {s : State} {k : Packet} {e : Byte} (hk : k.payload = [1, e]) (src : evsrcOk e = true) :
    s.cmdPerfFreeze k = ({ s with perf.trig := some (e, false) }, ok) := by
  have armed : (e != 0) = true := by
    refine bne_iff_ne.mpr fun zero => ?_
    rw [zero] at src
    exact absurd src (by decide)
  rw [State.cmdPerfFreeze, hk]
  simp only [nth, List.getD_cons_zero, List.getD_cons_succ, src, armed]
  rfl

/-- TRACE_CFG with no TRACE_READ running and no packet in a lane. -/
theorem cmdTraceCfg_set {s : State} {k : Packet} {a b : Byte} (hk : k.payload = [a, b, 0]) (idle : s.trace.reading = 0)
    (lanes : s.mb.lanes = []) :
    s.cmdTraceCfg k = ({ s.saveEntry 0x82 0xFF [a, b, 0] with
      trace.n := BitVec.ofNat 16 (leVal [a, b]), trace.base := k.idx, trace.pend := none }, ok) := by
  rw [State.cmdTraceCfg, hk]
  dsimp only
  have keeps : (nth [a, b, 0] 2).getLsbD 0 = false := by simp [nth]
  rw [if_neg (by simp [State.saveEntry, idle])]
  simp only [State.traceTake, State.saveEntry, Trace.takeCfg, keeps, Bool.false_eq_true, if_false, lanes, List.map_nil]
  rw [← lanes]
  rfl

/-! ## TRACE_READ (R477, R597) -/

theorem traceRec_bytes_length (r : TraceRec) : r.bytes.length = 16 := by simp [TraceRec.bytes]

/-- The records of one part. -/
theorem trace_part_length {n : Nat} (hn : n ≤ 64) (l : List TraceRec) : ((l.take n).flatMap TraceRec.bytes).length ≤ 1024 := by
  have records : (l.take n).length ≤ 64 := (List.length_take_le n l).trans hn
  simp only [List.length_flatMap, traceRec_bytes_length, List.map_const', List.sum_replicate, smul_eq_mul]
  omega

/-- TRACE_READ of at most 64 records from the oldest. -/
theorem cmdTraceRead_part {s : State} {k : Packet} {n : Nat} (hk : k.payload = [0, byteOf n 0, byteOf n 1]) (low : 1 ≤ n)
    (high : n ≤ 64) :
    s.cmdTraceRead k = ({ s with trace.reading := s.trace.reading + 1 },
      .parts 0 [(s.trace.ring.take n).flatMap TraceRec.bytes]) := by
  have count : field k.payload 1 2 = n := by
    rw [hk]
    simp [field, leVal, byteOf, Nat.shiftRight_eq_div_pow]
    omega
  have named : ¬(n == 0 || decide (256 < n)) = true := by simp; omega
  have first : (nth k.payload 0).toNat = 0 := by rw [hk]; rfl
  rw [State.cmdTraceRead]
  simp only [count, first]
  rw [if_neg named, List.drop_zero, cut_short (trace_part_length high _)]

/-- A TRACE_READ ends: with no TRACE_CFG waiting it leaves the mailbox, and one fewer runs. -/
theorem traceEnd_none {s : State} (pend : s.trace.pend = none) :
    ∃ x, s.traceEnd = { s with trace := x } ∧ x.reading = s.trace.reading - 1 := by
  unfold State.traceEnd
  split
  · exact ⟨_, rfl, rfl⟩
  · rename_i last
    have kept := foldl_push_recorded s.trace.side { s.trace with reading := 0, side := [] }
    dsimp only
    split
    next waits => exact absurd (waits.symm.trans pend) (by simp)
    next => exact ⟨_, rfl, (congrArg Trace.reading kept).trans (by dsimp only; omega)⟩

/-- The one part of a TRACE_READ is its end. -/
theorem answer_read {s : State} {k : Packet} {st : Byte} {r : List Byte} (op : k.opcode = 0x83) (caught : s.caughtUp = true)
    (held : s.mb.held = []) (room : s.mb.room 1024 = true) (short : r.length ≤ 1024) (pend : s.trace.pend = none) :
    ∃ w, s.answer k (.parts st [r]) = withHost s w ∧
      w.mb = { s.mb with replies := s.mb.replies ++ [k.reply st r false false true] } ∧
      w.trace.reading = s.trace.reading - 1 := by
  obtain ⟨m, f, emitted, -⟩ := emit_frame s (k.reply st r false false true)
  have mb := emit_mb (r := k.reply st r false false true) caught held (room_le room short)
  rw [emitted] at mb
  obtain ⟨x, ended, reading⟩ := traceEnd_none (s := { s with mb := m, perf := f }) pend
  obtain ⟨y, n, traced, recorded⟩ := traceReply_frame { s with mb := m, perf := f, trace := x } k st
  have done : (s.emit (k.reply st r false false true)).partsOver k = { s with mb := m, perf := f, trace := x } := by
    refine (if_pos (by rw [op]; rfl)).trans ?_
    rw [emitted]
    exact ended
  refine ⟨⟨m, f, y, n, s.sys.pwr, s.bus.acked, s.bus.out, s.bus.acks, s.bus.lastAddr⟩, ?_, mb, ?_⟩
  · rw [State.answer, State.emitPart, done]
    exact traced
  · exact (congrArg Trace.reading recorded).trans reading

/-- Settles O49. -/
theorem countersTracePartsAndSnapshots : Obligations.CountersTracePartsAndSnapshots := by
  unfold Obligations.CountersTracePartsAndSnapshots
  refine ⟨?_, ?_, ?_, ?_, ?_, ?_, ?_, ?_, ?_, ?_, ?_, ?_⟩
  · intro s c g q b n e f m serves hb hn event low still
    refine yields_noted serves rfl rfl (Nat.zero_le _) fun v begun counted traced =>
      ⟨s.saveEntry 0x80 (4 * b + n) [byteOf b 0, byteOf n 0, e, f, m],
        { v with perf := v.perf.cfg [byteOf b 0, byteOf n 0, e, f, m] },
        cmdPerfCfg_set (s := withHost s v) (k := begunPacket s _) rfl hb hn event low
          ((congrArg Perf.gather counted.rest).trans still), rfl, rfl, fun w after _ => ?_⟩
    obtain ⟨counter, perm⟩ := cfg_sets (f := v.perf) (e := e) (v := f) (m := m) hb hn
    exact ⟨(after.settings _).trans counter, (congrArg (·.perm[b]?) after.rest).trans perm, rfl, rfl⟩
  · intro s c g q serves still
    refine yields_noted serves rfl rfl (Nat.zero_le _) fun v begun counted traced =>
      ⟨s, { v with perf := { v.perf with
          trig := none, frozen := true, gather := true, taken := v.perf.live, takenSts := s.sys.sts } }, ?_, rfl, rfl, fun w after _ => ?_⟩
    · have stops := perfStop_starts (s := { withHost s v with perf.trig := none })
        ((congrArg Perf.gather counted.rest).trans still)
      exact congrArg (·, ok) stops
    · exact ⟨congrArg Perf.frozen after.rest, congrArg Perf.gather after.rest, congrArg Perf.takenSts after.rest,
        congrArg Perf.trig after.rest, host_withHost s w⟩
  · intro s c g q serves
    refine yields_noted serves rfl rfl (Nat.zero_le _) fun v begun counted traced =>
      ⟨s, { v with perf := { v.perf with trig := none, frozen := false } }, rfl, rfl, rfl, fun w after _ => ?_⟩
    have kept : v.perf.snap = s.perf.snap := by rw [counted.rest]
    exact ⟨congrArg Perf.frozen after.rest, congrArg Perf.trig after.rest, (congrArg Perf.snap after.rest).trans kept,
      host_withHost s w⟩
  · intro s c g q e serves src
    refine yields_noted serves rfl rfl (Nat.zero_le _) fun v begun counted traced =>
      ⟨s, { v with perf := { v.perf with trig := some (e, false) } },
        cmdPerfFreeze_arm (s := withHost s v) (k := begunPacket s _) rfl src, rfl, rfl, fun w after _ => ?_⟩
    have kept : v.perf.frozen = s.perf.frozen := by rw [counted.rest]
    exact ⟨congrArg Perf.trig after.rest, (congrArg Perf.frozen after.rest).trans kept, host_withHost s w⟩
  · intro s e trig tin still
    refine ⟨_, rfl, ?_⟩
    have fired : s.perfTrigger isTin = ({ s with perf.trig := none } : State).perfStop := by
      rw [State.perfTrigger, trig]
      dsimp only
      rw [tin]
      rfl
    rw [fired, perfStop_starts (s := { s with perf.trig := none }) still]
    exact ⟨rfl, rfl, rfl, rfl, rfl⟩
  · intro s e trig other
    refine ⟨_, rfl, ?_⟩
    rw [State.perfTrigger, trig]
    dsimp only
    rw [other]
    rfl
  · intro s gather again pend
    refine ⟨_, rfl, ?_⟩
    rw [State.snapDone]
    dsimp only
    rw [if_pos gather, pend, again]
    exact ⟨rfl, rfl, rfl, rfl, rfl, rfl, rfl⟩
  · intro s gather again pend
    refine ⟨_, rfl, ?_⟩
    rw [State.snapDone]
    dsimp only
    rw [if_pos gather, pend, again]
    exact ⟨rfl, rfl, rfl, rfl, rfl⟩
  · intro s v live ctr
    have at_i : s.perf.ctrs[140] = ⟨7, true, false, v⟩ := by
      rw [Vector.getElem?_eq_getElem (by decide)] at ctr
      exact Option.some.inj ctr
    refine ⟨_, exec_perfCounterWrap_clock live ctr, ?_⟩
    rw [add_to_wrap (by decide) at_i rfl]
    exact ⟨by simp, rfl, rfl⟩
  · intro s c g q a b serves idle
    refine yields_noted serves rfl rfl (Nat.zero_le _) fun v begun counted traced =>
      ⟨s.saveEntry 0x82 0xFF [a, b, 0], { v with trace := { v.trace with
          n := BitVec.ofNat 16 (leVal [a, b]), base := (begunPacket s (cmdPacket ⟨c, g, 0xFF, q⟩ 0x82 [a, b, 0])).idx, pend := none } },
        cmdTraceCfg_set (s := withHost s v) (k := begunPacket s (cmdPacket ⟨c, g, 0xFF, q⟩ 0x82 [a, b, 0])) rfl
          ((congrArg Trace.reading traced).trans idle) ?_, rfl, rfl, fun w _ recorded => ?_⟩
    · obtain ⟨-, -, -, -, -, lanes, -⟩ := serves
      exact (congrArg Mailbox.lanes begun.mb).trans lanes
    · exact ⟨congrArg Trace.n recorded, rfl, rfl⟩
  · intro s c g q n serves low high pend
    obtain ⟨v, begun, counted, traced, sent⟩ := submit_noted serves rfl
    generalize hj : begunPacket s (cmdPacket ⟨c, g, 0xFF, q⟩ 0x83 [0, byteOf n 0, byteOf n 1]) = j at begun sent
    have op : j.opcode = 0x83 := by rw [← hj]; rfl
    have ran : (withHost s v).runBody j = (withHost s { v with trace.reading := v.trace.reading + 1 },
        .parts 0 [(s.trace.ring.take n).flatMap TraceRec.bytes]) := by
      have body := cmdTraceRead_part (s := withHost s v) (k := j) (by rw [← hj]; rfl) low high
      rw [← show v.trace.ring = s.trace.ring by rw [traced]]
      rw [← hj] at body ⊢
      exact body
    have begunMb : v.mb = _ := begun.mb
    have caught := begun_caughtUp serves (hj ▸ begun)
    have reads : v.trace.reading = s.trace.reading := by rw [traced]
    obtain ⟨-, -, -, -, -, -, held, -, room, -⟩ := serves
    obtain ⟨w, answered, mb, reading⟩ := answer_read (s := withHost s { v with trace.reading := v.trace.reading + 1 }) (k := j)
      (st := 0) (r := (s.trace.ring.take n).flatMap TraceRec.bytes) op caught
      (by rw [withHost, begunMb]; exact held) (by rw [withHost, begunMb]; exact room)
      (trace_part_length high _) ((congrArg Trace.pend traced).trans pend)
    refine ⟨_, rfl, ?_⟩
    rw [show _ = _ from sent, ran]
    dsimp only
    rw [answered]
    refine ⟨?_, reading.trans (by rw [withHost]; dsimp only; omega), host_withHost s w⟩
    rw [Answered, show (withHost _ w).mb = w.mb from rfl, mb, withHost, begunMb, ← hj]
    rfl
  · intro s k st b serve caught held room parts short op
    have next : s.nextPart k.tag = { s with mb.parts := [] }.emit (k.reply st b false false true) := by
      have alone : ([(k, st, [b])].filter fun (y : Packet × Byte × List (List Byte)) => y.1.tag != k.tag) = [] := by simp
      rw [State.nextPart, parts]
      simp only [List.find?_cons, beq_self_eq_true, op, alone]
      exact if_neg (by rw [op]; decide)
    obtain ⟨m, f, emitted, -⟩ := emit_frame { s with mb.parts := [] } (k.reply st b false false true)
    refine ⟨_, congrArg Host.Outcome.next (if_pos serve), ?_⟩
    rw [next]
    exact ⟨emit_mb (s := { s with mb.parts := [] }) caught held (room_le room short), by rw [emitted]⟩

end Sys2Proof.Proofs
end

section
/-!
SUPPORT. What the OTP controller's next command, a record of the alarm, the zeroization and a line of Lantern leave alone, and the
detections, the nonce's expiry and KEYGEN; with them O34 is settled.
-/
namespace Sys2Proof.Proofs

open Sys2Proof.Machine Sys2Proof.Safety Sys2Proof.Laws

/-! ## The controller goes on -/

/-- Nothing but the host's side, the command that has the controller, those that wait for it and the waiting KEYGEN's place
differs. -/
def TurnOnly (s t : State) : Prop :=
  HostOnly { s with fuse.run := t.fuse.run, fuse.queue := t.fuse.queue, lantern.keygen := t.lantern.keygen } t

theorem TurnOnly.trans {s t u : State} (h : TurnOnly s t) (k : TurnOnly t u) : TurnOnly s u := by
  unfold TurnOnly HostOnly at *
  rw [k, h]

theorem fuseNext_turnOnly : ∀ (n : Nat) (s : State), TurnOnly s (State.fuseNext n s) := by
  intro n
  induction n with
  | zero => exact fun s => rfl
  | succ n ih =>
    intro s
    unfold State.fuseNext
    split
    · rfl
    · split
      · rfl
      · split
        · rfl
        · rename_i k r _ _
          dsimp only
          split
          · rfl
          · refine TurnOnly.trans ?_ (ih _)
            obtain ⟨v, e⟩ := hostOnly_iff.mp (host_complete
              { s with fuse.queue := r, lantern.keygen := s.lantern.keygen.map fun x => (x.1, x.2 - 1) } k
              (State.fuseCheck { s with fuse.queue := r, lantern.keygen := s.lantern.keygen.map fun x => (x.1, x.2 - 1) } k) [])
            rw [e]
            rfl

theorem fuseGo_frame (s : State) : ∃ run queue k v,
    s.fuseGo = withHost { s with fuse.run := run, fuse.queue := queue, lantern.keygen := k } v := by
  obtain ⟨v, e⟩ := hostOnly_iff.mp (fuseNext_turnOnly (s.fuse.queue.length + 1) s)
  exact ⟨_, _, _, v, e⟩

/-- The controller that is taken goes on with nothing. -/
theorem fuseGo_busy {s : State} (busy : s.fuseBusy = true) : s.fuseGo = s := by
  rw [State.fuseGo, State.fuseNext, busy]
  rfl

/-! ## Zeroization (Table 16.4) -/

/-- The Vault with every byte 0. -/
def zeroVault (v : Vault) : Vault :=
  { v with
    priv := none, pub := [], slots := Vector.replicate 8 KeySlot.reset, nonce := none, rng := List.replicate 64 0, zeroized := true }

/-- What the lock of Lantern by an alarm changes. -/
theorem lanternHalt_frame (s : State) : ∃ m run queue w, m.unlocked = false ∧
    s.lanternHalt = withHost { s with lantern := m, fuse.run := run, fuse.queue := queue } w := by
  obtain ⟨run, queue, k, v, locked⟩ := fuseGo_frame { s with
    lantern := { s.lantern with unlocked := false, watch := false, keygen := none, wait := [] } }
  refine ⟨s.lanternHalt.lantern, run, queue, v, ?_, ?_⟩ <;> rw [State.lanternHalt, State.lanternLock, locked] <;> rfl

/-- What zeroization changes. -/
theorem zeroize_frame (s : State) : ∃ m run queue w, m.unlocked = false ∧
    s.zeroize = withHost { s with
      vault := zeroVault s.vault, lantern := m, fuse.run := run, fuse.queue := queue } w := by
  obtain ⟨m, run, queue, w, locked, halts⟩ := lanternHalt_frame { s with vault := zeroVault s.vault }
  obtain ⟨f, counts, -⟩ := count_frame (withHost { s with
    vault := zeroVault s.vault, lantern := m, fuse.run := run, fuse.queue := queue } w) 37 0x07 1
  refine ⟨m, run, queue, { w with perf := f }, locked, ?_⟩
  rw [show s.zeroize = State.count (State.lanternHalt { s with vault := zeroVault s.vault }) 37 0x07 1 from rfl, halts]
  exact counts

/-- With the controller taken, zeroization leaves it. -/
theorem zeroize_busy {s : State} (busy : s.fuseBusy = true) : ∃ m f, m.unlocked = false ∧
    s.zeroize = { s with vault := zeroVault s.vault, lantern := m, perf := f } := by
  have halts : State.lanternHalt { s with vault := zeroVault s.vault } = { s with
      vault := zeroVault s.vault, lantern := (State.lanternHalt { s with vault := zeroVault s.vault }).lantern } := by
    rw [State.lanternHalt, State.lanternLock, fuseGo_busy (by exact busy)]
  have locked : (State.lanternHalt { s with vault := zeroVault s.vault }).lantern.unlocked = false := by
    rw [State.lanternHalt, State.lanternLock, fuseGo_busy (by exact busy)]
    rfl
  generalize (State.lanternHalt { s with vault := zeroVault s.vault }).lantern = m at halts locked
  obtain ⟨f, counts, -⟩ := count_frame { s with vault := zeroVault s.vault, lantern := m } 37 0x07 1
  refine ⟨m, f, locked, ?_⟩
  rw [show s.zeroize = State.count (State.lanternHalt { s with vault := zeroVault s.vault }) 37 0x07 1 from rfl, halts]
  exact counts

/-! ## A detection (R540, R541) -/

/-- The record of a source that fires, posted or dropped by a device that runs. -/
theorem almRecord_frame {s : State} (run : s.sys.pwr = .run) (up : s.sys.resetLow = false) (i : Nat) : ∃ b f,
    ((s.almEvt i).almRecord i).count 37 0x06 1 =
      { s with alarm.evt := setBit s.alarm.evt i, sbox := b, perf := f } ∧
      (s.sbox.queue.length < 32 → b.queue.length = s.sbox.queue.length + 1) := by
  have core : (s.almEvt i).coreDown = false := by rw [State.coreDown, State.almEvt_sys, run, up]; rfl
  have awake : s.sys.pwr ≠ .doze := by rw [run]; decide
  rw [count_eq, State.almRecord, core]
  dsimp only
  rw [if_neg Bool.false_ne_true, State.postRec]
  split
  · rw [leaveDoze_eq, if_neg (by exact awake)]
    exact ⟨_, _, rfl, fun _ => by simp⟩
  · next full => exact ⟨_, _, rfl, fun room => absurd room full⟩

/-- The mesh is detected, and was absent before. -/
theorem exec_alarmDetection_mesh {s : State} (on : s.aonOn = true) (run : s.sys.pwr = .run)
    (absent : s.alarm.present.getLsbD 4 = false) :
    exec (.alarmDetection 16) s = .next (State.alarmFire { s with alarm := s.alarm.seen 16 } [4]) := by
  have fires : ((List.range 5).filter fun i => (16 : BitVec 7).getLsbD i && !s.alarm.present.getLsbD i) = [4] := by
    simpa [List.range_succ] using absent
  have awake : State.wakeUp { s with alarm := s.alarm.seen 16 } = { s with alarm := s.alarm.seen 16 } :=
    if_neg (by rw [run]; decide)
  show execAlarmDetection 16 s = _
  rw [execAlarmDetection, State.when, if_pos on]
  dsimp only
  rw [fires, awake]
  rfl

/-- A source that still holds does not fire again. -/
theorem exec_alarmDetection_held {s : State} (on : s.aonOn = true) (held : s.alarm.present.getLsbD 4 = true) :
    exec (.alarmDetection 16) s = .next { s with alarm := s.alarm.seen 16 } := by
  have none_fires : ((List.range 5).filter fun i => (16 : BitVec 7).getLsbD i && !s.alarm.present.getLsbD i) = [] := by
    simpa [List.range_succ] using held
  show execAlarmDetection 16 s = _
  rw [execAlarmDetection, State.when, if_pos on]
  dsimp only
  rw [none_fires]
  rfl

/-- One source fires: its record, and its action. -/
theorem alarmFire_one (s : State) (i : Nat) : s.alarmFire [i] =
    (let t := ((s.almEvt i).almRecord i).count 37 0x06 1
     let act := (t.almCfg i).action.toNat
     if act = 0 then t else if act = 1 then t.zeroize else ({ t with alarm.killPend := true } : State).zeroize.fuseKilled) := by
  rw [State.alarmFire]
  simp

section
variable {s : State} (run : s.sys.pwr = .run) (up : s.sys.resetLow = false) {i : Nat}
include run up

/-- A source whose action is LOG. -/
theorem alarmFire_log (action : (s.almCfg i).action = 0) : ∃ b f,
    s.alarmFire [i] = { s with alarm.evt := setBit s.alarm.evt i, sbox := b, perf := f } ∧
      (s.sbox.queue.length < 32 → b.queue.length = s.sbox.queue.length + 1) := by
  obtain ⟨b, f, fired, queued⟩ := almRecord_frame run up i
  refine ⟨b, f, ?_, queued⟩
  rw [alarmFire_one, fired]
  exact if_pos (congrArg BitVec.toNat action)

/-- A source whose action is ALARM. -/
theorem alarmFire_alarm (action : (s.almCfg i).action = 1) : ∃ b m r q w,
    s.alarmFire [i] = withHost { s with
      alarm.evt := setBit s.alarm.evt i, sbox := b, vault := zeroVault s.vault, lantern := m, fuse.run := r, fuse.queue := q } w ∧
      m.unlocked = false ∧ (s.sbox.queue.length < 32 → b.queue.length = s.sbox.queue.length + 1) := by
  obtain ⟨b, f, fired, queued⟩ := almRecord_frame run up i
  obtain ⟨m, r, q, w, locked, zeroed⟩ := zeroize_frame { s with
    alarm.evt := setBit s.alarm.evt i, sbox := b, perf := f }
  refine ⟨b, m, r, q, w, ?_, locked, queued⟩
  have one : (s.almCfg i).action.toNat = 1 := congrArg BitVec.toNat action
  rw [alarmFire_one, fired]
  exact (if_neg (one ▸ Nat.one_ne_zero)).trans ((if_pos one).trans zeroed)

/-- A source whose action is KILL, with no fuse command running. -/
theorem alarmFire_kill (action : (s.almCfg i).action = 2) (idle : s.fuse.run = none) : ∃ b m f,
    s.alarmFire [i] = { s with
      alarm.evt := setBit s.alarm.evt i, alarm.killPend := true, sbox := b, vault := zeroVault s.vault, lantern := m, perf := f } ∧
      m.unlocked = false := by
  obtain ⟨b, f, fired, -⟩ := almRecord_frame run up i
  obtain ⟨m, g, locked, zeroed⟩ := zeroize_busy (s := { s with
    alarm.evt := setBit s.alarm.evt i, alarm.killPend := true, sbox := b, perf := f }) (Bool.or_true _)
  refine ⟨b, m, g, ?_, locked⟩
  have two : (s.almCfg i).action.toNat = 2 := congrArg BitVec.toNat action
  have some_act : ¬(s.almCfg i).action.toNat = 0 := by rw [two]; decide
  have not_alarm : ¬(s.almCfg i).action.toNat = 1 := by rw [two]; decide
  rw [alarmFire_one, fired]
  refine (if_neg some_act).trans ((if_neg not_alarm).trans ?_)
  refine (congrArg State.fuseKilled zeroed).trans ?_
  rw [State.fuseKilled]
  dsimp only
  rw [idle]

end

/-! ## A line of Lantern (R600, R602) -/

/-- Lantern's pin is driven while the device runs. -/
theorem outsOn_run {s : State} (run : s.sys.pwr = .run) (up : s.sys.resetLow = false) : s.outsOn = true := by
  rw [State.outsOn, run, up]
  rfl

/-- What Lantern says enters its buffer. -/
theorem say_run {s : State} (run : s.sys.pwr = .run) (up : s.sys.resetLow = false) (l : List String) (e : String) :
    s.say l e = { s with lantern := s.lantern.send (l ++ [e]) } :=
  if_pos (outsOn_run run up)

/-- RESET_N is high while memory is on. -/
theorem resetHigh_of_memOn {s : State} (mem : s.memOn = true) : s.sys.resetLow = false := by
  simp only [State.memOn, State.coreOn, Bool.and_eq_true, Bool.not_eq_true'] at mem
  obtain ⟨⟨⟨-, high⟩, -⟩, -⟩ := mem
  exact high

section
variable {s : State} (enabled : s.lanternen = true) (mem : s.memOn = true) (run : s.sys.pwr = .run)
  (unlocked : s.lantern.unlocked = true) (interp : s.sys.interp = true) (watch : s.lantern.watch = false)
include enabled mem run unlocked interp watch

/-- A line that comes to an unlocked Lantern whose interpreter is there is a command that has its turn. -/
theorem lanternLine_turn (i : LanternCmd) (long : Bool) : s.lanternLine i long = s.quiet.lanternTurn i := by
  have woken : s.quiet.leaveDoze = s.quiet := if_neg (by rw [State.quiet, run]; decide)
  have untold : s.quiet.watchNote = s.quiet := if_neg (by rw [State.watching, State.quiet, watch]; exact Bool.false_ne_true)
  rw [State.lanternLine, enabled, mem, unlocked, interp, woken, untold]
  rfl

/-- With nothing waiting and an empty buffer the command is done at once. -/
theorem lanternLine_done (keygen : s.lantern.keygen = none) (wait : s.lantern.wait = []) (fill : s.lantern.fill = 0)
    (i : LanternCmd) (long : Bool) : s.lanternLine i long = s.quiet.lanternDo i := by
  have fits : s.quiet.fits (s.quiet.lanternDo i) = true := by
    rw [State.fits, State.quiet, fill]
    rfl
  rw [lanternLine_turn enabled mem run unlocked interp watch, State.lanternTurn]
  refine if_pos ?_
  rw [fits, State.quiet, keygen, wait]
  rfl

end

/-! ## KEYGEN (R535, R536) -/

/-- Programming leaves the command that has the controller. -/
theorem foldl_programmed_run (l : List (Nat × Word)) (f : Fuse) : (l.foldl programmed f).run = f.run := by
  induction l generalizing f with
  | nil => rfl
  | cons x l ih => exact ih (programmed f x)

/-- A KEYGEN that the fuses refuse says so. -/
theorem keygen_refused {s : State} (run : s.sys.pwr = .run) (up : s.sys.resetLow = false) (idle : s.fuseBusy = false)
    (refused : s.keygenRefused = true) (fail : Bool) :
    s.keygen fail = { s with lantern := s.lantern.send ["E REFUSED"] } := by
  rw [State.keygen, idle, State.keygenRun, refused]
  exact say_run run up _ _

/-- A KEYGEN whose bits all verify prints the public key and OK. -/
theorem keygen_made {s : State} (run : s.sys.pwr = .run) (up : s.sys.resetLow = false) (idle : s.fuseBusy = false)
    (refused : s.keygenRefused = false) : ∃ work v x y,
    s.keygen false = { withHost { s.stirred with fuse := List.foldl programmed s.fuse work } v with
      lantern := s.lantern.send [x, y, "OK"] } := by
  rw [State.keygen, idle, State.keygenRun, refused]
  dsimp only
  generalize (List.range 10).map (fun i => (physOf s.stirred.fuse.mapped (0x081 + i), _)) = work
  obtain ⟨v, -, pwr, made⟩ := progList_good work s.stirred
  rw [if_neg Bool.false_ne_true, if_neg Bool.false_ne_true, if_neg Bool.false_ne_true, made,
    say_run (by exact pwr.trans run) (by exact up)]
  exact ⟨work, v, _, _, rfl⟩

/-- Settles O34. -/
theorem alarmsActAndKeysAreMade : Obligations.AlarmsActAndKeysAreMade := by
  unfold Obligations.AlarmsActAndKeysAreMade
  refine ⟨?_, ?_, ?_, ?_, ?_, ?_, ?_⟩
  · intro s on run up absent action room
    obtain ⟨b, f, fired, queued⟩ := alarmFire_log (s := { s with alarm := s.alarm.seen 16 }) run up action
    refine ⟨_, exec_alarmDetection_mesh on run absent, ?_⟩
    rw [fired]
    refine ⟨rfl, ?_, queued room, rfl, rfl, rfl⟩
    show (s.alarm.present ||| (16 &&& 0x1F)).getLsbD 4 = true
    simp
  · intro s on run up absent action room
    obtain ⟨b, m, r, q, w, fired, locked, queued⟩ := alarmFire_alarm (s := { s with alarm := s.alarm.seen 16 }) run up action
    refine ⟨_, exec_alarmDetection_mesh on run absent, ?_⟩
    rw [fired]
    exact ⟨rfl, rfl, queued room, rfl, rfl, rfl, rfl, locked, rfl⟩
  · intro s on run up absent action idle
    obtain ⟨b, m, f, fired, locked⟩ := alarmFire_kill (s := { s with alarm := s.alarm.seen 16 }) run up action idle
    refine ⟨_, exec_alarmDetection_mesh on run absent, ?_⟩
    rw [fired]
    exact ⟨rfl, rfl, rfl, rfl, locked, rfl⟩
  · intro s on run up held
    exact ⟨_, exec_alarmDetection_held on held, rfl⟩
  · intro s on run up
    exact ⟨_, rfl, rfl⟩
  · intro s on run up enabled mem unlocked watch keygen wait fill interp idle refused
    refine ⟨_, congrArg Host.Outcome.next (lanternLine_done enabled mem run unlocked interp watch keygen wait fill _ _), ?_⟩
    rw [State.lanternDo, keygen_refused (s := s.quiet) run up idle refused]
    exact ⟨rfl, rfl⟩
  · intro s on run up enabled mem unlocked watch keygen wait fill interp idle refused
    refine ⟨_, congrArg Host.Outcome.next (lanternLine_done enabled mem run unlocked interp watch keygen wait fill _ _), ?_⟩
    obtain ⟨work, v, x, y, made⟩ := keygen_made (s := s.quiet) run up idle refused
    obtain ⟨none_runs, -⟩ := (Bool.or_eq_false_iff.mp idle)
    rw [State.lanternDo, made]
    refine ⟨rfl, rfl, rfl, (foldl_programmed_rest work s.fuse).2, ?_, rfl⟩
    have kept : (List.foldl programmed s.fuse work).run = s.fuse.run := foldl_programmed_run work s.fuse
    exact kept.trans (Option.not_isSome_iff_eq_none.mp (Bool.eq_false_iff.mp none_runs))

end Sys2Proof.Proofs
end

section
/-!
SUPPORT. What Lantern says, command by command, unlocked and locked; with it O40 is settled.
-/
namespace Sys2Proof.Proofs

open Sys2Proof.Machine Sys2Proof.Safety Sys2Proof.Laws

/-! ## A command that is done at once -/

/-- An unlocked Lantern whose interpreter is there, with nothing to do before the next line. -/
structure LanternReady (s : State) : Prop where
  enabled : s.lanternen = true
  mem : s.memOn = true
  run : s.sys.pwr = .run
  interp : s.sys.interp = true
  unlocked : s.lantern.unlocked = true
  watch : s.lantern.watch = false
  keygen : s.lantern.keygen = none
  wait : s.lantern.wait = []
  fill : s.lantern.fill = 0

/-- A row of Lantern does its command. -/
theorem exec_does {s : State} (ready : LanternReady s) {c : Instr} {i : LanternCmd} {long : Bool}
    (row : exec c s = .next (s.lanternLine i long)) : exec c s = .next (s.quiet.lanternDo i) := by
  obtain ⟨enabled, mem, run, interp, unlocked, watch, keygen, wait, fill⟩ := ready
  rw [row, lanternLine_done enabled mem run unlocked interp watch keygen wait fill]

/-- A row of Lantern whose command takes the state to `x` and says its lines. -/
theorem exec_says {s x : State} (ready : LanternReady s) {c : Instr} {i : LanternCmd} {long : Bool}
    (row : exec c s = .next (s.lanternLine i long)) {l : List String} {e : String}
    (does : s.quiet.lanternDo i = x.say l e) (sys : x.sys = s.sys) :
    exec c s = .next { x with lantern := x.lantern.send (l ++ [e]) } := by
  rw [exec_does ready row, does, say_run (by rw [sys]; exact ready.run) (by rw [sys]; exact resetHigh_of_memOn ready.mem)]

/-! ## The records that SBOX prints -/

theorem firstFrom_mem {q : Word} {l : List (List Byte)} {r : List Byte} (first : firstFrom q l = some r) : r ∈ l := by
  have kept : ∀ (l : List (List Byte)) (best : Option (List Byte)) (P : List Byte → Prop), (∀ x ∈ l, P x) →
      (∀ x ∈ best, P x) → ∀ x ∈ l.foldl (fun best r =>
        if seqLe q (recSeq r) then
          (match best with
           | some x => if seqLe (recSeq r) (recSeq x) then some r else best
           | none => some r)
        else best) best, P x := by
    intro l
    induction l with
    | nil => exact fun best P _ hb => hb
    | cons y l ih =>
      intro best P hl hb
      refine ih _ P (fun x hx => hl x (List.mem_cons_of_mem y hx)) fun x hx => ?_
      have head : P y := hl y List.mem_cons_self
      dsimp only at hx
      split at hx
      · split at hx
        · split at hx
          · exact Option.mem_some.mp hx ▸ head
          · exact hb x hx
        · exact Option.mem_some.mp hx ▸ head
      · exact hb x hx
  exact kept l none (· ∈ l) (fun _ h => h) (fun x hx => absurd hx (Option.not_mem_none x)) r first

/-- Records by sequence are at most as many as were asked for. -/
theorem bySeq_length {l : List (List Byte)} (slots : ∀ r ∈ l, r.length = 64) (newest : Word) :
    ∀ (n : Nat) (q : Word), (bySeq newest l n q).1.length ≤ 64 * n := by
  intro n
  induction n with
  | zero => exact fun q => Nat.le_refl 0
  | succ n ih =>
    intro q
    unfold bySeq
    split
    next r first =>
      have size := slots r (firstFrom_mem first)
      split
      · exact Nat.zero_le _
      · split
        · dsimp only
          omega
        · have rest := ih (seqNext (recSeq r))
          dsimp only
          rw [List.length_append]
          omega
    next => exact Nat.zero_le _

theorem records_length (b : Sbox) : ∀ r ∈ b.records, r.length = 64 := by
  intro r hr
  rw [Sbox.records, List.mem_filter, List.mem_map] at hr
  obtain ⟨⟨i, -, rfl⟩, -⟩ := hr
  simp [Sbox.slot, Mem.readBytes]

/-! ## The commands -/

section
variable {s : State}

theorem lanternDo_sbox {q n : Nat} (low : 1 ≤ n) (high : n ≤ 64) : ∃ l, s.lanternDo (.sbox q n) = s.say l "OK" ∧ l.length ≤ n := by
  have named : ¬(n == 0 || decide (64 < n)) = true := by simp; omega
  have size := bySeq_length (records_length s.sbox) s.sbox.newest n (BitVec.ofNat 32 q)
  refine ⟨_, if_neg named, ?_⟩
  rw [List.length_map, List.length_range]
  omega

theorem lanternDo_trace {a n : Nat} (low : 1 ≤ n) (high : n ≤ 256) : ∃ l, s.lanternDo (.trace a n) = s.say l "OK" ∧ l.length ≤ n := by
  have named : ¬(n == 0 || decide (256 < n)) = true := by simp; omega
  refine ⟨_, if_neg named, ?_⟩
  rw [List.length_map]
  exact List.length_take_le n _

theorem lanternDo_fuse {r : Nat} (region : r ≤ 4) (unlocked : s.rlocked r = false) :
    ∃ l, s.lanternDo (.fuse r) = s.say l "OK" ∧ l.length = regLock r + 1 - regBase r := by
  refine ⟨_, (if_neg (Nat.not_lt.mpr region)).trans (if_neg (by rw [unlocked]; exact Bool.false_ne_true)), ?_⟩
  simp

theorem lanternDo_port {p : PortId} (enabled : s.porten p = true) : s.lanternDo (.port p.val) =
    s.say [groups "P" [(2, p.val), (8, (s.port p).tc.status.toNat), (8, (s.port p).pdStatus.toNat), (8, (s.swStatus p).toNat),
      (4, (s.convStat p).toNat), (4, (s.port p).pd.terms.v), (4, (s.port p).pd.terms.i)]] "OK" :=
  (dif_pos p.isLt).trans (if_pos enabled)

theorem lanternDo_chain {o : Nat} {b : List Byte} (some_bytes : b ≠ []) (short : b.length ≤ 48) (within : o + b.length ≤ 4096) :
    s.lanternDo (.chain o b) = State.say { s with
      lantern.stage := s.lantern.stage.writeBytes o b, lantern.staged := max s.lantern.staged (o + b.length) } [] "OK" := by
  refine (if_neg ?_).trans (if_neg (Nat.not_lt.mpr within))
  rw [List.isEmpty_eq_false_iff.mpr some_bytes, Bool.false_or, decide_eq_true_eq]
  exact Nat.not_lt.mpr short

theorem lanternDo_chainEnd {n : Nat} (within : n ≤ 4096) (staged : n ≤ s.lantern.staged) : s.lanternDo (.chainEnd n) =
    State.say { s with lantern.chain := s.lantern.stage.readBytes 0 n } [] "OK" := by
  refine if_neg ?_
  rw [Bool.or_eq_true, decide_eq_true_eq, decide_eq_true_eq]
  omega

/-- LOCK with no fuse command waiting. -/
theorem lanternDo_lock (queue : s.fuse.queue = []) : s.lanternDo .lock = State.say { s with
    lantern.unlocked := false, lantern.watch := false, lantern.keygen := none, lantern.wait := [] } [] "OK" := by
  have locked : s.lanternLock = { s with
      lantern.unlocked := false, lantern.watch := false, lantern.keygen := none, lantern.wait := [] } :=
    fuseGo_idle queue
  rw [State.lanternDo, locked]

end

/-- The last of the lines said ends the command. -/
theorem out_says {s : State} (l : List String) (e : String) :
    (s.quiet.lantern.send (l ++ [e])).out.getLast? = some e ∧ (s.quiet.lantern.send (l ++ [e])).out.length = l.length + 1 := by
  simp [Lantern.send, State.quiet]

/-- A line that comes while Lantern is locked. -/
theorem exec_lockedLine {s : State} (enabled : s.lanternen = true) (mem : s.memOn = true) (locked : s.lantern.unlocked = false)
    (line : List Byte) : exec (.lanternLockedLine line) s = .next (s.lockedLine (lineChars line).isEmpty) := by
  show execLanternLockedLine line s = _
  rw [execLanternLockedLine, enabled, mem, locked]
  rfl

/-- Settles O40. -/
theorem lanternAnswersItsLines : Obligations.LanternAnswersItsLines := by
  unfold Obligations.LanternAnswersItsLines
  refine ⟨?_, ?_, ?_, ?_, ?_, ?_, ?_, ?_, ?_, ?_, ?_, ?_, ?_, ?_, ?_, ?_, ?_, ?_, ?_, ?_⟩
  · intro s enabled mem run interp unlocked watch keygen wait fill
    exact ⟨_, exec_says ⟨enabled, mem, run, interp, unlocked, watch, keygen, wait, fill⟩ rfl
      (show s.quiet.lanternDo .ver = State.say s.quiet _ "OK" from rfl) rfl, rfl, rfl⟩
  · intro s r enabled mem run interp unlocked watch keygen wait fill rate
    refine ⟨_, exec_does ⟨enabled, mem, run, interp, unlocked, watch, keygen, wait, fill⟩ rfl, ?_⟩
    have listed : s.quiet.lanternDo (.baud r) = { s.quiet with
        lantern := { s.quiet.lantern.send ["OK"] with bauds := s.lantern.bauds ++ [(r, (s.lantern.send ["OK"]).fill)] } } := by
      refine (if_pos (List.contains_iff_mem.mpr rate)).trans ?_
      rw [say_run (by exact run) (by exact resetHigh_of_memOn mem)]
      rfl
    rw [listed]
    exact ⟨rfl, rfl⟩
  · intro s enabled mem run interp unlocked watch keygen wait fill
    exact ⟨_, exec_says ⟨enabled, mem, run, interp, unlocked, watch, keygen, wait, fill⟩ rfl
      (show s.quiet.lanternDo (.baud 9600) = s.quiet.say [] "E RANGE" from rfl) rfl, rfl, rfl⟩
  · intro s p enabled mem run interp unlocked watch keygen wait fill porten
    exact ⟨_, exec_says ⟨enabled, mem, run, interp, unlocked, watch, keygen, wait, fill⟩ rfl
      (lanternDo_port (s := s.quiet) porten) rfl, rfl, rfl⟩
  · intro s enabled mem run interp unlocked watch keygen wait fill
    exact ⟨_, exec_says ⟨enabled, mem, run, interp, unlocked, watch, keygen, wait, fill⟩ rfl
      (show s.quiet.lanternDo .ledger = State.say s.quiet _ "OK" from rfl) rfl, rfl, rfl⟩
  · intro s enabled mem run interp unlocked watch keygen wait fill ring
    exact ⟨_, exec_says ⟨enabled, mem, run, interp, unlocked, watch, keygen, wait, fill⟩ rfl
      (show s.quiet.lanternDo .ring = s.quiet.say [groups "R" [(8, s.rgStat), (8, s.rgTime)]] "OK" from if_pos ring) rfl, rfl, rfl⟩
  · intro s b enabled mem run interp unlocked watch keygen wait fill block
    exact ⟨_, exec_says ⟨enabled, mem, run, interp, unlocked, watch, keygen, wait, fill⟩ rfl
      (show s.quiet.lanternDo (.perf b) = s.quiet.say _ "OK" from if_neg (Nat.not_lt.mpr block)) rfl, rfl, rfl⟩
  · intro s q n enabled mem run interp unlocked watch keygen wait fill low high
    obtain ⟨l, does, size⟩ := lanternDo_sbox (s := s.quiet) (q := q) low high
    obtain ⟨last, length⟩ := out_says (s := s) l "OK"
    exact ⟨_, exec_says ⟨enabled, mem, run, interp, unlocked, watch, keygen, wait, fill⟩ rfl does rfl, last, by
      rw [length]; omega, rfl⟩
  · intro s r enabled mem run interp unlocked watch keygen wait fill region readable
    obtain ⟨l, does, size⟩ := lanternDo_fuse (s := s.quiet) region readable
    obtain ⟨last, length⟩ := out_says (s := s) l "OK"
    refine ⟨_, exec_says ⟨enabled, mem, run, interp, unlocked, watch, keygen, wait, fill⟩ rfl does rfl, last, ?_, rfl⟩
    have bounds : regBase r ≤ regLock r := by
      interval_cases r <;> decide
    rw [length, size]
    omega
  · intro s r enabled mem run interp unlocked watch keygen wait fill region locked
    exact ⟨_, exec_says ⟨enabled, mem, run, interp, unlocked, watch, keygen, wait, fill⟩ rfl
      (show s.quiet.lanternDo (.fuse r) = s.quiet.say [] "E LOCKED" from
        (if_neg (Nat.not_lt.mpr region)).trans (if_pos locked)) rfl, rfl, rfl⟩
  · intro s a n enabled mem run interp unlocked watch keygen wait fill low high
    obtain ⟨l, does, size⟩ := lanternDo_trace (s := s.quiet) (a := a) low high
    obtain ⟨last, length⟩ := out_says (s := s) l "OK"
    exact ⟨_, exec_says ⟨enabled, mem, run, interp, unlocked, watch, keygen, wait, fill⟩ rfl does rfl, last, by
      rw [length]; omega, rfl⟩
  · intro s b enabled mem run interp unlocked watch keygen wait fill
    exact ⟨_, exec_says ⟨enabled, mem, run, interp, unlocked, watch, keygen, wait, fill⟩ rfl
      (show s.quiet.lanternDo (.watch b) = State.say { s.quiet with lantern.watch := b, lantern.seen := BitVec.ofNat 128 s.digest } _ "OK" from rfl) rfl, rfl, rfl⟩
  · intro s enabled mem run interp unlocked watch keygen wait fill queue
    exact ⟨_, exec_says ⟨enabled, mem, run, interp, unlocked, watch, keygen, wait, fill⟩ rfl
      (lanternDo_lock (s := s.quiet) queue) rfl, rfl, rfl⟩
  · intro s x enabled mem run interp unlocked watch wait keygen
    refine ⟨_, congrArg Host.Outcome.next (lanternLine_turn enabled mem run unlocked interp watch _ _), ?_⟩
    have behind : ¬(s.quiet.lantern.keygen.isNone && s.quiet.lantern.wait.isEmpty && s.quiet.fits (s.quiet.lanternDo .ver)) = true := by
      rw [State.quiet, keygen]
      exact Bool.false_ne_true
    refine (if_neg behind).trans ?_
    rw [State.quiet, wait]
    rfl
  · intro s enabled mem run unlocked away
    refine ⟨_, rfl, ?_⟩
    rw [State.lanternLine, enabled, mem, unlocked, away]
    exact say_run (s := s.quiet) run (resetHigh_of_memOn mem) _ _
  · intro s o b enabled mem run interp unlocked watch keygen wait fill some_bytes short within wf
    refine ⟨_, exec_says ⟨enabled, mem, run, interp, unlocked, watch, keygen, wait, fill⟩ rfl
      (lanternDo_chain (s := s.quiet) some_bytes short within) rfl, rfl, fun a outside => ?_, rfl⟩
    exact Mem.read_writeBytes_out _ _ wf outside
  · intro s n enabled mem run interp unlocked watch keygen wait fill within staged
    exact ⟨_, exec_says ⟨enabled, mem, run, interp, unlocked, watch, keygen, wait, fill⟩ rfl
      (lanternDo_chainEnd (s := s.quiet) within staged) rfl, rfl, rfl⟩
  · intro s b enabled mem run interp unlocked watch keygen wait fill
    have row : exec (.lanternBadLine b) s = .next (s.lanternLine (.bad b) (128 < (lineChars b).length)) := by
      show execLanternBadLine b s = _
      rw [execLanternBadLine, unlocked, Bool.not_true, Bool.and_false]
      rfl
    exact ⟨_, exec_says ⟨enabled, mem, run, interp, unlocked, watch, keygen, wait, fill⟩ row
      (show s.quiet.lanternDo (.bad b) = s.quiet.say [] _ from rfl) rfl, rfl, rfl⟩
  · intro s enabled mem run locked
    refine ⟨_, exec_lockedLine enabled mem locked _, ?_⟩
    rw [show s.lockedLine (lineChars [0x0A]).isEmpty = _ from if_pos (outsOn_run (s := s.quiet) run (resetHigh_of_memOn mem))]
    exact ⟨rfl, rfl⟩
  · intro s enabled mem run locked action room
    obtain ⟨b, f, fired, queued⟩ := alarmFire_log (s := s.quiet) run (resetHigh_of_memOn mem) action
    refine ⟨_, exec_lockedLine enabled mem locked _, ?_⟩
    rw [show s.lockedLine (lineChars [0x41]).isEmpty = _ from fired]
    exact ⟨rfl, rfl, queued room, rfl, rfl⟩

end Sys2Proof.Proofs
end

section
/-!
SUPPORT. What a timer's event does to the timer and to those clocked from it, the counter clocks that match, reload and capture, and
the samples of a comparator; with them O39 is settled.
-/
namespace Sys2Proof.Proofs

open Sys2Proof.Machine Sys2Proof.Safety Sys2Proof.Laws

/-! ## What an event of a timer reaches -/

/-- A timer that source ticks may have come to: its settings, its run and its flags stay, and it changes only where an event clocks
it. -/
structure Ticked (x y : Tmr) : Prop where
  mode : y.mode = x.mode
  reload : y.reload = x.reload
  run : y.run = x.run
  flag : y.flag = x.flag
  clkSrc : y.clkSrc = x.clkSrc
  still : evsrcTmr x.clkSrc = none → y = x

theorem Ticked.refl (x : Tmr) : Ticked x x := ⟨rfl, rfl, rfl, rfl, rfl, fun _ => rfl⟩

theorem Ticked.trans {x y z : Tmr} (a : Ticked x y) (b : Ticked y z) : Ticked x z :=
  ⟨b.mode.trans a.mode, b.reload.trans a.reload, b.run.trans a.run, b.flag.trans a.flag, b.clkSrc.trans a.clkSrc,
    fun h => (b.still (a.clkSrc.symm ▸ h)).trans (a.still h)⟩

/-- A change of timer `k`, and what its events bring to the others. -/
structure TmrStep (k : TmrId) (s t : State) : Prop where
  rest : t = { s with tmrs := t.tmrs, perf := t.perf, sys.pwr := t.sys.pwr }
  others : ∀ j, j ≠ k → Ticked (s.tmr j) (t.tmr j)

theorem TmrStep.refl (k : TmrId) (s : State) : TmrStep k s s := ⟨rfl, fun j _ => .refl (s.tmr j)⟩

theorem TmrStep.trans {k : TmrId} {s t u : State} (a : TmrStep k s t) (b : TmrStep k t u) : TmrStep k s u :=
  ⟨by rw [b.rest, a.rest], fun j h => (a.others j h).trans (b.others j h)⟩

theorem tmrStep_modTmr (s : State) (k : TmrId) (f : Tmr → Tmr) : TmrStep k s (s.modTmr k f) :=
  ⟨rfl, fun j h => by rw [tmr_modTmr_ne s k j f h]; exact .refl _⟩

theorem tmrFlag_eq (s : State) (k : TmrId) (i : Nat) : ∃ f w,
    s.tmrFlag k i = { s.modTmr k fun t => { t with flag := setBit t.flag i } with perf := f, sys.pwr := w } := by
  rw [State.tmrFlag, leaveDoze_eq, count_eq]
  exact ⟨_, _, rfl⟩

theorem tmrStep_tmrFlag (s : State) (k : TmrId) (i : Nat) : TmrStep k s (s.tmrFlag k i) := by
  obtain ⟨f, w, flagged⟩ := tmrFlag_eq s k i
  have sets := tmrStep_modTmr s k fun t => { t with flag := setBit t.flag i }
  rw [flagged]
  exact ⟨rfl, sets.others⟩

@[simp] theorem tmr_tmrFlag (s : State) (k : TmrId) (i : Nat) :
    (s.tmrFlag k i).tmr k = { s.tmr k with flag := setBit (s.tmr k).flag i } := by
  obtain ⟨f, w, flagged⟩ := tmrFlag_eq s k i
  rw [flagged]
  exact tmr_modTmr_self s k fun t => { t with flag := setBit t.flag i }

/-! ## An event (R486, R587) -/

theorem sourceTicks_ticked (x : Tmr) (o : Bool) (n : Nat) (event : evsrcTmr x.clkSrc ≠ none) : Ticked x (x.sourceTicks o n) := by
  unfold Tmr.sourceTicks
  split
  · dsimp only
    generalize (if o = true then _ else _ : Int) = due
    split
    · exact ⟨rfl, rfl, rfl, rfl, rfl, fun h => absurd h event⟩
    · exact ⟨rfl, rfl, rfl, rfl, rfl, fun h => absurd h event⟩
  · exact .refl x

theorem perfTrigger_frame (s : State) (fits : Byte → Bool) : ∃ f, s.perfTrigger fits = { s with perf := f } := by
  unfold State.perfTrigger
  split
  · split
    · dsimp only
      split
      · exact ⟨_, rfl⟩
      · unfold State.perfStop
        dsimp only
        split <;> exact ⟨_, rfl⟩
    · exact ⟨s.perf, rfl⟩
  · exact ⟨s.perf, rfl⟩

/-- What a timer's event does to a timer: a source tick where it is clocked from that event. -/
def eventTick (s : State) (k : TmrId) (e : Nat) (x : Tmr) : Tmr :=
  if x.smode != 3 && x.clkSrc == evsrcOf k e then x.sourceTicks (s.counts x) 1 else x

theorem tmrEvent_frame (s : State) (k : TmrId) (e : Nat) :
    ∃ f, s.tmrEvent k e = { s with tmrs := s.tmrs.map (eventTick s k e), perf := f } :=
  perfTrigger_frame _ _

theorem tmr_tmrEvent (s : State) (k j : TmrId) (e : Nat) : (s.tmrEvent k e).tmr j = eventTick s k e (s.tmr j) := by
  obtain ⟨f, event⟩ := tmrEvent_frame s k e
  rw [event]
  simp [State.tmr, Vector.get_eq_getElem]

theorem evsrcTmr_evsrcOf (k : TmrId) (e : Fin 3) : evsrcTmr (evsrcOf k (e.val + 1)) ≠ none := by
  revert k e
  decide

/-- A timer whose clock is one of the device's own is not clocked from an event. -/
theorem evsrcOf_high (k : TmrId) (e : Fin 3) : 8 ≤ (evsrcOf k (e.val + 1)).toNat := by
  revert k e
  decide

theorem tmrStep_tmrEvent (s : State) (k : TmrId) (e : Fin 3) : TmrStep k s (s.tmrEvent k (e.val + 1)) := by
  constructor
  · obtain ⟨f, event⟩ := tmrEvent_frame s k (e.val + 1)
    rw [event]
  · intro j _
    rw [tmr_tmrEvent, eventTick]
    split
    next clocked =>
      simp only [Bool.and_eq_true, beq_iff_eq] at clocked
      obtain ⟨-, source⟩ := clocked
      exact sourceTicks_ticked _ _ _ (source ▸ evsrcTmr_evsrcOf k e)
    next => exact .refl _

theorem tmr_tmrEvent_own {s : State} {k j : TmrId} (e : Fin 3) (own : (s.tmr j).clkSrc.toNat < 8) :
    (s.tmrEvent k (e.val + 1)).tmr j = s.tmr j := by
  rw [tmr_tmrEvent, eventTick]
  refine if_neg fun clocked => ?_
  simp only [Bool.and_eq_true, beq_iff_eq] at clocked
  obtain ⟨-, source⟩ := clocked
  have high := evsrcOf_high k e
  rw [← source] at high
  omega

/-! ## A match, a counter clock, the reload tick (R487, R492) -/

/-- A timer after the match of one of its compare registers. -/
def matched (isB : Bool) (x : Tmr) : Tmr :=
  if isB then { x with flag := setBit x.flag 2 }
  else { x with toutLvl := if x.mode = 1 || x.mode = 4 then !x.toutLvl else false, flag := setBit x.flag 1 }

theorem tmrStep_cmpMatch (s : State) (k : TmrId) (isB : Bool) : TmrStep k s (s.cmpMatch k isB) := by
  cases isB with
  | true => exact (tmrStep_tmrFlag s k 2).trans (tmrStep_tmrEvent _ k 2)
  | false =>
    exact (tmrStep_modTmr s k _).trans ((tmrStep_tmrFlag _ k 1).trans (tmrStep_tmrEvent _ k 1))

theorem tmr_cmpMatch {s : State} {k : TmrId} (own : (s.tmr k).clkSrc.toNat < 8) (isB : Bool) :
    (s.cmpMatch k isB).tmr k = matched isB (s.tmr k) := by
  cases isB with
  | true =>
    refine (tmr_tmrEvent_own 2 ?_).trans (tmr_tmrFlag s k 2)
    rw [tmr_tmrFlag]
    exact own
  | false =>
    refine (tmr_tmrEvent_own 1 ?_).trans ?_ <;> rw [tmr_tmrFlag, tmr_modTmr_self]
    · exact own
    · rfl

/-- A timer's counter clock, before what matches on it. -/
def clocked (x : Tmr) : Tmr :=
  { x with
    count := x.count + 1, owed := x.owed - 1, cmpa := x.nextA, cmpb := x.nextB, wrA := none, wrB := none,
    toutLvl := if x.mode = 3 then decide (x.count + 1 < x.nextA) else x.toutLvl }

/-- The late-match flags of a counter clock. -/
def lateFlags (x : Tmr) (y : Tmr) : Tmr :=
  { y with flag := y.flag ||| (if x.lateA then setBit 0 4 else 0) ||| (if x.lateB then setBit 0 5 else 0) }

/-- Whether a register matches on the next counter clock. -/
def matchesA (x : Tmr) : Bool := x.nextA = x.count + 1 || x.lateA
def matchesB (x : Tmr) : Bool := x.nextB = x.count + 1 || x.lateB

theorem matchesA_unwritten {x : Tmr} (wrA : x.wrA = none) : matchesA x = decide (x.cmpa = x.count + 1) := by
  simp [matchesA, Tmr.nextA, Tmr.lateA, wrA]

theorem matchesB_unwritten {x : Tmr} (wrB : x.wrB = none) : matchesB x = decide (x.cmpb = x.count + 1) := by
  simp [matchesB, Tmr.nextB, Tmr.lateB, wrB]

/-- A register matches where a condition holds. -/
def matchIf (s : State) (k : TmrId) (isB p : Bool) : State := if p then s.cmpMatch k isB else s

theorem matchIf_false (s : State) (k : TmrId) (isB : Bool) : matchIf s k isB false = s := rfl

theorem tmrStep_matchIf (s : State) (k : TmrId) (isB p : Bool) : TmrStep k s (matchIf s k isB p) := by
  cases p with
  | true => exact tmrStep_cmpMatch s k isB
  | false => exact .refl k s

theorem tmr_matchIf {s : State} {k : TmrId} (own : (s.tmr k).clkSrc.toNat < 8) (isB p : Bool) :
    (matchIf s k isB p).tmr k = if p then matched isB (s.tmr k) else s.tmr k := by
  cases p with
  | true => exact tmr_cmpMatch own isB
  | false => rfl

theorem matched_clkSrc (isB : Bool) (x : Tmr) : (matched isB x).clkSrc = x.clkSrc := by
  cases isB <;> rfl

theorem tmrClock_eq (s : State) (k : TmrId) : s.tmrClock k =
    (matchIf (matchIf (s.modTmr k clocked) k false (matchesA (s.tmr k))) k true (matchesB (s.tmr k))).modTmr k
      (lateFlags (s.tmr k)) := by
  rw [State.tmrClock, matchIf, matchIf, matchesA, matchesB]
  simp only [Bool.or_eq_true, decide_eq_true_eq]
  rfl

theorem tmrStep_tmrClock (s : State) (k : TmrId) : TmrStep k s (s.tmrClock k) := by
  rw [tmrClock_eq]
  exact (tmrStep_modTmr s k clocked).trans ((tmrStep_matchIf _ k false _).trans
    ((tmrStep_matchIf _ k true _).trans (tmrStep_modTmr _ k _)))

/-- A timer of the device's own clock after its counter clock. -/
theorem tmr_tmrClock {s : State} {k : TmrId} (own : (s.tmr k).clkSrc.toNat < 8) : (s.tmrClock k).tmr k =
    (let a := clocked (s.tmr k)
     let b := if matchesA (s.tmr k) then matched false a else a
     lateFlags (s.tmr k) (if matchesB (s.tmr k) then matched true b else b)) := by
  have first : ((s.modTmr k clocked).tmr k).clkSrc.toNat < 8 := by rw [tmr_modTmr_self]; exact own
  have second : ((matchIf (s.modTmr k clocked) k false (matchesA (s.tmr k))).tmr k).clkSrc.toNat < 8 := by
    rw [tmr_matchIf first, tmr_modTmr_self]
    split
    · rw [matched_clkSrc]
      exact own
    · exact own
  rw [tmrClock_eq, tmr_modTmr_self, tmr_matchIf second, tmr_matchIf first, tmr_modTmr_self]

/-- A timer at its reload tick, before what matches on it. -/
def reloaded (x : Tmr) : Tmr :=
  let t := { x.takePend with count := 0, owed := x.owed - 1, cmpa := x.nextA, cmpb := x.nextB, wrA := none, wrB := none }
  if t.mode = 2 then { t with run := false, toutLvl := false, owed := 0 } else { t with toutLvl := t.startLevel }

theorem reload_eq (s : State) (k : TmrId) : s.reload k =
    (let a := ((s.modTmr k reloaded).tmrFlag k 0).tmrEvent k 1
     let b := matchIf a k false (decide ((a.tmr k).cmpa = 0))
     matchIf b k true (decide ((b.tmr k).cmpb = 0))) := by
  rw [State.reload]
  simp only [matchIf, decide_eq_true_eq]
  rfl

theorem tmrStep_reload (s : State) (k : TmrId) : TmrStep k s (s.reload k) := by
  rw [reload_eq]
  exact (tmrStep_modTmr s k reloaded).trans ((tmrStep_tmrFlag _ k 0).trans ((tmrStep_tmrEvent _ k 0).trans
    ((tmrStep_matchIf _ k false _).trans (tmrStep_matchIf _ k true _))))

theorem takePend_clkSrc (x : Tmr) : x.takePend.clkSrc = x.clkSrc := by unfold Tmr.takePend; split <;> rfl

theorem reloaded_clkSrc (x : Tmr) : (reloaded x).clkSrc = x.clkSrc := by
  unfold reloaded
  dsimp only
  split <;> exact takePend_clkSrc x

/-- What the settings that awaited the reload tick leave of a timer. -/
theorem takePend_rest (x : Tmr) : x.takePend.mode = x.mode ∧ x.takePend.run = x.run ∧ x.takePend.flag = x.flag ∧
    x.takePend.cmpa = x.cmpa ∧ x.takePend.cmpb = x.cmpb ∧ x.takePend.wrA = x.wrA ∧ x.takePend.wrB = x.wrB := by
  unfold Tmr.takePend
  split <;> exact ⟨rfl, rfl, rfl, rfl, rfl, rfl, rfl⟩

theorem reloaded_rest (x : Tmr) : (reloaded x).count = 0 ∧ (reloaded x).flag = x.flag ∧ (reloaded x).cmpa = x.nextA ∧
    (reloaded x).cmpb = x.nextB := by
  obtain ⟨-, -, flag, -⟩ := takePend_rest x
  unfold reloaded
  dsimp only
  split <;> exact ⟨rfl, flag, rfl, rfl⟩

theorem reloaded_oneShot {x : Tmr} (mode : x.mode = 2) : (reloaded x).run = false ∧ (reloaded x).toutLvl = false := by
  obtain ⟨mode', -⟩ := takePend_rest x
  rw [reloaded]
  dsimp only
  rw [if_pos (mode'.trans mode)]
  exact ⟨rfl, rfl⟩

theorem reloaded_runs {x : Tmr} (mode : x.mode ≠ 2) : (reloaded x).run = x.run := by
  obtain ⟨mode', run, -⟩ := takePend_rest x
  rw [reloaded]
  dsimp only
  rw [if_neg (by rw [mode']; exact mode)]
  exact run

/-- A timer of the device's own clock after its reload tick, with no compare value of 0. -/
theorem tmr_reload {s : State} {k : TmrId} (own : (s.tmr k).clkSrc.toNat < 8) (a : (reloaded (s.tmr k)).cmpa ≠ 0)
    (b : (reloaded (s.tmr k)).cmpb ≠ 0) :
    (s.reload k).tmr k = { reloaded (s.tmr k) with flag := setBit (reloaded (s.tmr k)).flag 0 } := by
  have flagged : (((s.modTmr k reloaded).tmrFlag k 0).tmrEvent k 1).tmr k =
      { reloaded (s.tmr k) with flag := setBit (reloaded (s.tmr k)).flag 0 } := by
    refine (tmr_tmrEvent_own 0 ?_).trans ?_ <;> rw [tmr_tmrFlag, tmr_modTmr_self]
    show (reloaded (s.tmr k)).clkSrc.toNat < 8
    rw [reloaded_clkSrc]
    exact own
  rw [reload_eq]
  dsimp only
  have unmatchedA : decide (((((s.modTmr k reloaded).tmrFlag k 0).tmrEvent k 1).tmr k).cmpa = 0) = false := by
    rw [flagged]
    exact decide_eq_false a
  rw [unmatchedA, matchIf_false]
  have unmatchedB : decide (((((s.modTmr k reloaded).tmrFlag k 0).tmrEvent k 1).tmr k).cmpb = 0) = false := by
    rw [flagged]
    exact decide_eq_false b
  rw [unmatchedB, matchIf_false, flagged]

/-! ## The rows -/

section
variable {s : State} {k : TmrId}

theorem exec_reloadTick (run : (s.tmr k).run = true) (counts : s.counts (s.tmr k) = true)
    (top : (s.tmr k).count = (s.tmr k).reload) : exec (.reloadTick k) s = .next (s.reload k) := by
  refine congrArg Host.Outcome.next (if_pos ?_)
  rw [State.clocks, run, counts, top]
  simp

theorem exec_compareMatch {isB : Bool} (run : (s.tmr k).run = true) (counts : s.counts (s.tmr k) = true)
    (below : (s.tmr k).count ≠ (s.tmr k).reload) (due : (if isB then matchesB (s.tmr k) else matchesA (s.tmr k)) = true) :
    exec (.compareMatch k isB) s = .next (s.tmrClock k) := by
  refine congrArg Host.Outcome.next (if_pos ?_)
  rw [State.clocks, run, counts, bne_iff_ne.mpr below]
  cases isB <;> simpa [matchesA, matchesB, or_comm] using due

/-- A timer that captures a count: CMPA goes to CMPB, and a capture not yet read sets overcapture. -/
def captured (c : Word) (x : Tmr) : Tmr :=
  { x with
    cmpb := x.cmpa, cmpa := c, flag := if x.flag.getLsbD 3 then setBit (setBit x.flag 3) 6 else setBit x.flag 3 }

/-- A capture's registers, and its overcapture. -/
def capMove (c : Word) (x : Tmr) : Tmr := { x with cmpb := x.cmpa, cmpa := c }
def overcapture (x : Tmr) : Tmr := { x with flag := setBit x.flag 6 }

/-- A capture: the counter clock, and then the register. -/
def captureStep (s : State) (k : TmrId) (c : Word) : State :=
  (((s.tmrClock k).modTmr k (capMove c)).tmrFlag k 3).when (((s.tmrClock k).tmr k).flag.getLsbD 3) fun s =>
    s.modTmr k overcapture

theorem exec_capture {r : Bool} {c : Word} (run : (s.tmr k).run = true) (counts : s.counts (s.tmr k) = true)
    (below : (s.tmr k).count ≠ (s.tmr k).reload) (mode : (s.tmr k).mode = 4) (edge : (s.tmr k).capEdge = if r then 0 else 1)
    (at_c : c = (s.tmr k).count + 1) :
    exec (.capture ⟨k, (s.tmr k).capPin, r⟩ c) s = .next (captureStep s k c) := by
  have top : ((s.tmr k).count == (s.tmr k).reload) = false := beq_eq_false_iff_ne.mpr below
  show execCapture ⟨k, (s.tmr k).capPin, r⟩ c s = _
  rw [execCapture]
  dsimp only
  rw [top]
  refine congrArg Host.Outcome.next (if_pos ?_)
  rw [State.clocks, run, counts, mode, edge, at_c]
  cases r <;> simp

theorem tmrStep_captureStep (c : Word) : TmrStep k s (captureStep s k c) := by
  refine (tmrStep_tmrClock s k).trans ((tmrStep_modTmr _ k (capMove c)).trans ((tmrStep_tmrFlag _ k 3).trans ?_))
  rw [captureStep, State.when]
  split
  · exact tmrStep_modTmr _ k overcapture
  · exact .refl k _

theorem tmr_captureStep (c : Word) : (captureStep s k c).tmr k = captured c ((s.tmrClock k).tmr k) := by
  rw [captureStep, State.when, captured]
  split
  next unread =>
    rw [tmr_modTmr_self, tmr_tmrFlag, tmr_modTmr_self]
    rfl
  next =>
    rw [tmr_tmrFlag, tmr_modTmr_self]
    rfl

/-- The trigger of a clocked slave is one tick of its source. -/
theorem exec_linkTrigger_clock (smode : (s.tmr k).smode = 3) :
    exec (.linkTrigger k) s = .next (s.modTmr k fun t => t.sourceTicks true 1) := by
  show execLinkTrigger k s = _
  rw [execLinkTrigger]
  dsimp only
  rw [smode]
  rfl

/-- A tick of an undivided source that reaches no event. -/
theorem sourceTicks_one {x : Tmr} (run : x.run = true) (presc : x.presc = 1) (frac : x.prescFrac = 0) (acc : x.acc = 0)
    (owed : x.owed = 0) (a : x.count.toNat + 1 < x.cmpa.toNat) (b : x.cmpa.toNat < x.cmpb.toNat)
    (top : x.cmpb.toNat < x.reload.toNat) (wrA : x.wrA = none) (wrB : x.wrB = none) :
    (x.sourceTicks true 1).count = x.count + 1 ∧ (x.sourceTicks true 1).flag = x.flag ∧ (x.sourceTicks true 1).acc = 0 ∧
      (x.sourceTicks true 1).run = true := by
  have divisor : x.divisor = 256 := by rw [Tmr.divisor, presc, frac]; rfl
  have hold : x.count.toNat + 1 ≤ x.holdAt := by
    have beforeA : x.count < x.cmpa := by rw [BitVec.lt_def]; omega
    have beforeB : x.count < x.cmpb := by rw [BitVec.lt_def]; omega
    simp only [Tmr.holdAt, Tmr.lateA, Tmr.lateB, Tmr.nextA, Tmr.nextB, wrA, wrB, Option.any_none, Bool.or_self,
      Bool.false_eq_true, if_false, Option.getD_none, beforeA, beforeB, if_true]
    omega
  have one : min (x.holdAt - x.count.toNat) 1 = 1 := by omega
  unfold Tmr.sourceTicks
  rw [divisor, run, acc, owed]
  simp [one]

/-- The trigger of a stopped reset slave starts a period. -/
theorem exec_linkTrigger_reset (smode : (s.tmr k).smode = 2) (mode : (s.tmr k).mode = 1) (run : (s.tmr k).run = false) :
    exec (.linkTrigger k) s = .next (s.modTmr k fun t =>
      { { t with count := 0, acc := 0, owed := 0, run := t.mode != 0 } with
        toutLvl := ({ t with count := 0, acc := 0, owed := 0, run := t.mode != 0 } : Tmr).startLevel }) := by
  have restarted : s.tmrRestart k = s.modTmr k fun t =>
      { { t with count := 0, acc := 0, owed := 0, run := t.mode != 0 } with
        toutLvl := ({ t with count := 0, acc := 0, owed := 0, run := t.mode != 0 } : Tmr).startLevel } := by
    rw [State.tmrRestart]
    dsimp only
    rw [run]
    rfl
  show execLinkTrigger k s = _
  rw [execLinkTrigger]
  dsimp only
  rw [smode, mode, run]
  exact congrArg Host.Outcome.next restarted

/-- What is told of the other timers and of the rest of the device after a step of a timer. -/
theorem TmrStep.told {t : State} (h : TmrStep k s t) :
    (∀ j, j ≠ k → (t.tmr j).mode = (s.tmr j).mode ∧ (t.tmr j).reload = (s.tmr j).reload ∧ (t.tmr j).run = (s.tmr j).run ∧
      (t.tmr j).flag = (s.tmr j).flag ∧ (evsrcTmr (s.tmr j).clkSrc = none → t.tmr j = s.tmr j)) ∧
      PortsSame s t ∧ t.fuse = s.fuse ∧ t.sbox = s.sbox := by
  refine ⟨fun j other => ?_, by rw [h.rest]; rfl, by rw [h.rest], by rw [h.rest]⟩
  obtain ⟨mode, reload, run, flag, -, still⟩ := h.others j other
  exact ⟨mode, reload, run, flag, still⟩

end

/-! ## Comparators (R502 to R505) -/

section
variable {s : State} {g : Fin 16} {v : Nat}

theorem exec_gwcStateChange_one (mode : (s.gwc g).mode = 1) (run : s.sys.pwr = .run) :
    exec (.gwcStateChange g [v]) s = .next (s.gwcSample g v) := by
  refine congrArg Host.Outcome.next (if_pos ?_)
  rw [mode, run]
  rfl

/-- Whether a sample raises the comparator's event. -/
def gwcHit (x y : Gwc) : Bool :=
  y.st != x.st && (match gwcBit y.st with
    | some i => x.evtMask.getLsbD i
    | none => false)

theorem gwcSample_hit (hit : gwcHit (s.gwc g) ((s.gwc g).sample v) = true) : s.gwcSample g v =
    { s.setGwc g ((s.gwc g).sample v) with gwcEvt := setBit s.gwcEvt g.val } := if_pos hit

theorem gwcSample_miss (miss : gwcHit (s.gwc g) ((s.gwc g).sample v) = false) :
    s.gwcSample g v = s.setGwc g ((s.gwc g).sample v) := if_neg (Bool.eq_false_iff.mp miss)

/-- A sample's effect, whether its event is raised or not. -/
theorem gwcSample_frame : (s.gwcSample g v).gwc g = (s.gwc g).sample v ∧
    s.gwcSample g v = { s with gwcs := (s.gwcSample g v).gwcs, gwcEvt := (s.gwcSample g v).gwcEvt } := by
  cases hit : gwcHit (s.gwc g) ((s.gwc g).sample v) with
  | true =>
    rw [gwcSample_hit hit]
    exact ⟨gwc_setGwc_self s g _, rfl⟩
  | false =>
    rw [gwcSample_miss hit]
    exact ⟨gwc_setGwc_self s g _, rfl⟩

end

/-- A sample with no filter. -/
theorem sample_unfiltered {x : Gwc} (filt : x.filtM = 0) (v : Nat) : x.sample v = { x with raw := x.output v, st := x.output v } := by
  rw [Gwc.sample, filt]
  rfl

/-- The third sample behind a filter of at least three. -/
theorem sample_third {x : Gwc} {a b c : GwcSt} {v : Nat} (hist : x.hist = [a, b]) (out : x.output v = c) (long : 3 ≤ x.filtM.toNat) :
    x.sample v = { x with
      raw := c, hist := [a, b, c],
      st := if 3 = x.filtM.toNat then
          ([GwcSt.below, .inside, .above].find? fun st => decide (x.filtM.toNat < 2 * [a, b, c].count st)).getD x.st
        else x.st } := by
  have whole : 3 - x.filtM.toNat = 0 := by omega
  rw [Gwc.sample, hist, out]
  dsimp only
  rw [if_neg (by omega)]
  simp [whole]

/-- Settles O39. -/
theorem timersAndComparatorsRun : Obligations.TimersAndComparatorsRun := by
  unfold Obligations.TimersAndComparatorsRun
  refine ⟨?_, ?_, ?_, ?_, ?_, ?_, ?_, ?_, ?_, ?_, ?_, ?_, ?_⟩
  · intro s k mode run own counts top wrA wrB cmpa cmpb
    obtain ⟨count, flag, a, b⟩ := reloaded_rest (s.tmr k)
    rw [Tmr.nextA, wrA] at a
    rw [Tmr.nextB, wrB] at b
    have own := tmr_reload own (by rw [a]; exact cmpa) (by rw [b]; exact cmpb)
    refine ⟨_, exec_reloadTick run counts top, ?_⟩
    dsimp only
    rw [own]
    exact ⟨count, by rw [flag], (reloaded_runs (by rw [mode]; decide)).trans run, a, b, (tmrStep_reload s k).told⟩
  · intro s k mode run own counts top wrA wrB cmpa cmpb
    obtain ⟨count, flag, a, b⟩ := reloaded_rest (s.tmr k)
    rw [Tmr.nextA, wrA] at a
    rw [Tmr.nextB, wrB] at b
    have own := tmr_reload own (by rw [a]; exact cmpa) (by rw [b]; exact cmpb)
    obtain ⟨stopped, low⟩ := reloaded_oneShot mode
    refine ⟨_, exec_reloadTick run counts top, ?_⟩
    dsimp only
    rw [own]
    exact ⟨count, by rw [flag], stopped, low, (tmrStep_reload s k).told⟩
  · intro s k below
    exact ⟨_, congrArg Host.Outcome.next (if_neg (by simp [below])), rfl⟩
  · intro s k mode due other wrA wrB run own counts below
    have a : matchesA (s.tmr k) = true := (matchesA_unwritten wrA).trans (decide_eq_true due)
    have b : matchesB (s.tmr k) = false := (matchesB_unwritten wrB).trans (decide_eq_false (due ▸ other))
    refine ⟨_, exec_compareMatch run counts below a, ?_⟩
    dsimp only
    rw [tmr_tmrClock own, a, b]
    refine ⟨?_, ?_, ?_, ?_, (tmrStep_tmrClock s k).told⟩
    all_goals simp [lateFlags, matched, clocked, Tmr.lateA, Tmr.lateB, Tmr.nextA, wrA, wrB, mode, due]
  · intro s k due other wrA wrB run own counts below
    have a : matchesA (s.tmr k) = false := (matchesA_unwritten wrA).trans (decide_eq_false (due ▸ other))
    have b : matchesB (s.tmr k) = true := (matchesB_unwritten wrB).trans (decide_eq_true due)
    refine ⟨_, exec_compareMatch run counts below b, ?_⟩
    dsimp only
    rw [tmr_tmrClock own, a, b]
    refine ⟨?_, ?_, ?_, fun mode => ?_, (tmrStep_tmrClock s k).told⟩
    all_goals simp [lateFlags, matched, clocked, Tmr.lateA, Tmr.lateB, Tmr.nextB, wrA, wrB, due]
    exact fun pwm => absurd pwm mode
  · intro s k v wrA late wrB other run own counts below
    have a : matchesA (s.tmr k) = true := by simp [matchesA, Tmr.lateA, wrA, late]
    have b : matchesB (s.tmr k) = false := (matchesB_unwritten wrB).trans (decide_eq_false other)
    refine ⟨_, exec_compareMatch run counts below a, ?_⟩
    dsimp only
    rw [tmr_tmrClock own, a, b]
    refine ⟨?_, ?_, ?_, ?_, ?_, (tmrStep_tmrClock s k).told⟩
    all_goals simp [lateFlags, matched, clocked, Tmr.lateA, Tmr.lateB, Tmr.nextA, Tmr.nextB, wrA, wrB, late, setBit]
  · intro s k r c mode edge at_c a b wrA wrB run own counts below
    have unmatchedA : matchesA (s.tmr k) = false := (matchesA_unwritten wrA).trans (decide_eq_false (at_c ▸ a))
    have unmatchedB : matchesB (s.tmr k) = false := (matchesB_unwritten wrB).trans (decide_eq_false (at_c ▸ b))
    have clock := tmr_tmrClock own
    rw [unmatchedA, unmatchedB] at clock
    refine ⟨_, exec_capture run counts below mode edge at_c, ?_⟩
    dsimp only
    rw [tmr_captureStep, clock]
    refine ⟨rfl, ?_, at_c.symm, ?_, (tmrStep_captureStep c).told⟩
    all_goals simp [captured, lateFlags, clocked, Tmr.lateA, Tmr.lateB, Tmr.nextA, wrA, wrB]
  · intro s k smode run presc frac acc owed ca cb cr wrA wrB
    obtain ⟨count, flag, acc', run'⟩ := sourceTicks_one run presc frac acc owed ca cb cr wrA wrB
    refine ⟨_, exec_linkTrigger_clock smode, ?_⟩
    dsimp only
    rw [tmr_modTmr_self]
    exact ⟨count, flag, acc', run', rfl, fun j other => tmr_modTmr_ne s k j _ other⟩
  · intro s k smode mode run
    refine ⟨_, exec_linkTrigger_reset smode mode run, ?_⟩
    dsimp only
    rw [tmr_modTmr_self]
    refine ⟨rfl, ?_, rfl, (tmrStep_modTmr s k _).told⟩
    show ((s.tmr k).mode != 0) = true
    rw [mode]
    rfl
  · intro s g v mode filt st raw high low mask run
    have out : (s.gwc g).output v = .above := by simp [Gwc.output, raw, Nat.not_lt.mpr low, high]
    have sample := sample_unfiltered filt v
    rw [out] at sample
    refine ⟨_, exec_gwcStateChange_one mode run, ?_⟩
    rw [gwcSample_hit (by rw [sample, gwcHit, st]; exact mask), sample]
    exact ⟨congrArg Gwc.st (gwc_setGwc_self s g _), rfl, fun j other => gwc_setGwc_ne s g j _ other, rfl⟩
  · intro s g v mode filt raw low mask run
    have bound := (s.gwc g).thLo.isLt
    have out : (s.gwc g).output v = .below := by
      have within : ¬1023 < v := by omega
      simp [Gwc.output, raw, low, within]
    have sample := sample_unfiltered filt v
    rw [out] at sample
    have miss : gwcHit (s.gwc g) ((s.gwc g).sample v) = false := by
      rw [sample, gwcHit, mask]
      exact Bool.and_false _
    refine ⟨_, exec_gwcStateChange_one mode run, ?_⟩
    rw [gwcSample_miss miss, sample]
    exact ⟨congrArg Gwc.st (gwc_setGwc_self s g _), rfl, fun j other => gwc_setGwc_ne s g j _ other, rfl⟩
  · intro s g v x mode filt st hist high run
    have sample := sample_third (v := v) hist (if_pos high) (by rw [filt]; decide)
    rw [if_neg (by rw [filt]; decide), st] at sample
    have miss : gwcHit (s.gwc g) ((s.gwc g).sample v) = false := by rw [sample, gwcHit, st]; rfl
    refine ⟨_, exec_gwcStateChange_one mode run, ?_⟩
    rw [gwcSample_miss miss, sample]
    exact ⟨congrArg Gwc.st (gwc_setGwc_self s g _), congrArg Gwc.hist (gwc_setGwc_self s g _), rfl, rfl⟩
  · intro s g v x mode filt hist high run
    have sample := sample_third (v := v) hist (if_pos high) (by rw [filt]; decide)
    rw [filt] at sample
    obtain ⟨own, frame⟩ := gwcSample_frame (s := s) (g := g) (v := v)
    rw [sample] at own
    refine ⟨_, exec_gwcStateChange_one mode run, ?_, congrArg Gwc.hist own, frame⟩
    refine (congrArg Gwc.st own).trans ?_
    cases x <;> rfl

end Sys2Proof.Proofs
end

section
/-!
SUPPORT. The host's transactions with the window, the mailbox and the group address, byte by byte, and the counts that a read
clears; with them O38 is settled.
-/
namespace Sys2Proof.Proofs

open Sys2Proof.Machine Sys2Proof.Safety Sys2Proof.Laws

/-! ## Counting, written out -/

/-- The counters after some events of a block. -/
def countPerf (f : Perf) (blk ev n : Nat) : Perf :=
  if f.frozen then f
  else (List.range 4).foldl (fun f c =>
    match f.ctrs[4 * blk + c]? with
    | some k => if k.enable && k.event == byteOf ev 0 && f.ownEvent (4 * blk + c) then f.add (4 * blk + c) n else f
    | none => f) f

theorem count_perf (s : State) (blk ev n : Nat) : s.count blk ev n = { s with perf := countPerf s.perf blk ev n } := by
  unfold State.count countPerf
  split <;> rfl

theorem countPerf_counted (f : Perf) (blk ev n : Nat) : Counted f (countPerf f blk ev n) := by
  have counted := count_counted { State.reset with perf := f } blk ev n
  rw [count_perf] at counted
  exact counted

/-! ## An address is acknowledged (R371) -/

/-- The host target has acknowledged an address: the device is awake. -/
def reached (s : State) (x : Byte) : State :=
  { s with
    sys.pwr := if s.sys.pwr = .sleep then .doze else s.sys.pwr,
    bus.acked := true, bus.out := [], bus.acks := 0, bus.lastAddr := x }

theorem wakeUp_eq (s : State) : s.wakeUp = { s with sys.pwr := if s.sys.pwr = .sleep then .doze else s.sys.pwr } := by
  obtain ⟨⟨w⟩⟩ := s
  cases w <;> rfl

theorem hostAck_eq (s : State) (a : HostAddr) : s.hostAck a false = reached s (a.zeroExtend 8 ||| 0) := by
  rw [State.hostAck, wakeUp_eq]
  rfl

/-! ## Where an address leads (Table 11.1) -/

section
variable {s : State} (up : s.hostUp = true)
include up

theorem hostMatch_ra : s.hostMatch s.ra = some ⟨false, 0, false⟩ := by
  have own : ∀ n : BitVec 3, ((0x50 + n.zeroExtend 7 : HostAddr).zeroExtend 8 == (0x50 + n.zeroExtend 8 : Byte)) = true := by decide
  rw [State.hostMatch, up]
  exact if_pos (own s.sys.addr)

theorem hostMatch_ca : s.hostMatch s.ca = some ⟨true, 0, false⟩ := by
  have own : ∀ n : BitVec 3, ((0x58 + n.zeroExtend 7 : HostAddr).zeroExtend 8 == (0x58 + n.zeroExtend 8 : Byte)) = true := by decide
  have other : ∀ n : BitVec 3, ((0x58 + n.zeroExtend 7 : HostAddr).zeroExtend 8 == (0x50 + n.zeroExtend 8 : Byte)) = false := by decide
  rw [State.hostMatch, up]
  exact (if_neg (Bool.eq_false_iff.mp (other s.sys.addr))).trans (if_pos (own s.sys.addr))

theorem hostMatch_ga : s.hostMatch 0x0C = none := by
  have notRa : ∀ n : BitVec 3, ((0x0C : Byte) == 0x50 + n.zeroExtend 8) = false := by decide
  have notCa : ∀ n : BitVec 3, ((0x0C : Byte) == 0x58 + n.zeroExtend 8) = false := by decide
  have excluded : ∀ c d e : Bool, (c && d && e && true && false) = false := by decide
  rw [State.hostMatch, up]
  exact (if_neg (Bool.eq_false_iff.mp (notRa s.sys.addr))).trans
    ((if_neg (Bool.eq_false_iff.mp (notCa s.sys.addr))).trans (if_neg (by simp)))

theorem txWrite_ra (b : List Byte) (fin : HostEnd) :
    s.txWrite s.ra b fin = State.watched (fun t => (t.hostAck s.ra false).winBytes b fin) s := by
  rw [State.txWrite, hostMatch_ra up]

theorem txWrite_ca (b : List Byte) (fin : HostEnd) : s.txWrite s.ca b fin = s.mbBytes s.ca false b fin := by
  rw [State.txWrite, hostMatch_ca up]

theorem txWrite_ga (b : List Byte) (fin : HostEnd) : s.txWrite 0x0C b fin = s.gaBytes b fin := by
  rw [State.txWrite, hostMatch_ga up]
  rfl

theorem txRead_ra (n : Nat) (fin : HostEnd) :
    s.txRead s.ra n fin = State.watched (fun t => (t.hostAck s.ra false).winRead 0 n) s := by
  rw [State.txRead, hostMatch_ra up]

theorem txRead_ca (n : Nat) (fin : HostEnd) :
    s.txRead s.ca n fin = State.watched (fun t => (t.hostAck s.ca false).mbRead n fin) s := by
  rw [State.txRead, hostMatch_ca up]

end

/-! ## What a transaction with the window leaves beside its own effect -/

/-- Nothing but the host target, its count of header errors apart, the counters, WATCH's lines and the power state differs. -/
structure Windowed (s t : State) : Prop where
  frame : t = { s with lantern := t.lantern, perf := t.perf, bus := t.bus, sys := { s.sys with pwr := t.sys.pwr } }
  counts : Counted s.perf t.perf
  stage : t.lantern.stage = s.lantern.stage
  up : t.hostUp = s.hostUp
  hdrErr : t.bus.hdrErr = s.bus.hdrErr

namespace Windowed

theorem refl (s : State) : Windowed s s := ⟨rfl, .refl _, rfl, rfl, rfl⟩

theorem trans {s t u : State} (h : Windowed s t) (k : Windowed t u) : Windowed s u :=
  ⟨by rw [k.frame, h.frame], h.counts.trans k.counts, k.stage.trans h.stage, k.up.trans h.up, k.hdrErr.trans h.hdrErr⟩

section
variable {s t : State} (h : Windowed s t)
include h

theorem ports : t.ports = s.ports := by rw [h.frame]
theorem mb : t.mb = s.mb := by rw [h.frame]
theorem safety : t.safety = s.safety := by rw [h.frame]
theorem ring : t.ring = s.ring := by rw [h.frame]
theorem trace : t.trace = s.trace := by rw [h.frame]
theorem sys : t.sys = { s.sys with pwr := t.sys.pwr } := by rw [h.frame]
theorem ra : t.ra = s.ra := by rw [h.frame]; rfl
theorem ringReady : t.ringReady = s.ringReady := by rw [h.frame]; rfl

theorem stores : StoresSame s t := storesSame_of (by rw [h.frame]) (by rw [h.frame]) h.stage

end

end Windowed

theorem windowed_bus (s : State) (b : HostBus) (same : b.hdrErr = s.bus.hdrErr) : Windowed s { s with bus := b } :=
  ⟨rfl, .refl _, rfl, rfl, same⟩

theorem windowed_count (s : State) (blk ev n : Nat) : Windowed s (s.count blk ev n) := by
  rw [count_perf]
  exact ⟨rfl, countPerf_counted _ _ _ _, rfl, rfl, rfl⟩

theorem windowed_lantern (s : State) (m : Lantern) (same : m.stage = s.lantern.stage) : Windowed s { s with lantern := m } :=
  ⟨rfl, .refl _, same, rfl, rfl⟩

theorem windowed_reached (s : State) (x : Byte) : Windowed s (reached s x) := by
  refine ⟨rfl, .refl _, rfl, ?_, rfl⟩
  obtain ⟨⟨w⟩⟩ := s
  cases w <;> rfl

/-! ## WATCH about a transaction (Table 18.7) -/

theorem offer_stage (m : Lantern) (x : String) : (m.offer x).stage = m.stage := by
  unfold Lantern.offer
  split <;> rfl

theorem offers_stage {α : Type} (line : α → String) (l : List α) (m : Lantern) :
    (l.foldl (fun m i => m.offer (line i)) m).stage = m.stage := by
  induction l generalizing m with
  | nil => rfl
  | cons x l ih => exact (ih _).trans (offer_stage m _)

theorem watchNote_frame (s : State) : ∃ m, s.watchNote = { s with lantern := m } ∧ m.stage = s.lantern.stage := by
  unfold State.watchNote
  split
  · exact ⟨_, rfl, offers_stage _ _ _⟩
  · exact ⟨s.lantern, rfl, rfl⟩

/-- A watched step is the step itself but for WATCH's lines before and after it. -/
theorem watched_frame (f : State → State) (s : State) : ∃ m m',
    State.watched f s = { f { s with lantern := m } with lantern := m' } ∧ m.stage = s.lantern.stage ∧
      m'.stage = (f { s with lantern := m }).lantern.stage := by
  unfold State.watched
  split
  · obtain ⟨m, before, kept⟩ := watchNote_frame s.quiet
    obtain ⟨m', after, kept'⟩ := watchNote_frame (f s.quiet.watchNote)
    rw [before] at after kept'
    rw [before, after]
    exact ⟨m, m', rfl, kept, kept'⟩
  · exact ⟨s.lantern, (f s).lantern, rfl, rfl, rfl⟩

/-! ## Writing the window (R376 to R379) -/

/-- A write transaction with the window comes to its bytes with the address acknowledged, and WATCH's lines follow. -/
theorem txWrite_window {s : State} (up : s.hostUp = true) (b : List Byte) (fin : HostEnd) : ∃ u m,
    Windowed s u ∧ u.bus = (reached s (s.ra.zeroExtend 8 ||| 0)).bus ∧ s.txWrite s.ra b fin = { u.winBytes b fin with lantern := m } ∧
      m.stage = (u.winBytes b fin).lantern.stage := by
  obtain ⟨m, m', told, kept, kept'⟩ := watched_frame (fun t => (t.hostAck s.ra false).winBytes b fin) s
  rw [hostAck_eq] at told kept'
  exact ⟨_, m', (windowed_lantern s m kept).trans (windowed_reached _ _), rfl, (txWrite_ra up b fin).trans told, kept'⟩

/-- What a data byte does itself: at once, or at the transaction's end. -/
def byteWritten (page : Nat) (v : Byte) (e : AtStop) (s : State) : State × AtStop :=
  let off := s.bus.ptr.toNat
  if off = 0xFF then (s, { e with page := if pageOk v then some v else e.page })
  else if page = 0 && off = 0x0C then (s, { e with cfg := some (v &&& 0x01) })
  else if page = 0 && off = 0x0D then (s, { e with base := some (v &&& 0x7F) })
  else if page = 0 && off = 0x0E then (s, { e with mask := some (v &&& 0x7F ||| 0x08) })
  else (s.winWrite page off v, e)

/-- The byte is acknowledged, and the pointer goes on. -/
def byteDone (x : State × AtStop) : State × AtStop :=
  ({ x.1 with perf := countPerf x.1.perf 34 6 1, bus.ptr := x.1.bus.next }, x.2)

/-- A transaction's end puts into force what waits for it. -/
def txEnded (x : State × AtStop) : State :=
  { x.1 with bus := { x.1.bus with
    page := x.2.page.getD x.1.bus.page, haddrCfg := x.2.cfg.getD x.1.bus.haddrCfg,
    haddrBase := x.2.base.getD x.1.bus.haddrBase, haddrMask := x.2.mask.getD x.1.bus.haddrMask } }

/-- The state that the data byte behind the pointer meets. -/
def pointed (u : State) (p : Byte) (n : Nat) : State :=
  { u with
    perf := countPerf (countPerf u.perf 34 1 1) 34 6 1,
    bus := { u.bus with acks := n, ptr := p } }

theorem windowed_pointed (u : State) (p : Byte) (n : Nat) : Windowed u (pointed u p n) :=
  ⟨rfl, (countPerf_counted _ _ _ _).trans (countPerf_counted _ _ _ _), rfl, rfl, rfl⟩

theorem winBytes_pointer (u : State) (p : Byte) {fin : HostEnd} (ends : (fin != .cut) = true) : u.winBytes [p] fin = pointed u p 1 := by
  simp only [State.winBytes, State.winTx, State.writeLoop, State.byteAcked, count_perf, ends]
  rfl

theorem winTx_cons (s : State) (p : Byte) (r : List Byte) : s.winTx true (p :: r) =
    txEnded (State.writeLoop s.bus.page.toNat r ⟨none, none, none, none⟩ ({ s with bus.ptr := p } : State).byteAcked) := rfl

theorem writeLoop_byte (page : Nat) (v : Byte) (e : AtStop) (s : State) : State.writeLoop page [v] e s =
    byteDone (byteWritten page v e s) := by
  have acked : ∀ x : State × AtStop, (({ x.1 with bus.ptr := x.1.bus.next } : State).byteAcked, x.2) = byteDone x := fun x => by
    rw [State.byteAcked, count_perf, byteDone]
  exact acked (byteWritten page v e s)

theorem winBytes_byte (u : State) (p v : Byte) :
    u.winBytes [p, v] .stop = txEnded (byteDone (byteWritten u.bus.page.toNat v ⟨none, none, none, none⟩ (pointed u p 2))) := by
  rw [State.winBytes, count_perf]
  refine (winTx_cons _ p [v]).trans (congrArg txEnded ?_)
  rw [State.byteAcked, count_perf, writeLoop_byte]
  rfl

theorem windowed_txEnded (x : State × AtStop) : Windowed x.1 (txEnded x) := windowed_bus _ _ rfl

theorem windowed_byteDone (x : State × AtStop) : Windowed x.1 (byteDone x).1 := ⟨rfl, countPerf_counted _ _ _ _, rfl, rfl, rfl⟩

theorem windowed_winBytes {u x : State} {e : AtStop} {p v : Byte}
    (wrote : byteWritten u.bus.page.toNat v ⟨none, none, none, none⟩ (pointed u p 2) = (x, e)) :
    Windowed x (u.winBytes [p, v] .stop) := by
  rw [winBytes_byte, wrote]
  exact (windowed_byteDone (x, e)).trans (windowed_txEnded _)

section
variable {s : State} (up : s.hostUp = true) (v : Byte)
include up

/-- The pointer alone is written. -/
theorem txWrite_pointer (p : Byte) {fin : HostEnd} (ends : (fin != .cut) = true) : Windowed s (s.txWrite s.ra [p] fin) ∧
    (s.txWrite s.ra [p] fin).bus.acked = true ∧ (s.txWrite s.ra [p] fin).bus.page = s.bus.page ∧
      (s.txWrite s.ra [p] fin).bus.ptr = p := by
  obtain ⟨u, m, same, bus, wrote, kept⟩ := txWrite_window up [p] fin
  rw [winBytes_pointer u p ends] at wrote kept
  rw [wrote]
  exact ⟨(same.trans (windowed_pointed u p 1)).trans (windowed_lantern _ m kept), congrArg HostBus.acked bus,
    (congrArg HostBus.page bus :), rfl⟩

/-- PAGE takes a page that there is (R378). -/
theorem txWrite_page : Windowed s (s.txWrite s.ra [0xFF, v] .stop) ∧ (s.txWrite s.ra [0xFF, v] .stop).bus.acked = true ∧
    (s.txWrite s.ra [0xFF, v] .stop).bus.page = if pageOk v then v else s.bus.page := by
  obtain ⟨u, m, same, bus, wrote, kept⟩ := txWrite_window up [0xFF, v] .stop
  have byte : byteWritten u.bus.page.toNat v ⟨none, none, none, none⟩ (pointed u 0xFF 2) =
      (pointed u 0xFF 2, ⟨if pageOk v then some v else none, none, none, none⟩) := rfl
  have page : (u.winBytes [0xFF, v] .stop).bus.page = (if pageOk v then some v else none).getD u.bus.page := by
    rw [winBytes_byte, byte]; rfl
  have acked : (u.winBytes [0xFF, v] .stop).bus.acked = u.bus.acked := by rw [winBytes_byte, byte]; rfl
  rw [wrote]
  refine ⟨((same.trans (windowed_pointed u 0xFF 2)).trans (windowed_winBytes byte)).trans (windowed_lantern _ m kept),
    acked.trans (congrArg HostBus.acked bus), page.trans ?_⟩
  rw [bus]
  split <;> rfl

/-- A host-address register of page 0x00 takes its value at the STOP (R372). -/
theorem txWrite_haddr (page : s.bus.page = 0) (r : HaddrReg) {e : AtStop}
    (byte : ∀ u : State, byteWritten 0 v ⟨none, none, none, none⟩ (pointed u (haddrOff r) 2) = (pointed u (haddrOff r) 2, e))
    (stays : e.page = none) : Windowed s (s.txWrite s.ra [haddrOff r, v] .stop) ∧
      (s.txWrite s.ra [haddrOff r, v] .stop).bus.page = 0 ∧
      (s.txWrite s.ra [haddrOff r, v] .stop).bus.haddrCfg = e.cfg.getD s.bus.haddrCfg ∧
      (s.txWrite s.ra [haddrOff r, v] .stop).bus.haddrBase = e.base.getD s.bus.haddrBase ∧
      (s.txWrite s.ra [haddrOff r, v] .stop).bus.haddrMask = e.mask.getD s.bus.haddrMask := by
  obtain ⟨u, m, same, bus, wrote, kept⟩ := txWrite_window up [haddrOff r, v] .stop
  have here : u.bus.page.toNat = 0 := by rw [bus]; exact congrArg BitVec.toNat page
  have byte := byte u
  rw [← here] at byte
  have stop : (u.winBytes [haddrOff r, v] .stop).bus = (txEnded (byteDone (pointed u (haddrOff r) 2, e))).bus := by
    rw [winBytes_byte, byte]
  rw [wrote]
  refine ⟨((same.trans (windowed_pointed u _ 2)).trans (windowed_winBytes byte)).trans (windowed_lantern _ m kept), ?_⟩
  dsimp only
  rw [stop]
  refine ⟨?_, ?_⟩
  · show e.page.getD u.bus.page = 0
    rw [stays, bus]; exact page
  · show e.cfg.getD u.bus.haddrCfg = _ ∧ e.base.getD u.bus.haddrBase = _ ∧ e.mask.getD u.bus.haddrMask = _
    rw [bus]; exact ⟨rfl, rfl, rfl⟩

/-- WRAPCFG takes its two bits (R377). -/
theorem txWrite_wrapcfg (page : s.bus.page = 0) : Windowed s (s.txWrite s.ra [7, v] .stop) ∧
    (s.txWrite s.ra [7, v] .stop).bus.acked = true ∧ (s.txWrite s.ra [7, v] .stop).bus.page = s.bus.page ∧
      (s.txWrite s.ra [7, v] .stop).bus.wrap = v.truncate 2 := by
  obtain ⟨u, m, same, bus, wrote, kept⟩ := txWrite_window up [7, v] .stop
  have here : u.bus.page.toNat = 0 := by rw [bus]; exact congrArg BitVec.toNat page
  have byte : byteWritten u.bus.page.toNat v ⟨none, none, none, none⟩ (pointed u 7 2) =
      ({ pointed u 7 2 with bus.wrap := v.truncate 2 }, ⟨none, none, none, none⟩) := by rw [here]; rfl
  have stop : (u.winBytes [7, v] .stop).bus =
      (txEnded (byteDone ({ pointed u 7 2 with bus.wrap := v.truncate 2 }, ⟨none, none, none, none⟩))).bus := by
    rw [winBytes_byte, byte]
  rw [wrote]
  refine ⟨(((same.trans (windowed_pointed u 7 2)).trans (windowed_bus _ _ (by rfl))).trans (windowed_winBytes byte)).trans
    (windowed_lantern _ m kept), ?_⟩
  dsimp only
  rw [stop]
  exact ⟨congrArg HostBus.acked bus, (congrArg HostBus.page bus :), rfl⟩

/-- The events of page 0x00 are cleared where a 1 is written (R379). -/
theorem txWrite_evt (page : s.bus.page = 0) : ∃ u m, Windowed s u ∧ Windowed { u with sys.evt := u.sys.evt &&& ~~~ v }
      (u.winBytes [0x0B, v] .stop) ∧ s.txWrite s.ra [0x0B, v] .stop = { u.winBytes [0x0B, v] .stop with lantern := m } ∧
      m.stage = (u.winBytes [0x0B, v] .stop).lantern.stage := by
  obtain ⟨u, m, same, bus, wrote, kept⟩ := txWrite_window up [0x0B, v] .stop
  have here : u.bus.page.toNat = 0 := by rw [bus]; exact congrArg BitVec.toNat page
  have byte : byteWritten u.bus.page.toNat v ⟨none, none, none, none⟩ (pointed u 0x0B 2) =
      ({ pointed u 0x0B 2 with sys.evt := w1c u.sys.evt 0 v }, ⟨none, none, none, none⟩) := by rw [here]; rfl
  have cleared : w1c u.sys.evt 0 v = u.sys.evt &&& ~~~ v := by simp [w1c]
  rw [cleared] at byte
  exact ⟨u, m, same, (windowed_pointed { u with sys.evt := u.sys.evt &&& ~~~ v } 0x0B 2).trans (windowed_winBytes byte), wrote, kept⟩

end

/-! ## Reading a count (R380) -/

theorem txRead_window {s : State} (up : s.hostUp = true) (n : Nat) : ∃ u m,
    Windowed s u ∧ u.bus = (reached s (s.ra.zeroExtend 8 ||| 0)).bus ∧ s.txRead s.ra n .stop = { u.winRead 0 n with lantern := m } ∧
      m.stage = (u.winRead 0 n).lantern.stage := by
  obtain ⟨m, m', told, kept, kept'⟩ := watched_frame (fun t => (t.hostAck s.ra false).winRead 0 n) s
  rw [hostAck_eq] at told kept'
  exact ⟨_, m', (windowed_lantern s m kept).trans (windowed_reached _ _), rfl, (txRead_ra up n .stop).trans told, kept'⟩

section
variable {t : State} {r : CorReg} (page : t.bus.page.toNat = r.place.1)
include page

theorem readEffect_low (ptr : t.bus.ptr.toNat = r.place.2.1) :
    t.readEffect [] = if r.place.2.2 = 1 then (t.corClear r, []) else (t, [r]) := by
  cases r <;> simp only [CorReg.place] at page ptr <;> simp [State.readEffect, corRegs, CorReg.place, page, ptr]

theorem readEffect_high (ptr : t.bus.ptr.toNat = r.place.2.1 + 1) (wide : r.place.2.2 = 2) :
    t.readEffect [r] = (t.corClear r, []) := by
  cases r <;> simp only [CorReg.place] at page ptr wide <;> simp [State.readEffect, corRegs, CorReg.place, page, ptr] at wide ⊢

/-- The low byte of a two-byte count is not the last of any wrapping block. -/
theorem next_low (ptr : t.bus.ptr.toNat = r.place.2.1) (wide : r.place.2.2 = 2) : t.bus.next.toNat = r.place.2.1 + 1 := by
  have steps : ∀ w : BitVec 2, ∀ p ∈ [0x08, 0x0C, 0xA2], (byteOf (p / (if w = 0 then 256 else 8 * 2 ^ w.toNat) *
      (if w = 0 then 256 else 8 * 2 ^ w.toNat) + (p + 1) % (if w = 0 then 256 else 8 * 2 ^ w.toNat)) 0).toNat = p + 1 := by decide
  have low : r.place.2.1 ∈ [0x08, 0x0C, 0xA2] := by cases r <;> simp [CorReg.place] at wide ⊢
  unfold HostBus.next
  dsimp only
  rw [ptr]
  exact steps t.bus.wrap _ low

/-- A one-byte count is sent and cleared. -/
theorem winRead_narrow (ptr : t.bus.ptr.toNat = r.place.2.1) (narrow : r.place.2.2 = 1) :
    State.readLoop 0 1 [] t [] = ({ t.corClear r with bus.ptr := (t.corClear r).bus.next }, [t.winByte 0 r.place.1 r.place.2.1]) := by
  have effect := readEffect_low page ptr
  rw [if_pos narrow] at effect
  simp only [State.readLoop, effect, page, ptr]
  rfl

/-- A two-byte count is sent from its low byte on, and cleared with its high one. -/
theorem winRead_wide (ptr : t.bus.ptr.toNat = r.place.2.1) (wide : r.place.2.2 = 2) : ∃ q q' : Byte,
    State.readLoop 0 2 [] t [] = ({ ({ t with bus.ptr := q } : State).corClear r with bus.ptr := q' },
      [t.winByte 0 r.place.1 r.place.2.1, ({ t with bus.ptr := q } : State).winByte 0 r.place.1 (r.place.2.1 + 1)]) := by
  have effect := readEffect_low page ptr
  rw [if_neg (by rw [wide]; decide)] at effect
  have next := next_low page ptr wide
  have effect' := readEffect_high (t := { t with bus.ptr := t.bus.next }) page next wide
  refine ⟨t.bus.next, (({ t with bus.ptr := t.bus.next } : State).corClear r).bus.next, ?_⟩
  simp only [State.readLoop, effect, effect', page, ptr, next]
  rfl

end

/-! ## What the counts read (Table 19.1) -/

theorem winByte_hdrErr (t : State) : t.winByte 0 0 0x0A = t.bus.hdrErr := rfl

theorem winByte_eccSbe (t : State) : [t.winByte 0 6 0x0C, t.winByte 0 6 0x0D] = leBytes 2 t.safety.eccSbe.toNat := rfl

theorem winByte_eccDbe (t : State) : t.winByte 0 6 0x0E = t.safety.eccDbe := rfl

theorem winByte_rgCrc {t : State} (ready : t.ringReady = true) :
    [t.winByte 0 0x0C 8, t.winByte 0 0x0C 9] = leBytes 2 t.ring.crc.toNat := by
  show [nth t.page0C 8, nth t.page0C 9] = _
  rw [State.page0C, if_pos ready]
  rfl

theorem winByte_trLost {t : State} (ready : t.sys.perfReady = true) :
    [t.winByte 0 0x0A 0xA2, t.winByte 0 0x0A 0xA3] = leBytes 2 t.trace.lost.toNat := by
  show [nth (t.perfArea 0) 0x22, nth (t.perfArea 0) 0x23] = _
  rw [State.perfArea, if_pos ready]
  rfl

/-! ## A register read by the host (R376, R380) -/

/-- The host's whole access comes to its read with the register's page and offset chosen. -/
theorem regRead_reached {s : State} (up : s.hostUp = true) (r : CorReg) : ∃ u m, Windowed s u ∧
    u.bus.page.toNat = r.place.1 ∧ u.bus.ptr.toNat = r.place.2.1 ∧
      s.regRead s.ra r = { (State.readLoop 0 r.place.2.2 [] u []).1 with
        bus := { (State.readLoop 0 r.place.2.2 [] u []).1.bus with out := (State.readLoop 0 r.place.2.2 [] u []).2 }, lantern := m } := by
  have there : pageOk (byteOf r.place.1 0) = true := by cases r <;> decide
  have pageNat : (byteOf r.place.1 0).toNat = r.place.1 := by cases r <;> decide
  have ptrNat : (byteOf r.place.2.1 0).toNat = r.place.2.1 := by cases r <;> decide
  obtain ⟨same, -, page⟩ := txWrite_page up (byteOf r.place.1 0)
  rw [if_pos there] at page
  have up' := same.up.trans up
  obtain ⟨same', -, page', ptr⟩ := txWrite_pointer up' (byteOf r.place.2.1 0) (fin := .stop) rfl
  rw [same.ra] at same' page' ptr
  have up'' := same'.up.trans up'
  obtain ⟨u, m, read, bus, done, -⟩ := txRead_window up'' r.place.2.2
  rw [same'.ra, same.ra] at done
  refine ⟨u.count 34 1 1, m, ((same.trans same').trans read).trans (windowed_count u 34 1 1), ?_, ?_, done⟩
  · rw [count_perf, bus]
    exact (congrArg BitVec.toNat (page'.trans page)).trans pageNat
  · rw [count_perf, bus]
    exact (congrArg BitVec.toNat ptr).trans ptrNat

section
variable {s : State} (up : s.hostUp = true)
include up

theorem hdrerrcntRead_yields : Yields (.hdrerrcntRead s.ra) s fun t =>
    t.bus.out = [s.bus.hdrErr] ∧ t.bus.hdrErr = 0 ∧ PortsSame s t ∧ t.mb = s.mb := by
  obtain ⟨u, m, same, page, ptr, read⟩ := regRead_reached up .hdrErr
  rw [show CorReg.hdrErr.place.2.2 = 1 from rfl, winRead_narrow page ptr rfl] at read
  refine ⟨_, congrArg Host.Outcome.next read, ?_⟩
  exact ⟨congrArg (fun x => [x]) ((winByte_hdrErr u).trans same.hdrErr), rfl, same.ports, same.mb⟩

theorem eccdbecntRead_yields : Yields (.eccdbecntRead s.ra) s fun t =>
    t.bus.out = [s.safety.eccDbe] ∧ t.safety = { s.safety with eccDbe := 0 } ∧ PortsSame s t ∧ t.mb = s.mb := by
  obtain ⟨u, m, same, page, ptr, read⟩ := regRead_reached up .eccDbe
  rw [show CorReg.eccDbe.place.2.2 = 1 from rfl, winRead_narrow page ptr rfl] at read
  refine ⟨_, congrArg Host.Outcome.next read, ?_⟩
  exact ⟨congrArg (fun x => [x]) ((winByte_eccDbe u).trans (congrArg Safety.eccDbe same.safety)),
    congrArg (fun f : Safety => { f with eccDbe := 0 }) same.safety,
    same.ports, same.mb⟩

theorem eccsbecntRead_yields : Yields (.eccsbecntRead s.ra) s fun t =>
    t.bus.out = leBytes 2 s.safety.eccSbe.toNat ∧ t.safety = { s.safety with eccSbe := 0 } ∧ PortsSame s t ∧ t.mb = s.mb := by
  obtain ⟨u, m, same, page, ptr, read⟩ := regRead_reached up .eccSbe
  obtain ⟨q, q', bytes⟩ := winRead_wide page ptr rfl
  rw [show CorReg.eccSbe.place.2.2 = 2 from rfl, bytes] at read
  refine ⟨_, congrArg Host.Outcome.next read, ?_⟩
  exact ⟨(winByte_eccSbe u).trans (congrArg (fun f : Safety => leBytes 2 f.eccSbe.toNat) same.safety),
    congrArg (fun f : Safety => { f with eccSbe := 0 }) same.safety, same.ports, same.mb⟩

theorem rgcrcRead_yields (ready : s.ringReady = true) : Yields (.rgcrcRead s.ra) s fun t =>
    t.bus.out = leBytes 2 s.ring.crc.toNat ∧ t.ring = { s.ring with crc := 0 } ∧ PortsSame s t := by
  obtain ⟨u, m, same, page, ptr, read⟩ := regRead_reached up .rgCrc
  obtain ⟨q, q', bytes⟩ := winRead_wide page ptr rfl
  have ready' : u.ringReady = true := same.ringReady.trans ready
  have clear : ({ u with bus.ptr := q } : State).corClear .rgCrc = { u with bus.ptr := q, ring.crc := 0 } := if_pos ready'
  rw [show CorReg.rgCrc.place.2.2 = 2 from rfl, bytes, clear] at read
  refine ⟨_, congrArg Host.Outcome.next read, ?_⟩
  exact ⟨(winByte_rgCrc ready').trans (congrArg (fun g : Ring => leBytes 2 g.crc.toNat) same.ring),
    congrArg (fun g : Ring => { g with crc := 0 }) same.ring, same.ports⟩

theorem trlostRead_yields (ready : s.sys.perfReady = true) : Yields (.trlostRead s.ra) s fun t =>
    t.bus.out = leBytes 2 s.trace.lost.toNat ∧ t.trace = { s.trace with lost := 0 } ∧ PortsSame s t := by
  obtain ⟨u, m, same, page, ptr, read⟩ := regRead_reached up .trLost
  obtain ⟨q, q', bytes⟩ := winRead_wide page ptr rfl
  have ready' : u.sys.perfReady = true := (congrArg Sys.perfReady same.sys).trans ready
  have clear : ({ u with bus.ptr := q } : State).corClear .trLost = { u with bus.ptr := q, trace.lost := 0 } := if_pos ready'
  rw [show CorReg.trLost.place.2.2 = 2 from rfl, bytes, clear] at read
  refine ⟨_, congrArg Host.Outcome.next read, ?_⟩
  exact ⟨(winByte_trLost ready').trans (congrArg (fun f : Trace => leBytes 2 f.lost.toNat) same.trace),
    congrArg (fun f : Trace => { f with lost := 0 }) same.trace, same.ports⟩

end

/-! ## The window's writes -/

section
variable {s : State} (up : s.hostUp = true) (v : Byte)
include up

theorem windowWrite_wrapcfg (page : s.bus.page = 0) : Yields (.registerWindowWrite s.ra [7, v]) s fun t =>
    t.bus.wrap = v.truncate 2 ∧ t.bus.acked = true ∧ t.bus.page = s.bus.page ∧ PortsSame s t ∧ StoresSame s t := by
  obtain ⟨same, acked, stays, wrap⟩ := txWrite_wrapcfg up v page
  exact ⟨_, rfl, wrap, acked, stays, same.ports, same.stores⟩

theorem windowWrite_evt (page : s.bus.page = 0) : Yields (.registerWindowWrite s.ra [0x0B, v]) s fun t =>
    t.sys = { s.sys with evt := s.sys.evt &&& ~~~ v, pwr := t.sys.pwr } ∧ PortsSame s t ∧ StoresSame s t := by
  obtain ⟨u, m, same, cleared, done, kept⟩ := txWrite_evt up v page
  refine ⟨_, congrArg Host.Outcome.next done, ?_⟩
  have told := cleared.trans (windowed_lantern _ m kept)
  refine ⟨?_, told.ports.trans same.ports, fun a => ?_⟩
  · refine told.sys.trans ?_
    dsimp only
    rw [same.sys]
  · obtain ⟨n, st, l, mr, sg⟩ := told.stores a
    obtain ⟨n', st', l', mr', sg'⟩ := same.stores a
    exact ⟨n.trans n', st.trans st', l.trans l', mr.trans mr', sg.trans sg'⟩

theorem pageWrite_yields : Yields (.pageWrite s.ra v) s fun t =>
    t.bus.page = (if pageOk v then v else s.bus.page) ∧ t.bus.acked = true ∧ PortsSame s t ∧ t.mb = s.mb := by
  obtain ⟨same, acked, page⟩ := txWrite_page up v
  exact ⟨_, rfl, page, acked, same.ports, same.mb⟩

theorem haddrWrite_yields (r : HaddrReg) {e : AtStop} (stays : e.page = none)
    (byte : ∀ u : State, byteWritten 0 v ⟨none, none, none, none⟩ (pointed u (haddrOff r) 2) = (pointed u (haddrOff r) 2, e)) :
    Yields (.haddrWrite s.ra r v) s fun t =>
      (e.cfg.isSome = true → t.bus.haddrCfg = e.cfg.getD 0) ∧ (e.base.isSome = true → t.bus.haddrBase = e.base.getD 0) ∧
        (e.mask.isSome = true → t.bus.haddrMask = e.mask.getD 0) ∧ t.bus.page = 0 ∧ PortsSame s t ∧ t.mb = s.mb := by
  have given : ∀ {x : Option Byte} {d : Byte}, x.isSome = true → x.getD d = x.getD 0 := by
    rintro (_ | x) d some
    · cases some
    · rfl
  obtain ⟨first, -, page⟩ := txWrite_page up 0
  obtain ⟨second, page', cfg, base, mask⟩ := txWrite_haddr (first.up.trans up) v page r byte stays
  rw [first.ra] at second page' cfg base mask
  exact ⟨_, rfl, fun h => cfg.trans (given h), fun h => base.trans (given h), fun h => mask.trans (given h), page',
    second.ports.trans first.ports, second.mb.trans first.mb⟩

/-- A PAGE byte that the host abandons never comes (R391). -/
theorem byteAbandon_page : Yields (.byteAbandon (.winWrite s.ra [0xFF])) s fun t =>
    t.bus.acked = true ∧ t.bus.page = s.bus.page ∧ t.mb = s.mb ∧ PortsSame s t := by
  obtain ⟨same, acked, page, -⟩ := txWrite_pointer up 0xFF (fin := .stop) rfl
  refine ⟨_, congrArg Host.Outcome.next (count_perf _ 34 8 1), ?_⟩
  exact ⟨acked, page, same.mb, same.ports⟩

end

/-! ## The group address (R387) -/

theorem windowed_ackBytes (s : State) (n : Nat) : Windowed s (s.ackBytes n) := by
  rw [State.ackBytes, count_perf]
  exact ⟨rfl, countPerf_counted _ _ _ _, rfl, rfl, rfl⟩

theorem gaBytes_acked {s : State} (up : s.hostUp = true) (b : List Byte) (fin : HostEnd) : s.gaBytes b fin =
    if (b.headD 0 == 1 || b.headD 0 == 2) = true then
      (if (fin == .cut || !s.sys.perfReady) = true then (((reached s 0x0C).ackBytes 1).count 34 9 1)
        else if (b.headD 0 == 1) = true then (((reached s 0x0C).ackBytes 1).count 34 9 1).perfStop
        else (((reached s 0x0C).ackBytes 1).count 34 9 1).perfGo)
    else reached s 0x0C := by
  have ready : (((reached s 0x0C).ackBytes 1).count 34 9 1).sys.perfReady = s.sys.perfReady := by
    rw [State.ackBytes, count_perf, count_perf]; rfl
  rw [State.gaBytes, if_pos up, hostAck_eq]
  show (if (b.headD 0 == 1 || b.headD 0 == 2) = true then _ else _) = _
  rw [← ready]
  rfl

/-- The GCODE's byte is acknowledged. -/
theorem windowed_gcode (s : State) : Windowed s (((reached s 0x0C).ackBytes 1).count 34 9 1) :=
  ((windowed_reached s 0x0C).trans (windowed_ackBytes _ 1)).trans (windowed_count _ 34 9 1)

theorem gcode_bus (s : State) : (((reached s 0x0C).ackBytes 1).count 34 9 1).bus = { (reached s 0x0C).bus with acks := 1 } := by
  rw [State.ackBytes, count_perf, count_perf]

section
variable {s : State} (up : s.hostUp = true)
include up

/-- A freeze by the group address, at a STOP as after SCLH's time-out. -/
theorem txWrite_freeze (ready : s.sys.perfReady = true) (still : s.perf.gather = false) (b : List Byte) {fin : HostEnd}
    (ends : (fin == .cut) = false) : ∃ u, Windowed s u ∧ u.bus = { (reached s 0x0C).bus with acks := 1 } ∧
      s.txWrite 0x0C (1 :: b) fin =
        { u with perf.frozen := true, perf.gather := true, perf.taken := u.perf.live, perf.takenSts := u.sys.sts } := by
  have same := windowed_gcode s
  refine ⟨_, same, gcode_bus s, ?_⟩
  rw [txWrite_ga up, gaBytes_acked up, if_pos (by rfl), if_neg (by rw [ends, ready]; decide), if_pos (by rfl)]
  exact perfStop_starts ((congrArg Perf.gather same.counts.rest).trans still)

theorem txWrite_release (ready : s.sys.perfReady = true) : ∃ u, Windowed s u ∧ u.bus = { (reached s 0x0C).bus with acks := 1 } ∧
    s.txWrite 0x0C [2] .stop = { u with perf.frozen := false } := by
  refine ⟨_, windowed_gcode s, gcode_bus s, ?_⟩
  rw [txWrite_ga up, gaBytes_acked up, if_pos (by rfl), if_neg (by rw [ready]; decide), if_neg (by decide)]
  rfl

/-- Any other first byte, or none, is not acknowledged and does nothing. -/
theorem txWrite_noCode {b : List Byte} (one : b.headD 0 ≠ 1) (two : b.headD 0 ≠ 2) (fin : HostEnd) :
    s.txWrite 0x0C b fin = reached s 0x0C := by
  rw [txWrite_ga up, gaBytes_acked up, if_neg]
  simp only [Bool.or_eq_true, beq_iff_eq, not_or]
  exact ⟨one, two⟩

theorem gaFreeze_yields (ready : s.sys.perfReady = true) (still : s.perf.gather = false) : Yields .gaFreeze s fun t =>
    t.perf.frozen = true ∧ t.perf.gather = true ∧ t.perf.takenSts = s.sys.sts ∧ t.bus.acked = true ∧ t.bus.lastAddr = 0x0C ∧
      PortsSame s t := by
  obtain ⟨u, same, bus, froze⟩ := txWrite_freeze up ready still [] (fin := .stop) rfl
  refine ⟨_, congrArg Host.Outcome.next froze, rfl, rfl, (congrArg Sys.sts same.sys :), ?_⟩
  exact ⟨congrArg HostBus.acked bus, congrArg HostBus.lastAddr bus, same.ports⟩

theorem gaRelease_yields (ready : s.sys.perfReady = true) : Yields .gaRelease s fun t =>
    t.perf.frozen = false ∧ t.bus.acked = true ∧ PortsSame s t := by
  obtain ⟨u, same, bus, thawed⟩ := txWrite_release up ready
  exact ⟨_, congrArg Host.Outcome.next thawed, rfl, congrArg HostBus.acked bus, same.ports⟩

theorem groupWrite_noCode {c : Byte} (one : c ≠ 1) (two : c ≠ 2) (b : List Byte) : Yields (.mailboxWrite 0x0C (c :: b)) s fun t =>
    t.bus.acked = true ∧ t.bus.acks = 0 ∧ t.bus.lastAddr = 0x0C ∧ t.perf.frozen = s.perf.frozen ∧ t.perf.gather = s.perf.gather ∧
      t.mb = s.mb ∧ PortsSame s t :=
  ⟨_, congrArg Host.Outcome.next (txWrite_noCode up (b := c :: b) one two .stop), rfl, rfl, rfl, rfl, rfl, rfl, rfl⟩

theorem byteAbandon_group : Yields (.byteAbandon (.gaWrite [])) s fun t =>
    t.bus.acked = true ∧ t.bus.acks = 0 ∧ t.bus.lastAddr = 0x0C ∧ t.perf.frozen = s.perf.frozen ∧ t.perf.gather = s.perf.gather ∧
      t.mb = s.mb ∧ PortsSame s t := by
  have nothing := txWrite_noCode up (b := []) (by decide) (by decide) .stop
  have same := countPerf_counted (reached s 0x0C).perf 34 8 1
  refine ⟨_, congrArg Host.Outcome.next ((congrArg (State.count · 34 8 1) nothing).trans (count_perf _ _ _ _)), rfl, rfl, rfl, ?_⟩
  exact ⟨(congrArg Perf.frozen same.rest :), (congrArg Perf.gather same.rest :), rfl, rfl⟩

/-- The GCODE acknowledged before SCLH's time-out acts (R392). -/
theorem sclhLowTimeout_freeze (ready : s.sys.perfReady = true) (still : s.perf.gather = false) (b : List Byte) :
    Yields (.sclhLowTimeout (.gaWrite (1 :: b))) s fun t =>
      t.perf.frozen = true ∧ t.perf.gather = true ∧ t.bus.acked = true ∧ t.bus.acks = 1 ∧ t.bus.lastAddr = 0x0C ∧
        PortsSame s t := by
  obtain ⟨u, same, bus, froze⟩ := txWrite_freeze up ready still b (fin := .sclh) rfl
  have counted := countPerf_counted (s.txWrite 0x0C (1 :: b) .sclh).perf 34 8 1
  refine ⟨_, congrArg Host.Outcome.next (count_perf (s.txWrite 0x0C (1 :: b) .sclh) 34 8 1), ?_⟩
  refine ⟨(congrArg Perf.frozen counted.rest).trans ?_, (congrArg Perf.gather counted.rest).trans ?_, ?_⟩
  · rw [froze]
  · rw [froze]
  · dsimp only
    rw [froze]
    exact ⟨congrArg HostBus.acked bus, congrArg HostBus.acks bus, congrArg HostBus.lastAddr bus, same.ports⟩

end

/-! ## The mailbox (R382 to R386) -/

/-- While the interpreter is away nothing is taken from the mailbox or run. -/
theorem drain_away {s : State} (seen : s.sys.interpSeen = true) (away : s.sys.interp = false) : s.drain = s := by
  have serve : s.canServe = false := by rw [State.canServe, away]; rfl
  have stale : ∀ n, State.takeStale n s = s := by
    rintro (_ | n)
    · rfl
    · rw [State.takeStale]
      split
      · rw [away, Bool.and_false]; rfl
      · rfl
  have late : s.flushLate = s := by rw [State.flushLate, away]; rfl
  have taken : ∀ n, State.acceptAll n s = s := by
    rintro (_ | n)
    · rfl
    · rw [State.acceptAll, serve]
      split <;> rfl
  have run : ∀ n, State.runLanes n s = s := by
    rintro (_ | n)
    · rfl
    · rw [State.runLanes, serve]; rfl
  rw [State.drain, if_pos seen]
  dsimp only
  rw [stale, late, taken, run]

theorem reply_bytes_nonempty (r : Reply) : r.bytes.isEmpty = false := rfl

/-- A reply that has been read whole leaves, with its tag where it is the last of it. -/
theorem replyOut_away {t : State} {r : Reply} (head : t.mb.replies = [r]) (seen : t.sys.interpSeen = true)
    (away : t.sys.interp = false) : t.replyOut = { t with
      mb.replies := [], mb.tags := if r.owns then t.mb.tags.filter (· != r.tag) else t.mb.tags, perf := countPerf t.perf 34 3 1 } := by
  rw [State.replyOut, head]
  dsimp only
  rw [count_perf, State.flushHeld]
  refine (congrArg State.drain (if_neg (by exact Bool.eq_false_iff.mp away))).trans (drain_away seen away)

section
variable {s : State} (up : s.hostUp = true)
include up

/-- With room in the mailbox its address and bytes are acknowledged, and the packet is handed over or discarded. -/
theorem txWrite_room (room : s.mb.inbox.length < 16) (b : List Byte) (fin : HostEnd) : ∃ u, Windowed s u ∧ u.bus.acked = true ∧
    s.txWrite s.ca b fin =
      if (fin == .stop && headerOk (b.take 1032)) = true then u.handOver (packetOf (b.take 1032)) else u.discard := by
  refine ⟨(reached s (s.ca.zeroExtend 8 ||| 0)).ackBytes (b.take 1032).length,
    (windowed_reached s _).trans (windowed_ackBytes _ _), ?_, ?_⟩
  · rw [State.ackBytes, count_perf]; rfl
  · rw [txWrite_ca up, State.mbBytes, if_neg (Nat.not_le.mpr room), hostAck_eq]

/-- A packet without a right header, or one that no STOP hands over, is discarded and counted (R384, R392, R393, R411). -/
theorem txWrite_discarded (room : s.mb.inbox.length < 16) {b : List Byte} {fin : HostEnd}
    (lost : (fin == .stop && headerOk (b.take 1032)) = false) : ∃ u, Windowed s u ∧ u.bus.acked = true ∧
      s.txWrite s.ca b fin = { u with bus.hdrErr := satAdd s.bus.hdrErr 1 } := by
  obtain ⟨u, same, acked, sent⟩ := txWrite_room up room b fin
  refine ⟨u.count 34 5 1, same.trans (windowed_count u 34 5 1), by rw [count_perf]; exact acked, ?_⟩
  rw [sent, lost, ← same.hdrErr]
  show u.discard = _
  rw [State.discard, count_perf, count_perf]

theorem mailboxWrite_kept {b : List Byte} (seen : s.sys.interpSeen = true) (away : s.sys.interp = false)
    (room : s.mb.inbox.length < 16) (header : headerOk b = true) (short : b.length ≤ 1032) :
    Yields (.mailboxWrite s.ca b) s fun t =>
      t.bus.acked = true ∧ t.mb = { s.mb with inbox := s.mb.inbox ++ [{ packetOf b with sts := s.sys.sts }] } ∧ PortsSame s t ∧
        t.bus.hdrErr = s.bus.hdrErr := by
  obtain ⟨u, same, acked, sent⟩ := txWrite_room up room b .stop
  rw [List.take_of_length_le short, header] at sent
  have seen' : u.sys.interpSeen = true := (congrArg Sys.interpSeen same.sys).trans seen
  have away' : u.sys.interp = false := (congrArg Sys.interp same.sys).trans away
  have handed : u.handOver (packetOf b) = { u with
      mb.inbox := u.mb.inbox ++ [{ packetOf b with sts := u.sys.sts }],
      sys.pwr := if u.sys.pwr = .doze then .run else u.sys.pwr, perf := countPerf u.perf 34 2 1 } := by
    rw [State.handOver, leaveDoze_eq, count_perf]
    exact drain_away seen' away'
  refine ⟨_, congrArg Host.Outcome.next (sent.trans handed), acked, ?_, same.ports, same.hdrErr⟩
  have sts : u.sys.sts = s.sys.sts := (congrArg Sys.sts same.sys :)
  dsimp only
  rw [same.mb, sts]

theorem mailboxWrite_discarded {b : List Byte} (room : s.mb.inbox.length < 16) (header : headerOk (b.take 1032) = false) :
    Yields (.mailboxWrite s.ca b) s fun t =>
      t.bus.acked = true ∧ t.mb = s.mb ∧ t.bus.hdrErr = satAdd s.bus.hdrErr 1 ∧ PortsSame s t := by
  obtain ⟨u, same, acked, lost⟩ := txWrite_discarded up room (b := b) (fin := .stop) (by rw [header]; rfl)
  exact ⟨_, congrArg Host.Outcome.next lost, acked, same.mb, rfl, same.ports⟩

/-- SCLH's time-out discards the packet being written (R392). -/
theorem sclhLowTimeout_discarded (b : List Byte) (room : s.mb.inbox.length < 16) :
    Yields (.sclhLowTimeout (.mbWrite s.ca b)) s fun t =>
      t.bus.hdrErr = satAdd s.bus.hdrErr 1 ∧ t.mb = s.mb ∧ PortsSame s t := by
  obtain ⟨u, same, -, lost⟩ := txWrite_discarded up room (b := b) (fin := .sclh) rfl
  refine ⟨_, congrArg Host.Outcome.next ((congrArg (State.count · 34 8 1) lost).trans (count_perf _ _ _ _)), ?_⟩
  exact ⟨rfl, same.mb, same.ports⟩

/-- A read of the mailbox comes to the mailbox with its address acknowledged. -/
theorem txRead_mailbox (n : Nat) : ∃ u m, Windowed s u ∧ u.bus.acked = true ∧
    s.txRead s.ca n .stop = { u.mbRead n .stop with lantern := m } := by
  obtain ⟨m, m', told, kept, -⟩ := watched_frame (fun t => (t.hostAck s.ca false).mbRead n .stop) s
  rw [hostAck_eq] at told
  exact ⟨_, m', (windowed_lantern s m kept).trans (windowed_reached _ _), rfl, (txRead_ca up n .stop).trans told⟩

theorem mailboxRead_part {n : Nat} {r : Reply} (head : s.mb.replies = [r]) (part : n < r.bytes.length) :
    Yields (.mailboxRead s.ca n) s fun t =>
      t.bus.acked = true ∧ t.bus.out = r.bytes.take n ∧ t.mb = s.mb ∧ PortsSame s t := by
  obtain ⟨u, m, same, acked, read⟩ := txRead_mailbox up n
  have stays : (HostEnd.stop != .cut && !r.bytes.isEmpty && decide (r.bytes.length ≤ n)) = false := by
    rw [decide_eq_false (Nat.not_le.mpr part), Bool.and_false]
  have head' : u.mb.replies = [r] := by rw [same.mb]; exact head
  have sent : u.mbRead n .stop = { u with bus.out := r.bytes.take n } := by
    rw [State.mbRead, head']
    dsimp only
    rw [stays, Nat.sub_eq_zero_of_le part.le, List.replicate_zero, List.append_nil]
    rfl
  rw [sent] at read
  exact ⟨_, congrArg Host.Outcome.next read, acked, rfl, same.mb, same.ports⟩

theorem mailboxRead_whole {n : Nat} {r : Reply} (head : s.mb.replies = [r]) (whole : r.bytes.length ≤ n)
    (away : s.sys.interp = false) (seen : s.sys.interpSeen = true) : Yields (.mailboxRead s.ca n) s fun t =>
      t.bus.out = r.bytes ++ List.replicate (n - r.bytes.length) 0xFF ∧ t.mb.replies = [] ∧
        (r.owns = true → t.mb.tags.contains r.tag = false) ∧ PortsSame s t := by
  obtain ⟨u, m, same, -, read⟩ := txRead_mailbox up n
  have leaves : (HostEnd.stop != .cut && !r.bytes.isEmpty && decide (r.bytes.length ≤ n)) = true := by
    rw [decide_eq_true whole, reply_bytes_nonempty]
    rfl
  have head' : u.mb.replies = [r] := by rw [same.mb]; exact head
  have sent : u.mbRead n .stop =
      ({ u with bus.out := r.bytes ++ List.replicate (n - r.bytes.length) 0xFF } : State).replyOut := by
    rw [State.mbRead, head']
    dsimp only
    rw [leaves, List.take_of_length_le whole]
    rfl
  have left := replyOut_away (t := { u with bus.out := r.bytes ++ List.replicate (n - r.bytes.length) 0xFF }) head'
    ((congrArg Sys.interpSeen same.sys).trans seen) ((congrArg Sys.interp same.sys).trans away)
  rw [sent.trans left] at read
  refine ⟨_, congrArg Host.Outcome.next read, rfl, rfl, fun owns => ?_, same.ports⟩
  dsimp only
  rw [if_pos owns]
  simp

end

/-! ## VIO leaves its range in a transaction (R393) -/

section
variable (s : State)

theorem place_inbox (r : Reply) : (s.place r).mb.inbox = s.mb.inbox := by
  unfold State.place
  split
  · dsimp only
    split
    · rw [count_perf, count_perf]
    · rw [count_perf]
  · rfl

theorem complete_inbox (k : Packet) (st : Byte) (pl : List Byte) : (s.complete k st pl).mb.inbox = s.mb.inbox := by
  unfold State.complete State.emit
  split
  · exact place_inbox _ _
  · rfl

theorem completeAll_inbox (l : List Packet) (st : Byte) : (s.completeAll l st).mb.inbox = s.mb.inbox := by
  induction l generalizing s with
  | nil => rfl
  | cons k l ih => exact (ih (s.complete k st [])).trans (complete_inbox s k st [])

theorem pbusNext_inbox (b : BusId) : (s.pbusNext b).mb.inbox = s.mb.inbox := by
  unfold State.pbusNext
  dsimp only
  split
  · rfl
  split
  · rfl
  split
  · rfl
  split
  · exact completeAll_inbox _ _ _
  split
  · rfl
  split <;> rfl

theorem pbusApply_inbox (b : BusId) (en : Bool) (rate : BitVec 2) : (s.pbusApply b en rate).mb.inbox = s.mb.inbox := by
  unfold State.pbusApply
  dsimp only
  split
  · exact completeAll_inbox _ _ _
  split
  · exact pbusNext_inbox _ b
  · rfl

theorem pbusEnd_inbox (b : BusId) : (s.pbusEnd b).mb.inbox = s.mb.inbox := by
  unfold State.pbusEnd
  dsimp only
  refine (pbusNext_inbox _ b).trans ?_
  split
  · exact pbusApply_inbox _ b _ _
  · rfl

theorem pbusVio_inbox : s.pbusVio.mb.inbox = s.mb.inbox := by
  have bus : ∀ (l : List BusId) (t : State), (l.foldl (fun s b =>
      let s := s.modPb b fun y => { y with needClear := true }
      match (s.pb b).xfer, (s.pb b).queue with
      | true, k :: _ =>
        let (s, pl) := s.cutXfer k 4
        (s.complete k 0 pl).pbusEnd b
      | _, _ => s) t).mb.inbox = t.mb.inbox := by
    intro l
    induction l with
    | nil => exact fun _ => rfl
    | cons b l ih =>
      intro t
      refine (ih _).trans ?_
      dsimp only
      split
      · exact (pbusEnd_inbox _ b).trans (complete_inbox _ _ 0 _)
      · rfl
  exact bus allBuses s

/-- A supply out of its range is marked and recorded, and the record ends DOZE. -/
theorem leftRange_frame (su : Supply) (bit : Nat) (hi : Bool) : leftRange s su bit hi = { s with
    sup := (s.setSupply (supOf hi) su).sup, safety := (leftRange s su bit hi).safety, sbox := (leftRange s su bit hi).sbox,
    sys := { s.sys with pwr := (leftRange s su bit hi).sys.pwr } } := by
  unfold leftRange State.postSupply
  rw [postRec_frame, setSupply_frame]
  rfl

end

theorem coreOn_of_hostUp {s : State} (up : s.hostUp = true) : s.coreOn = true := by
  simp only [State.hostUp, Bool.and_eq_true] at up
  obtain ⟨⟨⟨-, reset⟩, -⟩, power⟩ := up
  rw [State.coreOn, power, reset]
  rfl

section
variable {s : State} (up : s.hostUp = true)
include up

/-- The packet that VIO cuts off is discarded and counted before the excursion acts. -/
theorem exec_vioExcursion_cut (mv : Nat) (b : List Byte) (monitors : s.safeOn 4 = true) (vio : s.sup.vio = .ok)
    (room : s.mb.inbox.length < 16) : ∃ u, Windowed { s with sys.vioHeld := s.sys.vioHeld && decide (1000 ≤ mv) } u ∧
      exec (.vioExcursion ⟨false, mv, some (.mbWrite s.ca b)⟩) s =
        .next (leftRange { u with bus.hdrErr := satAdd s.bus.hdrErr 1 } .vio 9 false).pbusVio := by
  obtain ⟨u, same, -, cut⟩ := txWrite_discarded (s := { s with sys.vioHeld := s.sys.vioHeld && decide (1000 ≤ mv) })
    (by exact up) (by exact room) (b := b) (fin := .cut) rfl
  refine ⟨u, same, ?_⟩
  have acts : (s.sup.vio != supOf false && s.coreOn && s.safeOn 4) = true := by
    rw [vio, coreOn_of_hostUp up, monitors]; rfl
  have supply : u.sup.vio = .ok := by rw [same.frame]; exact vio
  have safe : u.safeOn 4 = true := by rw [same.frame]; exact monitors
  show execVioExcursion ⟨false, mv, some (.mbWrite s.ca b)⟩ s = _
  rw [execVioExcursion, vioHeld_below]
  refine (congrArg (fun c => Host.Outcome.next (State.excursion (State.when _ c _) .vio 9 false State.pbusVio)) acts).trans ?_
  refine congrArg Host.Outcome.next ((congrArg (State.excursion · .vio 9 false State.pbusVio) cut).trans ?_)
  exact excursion_acted 9 false _ (coreOn_of_hostUp (same.up.trans up)) safe supply

theorem vioExcursion_cut (mv : Nat) (b : List Byte) (monitors : s.safeOn 4 = true) (vio : s.sup.vio = .ok)
    (room : s.mb.inbox.length < 16) : Yields (.vioExcursion ⟨false, mv, some (.mbWrite s.ca b)⟩) s fun t =>
      t.bus.hdrErr = satAdd s.bus.hdrErr 1 ∧ t.mb.inbox = s.mb.inbox ∧ t.sup = { s.sup with vio := .below } ∧ PortsSame s t := by
  obtain ⟨u, same, step⟩ := exec_vioExcursion_cut up mv b monitors vio room
  refine ⟨_, step, ?_⟩
  have buses := buses_pbusVio (leftRange { u with bus.hdrErr := satAdd s.bus.hdrErr 1 } .vio 9 false)
  have inbox := pbusVio_inbox (leftRange { u with bus.hdrErr := satAdd s.bus.hdrErr 1 } .vio 9 false)
  unfold BusesOnly at buses
  rw [leftRange_frame] at buses inbox
  refine ⟨?_, ?_, ?_, ?_⟩
  · rw [leftRange_frame, buses]
  · rw [leftRange_frame]
    exact inbox.trans (congrArg Mailbox.inbox same.mb)
  · rw [leftRange_frame, buses, same.frame]
    rfl
  · rw [leftRange_frame]
    exact (congrArg State.ports buses).trans same.ports

end

/-! ## O38 -/

/-- Settles O38, a transaction of each kind with the window, the mailbox and the group address by the lemmas above: beside its own
effect each leaves no more than the host target's own marks, the counters and WATCH's lines. -/
theorem hostTransactions : Obligations.HostTransactions := by
  refine ⟨fun s b up seen away room _ header short => mailboxWrite_kept up seen away room header short,
    fun s b up room header => mailboxWrite_discarded up room header,
    fun s n r up head part => mailboxRead_part up head part,
    fun s n r up head whole away seen _ _ _ => mailboxRead_whole up head whole away seen,
    fun s v up page => windowWrite_wrapcfg up v page, fun s v up page => windowWrite_evt up v page,
    fun s v up => pageWrite_yields up v, fun s v up => ?_, fun s v up => ?_, fun s v up => ?_,
    fun s up => hdrerrcntRead_yields up, fun s up => eccsbecntRead_yields up, fun s up => eccdbecntRead_yields up,
    fun s up ready => rgcrcRead_yields up ready, fun s up ready => trlostRead_yields up ready,
    fun s up ready still => gaFreeze_yields up ready still, fun s up ready => gaRelease_yields up ready,
    fun s c b up one two => groupWrite_noCode up one two b, fun s up => byteAbandon_group up,
    fun s b up ready still => sclhLowTimeout_freeze up ready still b,
    fun s mv b up _ monitors vio room => vioExcursion_cut up mv b monitors vio room,
    fun s up => byteAbandon_page up, fun s b up room => sclhLowTimeout_discarded up b room⟩
  · obtain ⟨t, step, cfg, -, -, page, ports, mb⟩ :=
      haddrWrite_yields up v .cfg (e := ⟨none, some (v &&& 1), none, none⟩) rfl fun _ => rfl
    exact ⟨t, step, cfg rfl, page, ports, mb⟩
  · obtain ⟨t, step, -, base, -, page, ports, mb⟩ :=
      haddrWrite_yields up v .base (e := ⟨none, none, some (v &&& 0x7F), none⟩) rfl fun _ => rfl
    exact ⟨t, step, base rfl, page, ports, mb⟩
  · obtain ⟨t, step, -, -, mask, page, ports, mb⟩ :=
      haddrWrite_yields up v .mask (e := ⟨none, none, none, some (v &&& 0x7F ||| 8)⟩) rfl fun _ => rfl
    exact ⟨t, step, mask rfl, page, ports, mb⟩

end Sys2Proof.Proofs
end
